-- ==== Sys2Proof/Word.lean ====
section
/-! DEFINITION. The word types of the fabric and the sparse table in one canonical form (spec/00_scope.md R3). -/

namespace Sys2Proof

/-- A 64-bit register or MTIME (R3, R125). -/
abbrev Word := BitVec 64
/-- The smallest addressable unit of the management address map (R3). -/
abbrev Byte := BitVec 8
/-- NI port number (R13). -/
abbrev Port := Fin 256
/-- Router number (R9). -/
abbrev RouterId := Fin 64
/-- Router port index (R10). -/
abbrev PortIdx := Fin 14
/-- Host ordinal (R14, R16). -/
abbrev HostId := Fin 16
/-- Virtual channel (R68). -/
abbrev Vc := Fin 16
/-- Directed channel, numbered as R203: 16 × router + output, or 1,024 + port. -/
abbrev ChanId := Fin 1280
/-- Memory slot group (R260). -/
abbrev SlotGroup := Fin 32
/-- Page number of the configuration window (R356). -/
abbrev PageNo := Fin 16384

/-- A sparse table: entries in rising key order, none equal to what an unlisted key reads as. -/
abbrev Tbl (α : Type) := List (Nat × α)

end Sys2Proof
end

