-- ==== Sys2Proof/Syntax.lean ====
section
/-! DEFINITION. The commands of the fabric: packet headers (spec/02_packet_format.md R41), what a sender
supplies with a command, and Instr, one constructor for each row of spec/opcode_table.json. -/

namespace Sys2Proof

/-- The header fields of a HEAD flit, in the layout order of R41. -/
structure Header where
  mcls : BitVec 3
  scls : BitVec 2
  epoch : Bool
  dst : BitVec 8
  src : BitVec 8
  legSrc : BitVec 8
  tgt : BitVec 8
  deadline : BitVec 24
  dv : Bool
  syn : Bool
  prio : BitVec 3
  hops : BitVec 5
  leg : BitVec 2
  wp0 : BitVec 8
  wp1 : BitVec 8
  wp2 : BitVec 8
  mcast : BitVec 16
  tag : BitVec 11
  mid : BitVec 12
  part : BitVec 6
  len : BitVec 2
  tailBytes : BitVec 6
  status : BitVec 4
  ccls : BitVec 3
  ord : BitVec 2
  artgen : Bool
  opc : BitVec 8
  addr : BitVec 52
  injTs : BitVec 32
  byteEn : BitVec 64
  /-- The bits that R41 reserves, in rising order; every unit that writes a header writes 0 here. -/
  rsv : BitVec 195 := 0
  deriving DecidableEq, Repr, Inhabited

/-- What an endpoint submits across the TEI (R271 to R273): the header fields, tei_up_ctl and the data flits. -/
structure Submission where
  hdr : Header
  /-- KIND of tei_up_ctl (R273). -/
  kind : BitVec 3
  etag : BitVec 16
  ldid : BitVec 4
  ndrExp : Bool
  data : List (BitVec 512)
  /-- false: a beat broke the sop and eop framing of R280. -/
  framed : Bool
  deriving DecidableEq, Repr, Inhabited

/-- The 587 wires of a directed channel in one FCLK cycle (R32): payload, its check bits C3 to C0 with C0 lowest (R33),
the control sideband (R35) and its check bits. -/
structure WireFlit where
  payload : BitVec 512
  check : BitVec 36
  side : BitVec 32
  sideCheck : BitVec 7
  deriving DecidableEq, Repr, Inhabited

/-- What the 100 cells of a tb_code frame spell (R131). -/
structure TbFrame where
  /-- SYNC stood at the expected cell. -/
  sync : Bool
  /-- No code violation outside SYNC. -/
  clean : Bool
  flags : BitVec 8
  edge : Word
  crc : BitVec 16
  deriving DecidableEq, Repr

/-- What a test-strip slice measured (R315, R321). -/
structure SliceMeasure where
  /-- Rows that failed March C−: the SRAM within the part, and the row. -/
  failRows : List (Nat × Nat)
  signatureOk : Bool
  /-- TIMEBASE: the TPLL lock detector passed its check. -/
  detectorOk : Bool
  /-- LINK: loopback without error and lock within 512 cycles. -/
  loopbackOk : Bool
  /-- LINK: offset in mV. TIMEBASE: jitter in ps. -/
  measure : Nat
  /-- The failing bank within the part. -/
  bank : BitVec 4
  deriving DecidableEq, Repr

/-- An SMX access (R346, R350). -/
structure SmxAccess where
  master : Fin 5
  addr : Word
  write : Bool
  data : Word
  strobes : BitVec 8
  /-- The word read, in the working SRAM (R350) or the spine (R305), has an error that SECDED cannot correct. -/
  ecc : Bool
  deriving DecidableEq, Repr

/-- The commands: one constructor for each row of spec/opcode_table.json, in the table's order. An operand with a default is
a level or a measure that the row takes from outside; the default is the usual one. -/
inductive Instr
  -- bring-up
  | aonReset
  | bootCopyDone (readBackOk : Bool)
  | bootDone
  -- links
  /-- `err` is what the channel has done to the flit: the wires whose bits arrive inverted (log entry 87). -/
  | flitReceive (ch : ChanId) (err : WireFlit)
  | replay (ch : ChanId)
  | replayTo (ch : ChanId)
  | retrainDone (ch : ChanId) (replayOk : Bool)
  | trainDone (ch : ChanId)
  -- routers
  | headArrive (r : RouterId) (inp : PortIdx) (vc : Vc)
  | buildStoreConsume (r : RouterId) (inp : PortIdx) (vc : Vc)
  | flitGrant (ch : ChanId)
  | starveLimit (ch : ChanId) (inp : Fin 15) (vc : Vc)
  | absorb (r : RouterId) (inp : Fin 15) (vc : Vc)
  -- route epochs
  | flipArm
  | flipDisarm
  | flipRearm
  | routeFlip
  | drainSample
  | drainStall
  | rtData (r : RouterId) (value : Word)
  -- transactions
  | teiRequest (p : Port) (sub : Submission)
  /-- An uncorrectable SECDED error is found in bank 17, or in the bank that the lookup searches (R21). -/
  | artLookup (engine : Fin 8) (bad17 badBank : Bool := false)
  | verdictReturn (p : Port)
  | admission (p : Port)
  | niInject (p : Port)
  | responseArrive (p : Port) (vc : Vc)
  | teiDeliver (p : Port)
  | deliveryCredit (p : Port) (vc : Vc)
  | waypointAccept (p : Port) (vc : Vc)
  | teiResponse (p : Port) (sub : Submission)
  | teiRelay (p : Port) (sub : Submission)
  | teiFetch (p : Port) (sub : Submission)
  | legacyTimeout (p : Port) (tag : BitVec 11)
  -- staged words with a rule of their own
  | sadWrite (p : Port) (k : Fin 64) (word1 : Bool) (value : Word)
  | clsW1 (h : HostId) (value : Word)
  | dmW1 (k : Fin 16) (value : Word)
  -- machine time
  | tbRefLoss (edges : Bool := false)
  /-- The acquisition detector locks `lockUs` µs after this entry to ACQUIRE (R126, log entry 103). -/
  | acquire (lockUs : Nat := 0)
  /-- The levels of the two halves of cells 0 to 99: bit 2i is the first half of cell i, bit 2i + 1 the second. -/
  | tbFrame (cells : BitVec 200)
  | codeLoss
  | acqFail
  | align
  | delayChange
  | stepAnnounced
  | slewStep
  | swFreq (value : Word)
  | swPhase (value : Word)
  | swWdogExpired
  | mtimeSet (value : Word)
  | holdoverLong
  | tbSnap
  | timerArm (k : Fin 4) (value : Word)
  | timerDisarm (k : Fin 4) (value : Word)
  | timerRearm (k : Fin 4) (value : Word)
  | timerFire (k : Fin 4)
  | evtLogPop
  | timePortRead (vc : Vc)
  -- flow queues
  | refillTick
  | fqRate (h : HostId) (value : Word)
  | fqDepth (h : HostId) (value : Word)
  | reload (h : HostId)
  | clrMax (h : HostId)
  | clrAllMax (h : HostId)
  | fqQuota (h : HostId) (value : Word)
  | telemetrySample (h : HostId)
  -- shutter lists
  | gateEdge (p : Port)
  | gateLead (p : Port)
  | takeover (p : Port)
  -- reservations
  | rsvAdmit (value : Word)
  | rsvRelease (value : Word)
  /-- `bad16`, `rows`: SECDED finds an error that it cannot correct in the words that are read of bank 16, and of the route
  tables of these rows (R305). -/
  | rsvCmdDone (bad16 : Bool := false) (rows : BitVec 8 := 0)
  | recheck (bad16 : Bool := false) (rows : BitVec 8 := 0)
  | loadHeldClear (k : Fin 4096)
  | derateAccept (p : Port) (value : BitVec 3)
  -- access rule table
  | artwW3 (value : Word)
  | artCount (value : Word)
  | validate (value : Word)
  | copy (value : Word)
  | clear (value : Word)
  /-- `bad`: the banks in which the command's reads find such an error. -/
  | cmdDone (bad : BitVec 18 := 0)
  | swapArm
  | swapDisarm
  | swapRearm
  | artSwap
  | artDrainSample
  | artDrainStall
  | flush (p : Port)
  | faultRecordPop
  -- isolation and hot-plug
  | wdogAccept (p : Port) (vc : Vc)
  | wdogResp (p : Port)
  | isolate (p : Port)
  | swept (p : Port)
  | fenceGraceEnd (p : Port)
  | readmit (p : Port) (newAck : Bool)
  | readmitReturn (p : Port)
  | removal (c : SlotGroup)
  /-- pwr_warn_n has been low for `lowUs` µs. -/
  | fence (c : SlotGroup) (lowUs : Nat := 0)
  | warnGlitches (c : SlotGroup) (lowUs : Nat := 0)
  | fuseTrip (c : SlotGroup)
  | slotInsert (c : SlotGroup)
  | holdoff (c : SlotGroup)
  | errLogPop
  -- endpoint boundary
  | epReset (p : Port)
  | epReadyFall (p : Port)
  /-- The levels of ep_rst_n and ep_ready after 32 ep_clk cycles in DOWN. -/
  | teiResetRelease (p : Port) (rstN ready : Bool := true)
  | teiUp (p : Port)
  /-- pwr_ack rises; `nak`: pwr_nak is high with it. -/
  | pwrAck (p : Port) (nak : Bool := false)
  | pwrNak (p : Port) (reason : BitVec 4)
  | epWakeReq (p : Port)
  -- performance levels and sleep
  | setLevel (level : Fin 4)
  | levelRecheckDone
  | powerGood
  | flowHold
  | pllRelock
  | levelRetrain
  | rampDownDone
  | levelFailed
  | n1Entry (p : Port)
  | sleepOk (value : Word)
  | niSleep (p : Port)
  | niDrained (p : Port)
  | ackTimeout (p : Port)
  | drainTimeout (p : Port)
  | flushAck (p : Port)
  | flushTimeout (p : Port)
  /-- `ecc`: SECDED finds an error that it cannot correct in the section (R305). -/
  | imageCrcStored (p : Port) (ecc : Bool := false)
  | n2Entered (p : Port)
  | niWake (p : Port)
  | niSupplyGood (p : Port)
  /-- `err`: the bits of the section's words that read otherwise than they were stored, by word, after what SECDED corrects;
`ecc`: SECDED finds an error that it cannot correct. -/
  | imageRestore (p : Port) (err : List (Nat × Word)) (ecc : Bool := false)
  | wakeLinkUp (p : Port)
  | wakeTimeout (p : Port)
  | configValid
  | fabSleep
  | f3NoReturn
  /-- `ecc`: banks in which SECDED finds an error that it cannot correct (R305). -/
  | f3Entered (ecc : BitVec 26 := 0)
  | fabWake
  /-- The same of banks 0 to 25, by bank and word, and the banks with an uncorrectable error. -/
  | f3PowerGood (err : List (Nat × Nat × Word)) (ecc : BitVec 26 := 0)
  | f3WakeDone
  | fabWakeFailed
  | powerPortRead (vc : Vc)
  -- test strips
  | stripWindow
  | windowClose
  | slicePrepare
  /-- `tsIdle`: the level of ts_idle of the slice's endpoint (R285). -/
  | sliceTest (tsIdle : Bool := true)
  | quietTimeout (tsIdle : Bool := true)
  | testEnd (m : SliceMeasure)
  /-- `bad`: the restore's reads find such an error. -/
  | sliceDone (bad : Bool := false)
  | burn
  | fuseDone
  /-- test_mode rises, with the levels of scan_en and scan_in. -/
  | testMode (scanEn : Bool := false) (scanIn : BitVec 32 := 0)
  /-- `acks`: the CRYPT endpoints whose zeroise_ack is high (R285). -/
  | zeroiseWait (acks : BitVec 32 := 0xFFFFFFFF)
  | scanAllowed (acks : BitVec 32 := 0xFFFFFFFF)
  -- proof ledger and life cycle
  | ledgerEpoch
  | epochClose
  | readout
  | pop
  | recordReady
  | ledgerPortRead (vc : Vc)
  | lcRequest (value : Word)
  | nonceGen
  | productionDone
  /-- `acks`: the CRYPT endpoints whose zeroise_ack is high (R285). -/
  | rmaDone (acks : BitVec 32 := 0xFFFFFFFF)
  /-- `n` clocks of the Safelight TAP: bit k of `tms` and of `tdi` is the level at clock k. -/
  | slCtrl (n tms tdi : Nat)
  -- service matrix and pages
  | smxAccess (a : SmxAccess)
  | smxBridge (a : SmxAccess)
  | commit (page : PageNo)
  | abort (page : PageNo)
  | quiesce (page : PageNo) (on : Bool) (master : Fin 5)
  | quiesced (page : PageNo)
  | gcJoin (page : PageNo)
  | gcLeave (page : PageNo)
  | gcArm
  | gcDisarm
  | gcRearm
  | globalCommit
  | irqSet (page : PageNo) (value : Word)
  | registerWrite (page : PageNo) (off : BitVec 12) (value : Word)
  -- rows at the end of the table
  | pwrWarnNRise (c : SlotGroup)
  | fuseTrippedFall (c : SlotGroup)
  | testModeFall
  | tsLogPop
  | microsecondTick
  deriving DecidableEq, Repr

end Sys2Proof
end

