-- ==== Sys2Proof/Config.lean ====
section
/-! DEFINITION. What the spec leaves open: free values. Each is an opaque constant with no body, applied to the
operands it depends on or to the counter `State.free`, so nothing can be proved of its value. -/

namespace Sys2Proof.Config

/-- Contents of the 64 KiB boot ROM by 64-bit word index (spec/15 R350): the manual does not give them. -/
opaque bootRom : Nat → BitVec 64
/-- BOOT_NONCE, drawn at AON power-on reset (spec/14 R333). -/
opaque bootNonce : Nat → BitVec 64
/-- RMA_NONCE, drawn by NONCE_GEN (spec/14 R344). -/
opaque rmaNonce : Nat → BitVec 128
/-- What the ledger's random source gives for the private key of a key slot (spec/14 R338), by draw. -/
opaque privateKey : Nat → Nat
/-- What it gives for the per-message secret of a signature (spec/14 R334), by draw. -/
opaque messageSecret : Nat → Nat
/-- The Yilnen RMA key in the mask ROM, a point of P-384 (spec/14 R344): the manual does not give it. -/
opaque rmaKey : Nat × Nat
/-- Whether the loaded key's digest matches its fused digest at AON power-on reset (R339). -/
opaque keyIntact : Nat → Bool
/-- The M2S Req opcode that BIConflict carries (spec/02 R61): the manual names it and gives no number (log entry 9). -/
opaque biConflict : BitVec 8
/-- DEVICE_ID fuses (spec/14, DEVICE_ID register: Reset "Fuses"). -/
opaque deviceId : BitVec 64
/-- A spine word that SECDED cannot correct, as a read of it returns it (spec/12 R305: the manual does not say), by draw. -/
opaque badWord : Nat → BitVec 64
/-- Header fields that an NI has not written yet when it refuses a request in CHECK (spec/04 R96, R100; spec/02 R58), by
draw. -/
opaque unwritten : Nat → Header
/-- How much faster tb_ref runs than the reference of the fabric PLL, in units of 2^−16 ppm, in the µs of that count
(spec/05 R126, R147): the manual does not give it. -/
opaque tbRatio : Nat → Int
/-- A sum that exceeds the width of an accumulator's counter (spec/14 R329: the manual states no result). -/
opaque accOverflow : Nat → Nat
/-- What the scan chains shift out (spec/11 R286): the manual does not give their contents. -/
opaque scanChain : Nat → BitVec 32
/-- The first 64 KiB of working SRAM by word after a copy of the loader that did not read back equal (spec/16 R365). -/
opaque badCopy : Nat → BitVec 64
/-- Port that the Safelight port names as TGT of a fabric-memory access to an address, and the ORD that it asks for
(spec/14 R345, spec/04 R101, R104: the manual gives neither). -/
opaque slTarget : BitVec 52 → BitVec 8
opaque slOrd : BitVec 52 → Fin 3
/-- What Capture-IR loads above the bits 01 of IEEE 1149.1, and what Capture-DR loads for SL_CTRL and for bits [7:6] of
SL_STATUS, by draw (spec/14 R345: the manual gives neither). -/
opaque irCapture : BitVec 2
opaque slCapture : Nat → BitVec 8
/-- SL_STATUS.STATUS after an SMX access that got the SMX error response (spec/14 R345), by draw. -/
opaque slSmxStatus : Nat → BitVec 4

end Sys2Proof.Config
end

