-- ==== Sys2Proof/Machine/State.lean ====
section
/-! DEFINITION. The state of the TF64X4 fabric as plain data, the reasons a step can stop, and the state after reset.
Every field of every register page stands in `State.regs` at the key of its page, offset, low bit and index
(`Sys2Proof/Machine/Regs.lean` gives the fields, `fkey` of Ops.lean the key); what the chapters give the machine beside
its registers stands in the typed structures below. Every `Tbl` holds only entries that differ from what an unlisted key reads as. -/

namespace Sys2Proof.Machine

/-- Why the machine stops with a fault: it never does. The spec gives every command an effect in every state. -/
inductive Fault
  deriving DecidableEq, Repr

/-- Why a command has no meaning. -/
inductive Refusal
  /-- Raised by `exec` for a command that is not modelled yet, by its mnemonic. Safe. -/
  | notModelled (mnemonic : String)
  deriving DecidableEq, Repr

/-- State of a directed channel's link (LINK_STATE, R94); ABSENT follows from R10 and R19 and is not stored. -/
inductive LinkSt
  | train | up | down
  deriving DecidableEq, Repr

/-- What a flit carries beside its sideband (R32, R35). -/
inductive FlitBody
  | idle
  | head (h : Header) (tail : Bool)
  | data (d : BitVec 512) (tail : Bool)
  /-- FT 0b11, with the header that its payload would hold: only errors beyond what R34 detects bring it (R63, R67). -/
  | reserved (h : Header) (tail : Bool)
  deriving DecidableEq, Repr

/-- One flit on a channel, with its control sideband (R35). -/
structure Flit where
  body : FlitBody
  vc : Nat
  seq : Nat
  ack : Option Nat
  nak : Bool
  crd : Option Nat
  deriving DecidableEq, Repr

/-- The route computed once for a HEAD flit (R79). -/
inductive Route
  /-- One request: class A, or escape. -/
  | fixed (out vc : Nat)
  /-- Adaptive candidates and detour candidates as output lists, the escape output, and the escape VC of the class. -/
  | adaptive (cand det : List Nat) (esc escVc : Nat)
  deriving DecidableEq, Repr

/-- Why a router builds an answer (R19, R66, R80), with the STATUS of the answer. -/
inductive BuildWhy
  | tiedOff | invalidRoute | malformed
  /-- The HOPS limit of R60 on a HEAD that is otherwise well formed (R66). -/
  | hops
  deriving DecidableEq, Repr

/-- What has been decided of a buffered packet. -/
inductive Disp
  /-- No step has looked at the HEAD yet. -/
  | unseen
  /-- No step has looked at the HEAD, and its flit had the reserved FT (R63). -/
  | reservedFt
  | routed (r : Route)
  /-- Waits for room in the build store (R372). -/
  | build (w : BuildWhy)
  /-- At an NI: written into the TEI FIFO; whether it was late then (R167). -/
  | arrived (late : Bool)
  /-- At an NI: a served request with the entry of that index (R116); `late` once it is written into the TEI FIFO. -/
  | served (tag : Nat) (late : Option Bool)
  deriving DecidableEq, Repr

/-- One flit slot of an input buffer. -/
inductive Slot
  | head (h : Header) (tail : Bool) (d : Disp)
  | data (d : BitVec 512) (tail : Bool)
  deriving DecidableEq, Repr

/-- One VC of a router input port or of an NI receive side (R70). -/
structure VcBuf where
  slots : List Slot := []
  /-- A packet has been received up to, but not including, its TAIL (R36). -/
  openRx : Bool := false
  /-- What still arrives of the packet being received is discarded (R66, R255). -/
  dropRx : Bool := false
  /-- HEAD, output and VC of the packet that is part-way through the router. -/
  going : Option (Header × Nat × Nat) := none
  /-- Cycles without a grant (R163). -/
  starve : Nat := 0
  starved : Bool := false
  deriving DecidableEq, Repr

/-- One directed channel: the sender's half, the wire and the receiver's half (R70 to R77). -/
structure Chan where
  st : LinkSt := .train
  /-- A retraining runs (R77). -/
  retraining : Bool := false
  /-- The sender's copy of the receiver's occ(v) (R71). -/
  occ : Tbl Nat := []
  /-- VCs on which a HEAD has been sent and its TAIL has not (R71), with the HEAD. -/
  openTx : Tbl (Option Header) := []
  /-- Replay buffer, oldest first, each flit with its packet's header (R75, R256). -/
  replay : List (Flit × Header) := []
  nextSeq : Nat := 0
  /-- Cycles with entries in the replay buffer and no advance of ACK_SEQ (R76). -/
  noAck : Nat := 0
  /-- Consecutive replays, and the sequence number they start from (R77). -/
  runs : Nat := 0
  runSeq : Nat := 0
  /-- The retraining of this run of replays has been used (R77). -/
  retrained : Bool := false
  /-- A NAK has been received and its replay has not been sent (R76). -/
  naked : Bool := false
  /-- Flits in flight as sent, first sent first (R32). -/
  wire : List WireFlit := []
  /-- Next sequence number that the receiver accepts. -/
  expSeq : Nat := 0
  /-- The receiver repeats NAK (R76). -/
  nakOn : Bool := false
  /-- The receiver has an ACK_SEQ to report on the reverse channel (R75). -/
  ackNews : Bool := false
  /-- Credits not yet sent on the reverse channel (R72). -/
  owed : List Nat := []
  vcs : Tbl VcBuf := []
  /-- A flit has entered the channel in this FCLK cycle (R12). -/
  sent : Bool := false
  deriving DecidableEq, Repr

/-- A packet that a router or an absorber has built (R58), waiting for its output. -/
structure Built where
  hdr : Header
  /-- Zero DATA flits still to send. -/
  data : Nat
  /-- Output and VC once the HEAD has been sent. -/
  going : Option (Nat × Nat)
  /-- Cycles without a grant (R163). -/
  starve : Nat := 0
  starved : Bool := false
  deriving DecidableEq, Repr

/-- A packet handed to the absorber of an output whose 8 answers all wait (R247): it waits its turn. -/
structure Handed where
  out : Nat
  /-- STATUS of its answer. -/
  status : Nat
  hdr : Header
  /-- It counts in REM when the absorber consumes it (R92). -/
  counts : Bool
  deriving DecidableEq, Repr

/-- A candidate flit of an arbitration point (R164). -/
structure Cand where
  /-- Input index at a router; VC at an NI. -/
  pos : Nat
  vc : Nat
  out : Nat
  outVc : Nat
  group : Nat
  /-- Orders groups 1 and 3: slack, then age, then position, then VC. -/
  key : Nat
  hdr : Header
  /-- At input 14: 0 the build store, 1 + o the absorber of output o (R372). -/
  src : Nat := 0
  deriving DecidableEq, Repr

/-- A router's state beside its pages, channels and tables. -/
structure Router where
  /-- INJ(e) and REM(e) of epochs 0 and 1 (R92). -/
  inj0 : Nat := 0
  inj1 : Nat := 0
  rem0 : Nat := 0
  rem1 : Nat := 0
  /-- The build store (R372). -/
  store : List Built := []
  /-- Stop Bath answers waiting, by output index (R247). -/
  absorb : Tbl (List Built) := []
  /-- Round-robin pointers, by 8 × output + group (R164). -/
  rr : Tbl Nat := []
  /-- Cycles of the group 0 grants in the window, by output (R162). -/
  mwin : Tbl (List Nat) := []
  /-- Round-robin pointer of input 14: 0 the store, 1 + o the absorber of output o (R372). -/
  rr14 : Nat := 0
  /-- The head flits that R71 allows in this FCLK cycle, once the router's arbitration of the cycle has begun, and the
outputs that have granted since (R164). -/
  ready : Option (List Cand) := none
  gave : List Nat := []
  /-- Input 14 has sent its flit of this cycle (R164, R372). -/
  gave14 : Bool := false
  /-- Packets handed to a full absorber, in order (R247). -/
  handed : List Handed := []
  underTest : Bool := false
  deriving DecidableEq, Repr

/-- Transaction-table states other than FREE (R96); a FREE entry is not listed. -/
inductive EntSt
  | check | hold | opened | close
  deriving DecidableEq, Repr

/-- What a transaction-table entry holds. -/
inductive Role
  | leg0
  /-- A served request at a waypoint (R116). -/
  | served
  deriving DecidableEq, Repr

/-- A verdict of the ART or of a verdict cache (R219 to R221). -/
structure Verdict where
  allow : Bool
  cause : Nat
  part : Nat
  ccls : Nat
  ord : Nat
  gen : Bool
  /-- The entry that matched. -/
  region : Option Nat
  deriving DecidableEq, Repr

/-- One entry of a transaction table (R95, R96). -/
structure Entry where
  st : EntSt
  role : Role := .leg0
  hdr : Header
  data : List (BitVec 512) := []
  etag : BitVec 16 := 0
  ldid : BitVec 4 := 0
  ndrExp : Bool := false
  /-- Local flow queue, at a HOST NI (R175). -/
  fq : Nat := 0
  /-- Acceptance order at this NI (R106). -/
  seq : Nat := 0
  /-- MTIME in ns at t0 of R100 (R190). -/
  t0ns : Nat := 0
  /-- The verdict of a checked request (R221, R238). -/
  verdict : Option Verdict := none
  /-- The lookup has been presented and its verdict has not returned. -/
  waitsArt : Bool := false
  /-- The entry has been OPEN (R326). -/
  wasOpen : Bool := false
  /-- Cycles eligible and not picked (R188). -/
  wait : Nat := 0
  /-- Reservation under which it was injected as class A (R202, R207). -/
  rsv : Option Nat := none
  /-- Hosts whose BIR is pending (R110). -/
  mask : BitVec 16 := 0
  orphan : Bool := false
  /-- Age in µs since OPEN, and the LEGACY_TO_US that applies (R257). -/
  age : Nat := 0
  legTo : Nat := 0
  /-- A fetch leg is in flight, and the fetch leg's header (R117). -/
  fetch : Option Header := none
  /-- The NI has answered a served request whose fetch answer still comes (R118). -/
  answered : Bool := false
  /-- A result has been taken and its HEAD has not been injected; of an MGT_MSG: it has passed its admission test. -/
  resulted : Bool := false
  /-- The request of an SMX bridge access (R355). -/
  smx : Bool := false
  /-- The address of an access that came through the Safelight port of R345. -/
  sl : Option Word := none
  /-- The legacy timer has closed it, and it has left the drain count of its rule set (R239). -/
  legacy : Bool := false
  deriving DecidableEq, Repr

/-- A receipt (R241). -/
structure Receipt where
  hdr : Header
  age : Nat
  /-- A response for it waits in the response buffer. -/
  answered : Bool := false
  deriving DecidableEq, Repr

/-- What the NI does when a ready packet's HEAD is injected. -/
inductive ReadySrc
  | leg0 (tag : Nat)
  | relay (tag : Nat)
  | fetch (tag : Nat)
  /-- A response that frees the receipt of (SRC, TAG). -/
  | receipt (src tag : Nat)
  /-- A response that frees a served request's entry. -/
  | served (tag : Nat)
  | built
  deriving DecidableEq, Repr

/-- A packet ready for an NI's local channel (R160). -/
structure Ready where
  hdr : Header
  data : List (BitVec 512)
  vc : Nat
  src : ReadySrc
  headSent : Bool := false
  /-- Cycles without a grant (R163). -/
  starve : Nat := 0
  starved : Bool := false
  deriving DecidableEq, Repr

/-- A packet waiting in the TEI FIFO or being delivered (R271), with tei_dn_ctl (R273). -/
structure Delivery where
  hdr : Header
  data : List (BitVec 512)
  kind : Nat
  answered : Bool := false
  final : Bool := false
  late : Bool := false
  etag : BitVec 16 := 0
  ldid : BitVec 4 := 0
  /-- The first beat has been delivered. -/
  begun : Bool := false
  /-- The entry to free once it has crossed the TEI (CLOSE, R96). -/
  frees : Option Nat := none
  deriving DecidableEq, Repr

/-- The last beat delivered across the TEI (R271 to R273). -/
structure Beat where
  vc : Nat
  sop : Bool
  eop : Bool
  hdr : Header
  kind : Nat
  answered : Bool
  final : Bool
  late : Bool
  etag : BitVec 16
  ldid : BitVec 4
  data : Option (BitVec 512)
  deriving DecidableEq, Repr

/-- One verdict-cache entry (R227). -/
structure CacheEnt where
  lo : Nat
  hi : Nat
  group : Nat
  priv : Bool
  gen : Bool
  /-- false: a NO_REGION gap. -/
  isRegion : Bool
  rdOk : Bool
  wrOk : Bool
  long : Bool
  part : Nat
  ccls : Nat
  ord : Nat
  region : Nat
  deriving DecidableEq, Repr

/-- A verdict on its way to its NI (R225). -/
structure VerdictMsg where
  tag : Nat
  v : Verdict
  /-- What the cache may install (R227), unless a COMMIT or FLUSH came between (R228). -/
  install : Option CacheEnt
  deriving DecidableEq, Repr

/-- A lookup or a fault report waiting for its row's engine (R225, R228). -/
structure Lookup where
  port : Nat
  tag : Nat
  addr : Nat
  write : Bool
  len : Nat
  mid : Nat
  group : Nat
  priv : Bool
  /-- FCLK cycle of presentation, once presented (R226). -/
  since : Option Nat := none
  /-- A denial decided from the cache: its record is to be written (R228). -/
  report : Option Verdict
  deriving DecidableEq, Repr

/-- The up path of a row's check plane (R22, R226): the lookups and reports of its NIs in the order in which the NIs came
by them, the round-robin pointers of the eight leaves (0 to 3, by router), and of the tree nodes (0 or 1, the root being
node 1 and node n having the children 2n and 2n + 1). -/
structure CheckRow where
  waiting : List Lookup := []
  leafRr : Tbl Nat := []
  nodeRr : Tbl Nat := []
  deriving DecidableEq, Repr

/-- A summary of an NI's accumulator (R329): counts by 5 × partition + counter. -/
abbrev Summary := Tbl Nat

/-- Steps of an N2 entry (R296). -/
inductive EntryStep
  | e1 | e2 | e3 | e4 | e5 | e6
  deriving DecidableEq, Repr

/-- Steps of a wake (R301). -/
inductive WakeStep
  | w0 | w1 | w2 | w3
  deriving DecidableEq, Repr

/-- The shutter-list export as the endpoint sees it (R200, R284). -/
structure GateOut where
  now : Nat := 15
  next : Nat := 15
  lead : Bool := false
  valid : Bool := false
  deriving DecidableEq, Repr

/-- An NI with its shell (R26, R95, R241, R271). -/
structure Ni where
  -- fabric side
  entries : Tbl (Option Entry) := []
  nextAcc : Nat := 0
  ready : List Ready := []
  receipts : List Receipt := []
  /-- TEI FIFO toward the endpoint, by VC. -/
  fifo : Tbl (List Delivery) := []
  /-- Delivery credits by VC (R278). -/
  dnCrd : Tbl Nat := []
  /-- Submission credits granted at the last restart (R269, R277). -/
  reqLim : Nat := 0
  rspLim : Nat := 0
  /-- ACCEPT wait in µs by VC (R243), and watchdogs that have tripped and not re-armed. -/
  accWait : Tbl Nat := []
  /-- ACCEPT_TO_US and RESP_TO_US as the last µs tick took them (R265). -/
  accLim : Nat := 100
  respLim : Nat := 1000
  accTripped : Bool := false
  respTripped : Bool := false
  /-- Round-robin pointers: 0 to 7 the local channel by group, 8 to 15 the TEI delivery by group (R164). -/
  rr : Tbl Nat := []
  /-- Cycles of group 0 grants: local channel, TEI delivery (R162). -/
  mwin : List Nat := []
  mwinTei : List Nat := []
  /-- Starvation counts of the TEI delivery by VC, and the VCs starved there (R163). -/
  teiStarve : Tbl Nat := []
  teiStarved : List Nat := []
  /-- The head flits of the local channel, or of the TEI delivery, have been counted in this cycle (R163). -/
  counted : Bool := false
  teiCounted : Bool := false
  /-- R188 pointers. -/
  ptrM : Nat := 0
  ptrS : Nat := 0
  ptrC : Nat := 0
  /-- (SRC, TAG) of served requests that the NI answered before their engine gave its last result (R118). -/
  lateAnswers : List (Nat × Nat) := []
  cache : List CacheEnt := []
  verdicts : List VerdictMsg := []
  /-- Both as t3 of this cycle found them, when its commit of the ART control page has flushed the cache (R222, R362). -/
  cacheWas : Option (List CacheEnt × List VerdictMsg) := none
  /-- ⌊MTIME / (4,000 × 2^SAMPLE_LOG2)⌋ at the last sample (R191). -/
  smpAt : Nat := 0
  /-- Idle cycles, and whether this cycle has seen activity (R293). -/
  idle : Nat := 0
  active : Bool := false
  /-- Sum of the accumulator (R329). -/
  acc : Summary := []
  lastBeat : Option Beat := none
  /-- A request has been admitted in this cycle (R187). -/
  admitted : Bool := false
  -- shell
  /-- The shutter list (R198): a committed list is pending, and the MTIME of its commit. -/
  shlPend : Bool := false
  shlAt : Word := 0
  /-- What the cycle of t3 of a GLOBAL_COMMIT wrote to the list that it made pending: it stays staged behind that list
  (R362, log entry 107). -/
  shlWrote : Tbl Nat := []
  /-- Writes of flow-queue registers that followed the cycle's admission test: queue, offset and value (R185, log
  entry 113). -/
  lateWrites : List (Nat × Nat × Word) := []
  /-- gate_now, gate_next, gate_lead and gate_valid in the shell, and the LEAD_NS in effect (R200). -/
  gateNow : Nat := 15
  gateNext : Nat := 15
  gateLead : Bool := false
  gateValid : Bool := false
  leadNs : Nat := 100
  /-- What the endpoint sees of them (R284). -/
  gateOut : GateOut := {}
  /-- Wake-hold buffer (R300): packets in arrival order, with the VC that each came on. -/
  held : List (Nat × Header × List (BitVec 512)) := []
  /-- A demand or packet that wakes the NI as soon as it may (R297, R304). -/
  demand : Bool := false
  /-- The demand is an NI_WAKE or a write of SLEEP_OK = 0, which wake an isolated NI too (R297, R369). -/
  ordered : Bool := false
  entry : Option EntryStep := none
  /-- Taken as an F3 entry (R303). -/
  inF3 : Bool := false
  wake : Option WakeStep := none
  /-- µs tick counts at E0 or E1's end, and at W0 (R296, R302). -/
  stepUs : Nat := 0
  wakeUs : Nat := 0
  ackTo : Nat := 0
  drainTo : Nat := 0
  wakeTo : Nat := 0
  /-- Was in N0 or N1 at the last F3 entry (R304, R367). -/
  awakeF3 : Bool := false
  /-- SLEEP_OK = 0 has been written: during F3_WAKE, to act once FSTATE is F0 (R294); in F3, or in F3_ENTRY with the NI
  in N2, to act at the next F3 wake (R367). -/
  wakeAtF0 : Bool := false
  wakeF3 : Bool := false
  pwrReq : Bool := false
  /-- pwr_ack has answered while the entry paused at E1 (R281, R290, R319). -/
  pwrAck : Bool := false
  teiWake : Bool := false
  teiRstN : Bool := false
  epRstN : Bool := false
  epReady : Bool := false
  /-- µs tick count at s2 (R269). -/
  initUs : Nat := 0
  /-- After an endpoint reset, delivery waits for UP (R270). -/
  waitUp : Bool := false
  derate : Nat := 0
  /-- A fence grace runs, and the µs tick count at its t1 (R251). -/
  grace : Bool := false
  graceUs : Nat := 0
  graceTo : Nat := 0
  /-- A re-admission waits for t2 (R253). -/
  readmitting : Bool := false
  /-- The router's output stands on the absorber (R245 t2). -/
  diverted : Bool := false
  /-- An isolation cause that a running slice defers (R319). -/
  deferred : Nat := 0
  tsHold : Bool := false
  /-- ts_idle is high (R285). -/
  tsIdle : Bool := false
  /-- REQ-pool credits withdrawn for a slice (R316). -/
  tsPrep : Bool := false
  underTest : Bool := false
  zeroise : Bool := false
  /-- zeroise_ack is high (R285). -/
  zeroAck : Bool := false
  /-- Tap slots (R329): EPOCH with its epoch number, FLUSH. -/
  slotEpoch : Option (Nat × Summary) := none
  slotFlush : Option Summary := none
  flushUs : Nat := 0
  /-- A CRC of the image section is stored (R305). -/
  crcStored : Bool := false
  deriving DecidableEq, Repr

/-- A record of a log: two or three words. -/
structure Rec where
  w0 : Word
  w1 : Word
  w2 : Word := 0
  deriving DecidableEq, Repr

/-- What t3 of a GLOBAL_COMMIT found of a page that it included, until its cycle ends (R362). -/
structure GcRec where
  page : Nat
  /-- The commit at t3 was the page's only one in this cycle. -/
  own : Bool
  /-- Values in force of the fields that the commit changes, and what the commits of an NI page, the Time Unit page and the
test-strip page change beside them. -/
  was : Tbl Nat
  pend : Bool
  pendAt : Word
  delayChg : Option Int
  delayNow : Int
  stripAt : Option Nat
  deriving DecidableEq, Repr

/-- The Time Unit beside its page (R137 to R147). -/
structure TimeUnit where
  /-- The state ACQUIRE was entered from, the µs tick count of its entry, and the µs after it at which the acquisition
detector locks (R126). -/
  origin : Nat := 0
  acqUs : Nat := 0
  acqLock : Nat := 0
  /-- The last ratio learnt, and the ratios of the last µs of LOCKED, newest first, in 2^−16 ppm (R147). -/
  learnt : Int := 0
  ratios : List Int := []
  /-- Remaining slew offset, in ticks (R140). -/
  offset : Int := 0
  /-- MTIME of the next slew step. -/
  slewAt : Word := 0
  /-- The last good frame's EDGE_TIME and the epoch edges since it (R134). -/
  lastGood : Option Word := none
  periods : Nat := 0
  /-- Consecutive good frames and consecutive bad frames. -/
  goodRun : Nat := 0
  badRun : Nat := 0
  /-- EDGE_TIME of the edge that the last qualifying frame announces (R139). -/
  alignAt : Option Word := none
  /-- An announced step (R141). -/
  stepAt : Option Word := none
  /-- Change of TB_DELAY's tick part awaiting an epoch edge (R139). -/
  delayChg : Option Int := none
  /-- Tick part of the TB_DELAY in effect. -/
  delayNow : Int := 0
  /-- µs tick counts: last SW_FREQ or SW_PHASE write. -/
  swUs : Nat := 0
  /-- SOURCE codes of the armed events that will fire LATE (R143). -/
  late : List Nat := []
  /-- A holdover runs (R147), and HOLDOVER_LONG has been set in it. -/
  holdover : Bool := false
  holdLong : Bool := false
  /-- MTIME of the last step (R167). -/
  lastStep : Option Word := none
  /-- Event log, oldest first (R145). -/
  log : List Rec := []
  /-- Where MTIME would stand at the last tb_snap capture (R151). -/
  snapAt : Option Word := none
  /-- Ticks withheld by slewing that MTIME has still to leave out (R140). -/
  skip : Nat := 0
  /-- Armed targets of TIMER0 to TIMER3 (R143), with period. -/
  timers : Tbl (Option (Nat × Nat)) := []
  /-- Armed targets: GLOBAL_COMMIT, ART_SWAP, ROUTE_FLIP (R144). -/
  gcAt : Option Nat := none
  swapAt : Option Nat := none
  flipAt : Option Nat := none
  /-- Next T of STRIP_WINDOW, and next k of LEDGER_EPOCH (R311, R330). -/
  stripAt : Option Nat := none
  ledgerK : Nat := 1
  /-- The staged copies as this FCLK cycle began, the pages that a COMMIT has committed in it, and those that t3 of a
GLOBAL_COMMIT has, once it has come in this cycle (R362). -/
  stagedAt : Tbl Nat := []
  commits : List Nat := []
  gcDone : Option (List GcRec) := none
  deriving DecidableEq, Repr

/-- A Reservation Table job (R207). -/
inductive RsvJob
  | reserve (r : Nat)
  | release (r : Nat)
  | recheck (cause : Nat)
  deriving DecidableEq, Repr

/-- Commands of ART_CMD (R232). -/
inductive ArtCmd
  | validate | copy | clear
  deriving DecidableEq, Repr

/-- An ART entry: four words (R214). -/
structure ArtEnt where
  w0 : Word := 0
  w1 : Word := 0
  w2 : Word := 0
  w3 : Word := 0
  deriving DecidableEq, Repr

/-- Phase of a level transition (R290). -/
inductive LevelStep
  | l1 | l2 | l3 | l5 | l6 | l8
  deriving DecidableEq, Repr

/-- The Power Controller beside its page. -/
structure Power where
  trans : Option LevelStep := none
  /-- µs tick count at the start of the running ramp, and its bound. -/
  rampUs : Nat := 0
  rampTo : Nat := 0
  /-- The level transition runs in F3, only L5 (R291). -/
  inF3 : Bool := false
  /-- A re-check result that L1 waits for is due (R213). -/
  waitRecheck : Bool := false
  /-- FAB_WAKE held during F3_ENTRY from the no-return point (R304). -/
  wakeHeld : Bool := false
  /-- The common E4 has been taken (R303). -/
  noReturn : Bool := false
  wakeUs : Nat := 0
  wakeTo : Nat := 0
  /-- Power-good has been reported in this F3 wake. -/
  supply : Bool := false
  /-- A first FAB_WAKE after AON reset has been made (R304, R367). -/
  everWoke : Bool := false
  /-- Refusal log, newest first (R308). -/
  log : List Rec := []
  /-- CRCs of banks 0 to 25 are stored (R305). -/
  crcStored : Bool := false
  deriving DecidableEq, Repr

/-- A row of a buffer SRAM that a spare row stands for (R322): the MEM, MISC, TXN or FQ slice that tests the SRAM, the SRAM
within it, the row, and which of the two spares. -/
structure Repair where
  slice : Nat
  sram : Nat
  row : Nat
  spare : Nat
  deriving DecidableEq, Repr

/-- Phase of the test-strip slice (TS_STAT.PHASE) is in the register file; the rest of the controller's state. -/
structure Strip where
  /-- Scheduled T of the open window, elapsed µs at opening. -/
  winT : Word := 0
  openUs : Nat := 0
  /-- The hold covers every NI, or only this port (R313). -/
  holdAll : Bool := false
  holdPort : Option Nat := none
  /-- The running or chosen slice runs in this window. -/
  running : Bool := false
  /-- The restore runs past the window's close (R313). -/
  overrun : Bool := false
  /-- What TEST_END found: RESULT, DETAIL, MEASURE (R321). -/
  found : Option (Nat × Nat × Nat) := none
  /-- µs tick count at t3, and what the open window took at its opening: QUIET_US, SKIP_LIMIT and SOFT_REPAIR_EN
  (R316, R320, R322: staged fields take effect from the next window). -/
  quietUs : Nat := 0
  quietTo : Nat := 0
  skipLimit : Nat := 0
  softEn : Bool := false
  /-- JITTER_LIMIT_PS as the slice started (R321). -/
  jitterLimit : Nat := 0
  /-- Status and counter fields of the unit under test as tq found them (R318). -/
  saved : Tbl Nat := []
  /-- The register fields of the unit's pages as it went under test: those that it works with until tr, while writes reach
  its spine image (R318). -/
  live : Tbl Nat := []
  /-- The link that a LINK slice tests, as one of its channels (R317). -/
  linkTest : Option Nat := none
  log : List Rec := []
  /-- The AON repair registers: soft repairs since reset, those of them that are not fused yet, and those being fused
(R322, R323). -/
  soft : List Repair := []
  unfused : List Repair := []
  fusing : Option (List Repair) := none
  /-- The port that SLICE_PREPARE prepared (R316). -/
  prepared : Option Nat := none
  /-- Clearing before scan (R325): µs tick count at its start; the fabric is in reset after test_mode
  fell. -/
  clearUs : Nat := 0
  deadUntilReset : Bool := false
  deriving DecidableEq, Repr

/-- A ledger record (R333). BOOT_NONCE, the public key and the signature are free values, held as their draws. -/
structure LedgerRec where
  /-- 1 BOOT, 2 TOTALS, 3 GAP. -/
  type : Nat
  /-- Header words 0 to 7; word 1, BOOT_NONCE, is read from the ledger's draw. -/
  words : List Word
  /-- Body as a number, byte 0 lowest; for BOOT the key's draw decides it. -/
  body : Nat
  bodyLen : Nat
  /-- Draw of the public key in a BOOT body. -/
  key : Option Nat := none
  /-- It is to be signed: decided when it is filed (R334). -/
  toSign : Bool := false
  /-- Draws of the signing key and of the per-message secret, once signed (R334). -/
  signedBy : Option (Nat × Nat) := none
  readable : Bool := false
  deriving DecidableEq, Repr

/-- The Proof Ledger (R326 to R339). -/
structure Ledger where
  /-- Totals by 5 × partition + counter (R326). -/
  totals : Tbl Nat := []
  unattributed : Nat := 0
  /-- Contributions to epochs not closed yet, by epoch number. -/
  openEpoch : Tbl Summary := []
  /-- k of the last firing of LEDGER_EPOCH. -/
  firedK : Nat := 0
  queue : List LedgerRec := []
  seq : Nat := 0
  gaps : Nat := 0
  unsync : Nat := 0
  late : Nat := 0
  /-- Draw of BOOT_NONCE. -/
  nonce : Nat := 0
  /-- Draw of the key in the working register, when KEY_VALID (R339). -/
  key : Option Nat := none
  deriving DecidableEq, Repr

/-- One-time fuses and key store (R323, R337, R338, R341, R364). -/
structure Fuses where
  lc : Nat := 3
  ledgerAbsent : Bool := false
  /-- Draws of the key pairs in the two slots; a slot overwritten at RMA keeps its place. -/
  slots : List Nat := []
  wiped : Bool := false
  bootCount : Nat := 0
  repairs : List Repair := []
  /-- FUSE_LEFT since the transition to PRODUCTION (R323). -/
  fuseLeft : Option Nat := none
  /-- LK values fused at the transition to PRODUCTION (R364). -/
  lkFused : Bool := false
  lk : Tbl Nat := []
  deriving DecidableEq, Repr

/-- States of the TAP controller (IEEE 1149.1, R345). -/
inductive Tap
  | reset | idle
  | selectDr | captureDr | shiftDr | exit1Dr | pauseDr | exit2Dr | updateDr
  | selectIr | captureIr | shiftIr | exit1Ir | pauseIr | exit2Ir | updateIr
  deriving DecidableEq, Repr

/-- Life-cycle controller and Safelight TAP (R342 to R345). -/
structure LifeCycle where
  /-- Target of the running transition. -/
  running : Option Nat := none
  /-- Draw of the current RMA_NONCE. -/
  nonce : Option Nat := none
  token : Tbl Word := []
  tap : Tap := .reset
  /-- The port's instruction register: BYPASS after reset (log entry 93). -/
  slIr : Nat := 0xF
  /-- Shift stages of the instruction and the selected data register, and the bit driven at tdo. -/
  irShift : Word := 0
  drShift : Word := 0
  tdo : Option Bool := none
  slAddr : Word := 0
  slData : Word := 0
  slDone : Bool := false
  slStatus : Nat := 0
  slRefused : Bool := false
  /-- A fabric-memory access of the port that has not entered its NI yet: SL_ADDR, SL_DATA, write (R345). -/
  slWait : Option (Word × Word × Bool) := none
  deriving DecidableEq, Repr

/-- A completed SMX access (R349). -/
structure SmxDone where
  master : Nat
  addr : Word
  write : Bool
  data : Word
  error : Bool
  deriving DecidableEq, Repr

/-- A bridge access in flight or in its master's completion buffer (R352, R355). -/
structure BridgeAcc where
  master : Nat
  addr : Word
  write : Bool
  /-- Its entry at port 110. -/
  tag : Nat
  /-- Read data, and CAUSE and STATUS of an error response. -/
  result : Option (Word × Option (Nat × Nat)) := none
  deriving DecidableEq, Repr

/-- The Service Matrix beside its page. -/
structure Smx where
  /-- Accesses held: before BOOT_DONE, by a quiesce, by R352, by a busy arbiter, or by a full bridge. -/
  waiting : List SmxAccess := []
  /-- Bridge accesses outstanding, in order of grant. -/
  bridge : List BridgeAcc := []
  /-- The master that each target's arbiter considers first (R351). -/
  rr : Tbl Nat := []
  /-- Completions, newest first. -/
  done : List SmxDone := []
  /-- The master that wrote QUIESCE = 1 in the SMX page (R359). -/
  quiescer : Nat := 4
  /-- The boot sequencer has copied the loader (R365): the first 64 KiB of working SRAM hold the boot ROM's words. -/
  romCopied : Bool := false
  /-- That copy did not read back equal. -/
  copyBad : Bool := false
  deriving DecidableEq, Repr

/-- Input pins (R129, R260, R286). -/
structure Pins where
  present : BitVec 32 := 0xFFFFFFFF
  /-- Bit c: pwr_warn_n[c] is low. -/
  warn : BitVec 32 := 0
  fuse : BitVec 32 := 0
  tbRef : Bool := false
  testMode : Bool := false
  scanEn : Bool := false
  scanIn : BitVec 32 := 0
  deriving DecidableEq, Repr

/-- The filtered inputs of the slot groups (R261, R265). -/
structure Slots where
  /-- Bit c: pwr_warn_n[c] has fenced group c. -/
  warned : BitVec 32 := 0
  /-- Bit c: fuse_tripped[c] has passed its filter. -/
  tripped : BitVec 32 := 0
  /-- The writes that have changed PWR_WARN_FILTER_US, newest first: µs tick count, and the value in force for falls of
pwr_warn_n from then on. -/
  filters : List (Nat × Nat) := []
  deriving DecidableEq, Repr

/-- The machine: every register word, the units' state, and the queue of commands that wait. -/
structure State where
  pending : List Instr
  /-- Counter for free values: the model's own. -/
  free : Nat
  /-- FCLK cycles, MTIME ticks counted, what is left over of a tick (in sixths of 1/`rateUnit` tick), and µs ticks, since
AON reset. -/
  cyc : Nat
  ticks : Nat
  sixths : Nat
  us : Nat
  mtime : Word
  pins : Pins
  /-- Register fields in force, and the staged copies that differ from them, by key (R358). -/
  regs : Tbl Nat
  staged : Tbl Nat
  /-- Pages with a staged field that this cycle has written (R362). -/
  stagedNow : List Nat
  chans : Tbl Chan
  routers : Tbl Router
  /-- Route-table entries in the routers and in their spine images, by (2 × router + bank) × 256 + port (R78). -/
  rt : Tbl Word
  rtImg : Tbl Word
  nis : Tbl Ni
  time : TimeUnit
  /-- ART entries by 131,072 × set + index; fences by 8 × set + bank; the window's holding buffer (R214, R219, R231). -/
  art : Tbl ArtEnt
  fence : Tbl Nat
  artHold : ArtEnt
  artCmd : Option ArtCmd
  artWait : List ArtCmd
  /-- ART_LONG as committed when the running VALIDATE started (R234). -/
  artLongAt : Nat
  /-- The check plane, by row (R226). -/
  lookups : Tbl CheckRow
  faults : List Rec
  /-- µs and tick counts at t3 of the last swap and flip; whether the stall was raised; SWAP_UNSURE
  owed at the next SWAP_DONE (R250), and at that of a generation (R239). -/
  swapUs : Nat
  swapTick : Nat
  swapStalled : Bool
  unsure : Bool
  unsureGen : BitVec 2
  flipUs : Nat
  flipTick : Nat
  flipStalled : Bool
  /-- ART_DRAIN_LIMIT and RT_DRAIN_LIMIT, in µs, as the last drain sample took them (R93, R240). -/
  swapLim : Nat
  flipLim : Nat
  /-- The Reservation Table's running job and the jobs that wait (R207). -/
  rsvRun : Option RsvJob
  rsvWait : List RsvJob
  /-- A change of RSV_CFG made while quiesced (R210). -/
  rsvCfgChg : Bool
  errLog : List Rec
  /-- µs tick count at which presence of a group becomes stable, by group; filtered inputs (R261, R262). -/
  stableUs : Tbl Nat
  slots : Slots
  power : Power
  strip : Strip
  fuses : Fuses
  ledger : Ledger
  lc : LifeCycle
  smx : Smx
  /-- Working SRAM behind the SMX (R347): address and byte, in canonical form. -/
  mem : List Host.Cell
  /-- MTIME [63:8] at the last refill tick (R181). -/
  refillAt : Nat
  deriving DecidableEq, Repr

/-- The machine right after AON power-on reset (R365, R366): the fabric in F3, every live NI in N2, MTIME 0, every
register field at its Reset column (none listed), the ledger's BOOT record queued (R333). The fuses are those of a
part in DEVELOP with a blank key store and its first boot (log entry 3); the pins are quiet (log entry 4). -/
def State.reset : State where
  pending := []
  free := 0
  cyc := 0
  ticks := 0
  sixths := 0
  us := 0
  mtime := 0
  pins := {}
  regs := []
  staged := []
  stagedNow := []
  chans := []
  routers := []
  rt := []
  rtImg := []
  nis := []
  time := {}
  art := []
  fence := []
  artHold := {}
  artCmd := none
  artWait := []
  artLongAt := 0
  lookups := []
  faults := []
  swapUs := 0
  swapTick := 0
  swapStalled := false
  unsure := false
  unsureGen := 0
  flipUs := 0
  flipTick := 0
  flipStalled := false
  swapLim := 1000
  flipLim := 1000
  rsvRun := none
  rsvWait := []
  rsvCfgChg := false
  errLog := []
  stableUs := []
  slots := {}
  power := {}
  strip := {}
  fuses := { bootCount := 1 }
  ledger := { seq := 1, queue := [{ type := 1, words := [0x0000000100030101, 0, 0, 0, 0, 0, 0x6000000000, 0],
                                    body := 0, bodyLen := 96 }] }
  lc := {}
  smx := {}
  mem := []
  refillAt := 0

end Sys2Proof.Machine
end

