-- ==== Sys2Proof/Machine/Operands.lean ====
section
/-! DEFINITION. Operand forms: the topology and the port numbers (spec/01 R9 to R19), the header bits, encodings and
checks (spec/02), virtual channels (R69), the Galon tables (R81), waypoints and groups (R47, R115). -/

namespace Sys2Proof.Machine

/-! ## Topology (R9 to R11) -/

/-- Router [row,col] (R9). -/
def rowOf (r : Nat) : Nat := r / 8
def colOf (r : Nat) : Nat := r % 8

/-- Whether router `r` has port index `i` (R10). -/
def hasPort (r i : Nat) : Bool :=
  i < 11 || (i == 11 && 1 ≤ rowOf r) || (i == 12 && rowOf r ≤ 6) || i == 13

/-- The column at the far end of row output `i` (4 to 10) of column `c`, and the row output toward a column (R10). -/
def hCol (c i : Nat) : Nat := if i - 4 < c then i - 4 else i - 3
def hIdx (c d : Nat) : Nat := if d < c then 4 + d else 3 + d

/-- The router at the far end of port index `i` (4 to 13) of router `r`, and the port index there (R10). -/
def far (r i : Nat) : Nat × Nat :=
  let row := rowOf r
  let col := colOf r
  if i < 11 then (row * 8 + hCol col i, hIdx (hCol col i) col)
  else if i = 11 then ((row - 1) * 8 + col, 12)
  else if i = 12 then ((row + 1) * 8 + col, 11)
  else ((if row < 4 then row + 4 else row - 4) * 8 + col, 13)

/-- Channel of output `o` of router `r`, and of the local channel that port `p` sends on (R203). -/
def outChan (r o : Nat) : Nat := 16 * r + o
def niChan (p : Nat) : Nat := 1024 + p

/-- Channel that arrives at input `i` of router `r`. -/
def inChan (r i : Nat) : Nat :=
  if i < 4 then niChan (4 * r + i) else outChan (far r i).1 (far r i).2

/-- Channel that arrives at the NI of port `p`: its router's local output (R13). -/
def niRxChan (p : Nat) : Nat := outChan (p / 4) (p % 4)

/-- Where a channel ends: an NI's port, or a router and its input. -/
def chanEnd (c : Nat) : Nat ⊕ (Nat × Nat) :=
  if 1024 ≤ c then .inr ((c - 1024) / 4, (c - 1024) % 4)
  else if c % 16 < 4 then .inl (4 * (c / 16) + c % 16)
  else .inr (far (c / 16) (c % 16))

/-- The other direction of a channel's link (R11). -/
def revChan (c : Nat) : Nat :=
  if 1024 ≤ c then outChan ((c - 1024) / 4) ((c - 1024) % 4)
  else if c % 16 < 4 then niChan (4 * (c / 16) + c % 16)
  else outChan (far (c / 16) (c % 16)).1 (far (c / 16) (c % 16)).2

/-- Whether the fabric has the channel (R11). -/
def hasChan (c : Nat) : Bool := 1024 ≤ c && c < 1280 || c < 1024 && hasPort (c / 16) (c % 16)

/-! ## Ports (R13 to R18) -/

/-- Endpoint types, with the codes of R15. -/
inductive EpType
  | spare | host | mem | crypt | comp | ncache | tier | dir | svc
  deriving DecidableEq, Repr

def EpType.code : EpType → Nat
  | .spare => 0 | .host => 1 | .mem => 2 | .crypt => 3 | .comp => 4 | .ncache => 5 | .tier => 6 | .dir => 7 | .svc => 8

/-- Type and ordinal of an offset within row `r` (R14). -/
def placeOf (r : Nat) : Nat → EpType × Nat
  | 0 => (.host, 2 * r) | 1 => (.mem, 8 * r) | 2 => (.mem, 8 * r + 1) | 3 => (.dir, 4 * r)
  | 4 => (.crypt, 4 * r) | 5 => (.comp, 4 * r) | 6 => (.ncache, 4 * r) | 7 => (.mem, 8 * r + 2)
  | 8 => (.crypt, 4 * r + 1) | 9 => (.comp, 4 * r + 1) | 10 => (.ncache, 4 * r + 1) | 11 => (.tier, 2 * r)
  | 12 => (.dir, 4 * r + 1) | 13 => (.mem, 8 * r + 3) | 14 => (.svc, 2 * r) | 15 => (.spare, 2 * r)
  | 16 => (.dir, 4 * r + 2) | 17 => (.mem, 8 * r + 4) | 18 => (.svc, 2 * r + 1) | 19 => (.spare, 2 * r + 1)
  | 20 => (.crypt, 4 * r + 2) | 21 => (.comp, 4 * r + 2) | 22 => (.ncache, 4 * r + 2) | 23 => (.tier, 2 * r + 1)
  | 24 => (.crypt, 4 * r + 3) | 25 => (.comp, 4 * r + 3) | 26 => (.ncache, 4 * r + 3) | 27 => (.mem, 8 * r + 5)
  | 28 => (.host, 2 * r + 1) | 29 => (.mem, 8 * r + 6) | 30 => (.mem, 8 * r + 7) | _ => (.dir, 4 * r + 3)

/-- Endpoint type that a port reports: SPARE for the RESERVED service ports (R15, R17). -/
def portType (p : Nat) : EpType :=
  match placeOf (p / 32) (p % 32) with
  | (.svc, n) => if 12 ≤ n then .spare else .svc
  | (t, _) => t

/-- Ordinal within the type of R14. -/
def ordinal (p : Nat) : Nat := (placeOf (p / 32) (p % 32)).2

/-- Not tied off (R19). -/
def isLive (p : Nat) : Bool := portType p != .spare

/-- The live ports, in ascending order. -/
def livePorts : List Nat := (List.range 256).filter isLive

/-- Ports by type and ordinal (R14). -/
def hostPort (h : Nat) : Nat := (h / 2) * 32 + (if h % 2 = 0 then 0 else 28)
def engineCol (k : Nat) : Nat := match k with | 0 => 4 | 1 => 8 | 2 => 20 | _ => 24
def cryptPort (n : Nat) : Nat := (n / 4) * 32 + engineCol (n % 4)
def compPort (n : Nat) : Nat := cryptPort n + 1
def ncachePort (n : Nat) : Nat := cryptPort n + 2
def tierPort (n : Nat) : Nat := (n / 2) * 32 + (if n % 2 = 0 then 11 else 23)
def memPort (m : Nat) : Nat :=
  (m / 8) * 32 + (match m % 8 with | 0 => 1 | 1 => 2 | 2 => 7 | 3 => 13 | 4 => 17 | 5 => 27 | 6 => 29 | _ => 30)

/-- The live service ports by name (R17). -/
def portMgtA : Nat := 14
def portSafelight : Nat := 18
def portMgtB : Nat := 46
def portTeststrip : Nat := 50
def portTime : Nat := 78
def portPower : Nat := 82
def portBridge : Nat := 110
def portLedger : Nat := 114

/-- Fixed MID of a service port that originates packets (R17). The SMX bridge stamps its master's (R346). -/
def svcMid (p : Nat) : Option Nat :=
  match p with
  | 14 => some 0xFF2 | 18 => some 0xFF1 | 46 => some 0xFF3 | 50 => some 0xFF4
  | 142 => some 0xFF6 | 146 => some 0xFF7 | 174 => some 0xFF8 | 178 => some 0xFF9
  | _ => none

/-- MID that an SMX master carries at the bridge (R346). -/
def masterMid (m : Nat) : Nat :=
  match m with | 0 => 0xFF2 | 1 => 0xFF3 | 2 => 0xFF1 | 3 => 0xFF4 | _ => 0xFF5

/-- Entries of a port's transaction table (R30, R49), 0 for a port that holds none. -/
def tableSize (p : Nat) : Nat :=
  match portType p with
  | .host | .tier => 2048
  | .dir => 512
  | .crypt | .comp | .ncache => 256
  | .svc => if p = portTime ∨ p = portPower ∨ p = portLedger then 0 else 64
  | .mem | .spare => 0

/-- TAG values that a SRC of the type issues (R49). -/
def tagLimit : EpType → Nat
  | .dir => 512 | .crypt | .comp | .ncache => 256 | .svc => 64
  -- R49 gives no range for MEM and SPARE, which issue no TAG
  | .host | .tier | .mem | .spare => 2048

/-- Request rank of an endpoint type (R87). -/
def rankOf : EpType → Nat
  | .host | .svc | .spare => 0 | .crypt => 1 | .comp => 2 | .tier => 3 | .ncache => 4 | .dir => 5 | .mem => 6

/-- Memory slot group of a MEM port: one group holds the two subchannels of a DDR5 channel (R260). -/
def slotPorts (c : Nat) : List Nat := [memPort (2 * c), memPort (2 * c + 1)]
def slotOf (p : Nat) : Nat := ordinal p / 2

/-! ## Message classes and opcodes (R38, R42, R48, R61) -/

def cREQ : Nat := 0
def cRWD : Nat := 1
def cNDR : Nat := 2
def cDRS : Nat := 3
def cBIS : Nat := 4
def cBIR : Nat := 5
def cMGT : Nat := 6
def sA : Nat := 0
def sB : Nat := 1
def sC : Nat := 2
def sM : Nat := 3
def mgtRead : Nat := 0
def mgtWrite : Nat := 1
def mgtMsg : Nat := 2
def mgtCpl : Nat := 3
def mgtCpld : Nat := 4
/-- CXL 3.x opcodes (log entry 9). -/
def opMemInv : Nat := 0
def opMemRd : Nat := 1
def opMemRdData : Nat := 2
def opMemSpecRd : Nat := 8
def opMemInvNT : Nat := 9
def opMemClnEvct : Nat := 10
def opMemWr : Nat := 1
def opMemWrPtl : Nat := 2
def opCmp : Nat := 0
def opBIConflictAck : Nat := 4
def opMemData : Nat := 0
def opBIRspI : Nat := 0

/-- STATUS codes (R46). -/
def stOk : Nat := 0
def stPoison : Nat := 1
def stAccessFault : Nat := 2
def stDecodeErr : Nat := 3
def stIsolated : Nat := 4
def stFailing : Nat := 5
def stLegacy : Nat := 6
def stWakeFailed : Nat := 7
def stConfigLost : Nat := 8
def stProtocol : Nat := 9

/-- MGT_CPL or MGT_CPLD (R48). -/
def isMgtCpl (h : Header) : Bool := h.mcls == 6 && (h.opc == 3 || h.opc == 4)

/-- REQ, RWD, BIS, MGT_READ or MGT_WRITE: a request that is answered (R19, R64, R66). -/
def isAnswered (h : Header) : Bool :=
  h.mcls == 0 || h.mcls == 1 || h.mcls == 4 || (h.mcls == 6 && (h.opc == 0 || h.opc == 1))

/-- A request of R63 conditions 6 and 7: an MGT request is any MGT packet but a completion (log entry 12). -/
def isRequest (h : Header) : Bool :=
  h.mcls == 0 || h.mcls == 1 || h.mcls == 4 || (h.mcls == 6 && !isMgtCpl h)

/-- NDR, DRS, MGT completion or BIR. -/
def isResponse (h : Header) : Bool := h.mcls == 2 || h.mcls == 3 || h.mcls == 5 || isMgtCpl h

/-- DATA flits of a packet (R38, R48). -/
def dataFlits (h : Header) : Nat :=
  if h.mcls == 1 || h.mcls == 3 || (h.mcls == 6 && (h.opc == 1 || h.opc == 2 || h.opc == 4)) then h.len.toNat + 1
  else 0

/-- MemInv, MemInvNT and MemClnEvct; the REQ opcodes of CXL 3.x that are reads or that R61 leaves out; BIConflict. -/
def isInv (opc : BitVec 8) : Bool := opc == 0 || opc == 9 || opc == 10
def isKnownReq (opc : BitVec 8) : Bool := isInv opc || opc == 1 || opc == 2 || opc == 3 || opc == 4 || opc == 8
def isBIConflict (opc : BitVec 8) : Bool := !isKnownReq opc && opc == Config.biConflict
/-- A REQ that is answered by NDR alone (R61). -/
def ndrOnly (opc : BitVec 8) : Bool := isInv opc || isBIConflict opc

/-- VC class of a packet (R69). -/
def vcClass (h : Header) : Nat := if isMgtCpl h then 3 else h.mcls.toNat
/-- Escape and adaptive VC of a packet's class, and its class A VC (R68). -/
def escVc (h : Header) : Nat := 2 * vcClass h
def adVc (h : Header) : Nat := 2 * vcClass h + 1
def aVc (h : Header) : Nat := if h.mcls == 0 || h.mcls == 1 then 14 else 15
/-- An escape VC: even, 0 to 12 (R71). -/
def isEscVc (v : Nat) : Bool := v % 2 == 0 && v ≤ 12
/-- VC on which an NI injects a packet (R69). -/
def injectVc (h : Header) : Nat :=
  if h.scls == 0 then aVc h else if h.ord == 1 || h.ord == 2 then escVc h else adVc h

/-! ## Header bits (R41) -/

/-- Q0, bits [127:0]. -/
def headQ0 (h : Header) : BitVec 128 :=
  (h.rsv.extractLsb' 0 14 ++ h.mcast ++ h.wp2 ++ h.wp1 ++ h.wp0 ++ h.leg ++ h.hops ++ h.prio
    ++ BitVec.ofBool h.syn ++ BitVec.ofBool h.dv ++ h.deadline ++ h.tgt ++ h.legSrc ++ h.src ++ h.dst
    ++ BitVec.ofBool h.epoch ++ h.scls ++ h.mcls)
/-- Q1, bits [255:128]. -/
def headQ1 (h : Header) : BitVec 128 :=
  (h.rsv.extractLsb' 15 20 ++ h.addr ++ h.opc ++ h.rsv.extractLsb' 14 1 ++ BitVec.ofBool h.artgen ++ h.ord ++ h.ccls ++ h.status ++ h.tailBytes ++ h.len
    ++ h.part ++ h.mid ++ h.tag)
/-- Q2, bits [383:256]. -/
def headQ2 (h : Header) : BitVec 128 := h.rsv.extractLsb' 35 96 ++ h.injTs
/-- Q3, bits [511:384]. -/
def headQ3 (h : Header) : BitVec 128 := h.rsv.extractLsb' 131 64 ++ h.byteEn
/-- The HEAD flit payload. -/
def headPayload (h : Header) : BitVec 512 := headQ3 h ++ headQ2 h ++ headQ1 h ++ headQ0 h
/-- The header that a payload holds, with its reserved bits, which routers forward and NIs ignore (R41). -/
def headerOf (b : BitVec 512) : Header where
  mcls := b.extractLsb' 0 3
  scls := b.extractLsb' 3 2
  epoch := b.getLsbD 5
  dst := b.extractLsb' 6 8
  src := b.extractLsb' 14 8
  legSrc := b.extractLsb' 22 8
  tgt := b.extractLsb' 30 8
  deadline := b.extractLsb' 38 24
  dv := b.getLsbD 62
  syn := b.getLsbD 63
  prio := b.extractLsb' 64 3
  hops := b.extractLsb' 67 5
  leg := b.extractLsb' 72 2
  wp0 := b.extractLsb' 74 8
  wp1 := b.extractLsb' 82 8
  wp2 := b.extractLsb' 90 8
  mcast := b.extractLsb' 98 16
  tag := b.extractLsb' 128 11
  mid := b.extractLsb' 139 12
  part := b.extractLsb' 151 6
  len := b.extractLsb' 157 2
  tailBytes := b.extractLsb' 159 6
  status := b.extractLsb' 165 4
  ccls := b.extractLsb' 169 3
  ord := b.extractLsb' 172 2
  artgen := b.getLsbD 174
  opc := b.extractLsb' 176 8
  addr := b.extractLsb' 184 52
  injTs := b.extractLsb' 256 32
  byteEn := b.extractLsb' 384 64
  rsv := b.extractLsb' 448 64 ++ b.extractLsb' 288 96 ++ b.extractLsb' 236 20 ++ b.extractLsb' 175 1 ++ b.extractLsb' 114 14

/-! ## The flit on the wires (R32 to R35) -/

/-- Position of data bit `i` in the Hamming code of a quarter or of the sideband: the positions that are no power of two,
in rising order. Check bit `k` stands at position 2^k, and the parity bit above the check bits (log entry 94). -/
def hamPos (i : Nat) : Nat :=
  if i < 1 then i + 3 else if i < 4 then i + 4 else if i < 11 then i + 5 else if i < 26 then i + 6
  else if i < 57 then i + 7 else if i < 120 then i + 8 else i + 9

/-- The Hamming bits of an `n`-bit word, and whether it has an odd number of ones. -/
def hamming (n w : Nat) : Nat := (List.range n).foldl (fun a i => if w.testBit i then a ^^^ hamPos i else a) 0
def oddOnes (n w : Nat) : Bool := (List.range n).foldl (fun a i => a != w.testBit i) false

/-- The `m` Hamming bits and the overall parity bit of an `n`-bit word (R33). -/
def secdedBits (n m w : Nat) : Nat := hamming n w + (oddOnes n w != oddOnes m (hamming n w)).toNat * 2 ^ m

/-- What a receiver makes of an `n`-bit word and its check bits (R34): the word, and whether one bit was corrected;
none for a double-bit error. -/
def secdedFix (n m w chk : Nat) : Option (Nat × Bool) :=
  let syn := hamming n w ^^^ chk % 2 ^ m
  if oddOnes n w == oddOnes (m + 1) chk then (if syn = 0 then some (w, false) else none)
  else if syn = 0 || (List.range m).any (fun k => syn == 2 ^ k) then some (w, true)
  else ((List.range n).find? (fun i => hamPos i == syn)).map (fun i => (w ^^^ 2 ^ i, true))

/-- FT and TAIL of a flit's body, and its payload: an IDLE flit's is zero (R35). -/
def flitType : FlitBody → BitVec 2
  | .idle => 0 | .head _ _ => 1 | .data _ _ => 2 | .reserved _ _ => 3
def isTail : FlitBody → Bool
  | .idle => false
  | .head _ t | .data _ t | .reserved _ t => t
def flitPayload : FlitBody → BitVec 512
  | .idle => 0 | .head h _ | .reserved h _ => headPayload h | .data d _ => d

/-- The control sideband, in the layout of R35. -/
def sideband (f : Flit) : BitVec 32 :=
  0#2 ++ BitVec.ofNat 4 (f.crd.getD 0) ++ BitVec.ofBool f.crd.isSome ++ BitVec.ofBool f.nak
    ++ BitVec.ofNat 8 (f.ack.getD 0) ++ BitVec.ofBool f.ack.isSome ++ BitVec.ofNat 8 f.seq ++ BitVec.ofNat 4 f.vc
    ++ BitVec.ofBool (isTail f.body) ++ flitType f.body

/-- Quarter `i` of a payload, and its check bits (R33). -/
def quarter (d : BitVec 512) (i : Nat) : Nat := (d.extractLsb' (128 * i) 128).toNat
def quarterCheck (d : BitVec 512) (i : Nat) : BitVec 9 := BitVec.ofNat 9 (secdedBits 128 8 (quarter d i))

/-- A flit as its sender drives it, with the check bits (R32, R33). -/
def encodeFlit (f : Flit) : WireFlit :=
  let d := flitPayload f.body
  { payload := d, check := quarterCheck d 3 ++ quarterCheck d 2 ++ quarterCheck d 1 ++ quarterCheck d 0
    side := sideband f, sideCheck := BitVec.ofNat 7 (secdedBits 32 6 (sideband f).toNat) }

/-- The wires with the bits of `err` inverted. -/
def flipWires (w err : WireFlit) : WireFlit where
  payload := w.payload ^^^ err.payload
  check := w.check ^^^ err.check
  side := w.side ^^^ err.side
  sideCheck := w.sideCheck ^^^ err.sideCheck

/-- The flit that payload and sideband spell (R35, R41). -/
def spellFlit (d : BitVec 512) (b : BitVec 32) : Flit :=
  let tail := b.getLsbD 2
  { body := match (b.extractLsb' 0 2).toNat with
      | 0 => .idle | 1 => .head (headerOf d) tail | 2 => .data d tail | _ => .reserved (headerOf d) tail
    vc := (b.extractLsb' 3 4).toNat
    seq := (b.extractLsb' 7 8).toNat
    ack := if b.getLsbD 15 then some (b.extractLsb' 16 8).toNat else none
    nak := b.getLsbD 24
    crd := if b.getLsbD 25 then some (b.extractLsb' 26 4).toNat else none }

/-- The checks of the five words of a received flit: quarters Q0 to Q3, then the sideband (R33, R34). -/
def flitChecks (w : WireFlit) : List (Option (Nat × Bool)) :=
  (List.range 4).map (fun i => secdedFix 128 8 (quarter w.payload i) (w.check.extractLsb' (9 * i) 9).toNat)
    ++ [secdedFix 32 6 w.side.toNat w.sideCheck.toNat]

/-- Words in which a single-bit error was corrected (R34), those of an uncorrectable flit among them (log entry 95). -/
def correctedWords (w : WireFlit) : Nat := ((flitChecks w).filter (fun x => x.any (·.2))).length

/-- The flit that a receiver takes from the wires; none when it is uncorrectable (R34). -/
def decodeFlit (w : WireFlit) : Option Flit :=
  match flitChecks w with
  | [some q0, some q1, some q2, some q3, some b] =>
    some (spellFlit (BitVec.ofNat 512 (q0.1 + q1.1 * 2 ^ 128 + q2.1 * 2 ^ 256 + q3.1 * 2 ^ 384)) (BitVec.ofNat 32 b.1))
  | _ => none

/-! ## Malformed headers (R43, R47, R51, R52, R63) -/

/-- Whether R43 permits the service class for the message class. -/
def sclsAllowed (mcls : BitVec 3) (scls : BitVec 2) : Bool :=
  if scls == 0 then mcls.toNat ≤ 3
  else if scls == 3 then mcls.toNat ≤ 3 || mcls == 6
  else mcls.toNat ≤ 5

/-- A reserved waypoint code (R47). -/
def wpReserved (w : BitVec 8) : Bool := w.toNat / 16 == 7

/-- Condition 1 of R63: a reserved encoding in any encoded field. -/
def malformed1 (h : Header) : Bool :=
  h.mcls == 7 || h.ord == 3 || 6 ≤ h.ccls.toNat || 10 ≤ h.status.toNat
    || wpReserved h.wp0 || wpReserved h.wp1 || wpReserved h.wp2 || (h.mcls == 6 && 5 ≤ h.opc.toNat)

/-- Condition 2 of R63. -/
def malformed2 (h : Header) : Bool := h.mcls != 7 && !sclsAllowed h.mcls h.scls

/-- Condition 3 of R63. -/
def malformed3 (h : Header) : Bool :=
  (h.wp0 == 0xFF && h.wp1 != 0xFF) || (h.wp1 == 0xFF && h.wp2 != 0xFF)
    || (!(h.mcls == 0 || h.mcls == 1) && !(h.wp0 == 0xFF && h.wp1 == 0xFF && h.wp2 == 0xFF))

/-- Condition 4 of R63: R51 and R52. -/
def malformed4 (h : Header) : Bool :=
  (if h.mcls == 6 then h.addr.toNat % 8 != 0 else h.addr.toNat % 64 != 0)
    || ((h.mcls == 0 || h.mcls == 1 || h.mcls == 4 || h.mcls == 5) && 4 < h.addr.toNat % 256 / 64 + h.len.toNat + 1)
    || ((h.mcls == 4 || h.mcls == 5) && h.len == 2)
    || (h.byteEn != 0 && !(h.len == 0 && ((h.mcls == 1 && h.opc == 2) || (h.mcls == 6 && h.opc == 1))))

/-- Conditions 5 to 7 of R63. -/
def malformed5 (h : Header) : Bool := h.mcast != 0 && h.mcls != 4
def malformed6 (h : Header) : Bool :=
  isRequest h && !(h.status == 0 || (h.status == 1 && h.mcls == 1))
def malformed7 (h : Header) : Bool := isRequest h && tagLimit (portType h.src.toNat) ≤ h.tag.toNat

/-- What an NI checks of every header it is about to inject (R64), condition 8 aside. -/
def malformedNi (h : Header) : Bool :=
  malformed1 h || malformed2 h || malformed3 h || malformed4 h || malformed5 h || malformed6 h || malformed7 h

/-- Condition 8 of R63: SCLS M on a REQ or RWD that starts at a port that is not SVC. -/
def malformed8 (p : Nat) (h : Header) : Bool :=
  h.scls == 3 && (h.mcls == 0 || h.mcls == 1) && portType p != .svc

/-! ## Built answers (R58, R66) -/

/-- The response class and opcode that a request calls for, as the fabric builds it. -/
def answerClass (h : Header) : Nat × Nat :=
  if h.mcls == 0 then (if ndrOnly h.opc then (cNDR, if isInv h.opc then opCmp else opBIConflictAck) else (cDRS, opMemData))
  else if h.mcls == 1 then (cNDR, opCmp)
  else if h.mcls == 4 then (cBIR, opBIRspI)
  else (cMGT, if h.opc == 0 then mgtCpld else mgtCpl)

/-- The answer that the fabric builds to a request (R57 Responder column, R58). `who` fills SRC and LEG_SRC: the
request's DST. LEN is copied (R38), LEG is that of the leg answered and WP0 to WP2 are NONE (R119). -/
def builtAnswer (h : Header) (status : Nat) : Header :=
  let (m, o) := answerClass h
  { h with
    mcls := BitVec.ofNat 3 m
    opc := BitVec.ofNat 8 o
    dst := h.src, src := h.dst, legSrc := h.dst, tgt := h.dst
    hops := 0, wp0 := 0xFF, wp1 := 0xFF, wp2 := 0xFF, mcast := 0
    tailBytes := 0
    status := BitVec.ofNat 4 status
    byteEn := 0, rsv := 0 }

/-- The answer that a router builds to a request it disposes of: after a failure of condition 2 it carries SCLS M as an
MGT completion and SCLS B as a BIR (R58, R66). -/
def routerAnswer (h : Header) (status : Nat) : Header :=
  let a := builtAnswer h status
  { a with scls := if malformed2 h then (if a.mcls == 6 then 3 else if a.mcls == 5 then 1 else h.scls) else h.scls }

/-! ## The Galon tables (R81) -/

def absDiff (a b : Nat) : Nat := if a < b then b - a else a - b

/-- Fewest column links between two rows, monotone and any (the distance table before R13). -/
def colMono (a b : Nat) : Nat := let d := absDiff a b; if 4 ≤ d then d - 3 else d
def colAny (a b : Nat) : Nat := let d := absDiff a b; if d = 3 then 2 else colMono a b

/-- The far row of the express link. -/
def exRow (a : Nat) : Nat := if a < 4 then a + 4 else a - 4

/-- Escape output at router `r` toward port `d`. -/
def galonEsc (r d : Nat) : Nat :=
  let tr := d / 4
  if r = tr then d % 4
  else if colOf r ≠ colOf tr then hIdx (colOf r) (colOf tr)
  else if rowOf tr < rowOf r then 11 else 12

/-- Class A output: the express link first when the row distance is 4 or more. -/
def galonA (r d : Nat) : Nat :=
  let tr := d / 4
  if r = tr then d % 4
  else if colOf r ≠ colOf tr then hIdx (colOf r) (colOf tr)
  else if 4 ≤ absDiff (rowOf r) (rowOf tr) then 13
  else if rowOf tr < rowOf r then 11 else 12

/-- Column outputs that begin a path of fewest column links, as a mask. The table gives 4 for a distance of 7, although
EX, a step back and EX make 3: a first link counts when what remains is within the table's figure (log entry 13). -/
def galonColMask (a b : Nat) : Nat :=
  if a = b then 0
  else
    (if 1 ≤ a ∧ colAny (a - 1) b + 1 ≤ colAny a b then 2 ^ 11 else 0)
      + (if a ≤ 6 ∧ colAny (a + 1) b + 1 ≤ colAny a b then 2 ^ 12 else 0)
      + (if colAny (exRow a) b + 1 ≤ colAny a b then 2 ^ 13 else 0)

/-- ADAPT_MASK. -/
def galonAdapt (r d : Nat) : Nat :=
  let tr := d / 4
  if r = tr then 2 ^ (d % 4)
  else (if colOf r ≠ colOf tr then 2 ^ hIdx (colOf r) (colOf tr) else 0) + galonColMask (rowOf r) (rowOf tr)

/-- DETOUR_MASK: the row outputs 4 to 10 but the one to the destination column. -/
def galonDetour (r d : Nat) : Nat :=
  let tr := d / 4
  if rowOf r ≠ rowOf tr ∧ colOf r ≠ colOf tr then 0x7F0 - 2 ^ hIdx (colOf r) (colOf tr) else 0

/-- Word 0 of a Galon entry (R78). -/
def galonWord (r d : Nat) : Word :=
  BitVec.ofNat 64 (galonEsc r d + galonA r d * 2 ^ 4 + galonAdapt r d * 2 ^ 8 + galonDetour r d * 2 ^ 22 + 2 ^ 36)

/-- Fields of a route-table entry (R78). -/
structure RtEntry where
  esc : Nat
  a : Nat
  adapt : Nat
  detour : Nat
  valid : Bool
  deriving DecidableEq, Repr

def rtEntry (w : Word) : RtEntry where
  esc := w.toNat % 16
  a := w.toNat / 2 ^ 4 % 16
  adapt := w.toNat / 2 ^ 8 % 2 ^ 14
  detour := w.toNat / 2 ^ 22 % 2 ^ 14
  valid := w.getLsbD 36

/-- The indices of the bits set in a mask, ascending. -/
def maskBits (m n : Nat) : List Nat := (List.range n).filter (fun i => m / 2 ^ i % 2 = 1)

/-- Whether an entry written at router `r` carries no reserved encoding (R78). -/
def rtEntryOk (r : Nat) (w : Word) : Bool :=
  let e := rtEntry w
  e.esc < 14 && hasPort r e.esc && e.a < 14 && hasPort r e.a
    && (maskBits e.adapt 14).all (hasPort r) && (maskBits e.detour 14).all (fun i => 4 ≤ i && i ≤ 10)

end Sys2Proof.Machine
end

