-- ==== Sys2Proof/Machine/Regs.lean ====
section
/-! DEFINITION. The register map: every field of every register page, with its place, class and reset value, as the
register tables of spec/03 to spec/15 give them (spec/15_service_matrix_and_pages.md R356 to R358). -/

namespace Sys2Proof.Machine

/-- Field class and access code (R358). -/
inductive Cls
  | s | g | l | ro | w1c | w1s | wo
  deriving DecidableEq, Repr

/-- One row of a register table. `min` and `max` bound the encodings that are not reserved (R6). A field behind a
selector register has one value for each index (`sel`: the selector's offset, `selW` the width of its index). -/
structure Fld where
  off : Nat
  lo : Nat
  w : Nat
  cls : Cls
  reset : Nat := 0
  count : Nat := 1
  step : Nat := 0
  sel : Nat := 0
  selW : Nat := 0
  lk : Bool := false
  min : Nat := 0
  max : Nat := 2 ^ 64 - 1
  deriving DecidableEq, Repr

namespace Rtr
/-- RTR_CFG.ADAPT_EN (R94) -/
def rtrCfgAdaptEn : Fld := { off := 0x40, lo := 0, w := 1, cls := .s, reset := 1 }
/-- RTR_CFG.DETOUR_EN (R94) -/
def rtrCfgDetourEn : Fld := { off := 0x40, lo := 1, w := 1, cls := .s, reset := 1 }
/-- RTR_CFG.BYPASS_EN (R94) -/
def rtrCfgBypassEn : Fld := { off := 0x40, lo := 2, w := 1, cls := .s, reset := 1 }
/-- RTR_CFG.ADAPT_BIAS (R79) -/
def rtrCfgAdaptBias : Fld := { off := 0x40, lo := 8, w := 8, cls := .l, reset := 16 }
/-- RTR_CFG.NONA_SHARED_MAX (R70) -/
def rtrCfgNonaSharedMax : Fld := { off := 0x40, lo := 16, w := 6, cls := .s, reset := 36, min := 24, max := 48 }
/-- RTR_CFG.VC_SHARED_MAX (R70) -/
def rtrCfgVcSharedMax : Fld := { off := 0x40, lo := 24, w := 6, cls := .s, reset := 24, min := 8, max := 48 }
/-- RT_INDEX.ENTRY (R94) -/
def rtIndexEntry : Fld := { off := 0x48, lo := 0, w := 8, cls := .l }
/-- RT_INDEX.BANK (R94) -/
def rtIndexBank : Fld := { off := 0x48, lo := 8, w := 1, cls := .l }
/-- RT_INDEX.AUTOINC (R94) -/
def rtIndexAutoinc : Fld := { off := 0x48, lo := 9, w := 1, cls := .l }
/-- RT_DATA.ENTRY_W0 (R78) -/
def rtDataEntryW0 : Fld := { off := 0x50, lo := 0, w := 64, cls := .l }
/-- RT_STATUS.BANK_BUSY (R94) -/
def rtStatusBankBusy : Fld := { off := 0x58, lo := 0, w := 1, cls := .w1c }
/-- RT_STATUS.IDLE0 (R94) -/
def rtStatusIdle0 : Fld := { off := 0x58, lo := 1, w := 1, cls := .ro }
/-- RT_STATUS.IDLE1 (R94) -/
def rtStatusIdle1 : Fld := { off := 0x58, lo := 2, w := 1, cls := .ro, reset := 1 }
/-- RT_STATUS.RESID (R94) -/
def rtStatusResid : Fld := { off := 0x58, lo := 32, w := 16, cls := .ro }
/-- LINK_CFG.REPLAY_TO (R76) -/
def linkCfgReplayTo : Fld := { off := 0x60, lo := 0, w := 8, cls := .s, reset := 64, min := 16 }
/-- LINK_CFG.RETRY_LIMIT (R77) -/
def linkCfgRetryLimit : Fld := { off := 0x60, lo := 8, w := 4, cls := .s, reset := 8, min := 1 }
/-- LINK_STATE.STATE (R94) -/
def linkStateState : Fld := { off := 0x68, lo := 0, w := 28, cls := .ro }
/-- ARB_STAT.STARVE_GRANTS (R174) -/
def arbStatStarveGrants : Fld := { off := 0x70, lo := 0, w := 32, cls := .ro }
/-- ARB_STAT.M_DEFERRED (R174) -/
def arbStatMDeferred : Fld := { off := 0x70, lo := 32, w := 32, cls := .ro }
/-- LINK_ERR_SEL.PORT (R265) -/
def linkErrSelPort : Fld := { off := 0x80, lo := 0, w := 4, cls := .l }
/-- LINK_ERR_CNT.CORRECTED (R254) -/
def linkErrCntCorrected : Fld := { off := 0x88, lo := 0, w := 16, cls := .ro, sel := 0x80, selW := 4 }
/-- LINK_ERR_CNT.UNCORRECTABLE (R265) -/
def linkErrCntUncorrectable : Fld := { off := 0x88, lo := 16, w := 16, cls := .ro, sel := 0x80, selW := 4 }
/-- LINK_ERR_CNT.REPLAYS (R265) -/
def linkErrCntReplays : Fld := { off := 0x88, lo := 32, w := 16, cls := .ro, sel := 0x80, selW := 4 }
/-- LINK_ERR_CNT.RETRAINS (R265) -/
def linkErrCntRetrains : Fld := { off := 0x88, lo := 48, w := 8, cls := .ro, sel := 0x80, selW := 4 }
/-- LINK_ERR_CNT.DOWNS (R265) -/
def linkErrCntDowns : Fld := { off := 0x88, lo := 56, w := 8, cls := .ro, sel := 0x80, selW := 4 }
/-- RTR_ERR_CNT.TIED_OFF (R19) -/
def rtrErrCntTiedOff : Fld := { off := 0x90, lo := 0, w := 16, cls := .ro }
/-- RTR_ERR_CNT.INVALID_ROUTE (R80) -/
def rtrErrCntInvalidRoute : Fld := { off := 0x90, lo := 16, w := 16, cls := .ro }
/-- RTR_ERR_CNT.MALFORMED (R66) -/
def rtrErrCntMalformed : Fld := { off := 0x90, lo := 32, w := 16, cls := .ro }
/-- RTR_ERR_CNT.LINK_LOST (R256) -/
def rtrErrCntLinkLost : Fld := { off := 0x90, lo := 48, w := 16, cls := .ro }
def fields0 : List Fld :=
  [rtrCfgAdaptEn, rtrCfgDetourEn, rtrCfgBypassEn, rtrCfgAdaptBias,
   rtrCfgNonaSharedMax, rtrCfgVcSharedMax, rtIndexEntry, rtIndexBank,
   rtIndexAutoinc, rtDataEntryW0, rtStatusBankBusy, rtStatusIdle0,
   rtStatusIdle1, rtStatusResid, linkCfgReplayTo, linkCfgRetryLimit,
   linkStateState, arbStatStarveGrants, arbStatMDeferred, linkErrSelPort,
   linkErrCntCorrected, linkErrCntUncorrectable, linkErrCntReplays, linkErrCntRetrains]
def fields1 : List Fld :=
  [linkErrCntDowns, rtrErrCntTiedOff, rtrErrCntInvalidRoute, rtrErrCntMalformed,
   rtrErrCntLinkLost]
/-- Every field of this page kind, header apart. -/
def fields : List Fld := fields0 ++ fields1
end Rtr

namespace Fg
/-- RT_EPOCH_CTRL.ARM (R90) -/
def rtEpochCtrlArm : Fld := { off := 0x100, lo := 0, w := 1, cls := .w1s }
/-- RT_EPOCH_CTRL.DISARM (R371) -/
def rtEpochCtrlDisarm : Fld := { off := 0x100, lo := 1, w := 1, cls := .w1s }
/-- RT_FLIP_TIME.FLIP_TIME (R94) -/
def rtFlipTimeFlipTime : Fld := { off := 0x108, lo := 0, w := 64, cls := .l }
/-- RT_EPOCH_STAT.INJ_EPOCH (R94) -/
def rtEpochStatInjEpoch : Fld := { off := 0x110, lo := 0, w := 1, cls := .ro }
/-- RT_EPOCH_STAT.ARMED (R94) -/
def rtEpochStatArmed : Fld := { off := 0x110, lo := 1, w := 1, cls := .ro }
/-- RT_EPOCH_STAT.DRAINING (R94) -/
def rtEpochStatDraining : Fld := { off := 0x110, lo := 2, w := 1, cls := .ro }
/-- RT_EPOCH_STAT.DRAIN_DONE (R94) -/
def rtEpochStatDrainDone : Fld := { off := 0x110, lo := 3, w := 1, cls := .ro, reset := 1 }
/-- RT_EPOCH_STAT.FLIP_REFUSED (R94) -/
def rtEpochStatFlipRefused : Fld := { off := 0x110, lo := 4, w := 1, cls := .w1c }
/-- RT_EPOCH_STAT.FLIP_HOLDOVER (R94) -/
def rtEpochStatFlipHoldover : Fld := { off := 0x110, lo := 5, w := 1, cls := .w1c }
/-- RT_EPOCH_STAT.DRAIN_STALL (R94) -/
def rtEpochStatDrainStall : Fld := { off := 0x110, lo := 6, w := 1, cls := .w1c }
/-- RT_EPOCH_STAT.REFUSE_CAUSE (R94) -/
def rtEpochStatRefuseCause : Fld := { off := 0x110, lo := 8, w := 2, cls := .ro }
/-- RT_EPOCH_STAT.FLIP_COUNT (R94) -/
def rtEpochStatFlipCount : Fld := { off := 0x110, lo := 32, w := 32, cls := .ro }
/-- RT_DRAIN_COUNT.RESIDUAL (R94) -/
def rtDrainCountResidual : Fld := { off := 0x118, lo := 0, w := 24, cls := .ro }
/-- RT_DRAIN_COUNT.LAST_DRAIN_NS (R94) -/
def rtDrainCountLastDrainNs : Fld := { off := 0x118, lo := 32, w := 32, cls := .ro }
/-- RT_DRAIN_LIMIT.LIMIT_US (R94) -/
def rtDrainLimitLimitUs : Fld := { off := 0x120, lo := 0, w := 32, cls := .l, reset := 1000, min := 1 }
/-- GROUP_CFG.MEMBERS (R6) -/
def groupCfgMembers : Fld := { off := 0x800, lo := 0, w := 32, cls := .g, count := 127, step := 8 }
/-- GROUP_CFG.TYPE (R123) -/
def groupCfgType : Fld := { off := 0x800, lo := 32, w := 3, cls := .g, count := 127, step := 8, max := 3 }
/-- SYN_OFFSET.OFFSET_NS (R155) -/
def synOffsetOffsetNs : Fld := { off := 0x200, lo := 0, w := 22, cls := .g, count := 8, step := 8 }
/-- ARB_CFG.M_BUDGET (R162) -/
def arbCfgMBudget : Fld := { off := 0x240, lo := 0, w := 4, cls := .g, reset := 2 }
/-- ARB_CFG.M_WINDOW (R162) -/
def arbCfgMWindow : Fld := { off := 0x240, lo := 8, w := 8, cls := .g, reset := 32, min := 8 }
/-- ARB_CFG.STARVE_LIMIT (R163) -/
def arbCfgStarveLimit : Fld := { off := 0x240, lo := 16, w := 16, cls := .g, reset := 1024, min := 64 }
/-- HP_CFG.PWR_WARN_FILTER_US (R261) -/
def hpCfgPwrWarnFilterUs : Fld := { off := 0x300, lo := 0, w := 16, cls := .l, reset := 20, min := 1 }
/-- HP_CFG.FENCE_GRACE_US (R251) -/
def hpCfgFenceGraceUs : Fld := { off := 0x300, lo := 16, w := 16, cls := .l, reset := 10 }
/-- HP_CFG.HOLDOFF_MS (R262) -/
def hpCfgHoldoffMs : Fld := { off := 0x300, lo := 32, w := 16, cls := .l, reset := 250, min := 1 }
/-- HP_INPUTS.PRESENT (R265) -/
def hpInputsPresent : Fld := { off := 0x308, lo := 0, w := 32, cls := .ro }
/-- HP_INPUTS.WARN (R265) -/
def hpInputsWarn : Fld := { off := 0x308, lo := 32, w := 32, cls := .ro }
/-- HP_STATE.FUSE (R265) -/
def hpStateFuse : Fld := { off := 0x310, lo := 0, w := 32, cls := .ro }
/-- HP_STATE.STABLE (R265) -/
def hpStateStable : Fld := { off := 0x310, lo := 32, w := 32, cls := .ro, reset := 0xffffffff }
/-- HP_GROUP.NEW (R265) -/
def hpGroupNew : Fld := { off := 0x318, lo := 0, w := 32, cls := .ro }
/-- HP_GROUP.CHANGED (R265) -/
def hpGroupChanged : Fld := { off := 0x318, lo := 32, w := 32, cls := .w1c }
/-- HP_COUNT.WARN_GLITCHES (R261) -/
def hpCountWarnGlitches : Fld := { off := 0x320, lo := 0, w := 16, cls := .ro }
/-- HP_COUNT.FENCES (R265) -/
def hpCountFences : Fld := { off := 0x320, lo := 16, w := 16, cls := .ro }
/-- HP_COUNT.TRIPS (R265) -/
def hpCountTrips : Fld := { off := 0x320, lo := 32, w := 16, cls := .ro }
/-- HP_COUNT.REMOVALS (R265) -/
def hpCountRemovals : Fld := { off := 0x320, lo := 48, w := 16, cls := .ro }
/-- FAULT_EVT.ERR_LOGGED (R265) -/
def faultEvtErrLogged : Fld := { off := 0x328, lo := 0, w := 1, cls := .w1c }
/-- FAULT_EVT.ERR_LOG_OVF (R265) -/
def faultEvtErrLogOvf : Fld := { off := 0x328, lo := 1, w := 1, cls := .w1c }
/-- FAULT_EVT.LINK_DOWN (R265) -/
def faultEvtLinkDown : Fld := { off := 0x328, lo := 2, w := 1, cls := .w1c }
/-- FAULT_EVT.ISOLATION (R265) -/
def faultEvtIsolation : Fld := { off := 0x328, lo := 3, w := 1, cls := .w1c }
/-- FAULT_EVT.WDOG_REPORT (R265) -/
def faultEvtWdogReport : Fld := { off := 0x328, lo := 4, w := 1, cls := .w1c }
/-- FAULT_EVT.HP_CHANGE (R265) -/
def faultEvtHpChange : Fld := { off := 0x328, lo := 5, w := 1, cls := .w1c }
/-- FAULT_EVT.FENCE (R265) -/
def faultEvtFence : Fld := { off := 0x328, lo := 6, w := 1, cls := .w1c }
/-- FAULT_EVT.FUSE_TRIP (R265) -/
def faultEvtFuseTrip : Fld := { off := 0x328, lo := 7, w := 1, cls := .w1c }
/-- FAULT_EVT.READMIT_REFUSED (R265) -/
def faultEvtReadmitRefused : Fld := { off := 0x328, lo := 8, w := 1, cls := .w1c }
/-- FAULT_EVT.LEGACY_TIMEOUT (R265) -/
def faultEvtLegacyTimeout : Fld := { off := 0x328, lo := 9, w := 1, cls := .w1c }
/-- ERR_LOG_W0.DATA (R264) -/
def errLogW0Data : Fld := { off := 0x330, lo := 0, w := 64, cls := .ro }
/-- ERR_LOG_W1.DATA (R264) -/
def errLogW1Data : Fld := { off := 0x338, lo := 0, w := 64, cls := .ro }
/-- ERR_LOG_W2.KIND (R264) -/
def errLogW2Kind : Fld := { off := 0x340, lo := 0, w := 4, cls := .ro }
/-- ERR_LOG_W2.UNIT_NI (R265) -/
def errLogW2UnitNi : Fld := { off := 0x340, lo := 4, w := 1, cls := .ro }
/-- ERR_LOG_W2.UNIT (R265) -/
def errLogW2Unit : Fld := { off := 0x340, lo := 5, w := 8, cls := .ro }
/-- ERR_LOG_W2.PORT (R265) -/
def errLogW2Port : Fld := { off := 0x340, lo := 13, w := 4, cls := .ro }
/-- ERR_LOG_W2.TIME_NS (R265) -/
def errLogW2TimeNs : Fld := { off := 0x340, lo := 32, w := 30, cls := .ro }
/-- ERR_LOG_W2.VALID (R265) -/
def errLogW2Valid : Fld := { off := 0x340, lo := 63, w := 1, cls := .ro }
/-- ERR_LOG_STAT.LEVEL (R265) -/
def errLogStatLevel : Fld := { off := 0x348, lo := 0, w := 7, cls := .ro }
/-- ERR_LOG_STAT.DROPPED (R265) -/
def errLogStatDropped : Fld := { off := 0x348, lo := 32, w := 32, cls := .ro }
/-- FAB_ID.INSTANCE (R1) -/
def fabIdInstance : Fld := { off := 0x40, lo := 0, w := 16, cls := .ro, reset := 1604 }
/-- FAB_ID.STEPPING (R363) -/
def fabIdStepping : Fld := { off := 0x40, lo := 16, w := 8, cls := .ro, reset := 176 }
/-- GC_CTRL.ARM (R361) -/
def gcCtrlArm : Fld := { off := 0x80, lo := 0, w := 1, cls := .w1s }
/-- GC_CTRL.DISARM (R371) -/
def gcCtrlDisarm : Fld := { off := 0x80, lo := 1, w := 1, cls := .w1s }
/-- GC_TIME.TIME (R363) -/
def gcTimeTime : Fld := { off := 0x88, lo := 0, w := 64, cls := .l }
/-- GC_STAT.ARMED (R363) -/
def gcStatArmed : Fld := { off := 0x90, lo := 0, w := 1, cls := .ro }
/-- GC_STAT.REFUSE_CAUSE (R363) -/
def gcStatRefuseCause : Fld := { off := 0x90, lo := 1, w := 2, cls := .ro }
/-- GC_STAT.JOINED (R363) -/
def gcStatJoined : Fld := { off := 0x90, lo := 16, w := 16, cls := .ro }
/-- GC_STAT.GC_COUNT (R363) -/
def gcStatGcCount : Fld := { off := 0x90, lo := 32, w := 32, cls := .ro }
def fields0 : List Fld :=
  [rtEpochCtrlArm, rtEpochCtrlDisarm, rtFlipTimeFlipTime, rtEpochStatInjEpoch,
   rtEpochStatArmed, rtEpochStatDraining, rtEpochStatDrainDone, rtEpochStatFlipRefused,
   rtEpochStatFlipHoldover, rtEpochStatDrainStall, rtEpochStatRefuseCause, rtEpochStatFlipCount,
   rtDrainCountResidual, rtDrainCountLastDrainNs, rtDrainLimitLimitUs, groupCfgMembers,
   groupCfgType, synOffsetOffsetNs, arbCfgMBudget, arbCfgMWindow,
   arbCfgStarveLimit, hpCfgPwrWarnFilterUs, hpCfgFenceGraceUs, hpCfgHoldoffMs]
def fields1 : List Fld :=
  [hpInputsPresent, hpInputsWarn, hpStateFuse, hpStateStable,
   hpGroupNew, hpGroupChanged, hpCountWarnGlitches, hpCountFences,
   hpCountTrips, hpCountRemovals, faultEvtErrLogged, faultEvtErrLogOvf,
   faultEvtLinkDown, faultEvtIsolation, faultEvtWdogReport, faultEvtHpChange,
   faultEvtFence, faultEvtFuseTrip, faultEvtReadmitRefused, faultEvtLegacyTimeout,
   errLogW0Data, errLogW1Data, errLogW2Kind, errLogW2UnitNi]
def fields2 : List Fld :=
  [errLogW2Unit, errLogW2Port, errLogW2TimeNs, errLogW2Valid,
   errLogStatLevel, errLogStatDropped, fabIdInstance, fabIdStepping,
   gcCtrlArm, gcCtrlDisarm, gcTimeTime, gcStatArmed,
   gcStatRefuseCause, gcStatJoined, gcStatGcCount]
/-- Every field of this page kind, header apart. -/
def fields : List Fld := fields0 ++ fields1 ++ fields2
end Fg

namespace Ni
/-- TXN_STAT.OPEN (R123) -/
def txnStatOpen : Fld := { off := 0x40, lo := 0, w := 12, cls := .ro }
/-- TXN_STAT.HELD (R123) -/
def txnStatHeld : Fld := { off := 0x40, lo := 16, w := 12, cls := .ro }
/-- TXN_STAT.HIGH_WATER (R123) -/
def txnStatHighWater : Fld := { off := 0x40, lo := 32, w := 12, cls := .ro }
/-- TXN_ERR.DECODE_MISS (R123) -/
def txnErrDecodeMiss : Fld := { off := 0x48, lo := 0, w := 1, cls := .w1c }
/-- TXN_ERR.GROUP_EMPTY (R123) -/
def txnErrGroupEmpty : Fld := { off := 0x48, lo := 1, w := 1, cls := .w1c }
/-- TXN_ERR.RANK_REFUSED (R87) -/
def txnErrRankRefused : Fld := { off := 0x48, lo := 2, w := 1, cls := .w1c }
/-- TXN_ERR.RESULT_MALFORMED (R63) -/
def txnErrResultMalformed : Fld := { off := 0x48, lo := 3, w := 1, cls := .w1c }
/-- TXN_ERR.LENGTH_MISMATCH (R121) -/
def txnErrLengthMismatch : Fld := { off := 0x48, lo := 4, w := 1, cls := .w1c }
/-- TXN_ERR.BIR_STRAY (R110) -/
def txnErrBirStray : Fld := { off := 0x48, lo := 5, w := 1, cls := .w1c }
/-- TXN_ERR.ANSWER_STRAY (R118) -/
def txnErrAnswerStray : Fld := { off := 0x48, lo := 6, w := 1, cls := .w1c }
/-- TXN_ERR.A_CHAIN_DEMOTED (R114) -/
def txnErrAChainDemoted : Fld := { off := 0x48, lo := 32, w := 32, cls := .ro }
/-- RELAY_STAT.SERVED_OPEN (R123) -/
def relayStatServedOpen : Fld := { off := 0x50, lo := 0, w := 12, cls := .ro }
/-- RELAY_STAT.FETCH_OPEN (R123) -/
def relayStatFetchOpen : Fld := { off := 0x50, lo := 16, w := 12, cls := .ro }
/-- RELAY_STAT.LEGS_INJECTED (R123) -/
def relayStatLegsInjected : Fld := { off := 0x50, lo := 32, w := 32, cls := .ro }
/-- BI_STAT.BIS_OPEN (R123) -/
def biStatBisOpen : Fld := { off := 0x58, lo := 0, w := 10, cls := .ro }
/-- BI_STAT.BIR_RECEIVED (R123) -/
def biStatBirReceived : Fld := { off := 0x58, lo := 32, w := 32, cls := .ro }
/-- SAD_W0.VALID (R123) -/
def sadW0Valid : Fld := { off := 0x400, lo := 0, w := 1, cls := .g, count := 64, step := 16 }
/-- SAD_W0.KIND (R123) -/
def sadW0Kind : Fld := { off := 0x400, lo := 1, w := 2, cls := .g, count := 64, step := 16, max := 1 }
/-- SAD_W0.WAYS (R123) -/
def sadW0Ways : Fld := { off := 0x400, lo := 3, w := 3, cls := .g, count := 64, step := 16, max := 6 }
/-- SAD_W0.GRAN (R123) -/
def sadW0Gran : Fld := { off := 0x400, lo := 6, w := 2, cls := .g, count := 64, step := 16, max := 2 }
/-- SAD_W0.TGT (R123) -/
def sadW0Tgt : Fld := { off := 0x400, lo := 8, w := 8, cls := .g, count := 64, step := 16 }
/-- SAD_W0.RD_CHAIN (R47) -/
def sadW0RdChain : Fld := { off := 0x400, lo := 16, w := 24, cls := .g, reset := 0xffffff, count := 64, step := 16 }
/-- SAD_W0.WR_CHAIN (R47) -/
def sadW0WrChain : Fld := { off := 0x400, lo := 40, w := 24, cls := .g, reset := 0xffffff, count := 64, step := 16 }
/-- SAD_W1.BASE (R123) -/
def sadW1Base : Fld := { off := 0x408, lo := 0, w := 26, cls := .g, count := 64, step := 16 }
/-- SAD_W1.LIMIT (R123) -/
def sadW1Limit : Fld := { off := 0x408, lo := 26, w := 26, cls := .g, count := 64, step := 16 }
/-- DL_LATE.LATE_A (R167) -/
def dlLateLateA : Fld := { off := 0x60, lo := 0, w := 32, cls := .ro }
/-- DL_LATE.LATE_B (R167) -/
def dlLateLateB : Fld := { off := 0x60, lo := 32, w := 32, cls := .ro }
/-- DL_AUX.LATE_DOUBT (R167) -/
def dlAuxLateDoubt : Fld := { off := 0x68, lo := 0, w := 32, cls := .ro }
/-- DL_AUX.DL_CLAMPED (R154) -/
def dlAuxDlClamped : Fld := { off := 0x68, lo := 32, w := 16, cls := .ro }
/-- DL_AUX.MAX_LATE_NS (R174) -/
def dlAuxMaxLateNs : Fld := { off := 0x68, lo := 48, w := 16, cls := .ro }
/-- SHL_CFG.EN (R196) -/
def shlCfgEn : Fld := { off := 0x100, lo := 0, w := 1, cls := .g }
/-- SHL_CFG.COUNT (R213) -/
def shlCfgCount : Fld := { off := 0x100, lo := 8, w := 8, cls := .g, reset := 1, min := 1, max := 128 }
/-- SHL_CFG.CYCLE_NS (R213) -/
def shlCfgCycleNs : Fld := { off := 0x100, lo := 32, w := 32, cls := .g, reset := 1000, min := 1000 }
/-- SHL_BASE.BASE (R213) -/
def shlBaseBase : Fld := { off := 0x108, lo := 0, w := 64, cls := .g }
/-- SHL_STAT.ACTIVE_EN (R213) -/
def shlStatActiveEn : Fld := { off := 0x110, lo := 0, w := 1, cls := .ro }
/-- SHL_STAT.PENDING (R198) -/
def shlStatPending : Fld := { off := 0x110, lo := 1, w := 1, cls := .ro }
/-- SHL_STAT.INDEX (R213) -/
def shlStatIndex : Fld := { off := 0x110, lo := 2, w := 7, cls := .ro }
/-- SHL_STAT.GATES (R194) -/
def shlStatGates : Fld := { off := 0x110, lo := 16, w := 5, cls := .ro, reset := 15 }
/-- SHL_EVT.TAKEOVER (R213) -/
def shlEvtTakeover : Fld := { off := 0x118, lo := 0, w := 1, cls := .w1c }
/-- SHL_EVT.UNSYNC_EDGE (R197) -/
def shlEvtUnsyncEdge : Fld := { off := 0x118, lo := 1, w := 1, cls := .w1c }
/-- SHL_EVT.STEPPED (R213) -/
def shlEvtStepped : Fld := { off := 0x118, lo := 2, w := 1, cls := .w1c }
/-- SHL_EVT.STAGE_BUSY (R213) -/
def shlEvtStageBusy : Fld := { off := 0x118, lo := 3, w := 1, cls := .w1c }
/-- SHL_LEAD.LEAD_NS (R200) -/
def shlLeadLeadNs : Fld := { off := 0x120, lo := 0, w := 16, cls := .l, reset := 100 }
/-- SHL_COUNT.UNSYNC_EDGES (R213) -/
def shlCountUnsyncEdges : Fld := { off := 0x128, lo := 0, w := 32, cls := .ro }
/-- SHL_COUNT.TAKEOVERS (R213) -/
def shlCountTakeovers : Fld := { off := 0x128, lo := 32, w := 32, cls := .ro }
/-- A_STAT.A_INJECTED (R202) -/
def aStatAInjected : Fld := { off := 0x130, lo := 0, w := 32, cls := .ro }
/-- A_STAT.A_FALLBACK (R202) -/
def aStatAFallback : Fld := { off := 0x130, lo := 32, w := 32, cls := .ro }
/-- SHL_ENTRY.GATES (R213) -/
def shlEntryGates : Fld := { off := 0x800, lo := 0, w := 5, cls := .g, reset := 15, count := 128, step := 8 }
/-- SHL_ENTRY.DUR_NS (R196) -/
def shlEntryDurNs : Fld := { off := 0x800, lo := 8, w := 24, cls := .g, count := 128, step := 8 }
/-- MID_CFG.GROUP (R216) -/
def midCfgGroup : Fld := { off := 0x140, lo := 0, w := 6, cls := .g, count := 16, step := 8 }
/-- MID_CFG.PRIV (R240) -/
def midCfgPriv : Fld := { off := 0x140, lo := 6, w := 1, cls := .g, count := 16, step := 8 }
/-- VC_STAT.HITS (R240) -/
def vcStatHits : Fld := { off := 0x1c0, lo := 0, w := 32, cls := .ro }
/-- VC_STAT.MISSES (R240) -/
def vcStatMisses : Fld := { off := 0x1c0, lo := 32, w := 32, cls := .ro }
/-- VC_CTRL.FLUSH (R240) -/
def vcCtrlFlush : Fld := { off := 0x1c8, lo := 0, w := 1, cls := .w1s }
/-- VC_CTRL.VC_EN (R240) -/
def vcCtrlVcEn : Fld := { off := 0x1c8, lo := 1, w := 1, cls := .s, reset := 1 }
/-- ART_RESID.RESID (R238) -/
def artResidResid : Fld := { off := 0x1d0, lo := 0, w := 16, cls := .ro }
/-- ISO_CTRL.ISOLATE (R245) -/
def isoCtrlIsolate : Fld := { off := 0x200, lo := 0, w := 1, cls := .w1s }
/-- ISO_CTRL.READMIT (R253) -/
def isoCtrlReadmit : Fld := { off := 0x200, lo := 1, w := 1, cls := .w1s }
/-- ISO_CTRL.NEW_ACK (R265) -/
def isoCtrlNewAck : Fld := { off := 0x200, lo := 2, w := 1, cls := .w1s }
/-- ISO_STAT.ISOLATED (R265) -/
def isoStatIsolated : Fld := { off := 0x208, lo := 0, w := 1, cls := .ro }
/-- ISO_STAT.FENCED (R251) -/
def isoStatFenced : Fld := { off := 0x208, lo := 1, w := 1, cls := .ro }
/-- ISO_STAT.SWEPT (R265) -/
def isoStatSwept : Fld := { off := 0x208, lo := 2, w := 1, cls := .ro }
/-- ISO_STAT.NEW (R265) -/
def isoStatNew : Fld := { off := 0x208, lo := 3, w := 1, cls := .ro }
/-- ISO_STAT.CAUSE (R245) -/
def isoStatCause : Fld := { off := 0x208, lo := 4, w := 8, cls := .ro }
/-- ISO_STAT.REFUSE (R253) -/
def isoStatRefuse : Fld := { off := 0x208, lo := 16, w := 3, cls := .ro }
/-- ISO_STAT.RECEIPTS (R265) -/
def isoStatReceipts : Fld := { off := 0x208, lo := 32, w := 10, cls := .ro }
/-- WDOG_CFG.ACCEPT_TO_US (R243) -/
def wdogCfgAcceptToUs : Fld := { off := 0x210, lo := 0, w := 16, cls := .l, reset := 100 }
/-- WDOG_CFG.RESP_TO_US (R243) -/
def wdogCfgRespToUs : Fld := { off := 0x210, lo := 16, w := 16, cls := .l, reset := 1000 }
/-- WDOG_CFG.ACTION (R265) -/
def wdogCfgAction : Fld := { off := 0x210, lo := 32, w := 1, cls := .l }
/-- LEGACY_CFG.LEGACY_EN (R257) -/
def legacyCfgLegacyEn : Fld := { off := 0x218, lo := 0, w := 1, cls := .s }
/-- LEGACY_CFG.LEGACY_TO_US (R265) -/
def legacyCfgLegacyToUs : Fld := { off := 0x218, lo := 8, w := 24, cls := .l, reset := 2000, min := 10 }
/-- FAULT_CNT.ANSWERED (R249) -/
def faultCntAnswered : Fld := { off := 0x220, lo := 0, w := 16, cls := .ro }
/-- FAULT_CNT.DISCARDED (R265) -/
def faultCntDiscarded : Fld := { off := 0x220, lo := 16, w := 16, cls := .ro }
/-- FAULT_CNT.LEGACY_TIMEOUTS (R257) -/
def faultCntLegacyTimeouts : Fld := { off := 0x220, lo := 32, w := 16, cls := .ro }
/-- FAULT_CNT.STRAYS (R99) -/
def faultCntStrays : Fld := { off := 0x220, lo := 48, w := 16, cls := .ro }
/-- WDOG_STAT.OLDEST_US (R265) -/
def wdogStatOldestUs : Fld := { off := 0x228, lo := 0, w := 16, cls := .ro }
/-- WDOG_STAT.ACCEPT_WAIT_US (R265) -/
def wdogStatAcceptWaitUs : Fld := { off := 0x228, lo := 16, w := 16, cls := .ro }
/-- WDOG_STAT.TRIP_ACCEPT (R265) -/
def wdogStatTripAccept : Fld := { off := 0x228, lo := 32, w := 1, cls := .w1c }
/-- WDOG_STAT.TRIP_RESP (R265) -/
def wdogStatTripResp : Fld := { off := 0x228, lo := 33, w := 1, cls := .w1c }
/-- TEI_CFG.LEG0_SCLS (R276) -/
def teiCfgLeg0Scls : Fld := { off := 0x300, lo := 0, w := 2, cls := .g, reset := 1, min := 1, max := 2 }
/-- TEI_CFG.REQ_CREDITS (R288) -/
def teiCfgReqCredits : Fld := { off := 0x300, lo := 8, w := 4, cls := .s, reset := 8, min := 1, max := 8 }
/-- TEI_CFG.RSP_CREDITS (R288) -/
def teiCfgRspCredits : Fld := { off := 0x300, lo := 12, w := 4, cls := .s, reset := 8, min := 4, max := 8 }
/-- TEI_STAT.STATE (R269) -/
def teiStatState : Fld := { off := 0x308, lo := 0, w := 2, cls := .ro }
/-- TEI_STAT.EP_RST (R288) -/
def teiStatEpRst : Fld := { off := 0x308, lo := 2, w := 1, cls := .ro }
/-- TEI_STAT.EP_READY (R288) -/
def teiStatEpReady : Fld := { off := 0x308, lo := 3, w := 1, cls := .ro }
/-- TEI_STAT.DERATE (R283) -/
def teiStatDerate : Fld := { off := 0x308, lo := 4, w := 3, cls := .ro }
/-- TEI_STAT.CRD_SHORT_VC (R278) -/
def teiStatCrdShortVc : Fld := { off := 0x308, lo := 16, w := 16, cls := .ro }
/-- TEI_ERR.NO_CREDIT (R280) -/
def teiErrNoCredit : Fld := { off := 0x310, lo := 0, w := 1, cls := .w1c }
/-- TEI_ERR.FRAMING (R280) -/
def teiErrFraming : Fld := { off := 0x310, lo := 1, w := 1, cls := .w1c }
/-- TEI_ERR.CRD_OVF (R280) -/
def teiErrCrdOvf : Fld := { off := 0x310, lo := 2, w := 1, cls := .w1c }
/-- TEI_ERR.CRD_SHORT (R269) -/
def teiErrCrdShort : Fld := { off := 0x310, lo := 3, w := 1, cls := .w1c }
/-- TEI_ERR.BAD_KIND (R274) -/
def teiErrBadKind : Fld := { off := 0x310, lo := 4, w := 1, cls := .w1c }
/-- TEI_ERR.EP_RESET (R270) -/
def teiErrEpReset : Fld := { off := 0x310, lo := 5, w := 1, cls := .w1c }
/-- TEI_ERR.ORPHANED (R270) -/
def teiErrOrphaned : Fld := { off := 0x310, lo := 32, w := 16, cls := .ro }
/-- TEI_ERR.RESTARTS (R288) -/
def teiErrRestarts : Fld := { off := 0x310, lo := 48, w := 16, cls := .ro }
def fields0 : List Fld :=
  [txnStatOpen, txnStatHeld, txnStatHighWater, txnErrDecodeMiss,
   txnErrGroupEmpty, txnErrRankRefused, txnErrResultMalformed, txnErrLengthMismatch,
   txnErrBirStray, txnErrAnswerStray, txnErrAChainDemoted, relayStatServedOpen,
   relayStatFetchOpen, relayStatLegsInjected, biStatBisOpen, biStatBirReceived,
   sadW0Valid, sadW0Kind, sadW0Ways, sadW0Gran,
   sadW0Tgt, sadW0RdChain, sadW0WrChain, sadW1Base]
def fields1 : List Fld :=
  [sadW1Limit, dlLateLateA, dlLateLateB, dlAuxLateDoubt,
   dlAuxDlClamped, dlAuxMaxLateNs, shlCfgEn, shlCfgCount,
   shlCfgCycleNs, shlBaseBase, shlStatActiveEn, shlStatPending,
   shlStatIndex, shlStatGates, shlEvtTakeover, shlEvtUnsyncEdge,
   shlEvtStepped, shlEvtStageBusy, shlLeadLeadNs, shlCountUnsyncEdges,
   shlCountTakeovers, aStatAInjected, aStatAFallback, shlEntryGates]
def fields2 : List Fld :=
  [shlEntryDurNs, midCfgGroup, midCfgPriv, vcStatHits,
   vcStatMisses, vcCtrlFlush, vcCtrlVcEn, artResidResid,
   isoCtrlIsolate, isoCtrlReadmit, isoCtrlNewAck, isoStatIsolated,
   isoStatFenced, isoStatSwept, isoStatNew, isoStatCause,
   isoStatRefuse, isoStatReceipts, wdogCfgAcceptToUs, wdogCfgRespToUs,
   wdogCfgAction, legacyCfgLegacyEn, legacyCfgLegacyToUs, faultCntAnswered]
def fields3 : List Fld :=
  [faultCntDiscarded, faultCntLegacyTimeouts, faultCntStrays, wdogStatOldestUs,
   wdogStatAcceptWaitUs, wdogStatTripAccept, wdogStatTripResp, teiCfgLeg0Scls,
   teiCfgReqCredits, teiCfgRspCredits, teiStatState, teiStatEpRst,
   teiStatEpReady, teiStatDerate, teiStatCrdShortVc, teiErrNoCredit,
   teiErrFraming, teiErrCrdOvf, teiErrCrdShort, teiErrBadKind,
   teiErrEpReset, teiErrOrphaned, teiErrRestarts]
/-- Every field of this page kind, header apart. -/
def fields : List Fld := fields0 ++ fields1 ++ fields2 ++ fields3
end Ni

namespace Tu
/-- TIME_CTRL.SRC (R152) -/
def timeCtrlSrc : Fld := { off := 0x40, lo := 0, w := 1, cls := .s }
/-- TIME_CTRL.STEP_BACK_EN (R139) -/
def timeCtrlStepBackEn : Fld := { off := 0x40, lo := 1, w := 1, cls := .s }
/-- TIME_CTRL.ACQ_FRAMES (R152) -/
def timeCtrlAcqFrames : Fld := { off := 0x40, lo := 4, w := 4, cls := .s, reset := 8, min := 2 }
/-- TIME_CTRL.CODE_LOSS_LIMIT (R152) -/
def timeCtrlCodeLossLimit : Fld := { off := 0x40, lo := 8, w := 4, cls := .s, reset := 4, min := 1 }
/-- TIME_CTRL.SLEW_PERIOD (R140) -/
def timeCtrlSlewPeriod : Fld := { off := 0x40, lo := 16, w := 16, cls := .l, reset := 4000, min := 1000 }
/-- TIME_CTRL.SLEW_LIMIT (R139) -/
def timeCtrlSlewLimit : Fld := { off := 0x40, lo := 32, w := 16, cls := .l, reset := 4000 }
/-- TB_DELAY.DELAY (R135) -/
def tbDelayDelay : Fld := { off := 0x48, lo := 0, w := 24, cls := .g }
/-- TIME_STAT.STATE (R136) -/
def timeStatState : Fld := { off := 0x50, lo := 0, w := 3, cls := .ro }
/-- TIME_STAT.TPLL_LOCK (R126) -/
def timeStatTpllLock : Fld := { off := 0x50, lo := 3, w := 1, cls := .ro }
/-- TIME_STAT.TB_REF_PRESENT (R152) -/
def timeStatTbRefPresent : Fld := { off := 0x50, lo := 4, w := 1, cls := .ro }
/-- TIME_STAT.SYNCED (R152) -/
def timeStatSynced : Fld := { off := 0x50, lo := 5, w := 1, cls := .ro }
/-- TIME_STAT.FLAGS_LAST (R152) -/
def timeStatFlagsLast : Fld := { off := 0x50, lo := 8, w := 8, cls := .ro }
/-- TIME_STAT.OFFSET (R152) -/
def timeStatOffset : Fld := { off := 0x50, lo := 32, w := 16, cls := .ro }
/-- MTIME.MTIME (R152) -/
def mtimeMtime : Fld := { off := 0x58, lo := 0, w := 64, cls := .ro }
/-- MTIME_SET.VALUE (R142) -/
def mtimeSetValue : Fld := { off := 0x60, lo := 0, w := 64, cls := .s }
/-- SNAP.SNAP_TIME (R151) -/
def snapSnapTime : Fld := { off := 0x68, lo := 0, w := 64, cls := .ro }
/-- SW_FREQ.FREQ_ADJ (R152) -/
def swFreqFreqAdj : Fld := { off := 0x70, lo := 0, w := 32, cls := .l }
/-- SW_PHASE.PHASE_ADJ (R140) -/
def swPhasePhaseAdj : Fld := { off := 0x78, lo := 0, w := 32, cls := .l }
/-- TIME_LIMITS.SW_WDOG_MS (R152) -/
def timeLimitsSwWdogMs : Fld := { off := 0x80, lo := 0, w := 32, cls := .l, reset := 2000, min := 1 }
/-- TIME_LIMITS.HO_ALARM_MS (R152) -/
def timeLimitsHoAlarmMs : Fld := { off := 0x80, lo := 32, w := 32, cls := .l, reset := 100, min := 1 }
/-- HOLDOVER_STAT.HO_ELAPSED_US (R152) -/
def holdoverStatHoElapsedUs : Fld := { off := 0x88, lo := 0, w := 32, cls := .ro }
/-- HOLDOVER_STAT.HO_COUNT (R152) -/
def holdoverStatHoCount : Fld := { off := 0x88, lo := 32, w := 32, cls := .ro }
/-- TB_COUNTERS.MISSING (R134) -/
def tbCountersMissing : Fld := { off := 0x90, lo := 0, w := 16, cls := .ro }
/-- TB_COUNTERS.CRC (R152) -/
def tbCountersCrc : Fld := { off := 0x90, lo := 16, w := 16, cls := .ro }
/-- TB_COUNTERS.VERSION (R152) -/
def tbCountersVersion : Fld := { off := 0x90, lo := 32, w := 16, cls := .ro }
/-- TB_COUNTERS.MISMATCH (R138) -/
def tbCountersMismatch : Fld := { off := 0x90, lo := 48, w := 16, cls := .ro }
/-- LAST_FRAME.EDGE_TIME (R152) -/
def lastFrameEdgeTime : Fld := { off := 0x98, lo := 0, w := 64, cls := .ro }
/-- LAST_STEP.DELTA (R152) -/
def lastStepDelta : Fld := { off := 0xa0, lo := 0, w := 64, cls := .ro }
/-- TIME_EVT.TB_LOSS (R137) -/
def timeEvtTbLoss : Fld := { off := 0xa8, lo := 0, w := 1, cls := .w1c }
/-- TIME_EVT.CODE_LOSS (R152) -/
def timeEvtCodeLoss : Fld := { off := 0xa8, lo := 1, w := 1, cls := .w1c }
/-- TIME_EVT.HOLDOVER_ENTER (R152) -/
def timeEvtHoldoverEnter : Fld := { off := 0xa8, lo := 2, w := 1, cls := .w1c }
/-- TIME_EVT.HOLDOVER_LONG (R147) -/
def timeEvtHoldoverLong : Fld := { off := 0xa8, lo := 3, w := 1, cls := .w1c }
/-- TIME_EVT.LOCK_ACQUIRED (R152) -/
def timeEvtLockAcquired : Fld := { off := 0xa8, lo := 4, w := 1, cls := .w1c }
/-- TIME_EVT.STEPPED (R152) -/
def timeEvtStepped : Fld := { off := 0xa8, lo := 5, w := 1, cls := .w1c }
/-- TIME_EVT.STEP_ANNOUNCED (R141) -/
def timeEvtStepAnnounced : Fld := { off := 0xa8, lo := 6, w := 1, cls := .w1c }
/-- TIME_EVT.UPSTREAM_HOLDOVER (R152) -/
def timeEvtUpstreamHoldover : Fld := { off := 0xa8, lo := 7, w := 1, cls := .w1c }
/-- TIME_EVT.SW_WDOG_EXPIRED (R152) -/
def timeEvtSwWdogExpired : Fld := { off := 0xa8, lo := 8, w := 1, cls := .w1c }
/-- TIME_EVT.ACQ_FAIL (R152) -/
def timeEvtAcqFail : Fld := { off := 0xa8, lo := 9, w := 1, cls := .w1c }
/-- TIME_EVT.UNSYNC_FIRE (R145) -/
def timeEvtUnsyncFire : Fld := { off := 0xa8, lo := 10, w := 1, cls := .w1c }
/-- TIME_EVT.LATE_FIRE (R152) -/
def timeEvtLateFire : Fld := { off := 0xa8, lo := 11, w := 1, cls := .w1c }
/-- TIME_EVT.EVT_LOG_OVF (R152) -/
def timeEvtEvtLogOvf : Fld := { off := 0xa8, lo := 12, w := 1, cls := .w1c }
/-- TIME_EVT.SNAP_NEW (R152) -/
def timeEvtSnapNew : Fld := { off := 0xa8, lo := 13, w := 1, cls := .w1c }
/-- TIME_EVT.TIMER (R152) -/
def timeEvtTimer : Fld := { off := 0xa8, lo := 14, w := 4, cls := .w1c }
/-- FIRE_COUNTS.UNSYNC_FIRES (R152) -/
def fireCountsUnsyncFires : Fld := { off := 0xb0, lo := 0, w := 32, cls := .ro }
/-- FIRE_COUNTS.LOG_DROPPED (R152) -/
def fireCountsLogDropped : Fld := { off := 0xb0, lo := 32, w := 32, cls := .ro }
/-- EVT_LOG_W0.TARGET (R152) -/
def evtLogW0Target : Fld := { off := 0xc0, lo := 0, w := 64, cls := .ro }
/-- EVT_LOG_W1.SOURCE (R144) -/
def evtLogW1Source : Fld := { off := 0xc8, lo := 0, w := 4, cls := .ro }
/-- EVT_LOG_W1.STATE (R152) -/
def evtLogW1State : Fld := { off := 0xc8, lo := 4, w := 3, cls := .ro }
/-- EVT_LOG_W1.LATE (R152) -/
def evtLogW1Late : Fld := { off := 0xc8, lo := 7, w := 1, cls := .ro }
/-- EVT_LOG_W1.MISSED (R152) -/
def evtLogW1Missed : Fld := { off := 0xc8, lo := 16, w := 16, cls := .ro }
/-- EVT_LOG_W1.OFFSET (R152) -/
def evtLogW1Offset : Fld := { off := 0xc8, lo := 32, w := 16, cls := .ro }
/-- EVT_LOG_W1.VALID (R152) -/
def evtLogW1Valid : Fld := { off := 0xc8, lo := 63, w := 1, cls := .ro }
/-- TIMERk_TIME.TARGET (R152) -/
def timerTimeTarget : Fld := { off := 0x100, lo := 0, w := 64, cls := .l, count := 4, step := 16 }
/-- TIMERk_CTRL.ARM (R143) -/
def timerCtrlArm : Fld := { off := 0x108, lo := 0, w := 1, cls := .w1s, count := 4, step := 16 }
/-- TIMERk_CTRL.DISARM (R371) -/
def timerCtrlDisarm : Fld := { off := 0x108, lo := 1, w := 1, cls := .w1s, count := 4, step := 16 }
/-- TIMERk_CTRL.ARMED (R152) -/
def timerCtrlArmed : Fld := { off := 0x108, lo := 2, w := 1, cls := .ro, count := 4, step := 16 }
/-- TIMERk_CTRL.PERIODIC (R143) -/
def timerCtrlPeriodic : Fld := { off := 0x108, lo := 3, w := 1, cls := .l, count := 4, step := 16 }
/-- TIMERk_CTRL.PERIOD (R6) -/
def timerCtrlPeriod : Fld := { off := 0x108, lo := 8, w := 32, cls := .l, count := 4, step := 16 }
def fields0 : List Fld :=
  [timeCtrlSrc, timeCtrlStepBackEn, timeCtrlAcqFrames, timeCtrlCodeLossLimit,
   timeCtrlSlewPeriod, timeCtrlSlewLimit, tbDelayDelay, timeStatState,
   timeStatTpllLock, timeStatTbRefPresent, timeStatSynced, timeStatFlagsLast,
   timeStatOffset, mtimeMtime, mtimeSetValue, snapSnapTime,
   swFreqFreqAdj, swPhasePhaseAdj, timeLimitsSwWdogMs, timeLimitsHoAlarmMs,
   holdoverStatHoElapsedUs, holdoverStatHoCount, tbCountersMissing, tbCountersCrc]
def fields1 : List Fld :=
  [tbCountersVersion, tbCountersMismatch, lastFrameEdgeTime, lastStepDelta,
   timeEvtTbLoss, timeEvtCodeLoss, timeEvtHoldoverEnter, timeEvtHoldoverLong,
   timeEvtLockAcquired, timeEvtStepped, timeEvtStepAnnounced, timeEvtUpstreamHoldover,
   timeEvtSwWdogExpired, timeEvtAcqFail, timeEvtUnsyncFire, timeEvtLateFire,
   timeEvtEvtLogOvf, timeEvtSnapNew, timeEvtTimer, fireCountsUnsyncFires,
   fireCountsLogDropped, evtLogW0Target, evtLogW1Source, evtLogW1State]
def fields2 : List Fld :=
  [evtLogW1Late, evtLogW1Missed, evtLogW1Offset, evtLogW1Valid,
   timerTimeTarget, timerCtrlArm, timerCtrlDisarm, timerCtrlArmed,
   timerCtrlPeriodic, timerCtrlPeriod]
/-- Every field of this page kind, header apart. -/
def fields : List Fld := fields0 ++ fields1 ++ fields2
end Tu

namespace Fqw
/-- FQW_CFG.DEFAULT_FQ (R176) -/
def fqwCfgDefaultFq : Fld := { off := 0x40, lo := 0, w := 12, cls := .g }
/-- FQW_CFG.SAMPLE_LOG2 (R191) -/
def fqwCfgSampleLog2 : Fld := { off := 0x40, lo := 16, w := 4, cls := .g, reset := 4, max := 10 }
/-- FQW_EVT.SAMPLE_TAKEN (R191) -/
def fqwEvtSampleTaken : Fld := { off := 0x48, lo := 0, w := 1, cls := .w1c }
/-- FQW_EVT.SAMPLE_UNSYNC (R192) -/
def fqwEvtSampleUnsync : Fld := { off := 0x48, lo := 1, w := 1, cls := .w1c }
/-- FQW_EVT.QUOTA_CUT (R109) -/
def fqwEvtQuotaCut : Fld := { off := 0x48, lo := 2, w := 1, cls := .w1c }
/-- FQW_EVT.DEBT_FORGIVEN (R184) -/
def fqwEvtDebtForgiven : Fld := { off := 0x48, lo := 3, w := 1, cls := .w1c }
/-- FQW_EVT.CLS_DEFAULT (R192) -/
def fqwEvtClsDefault : Fld := { off := 0x48, lo := 4, w := 1, cls := .w1c }
/-- FQW_STAT.SMP_SEQ (R192) -/
def fqwStatSmpSeq : Fld := { off := 0x50, lo := 0, w := 32, cls := .ro }
/-- FQW_STAT.DEFAULTED (R192) -/
def fqwStatDefaulted : Fld := { off := 0x50, lo := 48, w := 16, cls := .ro }
/-- SMP_TIME.TIME (R192) -/
def smpTimeTime : Fld := { off := 0x58, lo := 0, w := 64, cls := .ro }
/-- CLS_SEL.INDEX (R192) -/
def clsSelIndex : Fld := { off := 0x60, lo := 0, w := 9, cls := .l }
/-- CLS_SEL.AUTOINC (R192) -/
def clsSelAutoinc : Fld := { off := 0x60, lo := 9, w := 1, cls := .l }
/-- CLS_W0.VALID (R192) -/
def clsW0Valid : Fld := { off := 0x68, lo := 0, w := 1, cls := .g, sel := 0x60, selW := 9 }
/-- CLS_W0.KIND_MASK (R192) -/
def clsW0KindMask : Fld := { off := 0x68, lo := 1, w := 3, cls := .g, sel := 0x60, selW := 9 }
/-- CLS_W0.ADDR_EN (R192) -/
def clsW0AddrEn : Fld := { off := 0x68, lo := 4, w := 1, cls := .g, sel := 0x60, selW := 9 }
/-- CLS_W0.OPC_VAL (R192) -/
def clsW0OpcVal : Fld := { off := 0x68, lo := 8, w := 8, cls := .g, sel := 0x60, selW := 9 }
/-- CLS_W0.OPC_MASK (R192) -/
def clsW0OpcMask : Fld := { off := 0x68, lo := 16, w := 8, cls := .g, sel := 0x60, selW := 9 }
/-- CLS_W0.LDID_MASK (R192) -/
def clsW0LdidMask : Fld := { off := 0x68, lo := 24, w := 16, cls := .g, sel := 0x60, selW := 9 }
/-- CLS_W0.FQ (R192) -/
def clsW0Fq : Fld := { off := 0x68, lo := 40, w := 12, cls := .g, sel := 0x60, selW := 9 }
/-- CLS_W1.BASE (R192) -/
def clsW1Base : Fld := { off := 0x70, lo := 0, w := 26, cls := .g, sel := 0x60, selW := 9 }
/-- CLS_W1.LIMIT (R6) -/
def clsW1Limit : Fld := { off := 0x70, lo := 26, w := 26, cls := .g, sel := 0x60, selW := 9 }
/-- FQ_SEL.INDEX (R192) -/
def fqSelIndex : Fld := { off := 0x80, lo := 0, w := 12, cls := .l }
/-- FQ_SEL.AUTOINC (R192) -/
def fqSelAutoinc : Fld := { off := 0x80, lo := 12, w := 1, cls := .l }
/-- FQ_CLASS.SCLS (R178) -/
def fqClassScls : Fld := { off := 0x88, lo := 0, w := 2, cls := .l, reset := 1, sel := 0x80, selW := 12, max := 2 }
/-- FQ_CLASS.PRIO (R192) -/
def fqClassPrio : Fld := { off := 0x88, lo := 2, w := 3, cls := .l, sel := 0x80, selW := 12 }
/-- FQ_CLASS.BUDGET_NS (R153) -/
def fqClassBudgetNs : Fld := { off := 0x88, lo := 8, w := 22, cls := .l, sel := 0x80, selW := 12 }
/-- FQ_CLASS.RSV (R179) -/
def fqClassRsv : Fld := { off := 0x88, lo := 32, w := 12, cls := .l, sel := 0x80, selW := 12 }
/-- FQ_RATE.RATE (R183) -/
def fqRateRate : Fld := { off := 0x90, lo := 0, w := 24, cls := .l, reset := 0xffffff, sel := 0x80, selW := 12 }
/-- FQ_DEPTH.DEPTH (R184) -/
def fqDepthDepth : Fld := { off := 0x98, lo := 0, w := 20, cls := .l, reset := 0xfffff, sel := 0x80, selW := 12 }
/-- FQ_DEPTH.RELOAD_MODE (R184) -/
def fqDepthReloadMode : Fld := { off := 0x98, lo := 20, w := 1, cls := .l, sel := 0x80, selW := 12 }
/-- FQ_QUOTA.QUOTA (R109) -/
def fqQuotaQuota : Fld := { off := 0xa0, lo := 0, w := 12, cls := .l, reset := 2048, sel := 0x80, selW := 12, max := 2048 }
/-- FQ_CMD.RELOAD (R184) -/
def fqCmdReload : Fld := { off := 0xa8, lo := 0, w := 1, cls := .w1s, sel := 0x80, selW := 12 }
/-- FQ_CMD.CLR_MAX (R192) -/
def fqCmdClrMax : Fld := { off := 0xa8, lo := 1, w := 1, cls := .w1s, sel := 0x80, selW := 12 }
/-- FQ_CMD.CLR_ALL_MAX (R192) -/
def fqCmdClrAllMax : Fld := { off := 0xa8, lo := 2, w := 1, cls := .w1s, sel := 0x80, selW := 12 }
/-- FQ_STAT.HELD (R192) -/
def fqStatHeld : Fld := { off := 0xb0, lo := 0, w := 12, cls := .ro, sel := 0x80, selW := 12 }
/-- FQ_STAT.OUTSTANDING (R108) -/
def fqStatOutstanding : Fld := { off := 0xb0, lo := 16, w := 12, cls := .ro, sel := 0x80, selW := 12 }
/-- FQ_STAT.OVER_QUOTA (R109) -/
def fqStatOverQuota : Fld := { off := 0xb0, lo := 32, w := 1, cls := .ro, sel := 0x80, selW := 12 }
/-- FQ_STAT.SHAPER_HOLD (R192) -/
def fqStatShaperHold : Fld := { off := 0xb0, lo := 33, w := 1, cls := .ro, sel := 0x80, selW := 12 }
/-- FQ_STAT.ORDER_HOLD (R192) -/
def fqStatOrderHold : Fld := { off := 0xb0, lo := 34, w := 1, cls := .ro, sel := 0x80, selW := 12 }
/-- FQ_STAT.GATE_HOLD (R192) -/
def fqStatGateHold : Fld := { off := 0xb0, lo := 35, w := 1, cls := .ro, sel := 0x80, selW := 12 }
/-- FQ_STAT.DEBT_FORGIVEN (R184) -/
def fqStatDebtForgiven : Fld := { off := 0xb0, lo := 48, w := 16, cls := .ro, sel := 0x80, selW := 12 }
/-- FQ_TOKENS.TOKENS (R181) -/
def fqTokensTokens : Fld := { off := 0xb8, lo := 0, w := 32, cls := .ro, reset := 0xfffff, sel := 0x80, selW := 12 }
/-- FQ_TOKENS.FRAC (R192) -/
def fqTokensFrac : Fld := { off := 0xb8, lo := 32, w := 10, cls := .ro, sel := 0x80, selW := 12 }
/-- FQ_ADMITTED.REQUESTS (R192) -/
def fqAdmittedRequests : Fld := { off := 0xc0, lo := 0, w := 32, cls := .ro, sel := 0x80, selW := 12 }
/-- FQ_ADMITTED.LINES (R192) -/
def fqAdmittedLines : Fld := { off := 0xc0, lo := 32, w := 32, cls := .ro, sel := 0x80, selW := 12 }
/-- FQ_SAMPLE.DEPTH_SMP (R191) -/
def fqSampleDepthSmp : Fld := { off := 0xc8, lo := 0, w := 12, cls := .ro, sel := 0x80, selW := 12 }
/-- FQ_SAMPLE.DEPTH_MAX (R190) -/
def fqSampleDepthMax : Fld := { off := 0xc8, lo := 16, w := 12, cls := .ro, sel := 0x80, selW := 12 }
/-- FQ_SAMPLE.WAIT_SMP_NS (R192) -/
def fqSampleWaitSmpNs : Fld := { off := 0xc8, lo := 32, w := 32, cls := .ro, sel := 0x80, selW := 12 }
/-- FQ_DELAY.DELAY_MAX_NS (R190) -/
def fqDelayDelayMaxNs : Fld := { off := 0xd0, lo := 0, w := 32, cls := .ro, sel := 0x80, selW := 12 }
/-- FQ_DELAY.DELAY_LAST_NS (R190) -/
def fqDelayDelayLastNs : Fld := { off := 0xd0, lo := 32, w := 32, cls := .ro, sel := 0x80, selW := 12 }
def fields0 : List Fld :=
  [fqwCfgDefaultFq, fqwCfgSampleLog2, fqwEvtSampleTaken, fqwEvtSampleUnsync,
   fqwEvtQuotaCut, fqwEvtDebtForgiven, fqwEvtClsDefault, fqwStatSmpSeq,
   fqwStatDefaulted, smpTimeTime, clsSelIndex, clsSelAutoinc,
   clsW0Valid, clsW0KindMask, clsW0AddrEn, clsW0OpcVal,
   clsW0OpcMask, clsW0LdidMask, clsW0Fq, clsW1Base,
   clsW1Limit, fqSelIndex, fqSelAutoinc, fqClassScls]
def fields1 : List Fld :=
  [fqClassPrio, fqClassBudgetNs, fqClassRsv, fqRateRate,
   fqDepthDepth, fqDepthReloadMode, fqQuotaQuota, fqCmdReload,
   fqCmdClrMax, fqCmdClrAllMax, fqStatHeld, fqStatOutstanding,
   fqStatOverQuota, fqStatShaperHold, fqStatOrderHold, fqStatGateHold,
   fqStatDebtForgiven, fqTokensTokens, fqTokensFrac, fqAdmittedRequests,
   fqAdmittedLines, fqSampleDepthSmp, fqSampleDepthMax, fqSampleWaitSmpNs]
def fields2 : List Fld :=
  [fqDelayDelayMaxNs, fqDelayDelayLastNs]
/-- Every field of this page kind, header apart. -/
def fields : List Fld := fields0 ++ fields1 ++ fields2
end Fqw

namespace Rsv
/-- RSV_CFG.A_LEVEL (R213) -/
def rsvCfgALevel : Fld := { off := 0x40, lo := 0, w := 2, cls := .s }
/-- RSV_CFG.MEM_GUAR (R205) -/
def rsvCfgMemGuar : Fld := { off := 0x40, lo := 8, w := 24, cls := .s, reset := 17600 }
/-- RSV_CFG.NCACHE_GUAR (R213) -/
def rsvCfgNcacheGuar : Fld := { off := 0x40, lo := 32, w := 24, cls := .s }
/-- RSV_SEL.INDEX (R213) -/
def rsvSelIndex : Fld := { off := 0x48, lo := 0, w := 12, cls := .l }
/-- RSV_W0.HOST (R213) -/
def rsvW0Host : Fld := { off := 0x50, lo := 0, w := 4, cls := .l, sel := 0x48, selW := 12 }
/-- RSV_FORCE0.HOST (R213) -/
def rsvForce0Host : Fld := { off := 0x78, lo := 0, w := 4, cls := .ro, sel := 0x48, selW := 12 }
/-- RSV_W0.FQ (R213) -/
def rsvW0Fq : Fld := { off := 0x50, lo := 4, w := 12, cls := .l, sel := 0x48, selW := 12 }
/-- RSV_FORCE0.FQ (R213) -/
def rsvForce0Fq : Fld := { off := 0x78, lo := 4, w := 12, cls := .ro, sel := 0x48, selW := 12 }
/-- RSV_W0.KIND (R213) -/
def rsvW0Kind : Fld := { off := 0x50, lo := 16, w := 2, cls := .l, sel := 0x48, selW := 12 }
/-- RSV_FORCE0.KIND (R213) -/
def rsvForce0Kind : Fld := { off := 0x78, lo := 16, w := 2, cls := .ro, sel := 0x48, selW := 12 }
/-- RSV_W0.LEN (R38) -/
def rsvW0Len : Fld := { off := 0x50, lo := 18, w := 2, cls := .l, sel := 0x48, selW := 12 }
/-- RSV_FORCE0.LEN (R38) -/
def rsvForce0Len : Fld := { off := 0x78, lo := 18, w := 2, cls := .ro, sel := 0x48, selW := 12 }
/-- RSV_W0.RPRIO (R213) -/
def rsvW0Rprio : Fld := { off := 0x50, lo := 20, w := 3, cls := .l, sel := 0x48, selW := 12 }
/-- RSV_FORCE0.RPRIO (R213) -/
def rsvForce0Rprio : Fld := { off := 0x78, lo := 20, w := 3, cls := .ro, sel := 0x48, selW := 12 }
/-- RSV_W0.PART (R213) -/
def rsvW0Part : Fld := { off := 0x50, lo := 23, w := 6, cls := .l, sel := 0x48, selW := 12 }
/-- RSV_FORCE0.PART (R213) -/
def rsvForce0Part : Fld := { off := 0x78, lo := 23, w := 6, cls := .ro, sel := 0x48, selW := 12 }
/-- RSV_W0.RATE (R213) -/
def rsvW0Rate : Fld := { off := 0x50, lo := 32, w := 24, cls := .l, sel := 0x48, selW := 12 }
/-- RSV_FORCE0.RATE (R213) -/
def rsvForce0Rate : Fld := { off := 0x78, lo := 32, w := 24, cls := .ro, sel := 0x48, selW := 12 }
/-- RSV_W1.TKIND (R213) -/
def rsvW1Tkind : Fld := { off := 0x58, lo := 0, w := 2, cls := .l, sel := 0x48, selW := 12 }
/-- RSV_FORCE1.TKIND (R213) -/
def rsvForce1Tkind : Fld := { off := 0x80, lo := 0, w := 2, cls := .ro, sel := 0x48, selW := 12 }
/-- RSV_W1.WAYS (R213) -/
def rsvW1Ways : Fld := { off := 0x58, lo := 2, w := 3, cls := .l, sel := 0x48, selW := 12 }
/-- RSV_FORCE1.WAYS (R213) -/
def rsvForce1Ways : Fld := { off := 0x80, lo := 2, w := 3, cls := .ro, sel := 0x48, selW := 12 }
/-- RSV_W1.TGT (R213) -/
def rsvW1Tgt : Fld := { off := 0x58, lo := 8, w := 8, cls := .l, sel := 0x48, selW := 12 }
/-- RSV_FORCE1.TGT (R213) -/
def rsvForce1Tgt : Fld := { off := 0x80, lo := 8, w := 8, cls := .ro, sel := 0x48, selW := 12 }
/-- RSV_CMD.ADMIT (R206) -/
def rsvCmdAdmit : Fld := { off := 0x60, lo := 0, w := 1, cls := .w1s }
/-- RSV_CMD.RELEASE (R207) -/
def rsvCmdRelease : Fld := { off := 0x60, lo := 1, w := 1, cls := .w1s }
/-- RSV_RESULT.BUSY (R213) -/
def rsvResultBusy : Fld := { off := 0x68, lo := 0, w := 1, cls := .ro }
/-- RSV_RESULT.CODE (R213) -/
def rsvResultCode : Fld := { off := 0x68, lo := 1, w := 3, cls := .ro }
/-- RSV_RESULT.CAUSE (R213) -/
def rsvResultCause : Fld := { off := 0x68, lo := 4, w := 2, cls := .ro }
/-- RSV_RESULT.FAIL_CH (R203) -/
def rsvResultFailCh : Fld := { off := 0x68, lo := 8, w := 11, cls := .ro }
/-- RSV_RESULT.FAIL_TGT (R213) -/
def rsvResultFailTgt : Fld := { off := 0x68, lo := 24, w := 8, cls := .ro }
/-- RSV_RESULT.INDEX (R213) -/
def rsvResultIndex : Fld := { off := 0x68, lo := 32, w := 12, cls := .ro }
/-- RSV_STAT.STATE (R213) -/
def rsvStatState : Fld := { off := 0x70, lo := 0, w := 2, cls := .ro, sel := 0x48, selW := 12 }
/-- RSV_STAT.LOAD_HELD (R207) -/
def rsvStatLoadHeld : Fld := { off := 0x70, lo := 2, w := 1, cls := .ro, sel := 0x48, selW := 12 }
/-- RSV_STAT.DEMOTE_CAUSE (R210) -/
def rsvStatDemoteCause : Fld := { off := 0x70, lo := 4, w := 4, cls := .ro, sel := 0x48, selW := 12 }
/-- RSV_EVT.DEMOTED (R211) -/
def rsvEvtDemoted : Fld := { off := 0x88, lo := 0, w := 1, cls := .w1c }
/-- RSV_EVT.ADMIT_DONE (R213) -/
def rsvEvtAdmitDone : Fld := { off := 0x88, lo := 1, w := 1, cls := .w1c }
/-- RSV_EVT.RECHECK_DONE (R213) -/
def rsvEvtRecheckDone : Fld := { off := 0x88, lo := 2, w := 1, cls := .w1c }
/-- RSV_SUMMARY.N_ADMITTED (R213) -/
def rsvSummaryNAdmitted : Fld := { off := 0x90, lo := 0, w := 13, cls := .ro }
/-- RSV_SUMMARY.N_DEMOTED (R213) -/
def rsvSummaryNDemoted : Fld := { off := 0x90, lo := 16, w := 13, cls := .ro }
/-- RSV_SUMMARY.DEMOTIONS (R213) -/
def rsvSummaryDemotions : Fld := { off := 0x90, lo := 32, w := 32, cls := .ro }
/-- RSV_CH_SEL.CH (R203) -/
def rsvChSelCh : Fld := { off := 0x98, lo := 0, w := 11, cls := .l }
/-- RSV_CH_STAT.LOAD (R213) -/
def rsvChStatLoad : Fld := { off := 0xa0, lo := 0, w := 24, cls := .ro, sel := 0x98, selW := 11 }
/-- RSV_CH_STAT.BSUM (R213) -/
def rsvChStatBsum : Fld := { off := 0xa0, lo := 24, w := 8, cls := .ro, sel := 0x98, selW := 11 }
/-- RSV_CH_STAT.BMIN (R213) -/
def rsvChStatBmin : Fld := { off := 0xa0, lo := 32, w := 4, cls := .ro, sel := 0x98, selW := 11 }
/-- RSV_CH_STAT.CAP (R213) -/
def rsvChStatCap : Fld := { off := 0xa0, lo := 40, w := 24, cls := .ro, reset := 64000, sel := 0x98, selW := 11 }
/-- RSV_TGT_SEL.PORT (R213) -/
def rsvTgtSelPort : Fld := { off := 0xa8, lo := 0, w := 8, cls := .l }
/-- RSV_TGT_STAT.TLOAD (R213) -/
def rsvTgtStatTload : Fld := { off := 0xb0, lo := 0, w := 24, cls := .ro, sel := 0xa8, selW := 8 }
/-- RSV_TGT_STAT.DERATE (R213) -/
def rsvTgtStatDerate : Fld := { off := 0xb0, lo := 24, w := 3, cls := .ro, sel := 0xa8, selW := 8 }
/-- RSV_TGT_STAT.LOST (R205) -/
def rsvTgtStatLost : Fld := { off := 0xb0, lo := 27, w := 1, cls := .ro, sel := 0xa8, selW := 8 }
/-- RSV_TGT_STAT.TCAP (R205) -/
def rsvTgtStatTcap : Fld := { off := 0xb0, lo := 32, w := 24, cls := .ro, sel := 0xa8, selW := 8 }
def fields0 : List Fld :=
  [rsvCfgALevel, rsvCfgMemGuar, rsvCfgNcacheGuar, rsvSelIndex,
   rsvW0Host, rsvForce0Host, rsvW0Fq, rsvForce0Fq,
   rsvW0Kind, rsvForce0Kind, rsvW0Len, rsvForce0Len,
   rsvW0Rprio, rsvForce0Rprio, rsvW0Part, rsvForce0Part,
   rsvW0Rate, rsvForce0Rate, rsvW1Tkind, rsvForce1Tkind,
   rsvW1Ways, rsvForce1Ways, rsvW1Tgt, rsvForce1Tgt]
def fields1 : List Fld :=
  [rsvCmdAdmit, rsvCmdRelease, rsvResultBusy, rsvResultCode,
   rsvResultCause, rsvResultFailCh, rsvResultFailTgt, rsvResultIndex,
   rsvStatState, rsvStatLoadHeld, rsvStatDemoteCause, rsvEvtDemoted,
   rsvEvtAdmitDone, rsvEvtRecheckDone, rsvSummaryNAdmitted, rsvSummaryNDemoted,
   rsvSummaryDemotions, rsvChSelCh, rsvChStatLoad, rsvChStatBsum,
   rsvChStatBmin, rsvChStatCap, rsvTgtSelPort, rsvTgtStatTload]
def fields2 : List Fld :=
  [rsvTgtStatDerate, rsvTgtStatLost, rsvTgtStatTcap]
/-- Every field of this page kind, header apart. -/
def fields : List Fld := fields0 ++ fields1 ++ fields2
end Rsv

namespace Art
/-- ART_SWAP_CTRL.ARM (R236) -/
def artSwapCtrlArm : Fld := { off := 0x40, lo := 0, w := 1, cls := .w1s }
/-- ART_SWAP_CTRL.DISARM (R371) -/
def artSwapCtrlDisarm : Fld := { off := 0x40, lo := 1, w := 1, cls := .w1s }
/-- ART_SWAP_TIME.SWAP_TIME (R240) -/
def artSwapTimeSwapTime : Fld := { off := 0x48, lo := 0, w := 64, cls := .l }
/-- ART_STAT.ACTIVE_SET (R240) -/
def artStatActiveSet : Fld := { off := 0x50, lo := 0, w := 1, cls := .ro }
/-- ART_STAT.ARMED (R240) -/
def artStatArmed : Fld := { off := 0x50, lo := 1, w := 1, cls := .ro }
/-- ART_STAT.DRAINING (R240) -/
def artStatDraining : Fld := { off := 0x50, lo := 2, w := 1, cls := .ro }
/-- ART_STAT.SWAP_DONE (R239) -/
def artStatSwapDone : Fld := { off := 0x50, lo := 3, w := 1, cls := .ro, reset := 1 }
/-- ART_STAT.CMD_BUSY (R240) -/
def artStatCmdBusy : Fld := { off := 0x50, lo := 4, w := 1, cls := .ro }
/-- ART_STAT.REFUSE_CAUSE (R236) -/
def artStatRefuseCause : Fld := { off := 0x50, lo := 8, w := 3, cls := .ro }
/-- ART_STAT.SWAP_COUNT (R240) -/
def artStatSwapCount : Fld := { off := 0x50, lo := 32, w := 32, cls := .ro }
/-- ART_DRAIN.RESIDUAL (R240) -/
def artDrainResidual : Fld := { off := 0x58, lo := 0, w := 24, cls := .ro }
/-- ART_DRAIN.LAST_DRAIN_NS (R240) -/
def artDrainLastDrainNs : Fld := { off := 0x58, lo := 32, w := 32, cls := .ro }
/-- ART_DRAIN_LIMIT.LIMIT_US (R240) -/
def artDrainLimitLimitUs : Fld := { off := 0x60, lo := 0, w := 32, cls := .l, reset := 1000, min := 1 }
/-- ART_CMD.VALIDATE (R232) -/
def artCmdValidate : Fld := { off := 0x68, lo := 0, w := 1, cls := .w1s }
/-- ART_CMD.COPY (R232) -/
def artCmdCopy : Fld := { off := 0x68, lo := 1, w := 1, cls := .w1s }
/-- ART_CMD.CLEAR (R232) -/
def artCmdClear : Fld := { off := 0x68, lo := 2, w := 1, cls := .w1s }
/-- ART_VAL.STATUS (R240) -/
def artValStatus : Fld := { off := 0x70, lo := 0, w := 2, cls := .ro }
/-- ART_VAL.ERR_CAUSE (R233) -/
def artValErrCause : Fld := { off := 0x70, lo := 4, w := 3, cls := .ro }
/-- ART_VAL.ERR_INDEX (R240) -/
def artValErrIndex : Fld := { off := 0x70, lo := 8, w := 17, cls := .ro }
/-- ART_VAL.UNALIGNED_COUNT (R234) -/
def artValUnalignedCount : Fld := { off := 0x70, lo := 32, w := 18, cls := .ro }
/-- ART_VAL_AUX.UNALIGNED_FIRST (R240) -/
def artValAuxUnalignedFirst : Fld := { off := 0x78, lo := 0, w := 17, cls := .ro }
/-- ART_VAL_AUX.INVALID_BANKS (R223) -/
def artValAuxInvalidBanks : Fld := { off := 0x78, lo := 32, w := 18, cls := .ro }
/-- ART_COUNT.COUNT_A (R231) -/
def artCountCountA : Fld := { off := 0x80, lo := 0, w := 18, cls := .l, max := 131072 }
/-- ART_COUNT.COUNT_B (R240) -/
def artCountCountB : Fld := { off := 0x80, lo := 32, w := 18, cls := .l, max := 131072 }
/-- ART_LONG.LONG (R217) -/
def artLongLong : Fld := { off := 0x88, lo := 0, w := 64, cls := .g, reset := 0xffffffffffffffff }
/-- ART_EVT.SWAPPED (R240) -/
def artEvtSwapped : Fld := { off := 0x90, lo := 0, w := 1, cls := .w1c }
/-- ART_EVT.DRAINED (R240) -/
def artEvtDrained : Fld := { off := 0x90, lo := 1, w := 1, cls := .w1c }
/-- ART_EVT.SWAP_REFUSED (R236) -/
def artEvtSwapRefused : Fld := { off := 0x90, lo := 2, w := 1, cls := .w1c }
/-- ART_EVT.SWAP_HOLDOVER (R240) -/
def artEvtSwapHoldover : Fld := { off := 0x90, lo := 3, w := 1, cls := .w1c }
/-- ART_EVT.SWAP_UNSURE (R239) -/
def artEvtSwapUnsure : Fld := { off := 0x90, lo := 4, w := 1, cls := .w1c }
/-- ART_EVT.DRAIN_STALL (R240) -/
def artEvtDrainStall : Fld := { off := 0x90, lo := 5, w := 1, cls := .w1c }
/-- ART_EVT.SET_BUSY (R231) -/
def artEvtSetBusy : Fld := { off := 0x90, lo := 6, w := 1, cls := .w1c }
/-- ART_EVT.CMD_DONE (R240) -/
def artEvtCmdDone : Fld := { off := 0x90, lo := 7, w := 1, cls := .w1c }
/-- ART_EVT.FAULT (R240) -/
def artEvtFault : Fld := { off := 0x90, lo := 8, w := 1, cls := .w1c }
/-- ART_EVT.FAULT_OVF (R240) -/
def artEvtFaultOvf : Fld := { off := 0x90, lo := 9, w := 1, cls := .w1c }
/-- ART_EVT.UNALIGNED (R234) -/
def artEvtUnaligned : Fld := { off := 0x90, lo := 10, w := 1, cls := .w1c }
/-- ART_COUNTERS.FAULTS (R240) -/
def artCountersFaults : Fld := { off := 0x98, lo := 0, w := 32, cls := .ro }
/-- ART_COUNTERS.FAULT_DROPPED (R240) -/
def artCountersFaultDropped : Fld := { off := 0x98, lo := 32, w := 16, cls := .ro }
/-- ART_COUNTERS.DEBUG_GRANTS (R240) -/
def artCountersDebugGrants : Fld := { off := 0x98, lo := 48, w := 16, cls := .ro }
/-- ART_FAULT_W0.ADDR (R240) -/
def artFaultW0Addr : Fld := { off := 0xa0, lo := 0, w := 52, cls := .ro }
/-- ART_FAULT_W1.KIND (R240) -/
def artFaultW1Kind : Fld := { off := 0xa8, lo := 0, w := 1, cls := .ro }
/-- ART_FAULT_W1.LEN (R240) -/
def artFaultW1Len : Fld := { off := 0xa8, lo := 1, w := 2, cls := .ro }
/-- ART_FAULT_W1.CAUSE (R230) -/
def artFaultW1Cause : Fld := { off := 0xa8, lo := 3, w := 4, cls := .ro }
/-- ART_FAULT_W1.GEN (R240) -/
def artFaultW1Gen : Fld := { off := 0xa8, lo := 7, w := 1, cls := .ro }
/-- ART_FAULT_W1.MID (R240) -/
def artFaultW1Mid : Fld := { off := 0xa8, lo := 8, w := 12, cls := .ro }
/-- ART_FAULT_W1.PART (R240) -/
def artFaultW1Part : Fld := { off := 0xa8, lo := 20, w := 6, cls := .ro }
/-- ART_FAULT_W1.PART_V (R240) -/
def artFaultW1PartV : Fld := { off := 0xa8, lo := 26, w := 1, cls := .ro }
/-- ART_FAULT_W1.REGION_V (R240) -/
def artFaultW1RegionV : Fld := { off := 0xa8, lo := 27, w := 1, cls := .ro }
/-- ART_FAULT_W1.REGION (R240) -/
def artFaultW1Region : Fld := { off := 0xa8, lo := 28, w := 17, cls := .ro }
/-- ART_FAULT_W1.VALID (R240) -/
def artFaultW1Valid : Fld := { off := 0xa8, lo := 63, w := 1, cls := .ro }
/-- SVC_MID_CFG.GROUP (R240) -/
def svcMidCfgGroup : Fld := { off := 0x100, lo := 0, w := 6, cls := .g, count := 10, step := 8, lk := true }
/-- SVC_MID_CFG.PRIV (R240) -/
def svcMidCfgPriv : Fld := { off := 0x100, lo := 6, w := 1, cls := .g, reset := 1, count := 10, step := 8, lk := true }
/-- DM_W0.START (R240) -/
def dmW0Start : Fld := { off := 0x200, lo := 0, w := 46, cls := .g, count := 16, step := 16 }
/-- DM_W0.PART (R240) -/
def dmW0Part : Fld := { off := 0x200, lo := 46, w := 6, cls := .g, count := 16, step := 16 }
/-- DM_W0.CCLS (R45) -/
def dmW0Ccls : Fld := { off := 0x200, lo := 52, w := 3, cls := .g, count := 16, step := 16, max := 5 }
/-- DM_W0.ORD (R44) -/
def dmW0Ord : Fld := { off := 0x200, lo := 55, w := 2, cls := .g, count := 16, step := 16, max := 2 }
/-- DM_W0.RD (R240) -/
def dmW0Rd : Fld := { off := 0x200, lo := 57, w := 1, cls := .g, count := 16, step := 16 }
/-- DM_W0.WR (R240) -/
def dmW0Wr : Fld := { off := 0x200, lo := 58, w := 1, cls := .g, count := 16, step := 16 }
/-- DM_W0.VALID (R240) -/
def dmW0Valid : Fld := { off := 0x200, lo := 59, w := 1, cls := .g, count := 16, step := 16 }
/-- DM_W1.END (R6) -/
def dmW1End : Fld := { off := 0x208, lo := 0, w := 46, cls := .g, count := 16, step := 16 }
def fields0 : List Fld :=
  [artSwapCtrlArm, artSwapCtrlDisarm, artSwapTimeSwapTime, artStatActiveSet,
   artStatArmed, artStatDraining, artStatSwapDone, artStatCmdBusy,
   artStatRefuseCause, artStatSwapCount, artDrainResidual, artDrainLastDrainNs,
   artDrainLimitLimitUs, artCmdValidate, artCmdCopy, artCmdClear,
   artValStatus, artValErrCause, artValErrIndex, artValUnalignedCount,
   artValAuxUnalignedFirst, artValAuxInvalidBanks, artCountCountA, artCountCountB]
def fields1 : List Fld :=
  [artLongLong, artEvtSwapped, artEvtDrained, artEvtSwapRefused,
   artEvtSwapHoldover, artEvtSwapUnsure, artEvtDrainStall, artEvtSetBusy,
   artEvtCmdDone, artEvtFault, artEvtFaultOvf, artEvtUnaligned,
   artCountersFaults, artCountersFaultDropped, artCountersDebugGrants, artFaultW0Addr,
   artFaultW1Kind, artFaultW1Len, artFaultW1Cause, artFaultW1Gen,
   artFaultW1Mid, artFaultW1Part, artFaultW1PartV, artFaultW1RegionV]
def fields2 : List Fld :=
  [artFaultW1Region, artFaultW1Valid, svcMidCfgGroup, svcMidCfgPriv,
   dmW0Start, dmW0Part, dmW0Ccls, dmW0Ord,
   dmW0Rd, dmW0Wr, dmW0Valid, dmW1End]
/-- Every field of this page kind, header apart. -/
def fields : List Fld := fields0 ++ fields1 ++ fields2
end Art

namespace Artw
/-- ARTW_SEL.ENTRY (R240) -/
def artwSelEntry : Fld := { off := 0x40, lo := 0, w := 17, cls := .l }
/-- ARTW_SEL.SET (R240) -/
def artwSelSet : Fld := { off := 0x40, lo := 17, w := 1, cls := .l }
/-- ARTW_SEL.AUTOINC (R240) -/
def artwSelAutoinc : Fld := { off := 0x40, lo := 18, w := 1, cls := .l }
/-- ARTW_W0.START (R240) -/
def artwW0Start : Fld := { off := 0x48, lo := 0, w := 46, cls := .l }
/-- ARTW_W0.PART (R240) -/
def artwW0Part : Fld := { off := 0x48, lo := 46, w := 6, cls := .l }
/-- ARTW_W0.CCLS (R45) -/
def artwW0Ccls : Fld := { off := 0x48, lo := 52, w := 3, cls := .l, max := 5 }
/-- ARTW_W0.ORD (R44) -/
def artwW0Ord : Fld := { off := 0x48, lo := 55, w := 2, cls := .l, max := 2 }
/-- ARTW_W0.LOCK (R224) -/
def artwW0Lock : Fld := { off := 0x48, lo := 57, w := 1, cls := .l }
/-- ARTW_W0.DEBUG_ALLOW (R224) -/
def artwW0DebugAllow : Fld := { off := 0x48, lo := 58, w := 1, cls := .l }
/-- ARTW_W1.END (R240) -/
def artwW1End : Fld := { off := 0x50, lo := 0, w := 46, cls := .l }
/-- ARTW_W2.RD (R240) -/
def artwW2Rd : Fld := { off := 0x58, lo := 0, w := 64, cls := .l }
/-- ARTW_W3.WR (R231) -/
def artwW3Wr : Fld := { off := 0x60, lo := 0, w := 64, cls := .l }
def fields0 : List Fld :=
  [artwSelEntry, artwSelSet, artwSelAutoinc, artwW0Start,
   artwW0Part, artwW0Ccls, artwW0Ord, artwW0Lock,
   artwW0DebugAllow, artwW1End, artwW2Rd, artwW3Wr]
/-- Every field of this page kind, header apart. -/
def fields : List Fld := fields0
end Artw

namespace Cp
/-- CP_ENG.LOOKUPS (R240) -/
def cpEngLookups : Fld := { off := 0x40, lo := 0, w := 32, cls := .ro, count := 8, step := 8 }
/-- CP_ENG.DENIALS (R240) -/
def cpEngDenials : Fld := { off := 0x40, lo := 32, w := 32, cls := .ro, count := 8, step := 8 }
/-- CP_TREE.WAIT_MAX (R240) -/
def cpTreeWaitMax : Fld := { off := 0x80, lo := 0, w := 16, cls := .ro, count := 8, step := 8 }
/-- CP_TREE.QUEUED (R240) -/
def cpTreeQueued : Fld := { off := 0x80, lo := 32, w := 32, cls := .ro, count := 8, step := 8 }
/-- CP_CMD.CLR_MAX (R240) -/
def cpCmdClrMax : Fld := { off := 0xc0, lo := 0, w := 1, cls := .w1s }
def fields0 : List Fld :=
  [cpEngLookups, cpEngDenials, cpTreeWaitMax, cpTreeQueued,
   cpCmdClrMax]
/-- Every field of this page kind, header apart. -/
def fields : List Fld := fields0
end Cp

namespace Pwr
/-- PWR_CMD.CMD (R310) -/
def pwrCmdCmd : Fld := { off := 0x40, lo := 0, w := 4, cls := .wo }
/-- PWR_CMD.LEVEL (R310) -/
def pwrCmdLevel : Fld := { off := 0x40, lo := 4, w := 2, cls := .wo }
/-- PWR_CMD.PORT (R310) -/
def pwrCmdPort : Fld := { off := 0x40, lo := 8, w := 8, cls := .wo }
/-- PWR_RESULT.CODE (R308) -/
def pwrResultCode : Fld := { off := 0x48, lo := 0, w := 2, cls := .ro }
/-- PWR_RESULT.REASON (R308) -/
def pwrResultReason : Fld := { off := 0x48, lo := 4, w := 4, cls := .ro }
/-- PWR_RESULT.REFUSER_KIND (R308) -/
def pwrResultRefuserKind : Fld := { off := 0x48, lo := 8, w := 3, cls := .ro }
/-- PWR_RESULT.REFUSER_ID (R308) -/
def pwrResultRefuserId : Fld := { off := 0x48, lo := 12, w := 12, cls := .ro }
/-- PWR_RESULT.CMD (R310) -/
def pwrResultCmd : Fld := { off := 0x48, lo := 24, w := 4, cls := .ro }
/-- PWR_STAT.LEVEL (R310) -/
def pwrStatLevel : Fld := { off := 0x50, lo := 0, w := 2, cls := .ro }
/-- PWR_STAT.TARGET (R310) -/
def pwrStatTarget : Fld := { off := 0x50, lo := 2, w := 2, cls := .ro }
/-- PWR_STAT.TRANS (R310) -/
def pwrStatTrans : Fld := { off := 0x50, lo := 4, w := 1, cls := .ro }
/-- PWR_STAT.FSTATE (R310) -/
def pwrStatFstate : Fld := { off := 0x50, lo := 5, w := 2, cls := .ro, reset := 2 }
/-- PWR_STAT.FAB_WAKE_FAILED (R304) -/
def pwrStatFabWakeFailed : Fld := { off := 0x50, lo := 7, w := 1, cls := .ro }
/-- PWR_STAT.N2_NIS (R310) -/
def pwrStatN2Nis : Fld := { off := 0x50, lo := 32, w := 9, cls := .ro, reset := 236 }
/-- PWR_CFG.WAKE_TO_US (R290) -/
def pwrCfgWakeToUs : Fld := { off := 0x58, lo := 0, w := 16, cls := .l, reset := 500, min := 1 }
/-- PWR_CFG.ACK_TO_US (R310) -/
def pwrCfgAckToUs : Fld := { off := 0x58, lo := 16, w := 16, cls := .l, reset := 100, min := 1 }
/-- PWR_CFG.DRAIN_TO_US (R310) -/
def pwrCfgDrainToUs : Fld := { off := 0x58, lo := 32, w := 16, cls := .l, reset := 200, min := 1 }
/-- PWR_EVT.CMD_REFUSED (R310) -/
def pwrEvtCmdRefused : Fld := { off := 0x60, lo := 0, w := 1, cls := .w1c }
/-- PWR_EVT.ENTRY_ABORTED (R310) -/
def pwrEvtEntryAborted : Fld := { off := 0x60, lo := 1, w := 1, cls := .w1c }
/-- PWR_EVT.ENTRY_DONE (R310) -/
def pwrEvtEntryDone : Fld := { off := 0x60, lo := 2, w := 1, cls := .w1c }
/-- PWR_EVT.WAKE_DONE (R310) -/
def pwrEvtWakeDone : Fld := { off := 0x60, lo := 3, w := 1, cls := .w1c }
/-- PWR_EVT.WAKE_FAILED (R310) -/
def pwrEvtWakeFailed : Fld := { off := 0x60, lo := 4, w := 1, cls := .w1c }
/-- PWR_EVT.LEVEL_DONE (R310) -/
def pwrEvtLevelDone : Fld := { off := 0x60, lo := 5, w := 1, cls := .w1c }
/-- PWR_EVT.LEVEL_FAILED (R291) -/
def pwrEvtLevelFailed : Fld := { off := 0x60, lo := 6, w := 1, cls := .w1c }
/-- PWR_EVT.RETENTION_FAIL (R306) -/
def pwrEvtRetentionFail : Fld := { off := 0x60, lo := 7, w := 1, cls := .w1c }
/-- PWR_EVT.NI_WOKE (R310) -/
def pwrEvtNiWoke : Fld := { off := 0x60, lo := 8, w := 1, cls := .w1c }
/-- PWR_COUNT.REFUSED (R310) -/
def pwrCountRefused : Fld := { off := 0x68, lo := 0, w := 32, cls := .ro }
/-- PWR_COUNT.ABORTED (R310) -/
def pwrCountAborted : Fld := { off := 0x68, lo := 32, w := 32, cls := .ro }
/-- RET_FAIL.BANKS (R310) -/
def retFailBanks : Fld := { off := 0x70, lo := 0, w := 34, cls := .w1c }
/-- RET_FAIL.PORT (R310) -/
def retFailPort : Fld := { off := 0x70, lo := 40, w := 8, cls := .ro }
/-- RET_FAIL.PORT_V (R310) -/
def retFailPortV : Fld := { off := 0x70, lo := 48, w := 1, cls := .w1c }
/-- PWR_NI_SEL.PORT (R310) -/
def pwrNiSelPort : Fld := { off := 0x80, lo := 0, w := 8, cls := .l }
/-- PWR_NI_CFG.SLEEP_OK (R294) -/
def pwrNiCfgSleepOk : Fld := { off := 0x88, lo := 0, w := 1, cls := .l, reset := 1, sel := 0x80, selW := 8 }
/-- PWR_NI_CFG.N1_EN (R293) -/
def pwrNiCfgN1En : Fld := { off := 0x88, lo := 1, w := 1, cls := .l, reset := 1, sel := 0x80, selW := 8 }
/-- PWR_NI_CFG.N1_IDLE (R293) -/
def pwrNiCfgN1Idle : Fld := { off := 0x88, lo := 8, w := 8, cls := .l, reset := 64, sel := 0x80, selW := 8, min := 8 }
/-- PWR_NI_STAT.NSTATE (R310) -/
def pwrNiStatNstate : Fld := { off := 0x90, lo := 0, w := 2, cls := .ro, reset := 2, sel := 0x80, selW := 8 }
/-- PWR_NI_STAT.ENTERING (R296) -/
def pwrNiStatEntering : Fld := { off := 0x90, lo := 2, w := 1, cls := .ro, sel := 0x80, selW := 8 }
/-- PWR_NI_STAT.WAKING (R301) -/
def pwrNiStatWaking : Fld := { off := 0x90, lo := 3, w := 1, cls := .ro, sel := 0x80, selW := 8 }
/-- PWR_NI_STAT.WAKE_FAILED (R302) -/
def pwrNiStatWakeFailed : Fld := { off := 0x90, lo := 4, w := 1, cls := .ro, sel := 0x80, selW := 8 }
/-- PWR_NI_STAT.CONFIG_LOST (R307) -/
def pwrNiStatConfigLost : Fld := { off := 0x90, lo := 5, w := 1, cls := .ro, sel := 0x80, selW := 8 }
/-- PWR_NI_STAT.NI_WOKE (R310) -/
def pwrNiStatNiWoke : Fld := { off := 0x90, lo := 6, w := 1, cls := .w1c, sel := 0x80, selW := 8 }
/-- PWR_NI_STAT.HELD (R310) -/
def pwrNiStatHeld : Fld := { off := 0x90, lo := 8, w := 4, cls := .ro, sel := 0x80, selW := 8 }
/-- PWR_NI_STAT.WAKES (R310) -/
def pwrNiStatWakes : Fld := { off := 0x90, lo := 32, w := 32, cls := .ro, sel := 0x80, selW := 8 }
/-- PWR_NI_CTRL.CONFIG_VALID (R307) -/
def pwrNiCtrlConfigValid : Fld := { off := 0x98, lo := 0, w := 1, cls := .w1s, sel := 0x80, selW := 8 }
/-- PWR_N2_MAP.N2 (R310) -/
def pwrN2MapN2 : Fld := { off := 0xa0, lo := 0, w := 64, cls := .ro, reset := 0xffffffffffffffff, count := 4, step := 8 }
/-- REF_LOG_W0.TIME (R310) -/
def refLogW0Time : Fld := { off := 0x100, lo := 0, w := 64, cls := .ro, count := 16, step := 16 }
/-- REF_LOG_W1.ABORTED (R310) -/
def refLogW1Aborted : Fld := { off := 0x108, lo := 0, w := 1, cls := .ro, count := 16, step := 16 }
/-- REF_LOG_W1.CMD (R310) -/
def refLogW1Cmd : Fld := { off := 0x108, lo := 1, w := 4, cls := .ro, count := 16, step := 16 }
/-- REF_LOG_W1.PORT (R310) -/
def refLogW1Port : Fld := { off := 0x108, lo := 5, w := 8, cls := .ro, count := 16, step := 16 }
/-- REF_LOG_W1.REASON (R308) -/
def refLogW1Reason : Fld := { off := 0x108, lo := 16, w := 4, cls := .ro, count := 16, step := 16 }
/-- REF_LOG_W1.EP_REASON (R310) -/
def refLogW1EpReason : Fld := { off := 0x108, lo := 20, w := 4, cls := .ro, count := 16, step := 16 }
/-- REF_LOG_W1.REFUSER_KIND (R308) -/
def refLogW1RefuserKind : Fld := { off := 0x108, lo := 24, w := 3, cls := .ro, count := 16, step := 16 }
/-- REF_LOG_W1.REFUSER_ID (R308) -/
def refLogW1RefuserId : Fld := { off := 0x108, lo := 32, w := 12, cls := .ro, count := 16, step := 16 }
/-- REF_LOG_W1.VALID (R310) -/
def refLogW1Valid : Fld := { off := 0x108, lo := 63, w := 1, cls := .ro, count := 16, step := 16 }
def fields0 : List Fld :=
  [pwrCmdCmd, pwrCmdLevel, pwrCmdPort, pwrResultCode,
   pwrResultReason, pwrResultRefuserKind, pwrResultRefuserId, pwrResultCmd,
   pwrStatLevel, pwrStatTarget, pwrStatTrans, pwrStatFstate,
   pwrStatFabWakeFailed, pwrStatN2Nis, pwrCfgWakeToUs, pwrCfgAckToUs,
   pwrCfgDrainToUs, pwrEvtCmdRefused, pwrEvtEntryAborted, pwrEvtEntryDone,
   pwrEvtWakeDone, pwrEvtWakeFailed, pwrEvtLevelDone, pwrEvtLevelFailed]
def fields1 : List Fld :=
  [pwrEvtRetentionFail, pwrEvtNiWoke, pwrCountRefused, pwrCountAborted,
   retFailBanks, retFailPort, retFailPortV, pwrNiSelPort,
   pwrNiCfgSleepOk, pwrNiCfgN1En, pwrNiCfgN1Idle, pwrNiStatNstate,
   pwrNiStatEntering, pwrNiStatWaking, pwrNiStatWakeFailed, pwrNiStatConfigLost,
   pwrNiStatNiWoke, pwrNiStatHeld, pwrNiStatWakes, pwrNiCtrlConfigValid,
   pwrN2MapN2, refLogW0Time, refLogW1Aborted, refLogW1Cmd]
def fields2 : List Fld :=
  [refLogW1Port, refLogW1Reason, refLogW1EpReason, refLogW1RefuserKind,
   refLogW1RefuserId, refLogW1Valid]
/-- Every field of this page kind, header apart. -/
def fields : List Fld := fields0 ++ fields1 ++ fields2
end Pwr

namespace Ts
/-- TS_CFG.EN (R311) -/
def tsCfgEn : Fld := { off := 0x40, lo := 0, w := 1, cls := .g }
/-- TS_CFG.KIND_EN (R314) -/
def tsCfgKindEn : Fld := { off := 0x40, lo := 1, w := 4, cls := .g, reset := 15 }
/-- TS_CFG.HOLD_ALL (R313) -/
def tsCfgHoldAll : Fld := { off := 0x40, lo := 5, w := 1, cls := .g, reset := 1 }
/-- TS_CFG.SOFT_REPAIR_EN (R322) -/
def tsCfgSoftRepairEn : Fld := { off := 0x40, lo := 6, w := 1, cls := .g, reset := 1 }
/-- TS_CFG.SKIP_LIMIT (R320) -/
def tsCfgSkipLimit : Fld := { off := 0x40, lo := 8, w := 8, cls := .g, reset := 8, min := 1 }
/-- TS_CFG.QUIET_US (R316) -/
def tsCfgQuietUs : Fld := { off := 0x40, lo := 16, w := 8, cls := .g, reset := 4, min := 1, max := 4 }
/-- TS_CFG.IDLE_US (R316) -/
def tsCfgIdleUs : Fld := { off := 0x40, lo := 24, w := 8, cls := .g, reset := 4, min := 1, max := 50 }
/-- TS_PERIOD.PERIOD_US (R325) -/
def tsPeriodPeriodUs : Fld := { off := 0x48, lo := 0, w := 32, cls := .g, reset := 0x186a0, min := 1000 }
/-- TS_BASE.BASE (R325) -/
def tsBaseBase : Fld := { off := 0x50, lo := 0, w := 64, cls := .g }
/-- TS_PTR.NEXT (R314) -/
def tsPtrNext : Fld := { off := 0x58, lo := 0, w := 11, cls := .l, max := 1196 }
/-- TS_STAT.OPEN (R325) -/
def tsStatOpen : Fld := { off := 0x60, lo := 0, w := 1, cls := .ro }
/-- TS_STAT.PHASE (R325) -/
def tsStatPhase : Fld := { off := 0x60, lo := 1, w := 2, cls := .ro }
/-- TS_STAT.INDEX (R325) -/
def tsStatIndex : Fld := { off := 0x60, lo := 3, w := 11, cls := .ro }
/-- TS_STAT.SKIPS (R325) -/
def tsStatSkips : Fld := { off := 0x60, lo := 16, w := 8, cls := .ro }
/-- TS_STAT.LOG_DROPPED (R321) -/
def tsStatLogDropped : Fld := { off := 0x60, lo := 24, w := 16, cls := .ro }
/-- TS_EVT.SLICE_DONE (R325) -/
def tsEvtSliceDone : Fld := { off := 0x68, lo := 0, w := 1, cls := .w1c }
/-- TS_EVT.SLICE_FAIL (R325) -/
def tsEvtSliceFail : Fld := { off := 0x68, lo := 1, w := 1, cls := .w1c }
/-- TS_EVT.SLICE_SKIPPED (R325) -/
def tsEvtSliceSkipped : Fld := { off := 0x68, lo := 2, w := 1, cls := .w1c }
/-- TS_EVT.PASSED_OVER (R320) -/
def tsEvtPassedOver : Fld := { off := 0x68, lo := 3, w := 1, cls := .w1c }
/-- TS_EVT.ROTATION (R325) -/
def tsEvtRotation : Fld := { off := 0x68, lo := 4, w := 1, cls := .w1c }
/-- TS_EVT.REPAIRED (R322) -/
def tsEvtRepaired : Fld := { off := 0x68, lo := 5, w := 1, cls := .w1c }
/-- TS_EVT.REPAIR_EXHAUSTED (R325) -/
def tsEvtRepairExhausted : Fld := { off := 0x68, lo := 6, w := 1, cls := .w1c }
/-- TS_EVT.OVERRUN (R313) -/
def tsEvtOverrun : Fld := { off := 0x68, lo := 7, w := 1, cls := .w1c }
/-- TS_EVT.UNSYNC_WINDOW (R312) -/
def tsEvtUnsyncWindow : Fld := { off := 0x68, lo := 8, w := 1, cls := .w1c }
/-- TS_EVT.WARN (R325) -/
def tsEvtWarn : Fld := { off := 0x68, lo := 9, w := 1, cls := .w1c }
/-- TS_EVT.CLEAR_DONE (R325) -/
def tsEvtClearDone : Fld := { off := 0x68, lo := 10, w := 1, cls := .w1c }
/-- TS_EVT.ZEROISE_WAIT (R325) -/
def tsEvtZeroiseWait : Fld := { off := 0x68, lo := 11, w := 1, cls := .w1c }
/-- TS_EVT.FUSE_DONE (R323) -/
def tsEvtFuseDone : Fld := { off := 0x68, lo := 12, w := 1, cls := .w1c }
/-- TS_EVT.FUSE_REFUSED (R323) -/
def tsEvtFuseRefused : Fld := { off := 0x68, lo := 13, w := 1, cls := .w1c }
/-- TS_COUNT.RUN (R325) -/
def tsCountRun : Fld := { off := 0x70, lo := 0, w := 16, cls := .ro }
/-- TS_COUNT.SKIPPED (R325) -/
def tsCountSkipped : Fld := { off := 0x70, lo := 16, w := 16, cls := .ro }
/-- TS_COUNT.FAILED (R325) -/
def tsCountFailed : Fld := { off := 0x70, lo := 32, w := 16, cls := .ro }
/-- TS_COUNT.ROTATIONS (R325) -/
def tsCountRotations : Fld := { off := 0x70, lo := 48, w := 16, cls := .ro }
/-- TS_LOG_W0.TIME (R325) -/
def tsLogW0Time : Fld := { off := 0x78, lo := 0, w := 64, cls := .ro }
/-- TS_LOG_W1.KIND (R314) -/
def tsLogW1Kind : Fld := { off := 0x80, lo := 0, w := 2, cls := .ro }
/-- TS_LOG_W1.INDEX (R325) -/
def tsLogW1Index : Fld := { off := 0x80, lo := 2, w := 11, cls := .ro }
/-- TS_LOG_W1.RESULT (R321) -/
def tsLogW1Result : Fld := { off := 0x80, lo := 13, w := 3, cls := .ro }
/-- TS_LOG_W1.DETAIL (R316) -/
def tsLogW1Detail : Fld := { off := 0x80, lo := 16, w := 4, cls := .ro }
/-- TS_LOG_W1.MEASURE (R325) -/
def tsLogW1Measure : Fld := { off := 0x80, lo := 32, w := 16, cls := .ro }
/-- TS_LOG_W1.VALID (R325) -/
def tsLogW1Valid : Fld := { off := 0x80, lo := 63, w := 1, cls := .ro }
/-- TS_REPAIR.SOFT_USED (R325) -/
def tsRepairSoftUsed : Fld := { off := 0x88, lo := 0, w := 16, cls := .ro }
/-- TS_REPAIR.FUSE_USED (R325) -/
def tsRepairFuseUsed : Fld := { off := 0x88, lo := 16, w := 16, cls := .ro }
/-- TS_REPAIR.FUSE_LEFT (R325) -/
def tsRepairFuseLeft : Fld := { off := 0x88, lo := 32, w := 8, cls := .ro }
/-- TS_FUSE_CMD.BURN (R323) -/
def tsFuseCmdBurn : Fld := { off := 0x90, lo := 0, w := 1, cls := .w1s }
/-- TS_TIMEBASE.JITTER_LIMIT_PS (R321) -/
def tsTimebaseJitterLimitPs : Fld := { off := 0x98, lo := 0, w := 16, cls := .l, reset := 20, min := 1 }
/-- TS_TIMEBASE.JITTER_PS (R325) -/
def tsTimebaseJitterPs : Fld := { off := 0x98, lo := 16, w := 16, cls := .ro }
/-- TS_SCAN.CLEARING (R325) -/
def tsScanClearing : Fld := { off := 0xa0, lo := 0, w := 1, cls := .ro }
/-- TS_SCAN.SCAN_ALLOWED (R325) -/
def tsScanScanAllowed : Fld := { off := 0xa0, lo := 1, w := 1, cls := .ro }
/-- TS_SCAN.ACK_PENDING (R325) -/
def tsScanAckPending : Fld := { off := 0xa0, lo := 8, w := 6, cls := .ro }
def fields0 : List Fld :=
  [tsCfgEn, tsCfgKindEn, tsCfgHoldAll, tsCfgSoftRepairEn,
   tsCfgSkipLimit, tsCfgQuietUs, tsCfgIdleUs, tsPeriodPeriodUs,
   tsBaseBase, tsPtrNext, tsStatOpen, tsStatPhase,
   tsStatIndex, tsStatSkips, tsStatLogDropped, tsEvtSliceDone,
   tsEvtSliceFail, tsEvtSliceSkipped, tsEvtPassedOver, tsEvtRotation,
   tsEvtRepaired, tsEvtRepairExhausted, tsEvtOverrun, tsEvtUnsyncWindow]
def fields1 : List Fld :=
  [tsEvtWarn, tsEvtClearDone, tsEvtZeroiseWait, tsEvtFuseDone,
   tsEvtFuseRefused, tsCountRun, tsCountSkipped, tsCountFailed,
   tsCountRotations, tsLogW0Time, tsLogW1Kind, tsLogW1Index,
   tsLogW1Result, tsLogW1Detail, tsLogW1Measure, tsLogW1Valid,
   tsRepairSoftUsed, tsRepairFuseUsed, tsRepairFuseLeft, tsFuseCmdBurn,
   tsTimebaseJitterLimitPs, tsTimebaseJitterPs, tsScanClearing, tsScanScanAllowed]
def fields2 : List Fld :=
  [tsScanAckPending]
/-- Every field of this page kind, header apart. -/
def fields : List Fld := fields0 ++ fields1 ++ fields2
end Ts

namespace Lc
/-- LC_STAT.STATE (R341) -/
def lcStatState : Fld := { off := 0x40, lo := 0, w := 4, cls := .ro }
/-- LC_STAT.INVALID (R341) -/
def lcStatInvalid : Fld := { off := 0x40, lo := 4, w := 1, cls := .ro }
/-- LC_STAT.BUSY (R345) -/
def lcStatBusy : Fld := { off := 0x40, lo := 5, w := 1, cls := .ro }
/-- LC_STAT.LEDGER_PRESENT (R340) -/
def lcStatLedgerPresent : Fld := { off := 0x40, lo := 6, w := 1, cls := .ro }
/-- LC_STAT.SLOTS_USED (R338) -/
def lcStatSlotsUsed : Fld := { off := 0x40, lo := 7, w := 2, cls := .ro }
/-- LC_STAT.TOKEN_FAILS (R344) -/
def lcStatTokenFails : Fld := { off := 0x40, lo := 16, w := 4, cls := .ro }
/-- LC_CMD.TARGET (R342) -/
def lcCmdTarget : Fld := { off := 0x48, lo := 0, w := 4, cls := .wo }
/-- LC_CMD.REQUEST (R345) -/
def lcCmdRequest : Fld := { off := 0x48, lo := 4, w := 1, cls := .wo }
/-- LC_CMD.NONCE_GEN (R344) -/
def lcCmdNonceGen : Fld := { off := 0x48, lo := 5, w := 1, cls := .wo }
/-- LC_CMD.CONFIRM (R345) -/
def lcCmdConfirm : Fld := { off := 0x48, lo := 16, w := 16, cls := .wo }
/-- LC_RESULT.CODE (R345) -/
def lcResultCode : Fld := { off := 0x50, lo := 0, w := 3, cls := .ro }
/-- DEVICE_ID.ID (R344) -/
def deviceIdId : Fld := { off := 0x58, lo := 0, w := 64, cls := .ro }
/-- RMA_NONCE.NONCE (R345) -/
def rmaNonceNonce : Fld := { off := 0x60, lo := 0, w := 64, cls := .ro, count := 2, step := 8 }
/-- LC_EVT.TRANSITION_DONE (R343) -/
def lcEvtTransitionDone : Fld := { off := 0x70, lo := 0, w := 1, cls := .w1c }
/-- LC_EVT.TRANSITION_REFUSED (R342) -/
def lcEvtTransitionRefused : Fld := { off := 0x70, lo := 1, w := 1, cls := .w1c }
/-- LC_EVT.TOKEN_FAIL (R344) -/
def lcEvtTokenFail : Fld := { off := 0x70, lo := 2, w := 1, cls := .w1c }
/-- LC_EVT.SAFELIGHT_REFUSED (R345) -/
def lcEvtSafelightRefused : Fld := { off := 0x70, lo := 3, w := 1, cls := .w1c }
/-- LC_EVT.LC_INVALID (R341) -/
def lcEvtLcInvalid : Fld := { off := 0x70, lo := 4, w := 1, cls := .w1c }
/-- SL_COUNT.SMX_ACCESSES (R345) -/
def slCountSmxAccesses : Fld := { off := 0x78, lo := 0, w := 32, cls := .ro }
/-- SL_COUNT.SMX_REFUSED (R345) -/
def slCountSmxRefused : Fld := { off := 0x78, lo := 32, w := 32, cls := .ro }
/-- RMA_TOKEN.TOKEN (R345) -/
def rmaTokenToken : Fld := { off := 0x80, lo := 0, w := 64, cls := .wo, count := 12, step := 8 }
/-- KEY_DIGEST.DIGEST (R338) -/
def keyDigestDigest : Fld := { off := 0xe0, lo := 0, w := 64, cls := .ro, count := 6, step := 8 }
def fields0 : List Fld :=
  [lcStatState, lcStatInvalid, lcStatBusy, lcStatLedgerPresent,
   lcStatSlotsUsed, lcStatTokenFails, lcCmdTarget, lcCmdRequest,
   lcCmdNonceGen, lcCmdConfirm, lcResultCode, deviceIdId,
   rmaNonceNonce, lcEvtTransitionDone, lcEvtTransitionRefused, lcEvtTokenFail,
   lcEvtSafelightRefused, lcEvtLcInvalid, slCountSmxAccesses, slCountSmxRefused,
   rmaTokenToken, keyDigestDigest]
/-- Every field of this page kind, header apart. -/
def fields : List Fld := fields0
end Lc

namespace Ldg
/-- LDG_STAT.QUEUED (R333) -/
def ldgStatQueued : Fld := { off := 0x40, lo := 0, w := 5, cls := .ro, reset := 1 }
/-- LDG_STAT.SIGNING (R345) -/
def ldgStatSigning : Fld := { off := 0x40, lo := 5, w := 1, cls := .ro }
/-- LDG_STAT.KEY_VALID (R339) -/
def ldgStatKeyValid : Fld := { off := 0x40, lo := 6, w := 1, cls := .ro }
/-- LDG_STAT.READABLE (R345) -/
def ldgStatReadable : Fld := { off := 0x40, lo := 7, w := 1, cls := .ro }
/-- LDG_STAT.BOOT_COUNT (R337) -/
def ldgStatBootCount : Fld := { off := 0x40, lo := 16, w := 16, cls := .ro }
/-- LDG_CMD.READOUT (R335) -/
def ldgCmdReadout : Fld := { off := 0x48, lo := 0, w := 1, cls := .w1s }
/-- LDG_CMD.POP (R335) -/
def ldgCmdPop : Fld := { off := 0x48, lo := 1, w := 1, cls := .w1s }
/-- LDG_EVT.RECORD_READY (R345) -/
def ldgEvtRecordReady : Fld := { off := 0x50, lo := 0, w := 1, cls := .w1c }
/-- LDG_EVT.READOUT_REFUSED (R335) -/
def ldgEvtReadoutRefused : Fld := { off := 0x50, lo := 1, w := 1, cls := .w1c }
/-- LDG_EVT.GAP (R332) -/
def ldgEvtGap : Fld := { off := 0x50, lo := 2, w := 1, cls := .w1c }
/-- LDG_EVT.QUEUE_FULL (R333) -/
def ldgEvtQueueFull : Fld := { off := 0x50, lo := 3, w := 1, cls := .w1c }
/-- LDG_EVT.EPOCH_UNSYNC (R330) -/
def ldgEvtEpochUnsync : Fld := { off := 0x50, lo := 4, w := 1, cls := .w1c }
/-- LDG_EPOCH.CLOSED (R331) -/
def ldgEpochClosed : Fld := { off := 0x58, lo := 0, w := 64, cls := .ro }
/-- LDG_PUBKEY.KEY (R338) -/
def ldgPubkeyKey : Fld := { off := 0x100, lo := 0, w := 64, cls := .ro, count := 12, step := 8 }
/-- LDG_REC.RECORD (R333) -/
def ldgRecRecord : Fld := { off := 0x400, lo := 0, w := 64, cls := .ro, count := 340, step := 8 }
def fields0 : List Fld :=
  [ldgStatQueued, ldgStatSigning, ldgStatKeyValid, ldgStatReadable,
   ldgStatBootCount, ldgCmdReadout, ldgCmdPop, ldgEvtRecordReady,
   ldgEvtReadoutRefused, ldgEvtGap, ldgEvtQueueFull, ldgEvtEpochUnsync,
   ldgEpochClosed, ldgPubkeyKey, ldgRecRecord]
/-- Every field of this page kind, header apart. -/
def fields : List Fld := fields0
end Ldg

namespace Hdr
/-- PAGE_ID.PAGE (R356) -/
def pageIdPage : Fld := { off := 0x0, lo := 0, w := 16, cls := .ro }
/-- PAGE_ID.KIND (R356) -/
def pageIdKind : Fld := { off := 0x0, lo := 16, w := 8, cls := .ro }
/-- PAGE_ID.EP_TYPE (R15) -/
def pageIdEpType : Fld := { off := 0x0, lo := 24, w := 4, cls := .ro }
/-- PAGE_ID.UNIT (R363) -/
def pageIdUnit : Fld := { off := 0x0, lo := 32, w := 8, cls := .ro }
/-- PAGE_REV.LAYOUT (R363) -/
def pageRevLayout : Fld := { off := 0x8, lo := 0, w := 8, cls := .ro, reset := 1 }
/-- PAGE_CTRL.COMMIT (R360) -/
def pageCtrlCommit : Fld := { off := 0x10, lo := 0, w := 1, cls := .w1s }
/-- PAGE_CTRL.ABORT (R360) -/
def pageCtrlAbort : Fld := { off := 0x10, lo := 1, w := 1, cls := .w1s }
/-- PAGE_CTRL.QUIESCE (R359) -/
def pageCtrlQuiesce : Fld := { off := 0x10, lo := 2, w := 1, cls := .l }
/-- PAGE_CTRL.GC_JOIN (R361) -/
def pageCtrlGcJoin : Fld := { off := 0x10, lo := 3, w := 1, cls := .w1s }
/-- PAGE_CTRL.GC_LEAVE (R361) -/
def pageCtrlGcLeave : Fld := { off := 0x10, lo := 4, w := 1, cls := .w1s }
/-- PAGE_STAT.QUIESCED (R359) -/
def pageStatQuiesced : Fld := { off := 0x18, lo := 0, w := 1, cls := .ro }
/-- PAGE_STAT.STAGED (R363) -/
def pageStatStaged : Fld := { off := 0x18, lo := 1, w := 1, cls := .ro }
/-- PAGE_STAT.GC_JOINED (R361) -/
def pageStatGcJoined : Fld := { off := 0x18, lo := 2, w := 1, cls := .ro }
/-- PAGE_STAT.DOMAIN_ON (R363) -/
def pageStatDomainOn : Fld := { off := 0x18, lo := 3, w := 1, cls := .ro }
/-- PAGE_STAT.PRESENT (R340) -/
def pageStatPresent : Fld := { off := 0x18, lo := 4, w := 1, cls := .ro, reset := 1 }
/-- PAGE_STAT.LOCKED (R363) -/
def pageStatLocked : Fld := { off := 0x18, lo := 5, w := 1, cls := .ro }
/-- PAGE_STAT.COMMITS (R363) -/
def pageStatCommits : Fld := { off := 0x18, lo := 32, w := 32, cls := .ro }
/-- PAGE_ERR.STATIC_WRITE (R358) -/
def pageErrStaticWrite : Fld := { off := 0x20, lo := 0, w := 1, cls := .w1c }
/-- PAGE_ERR.RESERVED_ENC (R6) -/
def pageErrReservedEnc : Fld := { off := 0x20, lo := 1, w := 1, cls := .w1c }
/-- PAGE_ERR.LK_WRITE (R358) -/
def pageErrLkWrite : Fld := { off := 0x20, lo := 2, w := 1, cls := .w1c }
/-- PAGE_ERR.STATE_WRITE (R363) -/
def pageErrStateWrite : Fld := { off := 0x20, lo := 3, w := 1, cls := .w1c }
/-- PAGE_ERR.ERR_OFFSET (R363) -/
def pageErrErrOffset : Fld := { off := 0x20, lo := 32, w := 12, cls := .ro }
/-- IRQ_STAT.STAT (R363) -/
def irqStatStat : Fld := { off := 0x28, lo := 0, w := 64, cls := .w1c }
/-- IRQ_EN.EN (R287) -/
def irqEnEn : Fld := { off := 0x30, lo := 0, w := 64, cls := .l }
/-- IRQ_SET.SET (R363) -/
def irqSetSet : Fld := { off := 0x38, lo := 0, w := 64, cls := .w1s }
def fields0 : List Fld :=
  [pageIdPage, pageIdKind, pageIdEpType, pageIdUnit,
   pageRevLayout, pageCtrlCommit, pageCtrlAbort, pageCtrlQuiesce,
   pageCtrlGcJoin, pageCtrlGcLeave, pageStatQuiesced, pageStatStaged,
   pageStatGcJoined, pageStatDomainOn, pageStatPresent, pageStatLocked,
   pageStatCommits, pageErrStaticWrite, pageErrReservedEnc, pageErrLkWrite,
   pageErrStateWrite, pageErrErrOffset, irqStatStat, irqEnEn]
def fields1 : List Fld :=
  [irqSetSet]
/-- Every field of this page kind, header apart. -/
def fields : List Fld := fields0 ++ fields1
end Hdr

namespace Smx
/-- SMX_CFG.REMAP (R347) -/
def smxCfgRemap : Fld := { off := 0x40, lo := 0, w := 1, cls := .s }
/-- SMX_BOOT.BOOT_DONE (R354) -/
def smxBootBootDone : Fld := { off := 0x48, lo := 0, w := 1, cls := .w1s }
/-- SMX_EVT.DECODE_ERR (R363) -/
def smxEvtDecodeErr : Fld := { off := 0x50, lo := 0, w := 1, cls := .w1c }
/-- SMX_EVT.TARGET_ERR (R363) -/
def smxEvtTargetErr : Fld := { off := 0x50, lo := 1, w := 1, cls := .w1c }
/-- SMX_EVT.BRIDGE_ERR (R355) -/
def smxEvtBridgeErr : Fld := { off := 0x50, lo := 2, w := 1, cls := .w1c }
/-- SMX_EVT.BOOT_END (R363) -/
def smxEvtBootEnd : Fld := { off := 0x50, lo := 3, w := 1, cls := .w1c }
/-- SMX_ERR_ADDR.ADDR (R349) -/
def smxErrAddrAddr : Fld := { off := 0x58, lo := 0, w := 64, cls := .ro }
/-- SMX_ERR_INFO.MASTER (R346) -/
def smxErrInfoMaster : Fld := { off := 0x60, lo := 0, w := 3, cls := .ro }
/-- SMX_ERR_INFO.TARGET (R347) -/
def smxErrInfoTarget : Fld := { off := 0x60, lo := 3, w := 3, cls := .ro }
/-- SMX_ERR_INFO.CAUSE (R363) -/
def smxErrInfoCause : Fld := { off := 0x60, lo := 6, w := 4, cls := .ro }
/-- SMX_ERR_INFO.STATUS (R46) -/
def smxErrInfoStatus : Fld := { off := 0x60, lo := 10, w := 4, cls := .ro }
/-- SMX_ERR_INFO.WRITE (R363) -/
def smxErrInfoWrite : Fld := { off := 0x60, lo := 14, w := 1, cls := .ro }
/-- SMX_ERR_INFO.VALID (R363) -/
def smxErrInfoValid : Fld := { off := 0x60, lo := 63, w := 1, cls := .ro }
/-- SMX_COUNT.ERRORS (R363) -/
def smxCountErrors : Fld := { off := 0x68, lo := 0, w := 32, cls := .ro }
/-- SMX_COUNT.ORDER_HOLDS (R352) -/
def smxCountOrderHolds : Fld := { off := 0x68, lo := 32, w := 32, cls := .ro }
def fields0 : List Fld :=
  [smxCfgRemap, smxBootBootDone, smxEvtDecodeErr, smxEvtTargetErr,
   smxEvtBridgeErr, smxEvtBootEnd, smxErrAddrAddr, smxErrInfoMaster,
   smxErrInfoTarget, smxErrInfoCause, smxErrInfoStatus, smxErrInfoWrite,
   smxErrInfoValid, smxCountErrors, smxCountOrderHolds]
/-- Every field of this page kind, header apart. -/
def fields : List Fld := fields0
end Smx

end Sys2Proof.Machine
end

