-- ==== Sys2Proof/Machine/Ops.lean ====
section
/-! DEFINITION. The named operations over tables, register fields, units and the working SRAM: every read and write of
a register field goes through `fget`, `sget` and `fset` (spec/15 R356 to R358). -/

namespace Sys2Proof.Machine

/-- What a command's meaning answers. -/
abbrev Out := Host.Outcome State Fault Refusal

/-! ## Sparse tables -/

/-- The entry listed for a key. -/
def tfind {α : Type} : Tbl α → Nat → Option α
  | [], _ => none
  | (j, a) :: t, k => if j = k then some a else tfind t k

/-- The entry of a key, `d` when none is listed. -/
def tget {α : Type} (d : α) (t : Tbl α) (k : Nat) : α := (tfind t k).getD d

/-- Lists `a` at `k`, in key order. -/
def tins {α : Type} : Tbl α → Nat → α → Tbl α
  | [], k, a => [(k, a)]
  | (j, b) :: t, k, a =>
    if j = k then (k, a) :: t else if k < j then (k, a) :: (j, b) :: t else (j, b) :: tins t k a

/-- Lists nothing at `k`. -/
def tdel {α : Type} : Tbl α → Nat → Tbl α
  | [], _ => []
  | (j, b) :: t, k => if j = k then tdel t k else (j, b) :: tdel t k

/-- Sets the entry of a key; a value equal to the default is not listed. -/
def tput {α : Type} [DecidableEq α] (d : α) (t : Tbl α) (k : Nat) (a : α) : Tbl α :=
  if a = d then tdel t k else tins t k a

/-- Applies a function to every element of a list that a test picks. -/
def mapIf {α : Type} (c : α → Bool) (f : α → α) (l : List α) : List α := l.map (fun a => if c a then f a else a)

/-- Applies `f` only when `c` holds. -/
def onlyIf {σ : Type} (c : Bool) (f : σ → σ) (s : σ) : σ := if c then f s else s

/-- Folds a state change over a list, first element first. -/
def forEach {α σ : Type} (l : List α) (f : α → σ → σ) (s : σ) : σ := l.foldl (fun t a => f a t) s

/-! ## Pages and register fields (R356 to R358) -/

/-- Page kinds (R356). -/
inductive Kind
  | fg | time | smx | power | strip | lc | ledger | art | artw | rsv | cp | router | ni | fqw
  deriving DecidableEq, Repr

/-- KIND code of PAGE_ID. -/
def Kind.code : Kind → Nat
  | .fg => 0x00 | .time => 0x01 | .smx => 0x02 | .power => 0x03 | .strip => 0x04 | .lc => 0x05 | .ledger => 0x06
  | .art => 0x08 | .artw => 0x09 | .rsv => 0x0A | .cp => 0x0B | .router => 0x40 | .ni => 0x80 | .fqw => 0xC0

def pgFg : Nat := 0
def pgTime : Nat := 1
def pgSmx : Nat := 2
def pgPower : Nat := 3
def pgStrip : Nat := 4
def pgLc : Nat := 5
def pgLedger : Nat := 6
def pgArt : Nat := 8
def pgArtw : Nat := 9
def pgRsv : Nat := 10
def pgCp : Nat := 11
def pgRouter (r : Nat) : Nat := 0x40 + r
def pgNi (p : Nat) : Nat := 0x100 + p
def pgFqw (h : Nat) : Nat := 0x200 + h

/-- Kind of an assigned page. -/
def kindOf (page : Nat) : Option Kind :=
  if page < 0x40 then
    match page with
    | 0 => some .fg | 1 => some .time | 2 => some .smx | 3 => some .power | 4 => some .strip | 5 => some .lc
    | 6 => some .ledger | 8 => some .art | 9 => some .artw | 10 => some .rsv | 11 => some .cp
    | _ => none
  else if page < 0x80 then some .router
  else if page < 0x100 then none
  else if page < 0x200 then some .ni
  else if page < 0x210 then some .fqw
  else none

/-- Router number, port or host ordinal of a page; 0 for single pages. -/
def unitOf (page : Nat) : Nat :=
  if 0x40 ≤ page ∧ page < 0x80 then page - 0x40
  else if 0x100 ≤ page ∧ page < 0x200 then page - 0x100
  else if 0x200 ≤ page ∧ page < 0x210 then page - 0x200
  else 0

/-- The register tables by page kind. -/
def fieldsOf : Kind → List Fld
  | .fg => Fg.fields | .time => Tu.fields | .smx => Smx.fields | .power => Pwr.fields | .strip => Ts.fields
  | .lc => Lc.fields | .ledger => Ldg.fields | .art => Art.fields | .artw => Artw.fields | .rsv => Rsv.fields
  | .cp => Cp.fields | .router => Rtr.fields | .ni => Ni.fields | .fqw => Fqw.fields

/-- Key of a field: page, offset, low bit, and array or selector index. -/
def fkey (page : Nat) (f : Fld) (i : Nat) : Nat := ((page * 512 + f.off / 8) * 64 + f.lo) * 4096 + i

/-- Reset values of SYN_OFFSET (R174). -/
def synReset (prio : Nat) : Nat :=
  match prio with
  | 0 => 20000 | 1 => 10000 | 2 => 5000 | 3 => 2000 | 4 => 1000 | 5 => 500 | 6 => 200 | _ => 100

/-- A field's value after reset: its Reset column, or what the field's description gives per index or per port. -/
def resetOf (page : Nat) (f : Fld) (i : Nat) : Nat :=
  match kindOf page with
  | some .fg => if f.off = 0x200 then synReset i else f.reset
  | some .art =>
    -- Default Map entry 0 (R223)
    if f.off = 0x200 ∧ i = 0 then
      match f.lo with
      | 46 => 63 | 52 => 4 | 55 => 2 | 57 => 1 | 58 => 1 | 59 => 1 | _ => 0
    else if f.off = 0x208 ∧ i = 0 then 0x3FFFFFFFFFFF
    else f.reset
  | some .ni =>
    -- WDOG_CFG.ACTION (R243)
    if f.off = 0x210 ∧ f.lo = 32 then
      match portType (unitOf page) with
      | .mem | .ncache | .crypt | .comp | .tier | .dir => 1
      | _ => 0
    else f.reset
  | _ => f.reset

/-- The value in force of a field. -/
def fget (s : State) (page : Nat) (f : Fld) (i : Nat := 0) : Nat :=
  tget (resetOf page f i) s.regs (fkey page f i) % 2 ^ f.w

/-- Sets a field's value in force, truncated to its width. -/
def fset (page : Nat) (f : Fld) (v : Nat) (s : State) (i : Nat := 0) : State :=
  { s with regs := tput (resetOf page f i) s.regs (fkey page f i) (v % 2 ^ f.w) }

/-- A one-bit field as a truth value. -/
def fbit (s : State) (page : Nat) (f : Fld) (i : Nat := 0) : Bool := fget s page f i == 1
def fsetB (page : Nat) (f : Fld) (b : Bool) (s : State) (i : Nat := 0) : State := fset page f b.toNat s i

/-- The staged copy of a field (R358). -/
def sget (s : State) (page : Nat) (f : Fld) (i : Nat := 0) : Nat :=
  tget (fget s page f i) s.staged (fkey page f i) % 2 ^ f.w

/-- Writes the staged copy of a field; PAGE_STAT.STAGED sets (R363). -/
def sset (page : Nat) (f : Fld) (v : Nat) (s : State) (i : Nat := 0) : State :=
  { fset page Hdr.pageStatStaged 1 s with
    staged := tput (fget s page f i) s.staged (fkey page f i) (v % 2 ^ f.w)
    stagedNow := if s.stagedNow.contains page then s.stagedNow else page :: s.stagedNow }

/-- Page of a key. -/
def keyPage (k : Nat) : Nat := k / (512 * 64 * 4096)

/-- The field of a key; none for a field of the common header. -/
def fieldAt (k : Nat) : Option Fld :=
  match kindOf (keyPage k) with
  | none => none
  | some kd => (fieldsOf kd).find? (fun f => f.off == k / (64 * 4096) % 512 * 8 && f.lo == k / 4096 % 64)

/-- Reset value at a key, for a commit. -/
def resetAt (k : Nat) : Nat :=
  match fieldAt k with
  | none => 0
  | some f => resetOf (keyPage k) f (k % 4096)

/-- Every staged copy of a page that differs takes force (R360). -/
def mergeStaged (page : Nat) (s : State) : State :=
  { s with
    regs := (s.staged.filter (fun e => keyPage e.1 == page)).foldl (fun t e => tput (resetAt e.1) t e.1 e.2) s.regs
    staged := s.staged.filter (fun e => keyPage e.1 != page) }

/-- Every staged copy of a page takes the value in force (R360). -/
def dropStaged (page : Nat) (s : State) : State :=
  { s with staged := s.staged.filter (fun e => keyPage e.1 != page) }

/-- The fields of a page that meet a test return to their reset values, in force and staged. -/
def clearFields (page : Nat) (c : Fld → Bool) (s : State) : State :=
  let out (e : Nat × Nat) : Bool := keyPage e.1 == page && (fieldAt e.1).any c
  { s with regs := s.regs.filter (fun e => !out e), staged := s.staged.filter (fun e => !out e) }

/-- Event flags, counters and other status of a page. -/
def isStatus (f : Fld) : Bool := f.cls == .ro || f.cls == .w1c
/-- Configuration fields (R358). -/
def isConfig (f : Fld) : Bool := f.cls == .s || f.cls == .g || f.cls == .l

/-- A field returns to its reset value. -/
def fclear (page : Nat) (f : Fld) (s : State) (i : Nat := 0) : State :=
  { s with regs := tdel s.regs (fkey page f i) }

/-! ## Units -/

def chan (s : State) (c : Nat) : Chan := tget {} s.chans c
def setChan (c : Nat) (x : Chan) (s : State) : State := { s with chans := tput {} s.chans c x }
def modChan (c : Nat) (f : Chan → Chan) (s : State) : State := setChan c (f (chan s c)) s
def router (s : State) (r : Nat) : Router := tget {} s.routers r
def setRouter (r : Nat) (x : Router) (s : State) : State := { s with routers := tput {} s.routers r x }
def modRouter (r : Nat) (f : Router → Router) (s : State) : State := setRouter r (f (router s r)) s
def ni (s : State) (p : Nat) : Ni := tget {} s.nis p
def setNi (p : Nat) (x : Ni) (s : State) : State := { s with nis := tput {} s.nis p x }
def modNi (p : Nat) (f : Ni → Ni) (s : State) : State := setNi p (f (ni s p)) s

/-- The receive buffer of a channel's VC. -/
def vcBuf (s : State) (c v : Nat) : VcBuf := tget {} (chan s c).vcs v
def modVc (c v : Nat) (f : VcBuf → VcBuf) (s : State) : State :=
  modChan c (fun x => { x with vcs := tput {} x.vcs v (f (tget {} x.vcs v)) }) s

/-- The entry of a tag in a port's transaction table; none when FREE (R96). -/
def entry (s : State) (p tag : Nat) : Option Entry := tget none (ni s p).entries tag
/-- Activity of this cycle restarts the idle count of N1 (R293). -/
def stirred (n : Ni) : Ni := { n with idle := 0, active := true }

/-- Writes an entry; a change of its state restarts the idle count of N1 (R293). -/
def setEntry (p tag : Nat) (e : Option Entry) (s : State) : State :=
  modNi p (fun n =>
    let m := { n with entries := tput none n.entries tag e }
    if (tget none n.entries tag).map (·.st) = e.map (·.st) then m else stirred m) s
def modEntry (p tag : Nat) (f : Entry → Entry) (s : State) : State := setEntry p tag ((entry s p tag).map f) s

/-- The entries that a port holds, with their tags, in tag order. -/
def entriesOf (n : Ni) : List (Nat × Entry) := n.entries.filterMap (fun e => e.2.map (fun x => (e.1, x)))

/-! ## Time and free values -/

/-- The replica MTIME in whole nanoseconds (R153, R157); replicas equal MTIME (log entry 6). -/
def nowNs (s : State) : Nat := s.mtime.toNat / 4

/-- Takes a fresh draw of the free values (log entry 2). -/
def draw (s : State) : Nat × State := (s.free, { s with free := s.free + 1 })

/-! ## Working SRAM (R347, R350): 256 KiB of bytes -/

/-- Byte `i` of a word. -/
def byteOf (w : Word) (i : Nat) : Byte := w.extractLsb' (8 * i) 8

/-- What an SRAM byte that nothing has written reads as: zero (log entry 7), and the boot ROM's byte once the boot
sequencer has copied the loader into the first 64 KiB, or what a copy that did not read back equal left there (R365). -/
def sramDefault (x : Smx) (a : Nat) : Byte :=
  if x.romCopied && a < 65536 then byteOf (if x.copyBad then Config.badCopy (a / 8) else Config.bootRom (a / 8)) (a % 8)
  else 0

/-- Reads and writes a byte, in canonical form: addresses rise strictly, and no cell outside the copied loader holds the
zero that an unlisted address reads as. Inside the copied loader every written byte stays listed, since what an
unlisted byte reads as there is free. -/
def sramByte (s : State) (a : Nat) : Byte := tget (sramDefault s.smx a) s.mem a
def sramPut (a : Nat) (b : Byte) (s : State) : State :=
  { s with mem := if s.smx.romCopied && a < 65536 then tins s.mem a b else tput 0 s.mem a b }

/-- The canonical form of the working SRAM. -/
def cellsRise : List Host.Cell → Bool
  | [] => true
  | [_] => true
  | (a, _) :: (b, y) :: t => a < b && cellsRise ((b, y) :: t)
def memWf (s : State) : Bool := cellsRise s.mem && s.mem.all (fun c => (s.smx.romCopied && c.1 < 65536) || c.2 != 0)

/-- A 64-bit word at an 8-byte aligned address, little-endian (R3). -/
def sramWord (s : State) (a : Nat) : Word :=
  sramByte s (a + 7) ++ sramByte s (a + 6) ++ sramByte s (a + 5) ++ sramByte s (a + 4)
    ++ sramByte s (a + 3) ++ sramByte s (a + 2) ++ sramByte s (a + 1) ++ sramByte s a

/-- Writes the bytes whose strobes are set. -/
def sramWrite (a : Nat) (w : Word) (strobes : BitVec 8) (s : State) : State :=
  forEach (List.range 8) (fun i t => onlyIf (strobes.getLsbD i) (sramPut (a + i) (byteOf w i)) t) s

end Sys2Proof.Machine
end

