-- ==== Sys2Proof/Machine/Flags.lean ====
section
/-! DEFINITION. Counters and flags: saturating and wrapping counts, event flags, PAGE_ERR (R358), the error log (R264),
the quality of time and the marks of a firing (R136, R143, R145), and what every page of a domain is told. -/

namespace Sys2Proof.Machine

/-- Adds to a counter that saturates, or that wraps. -/
def satAdd (page : Nat) (f : Fld) (n : Nat) (s : State) (i : Nat := 0) : State :=
  fset page f (min (fget s page f i + n) (2 ^ f.w - 1)) s i
def wrapAdd (page : Nat) (f : Fld) (n : Nat) (s : State) (i : Nat := 0) : State := fset page f (fget s page f i + n) s i
/-- Keeps the greater of a field and a value, saturating. -/
def maxIn (page : Nat) (f : Fld) (v : Nat) (s : State) (i : Nat := 0) : State :=
  fset page f (max (fget s page f i) (min v (2 ^ f.w - 1))) s i
/-- Sets a one-bit flag. -/
def flag (page : Nat) (f : Fld) (s : State) (i : Nat := 0) : State := fset page f 1 s i
/-- Sets bit `k` of a field that holds a mask. -/
def flagBit (page : Nat) (f : Fld) (k : Nat) (s : State) : State := fset page f (fget s page f ||| 2 ^ k) s
def unflagBit (page : Nat) (f : Fld) (k : Nat) (s : State) : State :=
  fset page f (fget s page f - (if (fget s page f).testBit k then 2 ^ k else 0)) s

/-- An IRQ_STAT bit held only in the header (R363). -/
def irqHold (page bit : Nat) (s : State) : State := flagBit page Hdr.irqStatStat bit s

/-- Sets a PAGE_ERR flag for a write at `off`, with ERR_OFFSET of the first error and PAGE_ERR_ANY (R358, R363). -/
def pageErr (page : Nat) (f : Fld) (off : Nat) (s : State) : State :=
  let clear := fget s page Hdr.pageErrStaticWrite == 0 && fget s page Hdr.pageErrReservedEnc == 0
    && fget s page Hdr.pageErrLkWrite == 0 && fget s page Hdr.pageErrStateWrite == 0
  irqHold page 63 (flag page f (onlyIf clear (fset page Hdr.pageErrErrOffset off) s))
def errReserved (page off : Nat) (s : State) : State := pageErr page Hdr.pageErrReservedEnc off s
def errState (page off : Nat) (s : State) : State := pageErr page Hdr.pageErrStateWrite off s

/-! ## Error log (R264) -/

def eTiedOff : Nat := 0
def eInvalidRoute : Nat := 1
def eMalformed : Nat := 2
def eHops : Nat := 3
def eNiRefused : Nat := 4
def eRank : Nat := 5
def eStray : Nat := 6
def eLinkLost : Nat := 7
def eLinkDown : Nat := 8
def eWdog : Nat := 9
def eIsolated : Nat := 10
def eNoReceipt : Nat := 11
def eSvcDiscard : Nat := 12

/-- Reports an event to the error log: a record, or a drop when 64 are held. -/
def errRecord (kind : Nat) (unitNi : Bool) (unit port : Nat) (w0 w1 : Word) (s : State) : State :=
  if 64 ≤ s.errLog.length then
    flag pgFg Fg.faultEvtErrLogOvf (satAdd pgFg Fg.errLogStatDropped 1 s)
  else
    let w2 := kind + unitNi.toNat * 2 ^ 4 + unit * 2 ^ 5 + port * 2 ^ 13 + (nowNs s % 2 ^ 30) * 2 ^ 32 + 2 ^ 63
    flag pgFg Fg.faultEvtErrLogged { s with errLog := s.errLog ++ [⟨w0, w1, BitVec.ofNat 64 w2⟩] }

/-- A record that carries Q0 of a header. -/
def errQ0 (kind : Nat) (unitNi : Bool) (unit port : Nat) (h : Header) (s : State) : State :=
  errRecord kind unitNi unit port ((headQ0 h).extractLsb' 0 64) ((headQ0 h).extractLsb' 64 64) s
def errNi (kind p : Nat) (h : Header) (s : State) : State := errQ0 kind true p 0 h s

/-! ## The quality of time (R136) -/

def tsFreerun : Nat := 0
def tsAcquire : Nat := 1
def tsSlew : Nat := 2
def tsLocked : Nat := 3
def tsHoldover : Nat := 4
def tsSwDisc : Nat := 5

def timeState (s : State) : Nat := fget s pgTime Tu.timeStatState
def synced (s : State) : Bool := timeState s == tsLocked || timeState s == tsSwDisc

/-- TIME_STAT.OFFSET: the remaining slew offset, two's complement, saturating. -/
def offsetField (s : State) : Nat := (max (-32768) (min 32767 s.time.offset) % 65536).toNat

/-- Marks of a firing (R143, R145). -/
structure Firing where
  unsync : Bool
  late : Bool
  missed : Nat
  /-- The scheduled time: T_last of a periodic event. -/
  target : Nat
  deriving DecidableEq, Repr

/-- SOURCE codes of the comparators (R144). -/
def srcGc : Nat := 0
def srcSwap : Nat := 1
def srcFlip : Nat := 2
def srcLedger : Nat := 3
def srcStrip : Nat := 4
def srcTimer (k : Nat) : Nat := 8 + k

/-- The AON domain runs on the bypass clock from L4 to L6 (R292). -/
def onBypass (s : State) : Bool := s.power.trans == some .l5

/-- What a comparator finds when it fires an event of time `t` and period `period` (0: one-shot): T_last, and the count
of grid values that never fire. -/
def firing (s : State) (src t period : Nat) : Firing :=
  let k := if period = 0 then 0 else (s.mtime.toNat - t) / period
  { unsync := !synced s, late := s.time.late.contains src || 1 ≤ k || onBypass s, missed := k, target := t + k * period }

/-- R145: flags, counts and the record of a firing that is unsynchronised, LATE or MISSED. The LATE mark is spent. -/
def logFiring (src : Nat) (f : Firing) (s : State) : State :=
  let s := { s with time := { s.time with late := s.time.late.filter (· != src) } }
  if !f.unsync && !f.late then s
  else
    let s := onlyIf f.unsync (fun s => flag pgTime Tu.timeEvtUnsyncFire (satAdd pgTime Tu.fireCountsUnsyncFires 1 s)) s
    let s := onlyIf f.late (flag pgTime Tu.timeEvtLateFire) s
    if 32 ≤ s.time.log.length then
      flag pgTime Tu.timeEvtEvtLogOvf (satAdd pgTime Tu.fireCountsLogDropped 1 s)
    else
      let w1 := src + timeState s * 2 ^ 4 + f.late.toNat * 2 ^ 7 + min f.missed 0xFFFF * 2 ^ 16
        + offsetField s * 2 ^ 32 + 2 ^ 63
      { s with time := { s.time with log := s.time.log ++ [⟨BitVec.ofNat 64 f.target, BitVec.ofNat 64 w1, 0⟩] } }

/-- An event armed with T at or below MTIME fires LATE (R143). -/
def markArm (src t : Nat) (s : State) : State :=
  let rest := s.time.late.filter (· != src)
  { s with time := { s.time with late := if t ≤ s.mtime.toNat then src :: rest else rest } }

/-- Whether MTIME has reached an armed time. -/
def due (s : State) (t : Option Nat) : Bool :=
  match t with
  | some t => t ≤ s.mtime.toNat
  | none => false

/-! ## Other shared flags -/

/-- The Reservation Table takes a command or re-check, or keeps it waiting while one runs (R207). -/
def queueRsv (j : RsvJob) (s : State) : State :=
  match s.rsvRun with
  | none => { s with rsvRun := some j }
  | some _ => { s with rsvWait := s.rsvWait ++ [j] }
/-- Asks for a re-check with a cause (R210). -/
def queueRecheck (cause : Nat) (s : State) : State := queueRsv (.recheck cause) s

/-- LINK_CHANGE of a router page (R363). -/
def linkChange (r : Nat) (s : State) : State := irqHold (pgRouter r) 1 s

/-- The injection epoch (R88). -/
def injEpoch (s : State) : Bool := fbit s pgFg Fg.rtEpochStatInjEpoch

end Sys2Proof.Machine
end

