-- ==== Sys2Proof/Machine/Link.lean ====
section
/-! DEFINITION. Directed channels: buffers and credits (spec/03 R70 to R72), the sideband, link replay (R75 to R77), and
the reception of a flit (R34 to R36). -/

namespace Sys2Proof.Machine

/-- FSTATE of the fabric (spec/12): 0 F0, 1 F3_ENTRY, 2 F3, 3 F3_WAKE; and NSTATE of an NI: 0 N0, 1 N1, 2 N2. -/
def fstate (s : State) : Nat := fget s pgPower Pwr.pwrStatFstate
def nstate (s : State) (p : Nat) : Nat := fget s pgPower Pwr.pwrNiStatNstate p
/-- FAB is powered in every fabric state but F3, and in F3_WAKE once the supply is good (R25, R304). -/
def fabOn (s : State) : Bool := fstate s == 0 || fstate s == 1 || (fstate s == 3 && s.power.supply)

/-- The router whose RTR_CFG bounds a channel's receiver (spec/03, Router page registers). -/
def rxRouter (c : Nat) : Nat :=
  match chanEnd c with
  | .inl p => p / 4
  | .inr (r, _) => r

/-- Router and port index that count a channel's link errors (R254). -/
def linkOwner (c : Nat) : Nat × Nat :=
  match chanEnd c with
  | .inl p => (p / 4, p % 4)
  | .inr (r, i) => (r, i)

/-- Router and port index at the sending end; the local port of the router for an NI's channel (R254). -/
def txOwner (c : Nat) : Nat × Nat := if 1024 ≤ c then ((c - 1024) / 4, (c - 1024) % 4) else (c / 16, c % 16)

/-- STATE of port index `i` in LINK_STATE (R94). -/
def linkCode (s : State) (r i : Nat) : Nat :=
  if !hasPort r i || (i < 4 && !isLive (4 * r + i)) then 0
  else
    let c := chan s (outChan r i)
    let d := chan s (inChan r i)
    if c.st == .down || d.st == .down then 3
    else if c.st == .up && d.st == .up && !c.retraining && !d.retraining then 2
    else 1

/-- LINK_CHANGE sets at each end of a channel's link whose LINK_STATE is not what it was before (R363). -/
def noteLink (c : Nat) (was s : State) : State :=
  let at' (o : Nat × Nat) (s : State) : State := onlyIf (linkCode was o.1 o.2 != linkCode s o.1 o.2) (linkChange o.1) s
  at' (txOwner c) (at' (linkOwner c) s)

def nonaMax (s : State) (c : Nat) : Nat := fget s (pgRouter (rxRouter c)) Rtr.rtrCfgNonaSharedMax
def vcMax (s : State) (c : Nat) : Nat := fget s (pgRouter (rxRouter c)) Rtr.rtrCfgVcSharedMax

/-- shared(v) (R70). -/
def sharedOf (x : Chan) (v : Nat) : Nat := tget 0 x.occ v - 2

/-- Sum of shared(v) over VCs 0 to 13, and over all 16 (R70). -/
def sharedNonA (x : Chan) : Nat := ((List.range 14).map (sharedOf x)).sum
def sharedAll (x : Chan) : Nat := ((List.range 16).map (sharedOf x)).sum

/-- free(o, v): flits of VC `v` that R70 still allows on the channel (R79). -/
def room (s : State) (c v : Nat) : Nat :=
  let x := chan s c
  (2 - tget 0 x.occ v)
    + min (vcMax s c - sharedOf x v) (min (48 - sharedAll x) (if v < 14 then nonaMax s c - sharedNonA x else 48))

/-- No router or NI starts a flit from L3 to L7 of a level transition (R290). -/
def flowHold (s : State) : Bool :=
  s.power.trans == some .l3 || s.power.trans == some .l5 || s.power.trans == some .l6

/-- FCLK of the fabric stands or its links retrain: L4 to L6 of a level transition (R290). -/
def fclkHeld (s : State) : Bool := s.power.trans == some .l5 || s.power.trans == some .l6

/-- The link carries flits: UP and not retraining, with FCLK running (R77, R94, R290). -/
def carries (s : State) (c : Nat) : Bool :=
  fabOn s && !fclkHeld s && hasChan c && (chan s c).st == .up && (chan s (revChan c)).st == .up && !(chan s c).retraining

/-- A sequenced flit may be sent: the link carries, the replay buffer has room, no replay is owed, and no flit has
entered the channel in this cycle (R12, R75, R76). -/
def canSequence (s : State) (c : Nat) : Bool :=
  carries s c && !flowHold s && (chan s c).replay.length < 32 && !(chan s c).naked && !(chan s c).sent

/-- R71 allows a DATA flit, or a HEAD flit, of VC `v`. -/
def canData (s : State) (c v : Nat) : Bool := canSequence s c && 1 ≤ room s c v
def canHead (s : State) (c v : Nat) : Bool :=
  canData s c v && tget none (chan s c).openTx v == none && (!isEscVc v || tget 0 (chan s c).occ v == 0)

/-- What a channel carries in a cycle without a HEAD, a DATA flit or a credit: an empty IDLE flit with ACK_SEQ and NAK for the
link's other direction, which has no sequence number (R32, R35, R75, R76). -/
def idleFlit (s : State) (c : Nat) : Flit :=
  let rx := chan s (revChan c)
  { body := .idle, vc := 0, seq := 0, ack := some ((rx.expSeq + 255) % 256), nak := rx.nakOn, crd := none }

/-- Sends one flit on a channel, with the sideband of its link's other direction: ACK_SEQ, NAK and one credit (R35,
R72, R75, R76). `h` is the packet's header. -/
def sendFlit (c v : Nat) (body : FlitBody) (h : Header) (s : State) : State :=
  let rx := chan s (revChan c)
  let x := chan s c
  let crd := rx.owed.head?
  let sequenced := body != .idle || crd.isSome
  let f : Flit :=
    { body := body, vc := v, seq := if sequenced then x.nextSeq else 0, ack := some ((rx.expSeq + 255) % 256),
      nak := rx.nakOn, crd := crd }
  let occ := if body == .idle then x.occ else tput 0 x.occ v (tget 0 x.occ v + 1)
  let openTx :=
    match body with
    | .idle => x.openTx
    | .head _ tail => tput none x.openTx v (if tail then none else some h)
    | .data _ tail => if tail then tput none x.openTx v none else x.openTx
    -- a sender drives no reserved FT
    | .reserved _ _ => x.openTx
  let s := setChan c { x with
    wire := x.wire ++ [encodeFlit f], occ := occ, openTx := openTx, sent := true
    replay := if sequenced then x.replay ++ [(f, h)] else x.replay
    nextSeq := if sequenced then (x.nextSeq + 1) % 256 else x.nextSeq } s
  modChan (revChan c) (fun y => { y with owed := y.owed.tail, ackNews := false }) s

/-- The receiver returns one credit of VC `v` for a flit that has left an input slot (R72). -/
def returnCredit (c v : Nat) (n : Nat) (s : State) : State :=
  modChan c (fun x => { x with owed := x.owed ++ List.replicate n v }) s

/-- An ACK_SEQ frees the replay entries up to and including it (R75). An advance ends a run of replays (R77). -/
def ackFree (c a : Nat) (s : State) : State :=
  modChan c (fun x =>
    let rest := x.replay.dropWhile (fun e => (a + 256 - e.1.seq) % 256 < 128)
    if rest.length < x.replay.length then
      { x with replay := rest, noAck := 0, runs := 0, retrained := false }
    else x) s

/-- Resends every replay entry in order, with the sideband of now (R76). -/
def resend (c : Nat) (s : State) : State :=
  let rx := chan s (revChan c)
  let sends := 1024 ≤ c && !(chan s c).replay.isEmpty
  let s := onlyIf sends (modNi (c - 1024) stirred) s
  modChan c (fun x =>
    let again := x.replay.map (fun e => { e.1 with ack := some ((rx.expSeq + 255) % 256), nak := rx.nakOn })
    { x with wire := x.wire ++ again.map encodeFlit, naked := false, noAck := 0 }) s

/-- A retraining starts: the link carries nothing until it is done, and what was in flight is lost to the replay
buffers of both directions (R77). It counts at the port index of each end (R254). -/
def startRetrain (c : Nat) (s : State) : State :=
  let was := s
  let s := modChan c (fun x => { x with retraining := true, retrained := true, wire := [] }) s
  let s := modChan (revChan c) (fun x => { x with retraining := true, wire := [] }) s
  let count (o : Nat × Nat) (s : State) : State := satAdd (pgRouter o.1) Rtr.linkErrCntRetrains 1 s o.2
  noteLink c was (onlyIf (txOwner c != linkOwner c) (count (txOwner c)) (count (linkOwner c) s))

/-- R76, R77: a sender replays; the RETRY_LIMIT-th consecutive replay from one sequence number starts a retraining in
its place. A NAK that finds the replay buffer empty starts a replay too, from the next sequence number: it counts toward
RETRY_LIMIT (DESIGN CHOICE, log entry 96). Whether the replay after the retraining fails is RETRAIN_DONE's operand; once it
has not, later replays from the same number only resend (DESIGN CHOICE, log entry 126). -/
def replayChan (c : Nat) (s : State) : State :=
  let x := chan s c
  let start := match x.replay with | e :: _ => e.1.seq | [] => x.nextSeq
  let runs := if x.runs ≠ 0 ∧ x.runSeq = start then x.runs + 1 else 1
  let s := satAdd (pgRouter (txOwner c).1) Rtr.linkErrCntReplays 1 s (txOwner c).2
  let s := modChan c (fun x => { x with runs := runs, runSeq := start }) s
  if fget s (pgRouter (txOwner c).1) Rtr.linkCfgRetryLimit ≤ runs ∧ !x.retrained then startRetrain c s
  else resend c s

/-- The receiver discards a flit that it cannot take and asks for a retry (R34, R76). -/
def refuseFlit (c : Nat) (s : State) : State := modChan c (fun x => { x with nakOn := true }) s

/-- The receiver processes ACK_SEQ and NAK of a flit whose sideband is good: they speak to the sender of the reverse
channel (R75, R76). -/
def takeAck (c : Nat) (f : Flit) (s : State) : State :=
  let s := match f.ack with
    | some a => ackFree (revChan c) a s
    | none => s
  onlyIf f.nak (modChan (revChan c) (fun x => { x with naked := true })) s

/-- A credit decrements the sender's copy of occ (R71, R72). -/
def takeCredit (c : Nat) (f : Flit) (s : State) : State :=
  match f.crd with
  | some v => modChan (revChan c) (fun x => { x with occ := tput 0 x.occ v (tget 0 x.occ v - 1) }) s
  | none => s

/-- The framing of R36: a DATA flit on a VC with no open packet, or a HEAD on a VC whose packet has not ended. -/
def framingBad (s : State) (c : Nat) (f : Flit) : Bool :=
  match f.body with
  | .idle => false
  | .head _ _ | .reserved _ _ => (vcBuf s c f.vc).openRx
  | .data _ _ => !(vcBuf s c f.vc).openRx

/-- The receiver writes an accepted flit into its VC's buffer, or discards what still arrives of a consumed packet. A
flit with the reserved FT opens a packet as a HEAD does, a malformed one (R63, log entry 97). -/
def takeBody (c : Nat) (f : Flit) (s : State) : State :=
  let opens (h : Header) (tail : Bool) (d : Disp) : State :=
    modVc c f.vc (fun b => { b with slots := b.slots ++ [.head h tail d], openRx := !tail, dropRx := false }) s
  match f.body with
  | .idle => s
  | .head h tail => opens h tail .unseen
  | .reserved h tail => opens h tail .reservedFt
  | .data d tail =>
    if (vcBuf s c f.vc).dropRx then
      returnCredit c f.vc 1 (modVc c f.vc (fun b => { b with openRx := !tail, dropRx := !tail }) s)
    else modVc c f.vc (fun b => { b with slots := b.slots ++ [.data d tail], openRx := !tail }) s

/-- Slots of the packet at the front of a buffer, and those behind it. -/
def frontPacket : List Slot → List Slot × List Slot
  | [] => ([], [])
  | a :: t => (a :: t.takeWhile isData, t.dropWhile isData)
where isData : Slot → Bool
  | .head _ _ _ => false
  | .data _ _ => true

/-- Whether a packet's slots include its TAIL. -/
def endsTail (l : List Slot) : Bool :=
  match l.getLast? with
  | some (.head _ t _) => t
  | some (.data _ t) => t
  | none => false

/-- The packets in a buffer: each HEAD with the slots that follow it. -/
def packetsOf : List Slot → List (Header × Bool × Disp × List Slot)
  | [] => []
  | .data _ _ :: t => packetsOf t
  | .head h tl d :: t => (h, tl, d, t.takeWhile frontPacket.isData) :: packetsOf t

/-- Removes the `k`-th packet of a buffer, `k` counting its HEADs, and answers what is left. -/
def dropPacket : List Slot → Nat → List Slot
  | [], _ => []
  | .data d t :: l, k => .data d t :: dropPacket l k
  | .head _ _ _ :: l, 0 => l.dropWhile frontPacket.isData
  | .head h t d :: l, k + 1 => .head h t d :: dropPacket l k

/-- Sets what has been decided of the `k`-th packet of a buffer. -/
def setDisp (x : Disp) : List Slot → Nat → List Slot
  | [], _ => []
  | .data d t :: l, k => .data d t :: setDisp x l k
  | .head h t _ :: l, 0 => .head h t x :: l
  | .head h t d :: l, k + 1 => .head h t d :: setDisp x l k

/-- Rewrites the header of the `k`-th packet of a buffer. -/
def setHead (g : Header → Header) : List Slot → Nat → List Slot
  | [], _ => []
  | .data d t :: l, k => .data d t :: setHead g l k
  | .head h t d :: l, 0 => .head (g h) t d :: l
  | .head h t d :: l, k + 1 => .head h t d :: setHead g l k

/-- Consumes the `k`-th packet of a VC: its slots are freed with their credits, and what still arrives of it is
discarded (R66). The count of R163 restarts when its HEAD is the VC's head flit: a packet part-way out keeps its own. -/
def consumePacket (c v k : Nat) (s : State) : State :=
  let b := vcBuf s c v
  let rest := dropPacket b.slots k
  let gone := b.slots.length - rest.length
  let last := k + 1 = (packetsOf b.slots).length
  let front := k == 0 && (match b.slots with | .head _ _ _ :: _ => true | _ => false)
  returnCredit c v gone (modVc c v (fun b =>
    { b with slots := rest, dropRx := b.dropRx || (last && b.openRx), starve := if front then 0 else b.starve,
             starved := if front then false else b.starved }) s)

end Sys2Proof.Machine
end

