-- ==== Sys2Proof/Machine/Demand.lean ====
section
/-! DEFINITION. The refusal log of the Power Controller (spec/12 R308), the abort of an N2 or F3 entry (R297, R303), and
what a HEAD that enters a local channel toward an NI does to the NI's power state (R293, R297, R300). -/

namespace Sys2Proof.Machine

def modPower (f : Power → Power) (s : State) : State := { s with power := f s.power }

/-- REASON codes (R308). -/
def rsBusy : Nat := 1
def rsState : Nat := 2
def rsPolicy : Nat := 3
def rsPinned : Nat := 4
def rsIsolating : Nat := 5
def rsEpNak : Nat := 6
def rsAckTimeout : Nat := 7
def rsDrainTimeout : Nat := 8
def rsTraffic : Nat := 9
def rsDemand : Nat := 10

/-- Writes a record of the 16-record refusal log, newest first (R308). -/
def refRecord (aborted : Bool) (cmd port reason epReason rk rid : Nat) (s : State) : State :=
  let w1 := aborted.toNat + cmd * 2 + port * 2 ^ 5 + reason * 2 ^ 16 + epReason * 2 ^ 20 + rk * 2 ^ 24
    + rid * 2 ^ 32 + 2 ^ 63
  let s := modPower (fun w => { w with log := (⟨s.mtime, BitVec.ofNat 64 w1, 0⟩ :: w.log).take 16 }) s
  if aborted then flag pgPower Pwr.pwrEvtEntryAborted (satAdd pgPower Pwr.pwrCountAborted 1 s)
  else flag pgPower Pwr.pwrEvtCmdRefused (satAdd pgPower Pwr.pwrCountRefused 1 s)

/-- The entry of one NI ends and the NI continues as it was (R297): pwr_req falls, ENTERING clears. -/
def dropEntry (p : Nat) (s : State) : State :=
  fset pgPower Pwr.pwrNiStatEntering 0
    (modNi p (fun n => { n with entry := none, inF3 := false, pwrReq := false, pwrAck := false }) s) p

/-- An abort of any NI aborts the whole F3 entry, and every NI returns to its prior state (R303). -/
def abortF3 (reason epReason rk rid : Nat) (s : State) : State :=
  let s := forEach livePorts (fun q s => onlyIf (ni s q).inF3 (dropEntry q) s) s
  refRecord true 4 0 reason epReason rk rid (fset pgPower Pwr.pwrStatFstate 0 s)

/-- An event before E4 aborts the NI's entry, and with it an F3 entry that it belongs to (R297, R303). -/
def abortEntry (p reason epReason rk rid : Nat) (s : State) : State :=
  match (ni s p).entry with
  | some .e1 | some .e2 | some .e3 | some .e4 =>
    if (ni s p).inF3 then abortF3 reason epReason rk rid s
    else
      let s := onlyIf (nstate s p == 1) (fun s => fset pgPower Pwr.pwrNiStatNstate 0 s p) s
      refRecord true 2 p reason epReason rk rid (dropEntry p s)
  | _ => s

/-- The router's output toward the NI is connected to the shell's wake-hold buffer: from E4 until the NI has woken
(R296, R300, R301). -/
def holds (s : State) (p : Nat) : Bool :=
  isLive p && (nstate s p == 2 || (ni s p).entry == some .e5 || (ni s p).entry == some .e6)

/-- A HEAD enters the local channel toward the NI: it aborts an entry before E4 and ends N1 (R293, R297). -/
def headToNi (p : Nat) (h : Header) (s : State) : State :=
  let s := abortEntry p rsTraffic 0 1 h.mid.toNat s
  let s := onlyIf (nstate s p == 1) (fun s => fset pgPower Pwr.pwrNiStatNstate 0 s p) s
  modNi p stirred s

end Sys2Proof.Machine
end

