-- ==== Sys2Proof/Machine/Arbiter.lean ====
section
/-! DEFINITION. The rank of flits at an arbitration point (spec/06 R156 to R164). -/

namespace Sys2Proof.Machine

/-- Slack of R157 plus 2^23; a HEAD with DV = 0 has the largest (R156), at its own NI's local channel too (DESIGN CHOICE, log
entry 130). -/
def slackKey (s : State) (h : Header) : Nat :=
  if h.dv then ((h.deadline.toNat + 2 ^ 24 - nowNs s % 2 ^ 24) + 2 ^ 23) % 2 ^ 24 else 2 ^ 24 - 1

/-- A flit is late when its slack is negative (R157). -/
def negSlack (s : State) (h : Header) : Bool := slackKey s h < 2 ^ 23

/-- Age in ticks (R164). -/
def ageOf (s : State) (h : Header) : Nat := (s.mtime.toNat + 2 ^ 32 - h.injTs.toNat) % 2 ^ 32

/-- Whether group 0 grants remain in the window of a point (R162). -/
def mBudgetLeft (s : State) (win : List Nat) : Bool :=
  (win.filter (fun c => s.cyc < c + fget s pgFg Fg.arbCfgMWindow)).length < fget s pgFg Fg.arbCfgMBudget

/-- Records a group 0 grant. Grants are kept for 256 cycles, the longest M_WINDOW, so that a longer window that a COMMIT
brings counts them too. -/
def recordM (s : State) (win : List Nat) : List Nat := s.cyc :: win.filter (fun c => s.cyc < c + 256)

/-- SCLS B or C. -/
def isBC (h : Header) : Bool := h.scls == 1 || h.scls == 2

/-- Group of a candidate (R161). -/
def groupOf (h : Header) (starved mLeft : Bool) : Nat :=
  if h.scls == 3 then (if mLeft then 0 else 4)
  else if h.scls == 0 then 1
  else if starved then 2
  else if h.scls == 1 then 3
  else 5

def mkCand (s : State) (pos vc out outVc : Nat) (h : Header) (starved mLeft : Bool) : Cand where
  pos := pos
  vc := vc
  out := out
  outVc := outVc
  group := groupOf h starved mLeft
  key := ((slackKey s h * 2 ^ 32 + (2 ^ 32 - 1 - ageOf s h)) * 16 + pos) * 16 + vc
  hdr := h

/-- The member of least measure, the first of equals. -/
def leastBy (f : Cand → Nat) : List Cand → Option Cand
  | [] => none
  | c :: t =>
    match leastBy f t with
    | none => some c
    | some d => some (if f c ≤ f d then c else d)

/-- The members of the lowest group present. -/
def lowestGroup (l : List Cand) : List Cand :=
  match leastBy Cand.group l with
  | none => []
  | some c => l.filter (fun d => d.group == c.group)

/-- Groups 1 and 3 are ordered by deadline. -/
def isEdf (g : Nat) : Bool := g == 1 || g == 3

/-- The one flit that an input offers (R164). -/
def offerOf (ready : List Cand) : Option Cand :=
  let l := lowestGroup ready
  match l with
  | [] => none
  | c :: _ => if isEdf c.group then leastBy Cand.key l else leastBy Cand.vc l

/-- The winner among offered flits: EDF, or the first at or after the group's pointer (R164). -/
def winnerOf (ptr : Nat → Nat) (cands : List Cand) : Option Cand :=
  let l := lowestGroup cands
  match l with
  | [] => none
  | c :: _ =>
    if isEdf c.group then leastBy Cand.key l
    else
      match leastBy Cand.pos (l.filter (fun d => ptr c.group ≤ d.pos)) with
      | some d => some d
      | none => leastBy Cand.pos l

end Sys2Proof.Machine
end

