-- ==== Sys2Proof/Machine/Router.lean ====
section
/-! DEFINITION. Routers: routes (spec/03 R79, R80), what a router consumes and builds (R19, R60, R65 to R67, R372), Stop
Bath absorbers (spec/10 R246 to R248), and the switch (spec/06 R164). -/

namespace Sys2Proof.Machine

/-! ## Route tables (R78) -/

/-- Key of an entry, and its word in the router; both banks hold the Galon tables after reset (R81). -/
def rtKey (r bank port : Nat) : Nat := (2 * r + bank) * 256 + port
def rtWord (s : State) (r bank port : Nat) : Word := tget (galonWord r port) s.rt (rtKey r bank port)
/-- Word of the spine image. -/
def rtImgWord (s : State) (r bank port : Nat) : Word := tget (galonWord r port) s.rtImg (rtKey r bank port)

/-- The entry that routes a header at router `r`: DST, in the bank of EPOCH (R79, R88). -/
def routeEntry (s : State) (r : Nat) (h : Header) : RtEntry := rtEntry (rtWord s r h.epoch.toNat h.dst.toNat)

/-- The output is replaced by a Stop Bath absorber: the link is DOWN (R255), or the NI is diverted (R245 t2). -/
def isDown (s : State) (r o : Nat) : Bool := (chan s (outChan r o)).st == .down
def absorbing (s : State) (r o : Nat) : Bool := isDown s r o || (o < 4 && (ni s (4 * r + o)).diverted)

/-- The route of a HEAD that arrived on input `inp`, on VC `v` (R79). -/
def routeOf (s : State) (r inp v : Nat) (h : Header) : Route :=
  let e := routeEntry s r h
  let pg := pgRouter r
  if h.scls == 0 then .fixed e.a (aVc h)
  else if isEscVc v || fget s pg Rtr.rtrCfgAdaptEn == 0 then .fixed e.esc (escVc h)
  else
    let cand := (maskBits e.adapt 14).filter (fun o => !isDown s r o)
    if cand.isEmpty then .fixed e.esc (escVc h)
    else
      let det := if inp < 4 && fget s pg Rtr.rtrCfgDetourEn == 1 then
        (maskBits e.detour 14).filter (fun o => !isDown s r o) else []
      .adaptive cand det e.esc (escVc h)

/-- The member of a candidate list with most free slots on a VC; ties to the lowest index (R79). -/
def mostFree (s : State) (r v : Nat) : List Nat → Option Nat
  | [] => none
  | o :: t =>
    match mostFree s r v t with
    | none => some o
    | some p => some (if room s (outChan r p) v ≤ room s (outChan r o) v then o else p)

/-- The shell takes a HEAD: a request into its wake-hold buffer, a response to discard it. While 8 packets are held the
router's output sends nothing (R300). -/
def canHold (s : State) (p : Nat) : Bool := (ni s p).held.length < 8

/-- Whether a HEAD may enter output `o` on VC `v` now: R71, or the wake-hold buffer's room. -/
def canOut (s : State) (r o v : Nat) : Bool :=
  if o < 4 && holds s (4 * r + o) then canHold s (4 * r + o) && !flowHold s && fabOn s
  else canHead s (outChan r o) v
def canOutData (s : State) (r o v : Nat) : Bool :=
  if o < 4 && holds s (4 * r + o) then !flowHold s && fabOn s else canData s (outChan r o) v

/-- Output and VC at which a routed HEAD is offered this cycle (R79, R164). A waiting HEAD takes the ADAPT_BIAS of each cycle
(DESIGN CHOICE, log entry 129). -/
def requestOf (s : State) (r : Nat) : Route → Option (Nat × Nat)
  | .fixed o v => if !absorbing s r o && canOut s r o v then some (o, v) else none
  | .adaptive cand det esc ev =>
    let av := ev + 1
    let live := cand.filter (fun o => !absorbing s r o)
    let best := mostFree s r av live
    let d := mostFree s r av (det.filter (fun o => !absorbing s r o))
    let pick :=
      match best, d with
      | some b, some d =>
        if room s (outChan r b) av + fget s (pgRouter r) Rtr.rtrCfgAdaptBias ≤ room s (outChan r d) av then some d
        else some b
      | b, _ => b
    match pick with
    | some o =>
      if canOut s r o av then some (o, av)
      else if !absorbing s r esc && canOut s r esc ev then some (esc, ev) else none
    | none => if !absorbing s r esc && canOut s r esc ev then some (esc, ev) else none

/-- The output at whose absorber a routed HEAD ends: its only output is on an absorber (R246, R255). -/
def absorbOut (s : State) (r : Nat) : Route → Option Nat
  | .fixed o _ => if absorbing s r o then some o else none
  | .adaptive cand _ esc _ =>
    if (cand.filter (fun o => !absorbing s r o)).isEmpty && absorbing s r esc then some esc else none

/-! ## Packets that a router consumes or builds -/

def addInj (r : Nat) (e : Bool) (s : State) : State :=
  modRouter r (fun x => if e then { x with inj1 := x.inj1 + 1 } else { x with inj0 := x.inj0 + 1 }) s
def addRem (r : Nat) (e : Bool) (s : State) : State :=
  modRouter r (fun x => if e then { x with rem1 := x.rem1 + 1 } else { x with rem0 := x.rem0 + 1 }) s

/-- The packet that still arrives on VC `v` of channel `c`: its HEAD has left the buffer. -/
def headPassed (s : State) (c v : Nat) : Bool := (vcBuf s c v).openRx && (packetsOf (vcBuf s c v).slots).isEmpty

/-- A TAIL of VC `v` is on its way over a channel: it stands in the replay buffer, and the receiver has not accepted it. -/
def tailComes (x : Chan) (v : Nat) : Bool :=
  x.replay.any (fun e => isTail e.1.body && e.1.vc == v && 128 ≤ (x.expSeq + 255 - e.1.seq) % 256)

/-- The built packets of a source of input 14: the store is 0, the absorber of output `o` 1 + o (R372). -/
def builtOf (x : Router) (src : Nat) : List Built := if src = 0 then x.store else tget [] x.absorb (src - 1)

/-- No packet at the sending router of channel `c` still feeds VC `v`, or the one that does has itself been cut off above.
`fuel` bounds the hops that one packet spans. -/
def unfed (s : State) : Nat → Nat → Nat → Bool
  | 0, _, _ => false
  | fuel + 1, c, v =>
    let r := c / 16
    let fedBy (i w : Nat) : Bool :=
      match (vcBuf s (inChan r i) w).going with
      | some (_, o, ov) =>
        o == c % 16 && ov == v
          && !(headPassed s (inChan r i) w && inChan r i < 1024 && !tailComes (chan s (inChan r i)) w
            && unfed s fuel (inChan r i) w)
      | none => false
    let built := (List.range 15).any (fun src => (builtOf (router s r) src).any (fun b => b.going == some (c % 16, v)))
    !(built || ((List.range 14).filter (hasPort r)).any (fun i => (List.range 16).any (fedBy i)))

/-- The `k`-th packet of a receive VC still arrives, and never will: a link that went DOWN has cut it off from its rest, and
it was counted in REM there (R92, R256; DEDUCED, log entry 137). -/
def cutShort (s : State) (c v k : Nat) : Bool :=
  c < 1024 && (vcBuf s c v).openRx && k + 1 == (packetsOf (vcBuf s c v).slots).length && !tailComes (chan s c) v
    && unfed s 64 c v

/-- The `k`-th packet of an input VC leaves the fabric here: its credits return, and it counts in REM, once (R92). -/
def removePacket (r inp v k : Nat) (h : Header) (s : State) : State :=
  let counts := !cutShort s (inChan r inp) v k
  onlyIf counts (addRem r h.epoch) (consumePacket (inChan r inp) v k s)

/-- Error-log kind, counter and STATUS of a disposal (R19, R66, R80). -/
def whyKind : BuildWhy → Nat
  | .tiedOff => eTiedOff | .invalidRoute => eInvalidRoute | .malformed => eMalformed | .hops => eHops
def whyCounter : BuildWhy → Fld
  | .tiedOff => Rtr.rtrErrCntTiedOff | .invalidRoute => Rtr.rtrErrCntInvalidRoute
  | .malformed | .hops => Rtr.rtrErrCntMalformed
def whyStatus : BuildWhy → Nat
  | .tiedOff | .invalidRoute => stDecodeErr | .malformed | .hops => stProtocol

/-- Records a disposal: a record of Q0 and a count (R19, R66, R67, R80). Q0 is logged as the router holds it, with HOPS
counted and a deadline synthesised (DESIGN CHOICE, log entry 98). -/
def logDisposal (r inp : Nat) (w : BuildWhy) (h : Header) (s : State) : State :=
  errQ0 (whyKind w) false r inp h (satAdd (pgRouter r) (whyCounter w) 1 s)

/-- The VC on which a built packet asks for its route: an NI's choice under R69. -/
def builtRoute (s : State) (r : Nat) (h : Header) : Route := routeOf s r 14 (injectVc h) h

/-- Files a built answer where it waits for its output: the build store, or the absorber of output `o`. It carries
INJ_EPOCH of when it is built and counts in INJ (R88, R92; DESIGN CHOICE, log entry 99). An answer that has no valid route here, or whose destination is tied off at this
router, is disposed of as any response is (R19, R80). -/
def fileAnswer (r : Nat) (o : Option Nat) (h : Header) (s : State) : State :=
  let h := { h with epoch := injEpoch s }
  let s := addInj r h.epoch s
  if !(routeEntry s r h).valid then addRem r h.epoch (logDisposal r 14 .invalidRoute h s)
  else if h.dst.toNat / 4 = r ∧ !isLive h.dst.toNat then addRem r h.epoch (logDisposal r 14 .tiedOff h s)
  else
    let b : Built := { hdr := h, data := dataFlits h, going := none }
    match o with
    | none => modRouter r (fun x => { x with store := x.store ++ [b] }) s
    | some o => modRouter r (fun x => { x with absorb := tput [] x.absorb o (tget [] x.absorb o ++ [b]) }) s

/-- Disposes of the `k`-th packet of an input VC (R19, R66, R80): it is consumed with its credits and counted in REM,
and a request is answered through the build store. -/
def dispose (r inp v k : Nat) (w : BuildWhy) (h : Header) (s : State) : State :=
  let s := logDisposal r inp w h (removePacket r inp v k h s)
  if isAnswered h then fileAnswer r none (routerAnswer h (whyStatus w)) s else s

/-- Whether a packet waits for room in the build store (R372). -/
def waitsStore (s : State) (r : Nat) (h : Header) : Bool := isAnswered h && 8 ≤ (router s r).store.length

/-- The STATUS that an absorber answers with (R248); from t0 to t2 of a re-admission, when CAUSE is 0, TARGET_ISOLATED
(DESIGN CHOICE, log entry 135). -/
def absorbStatus (s : State) (r o : Nat) : Nat :=
  if o < 4 && !isDown s r o && fget s (pgNi (4 * r + o)) Ni.isoStatCause == 0x10 then stFailing else stIsolated

/-- What an absorber does with a packet (R246): an answer, or a discard that an NI's DISCARDED counts. -/
def absorbPacket (r o : Nat) (status : Nat) (h : Header) (s : State) : State :=
  if isAnswered h then fileAnswer r (some o) (builtAnswer h status) s
  else if o < 4 then satAdd (pgNi (4 * r + o)) Ni.faultCntDiscarded 1 s
  else s

/-- The absorber of output `o` consumes a packet that it takes from no input VC, which counts in REM unless it has left
the fabric already (R92). -/
def absorbHanded (r : Nat) (x : Handed) (s : State) : State :=
  absorbPacket r x.out x.status x.hdr (onlyIf x.counts (addRem r x.hdr.epoch) s)

/-- 8 answers wait at the absorber of output `o` (R247). -/
def absorberFull (s : State) (r o : Nat) : Bool := 8 ≤ (tget [] (router s r).absorb o).length

/-- A packet is handed to the absorber of output `x.out` (R249, R256, R302): it is consumed, or waits while 8 answers wait
there and behind the packets that wait before it (R247). -/
def hand (r : Nat) (x : Handed) (s : State) : State :=
  if isAnswered x.hdr && (absorberFull s r x.out || (router s r).handed.any (fun y => y.out == x.out)) then
    modRouter r (fun n => { n with handed := n.handed ++ [x] }) s
  else absorbHanded r x s

/-- The packets handed to a router's absorbers that waited try again, in order (R247). -/
def retryHanded (r : Nat) (s : State) : State :=
  let l := (router s r).handed
  forEach l (hand r) (modRouter r (fun n => { n with handed := [] }) s)

/-! ## HEAD_ARRIVE -/

/-- Index of the first packet that no step has looked at, and whether its HEAD flit had the reserved FT. -/
def firstUnseen : List (Header × Bool × Disp × List Slot) → Nat → Option (Nat × Header × Bool)
  | [], _ => none
  | (h, _, d, _) :: t, k =>
    if d == .unseen || d == .reservedFt then some (k, h, d == .reservedFt) else firstUnseen t (k + 1)

/-- R155: the synthetic deadline of a leg 0 HEAD with DV = 0 at its first router. -/
def synthesise (s : State) (inp : Nat) (h : Header) : Header :=
  if inp < 4 && !h.dv && h.leg == 0 then
    { h with deadline := BitVec.ofNat 24 (nowNs s + fget s pgFg Fg.synOffsetOffsetNs h.prio.toNat), dv := true, syn := true }
  else h

/-- HOPS rises by one on arrival, up to the limit of R60. -/
def hopped (h : Header) : Header := { h with hops := BitVec.ofNat 5 (min (h.hops.toNat + 1) 31) }

/-- What a router decides of a HEAD (R60, R65 to R67, R79, R80, R19, in that order); `ft`: its flit had the reserved
FT. -/
def judgeHead (s : State) (r inp v : Nat) (h : Header) (ft : Bool := false) : Disp :=
  if ft || malformed1 h || malformed2 h then .build .malformed
  else if 16 ≤ h.hops.toNat then .build .hops
  else if !(routeEntry s r h).valid then .build .invalidRoute
  else if h.dst.toNat / 4 = r ∧ !isLive h.dst.toNat then .build .tiedOff
  else .routed (routeOf s r inp v h)

/-- A HEAD enters the input register of router `r` (HEAD_ARRIVE, R79): HOPS, synthesis, checks and route. A packet to
dispose of goes at once, or waits for the build store (R372). -/
def execHeadArrive (r : RouterId) (inp : PortIdx) (vc : Vc) (s : State) : Out :=
  let r := r.val
  let inp := inp.val
  let v := vc.val
  if !hasPort r inp || !fabOn s then .next s
  else
    let c := inChan r inp
    match firstUnseen (packetsOf (vcBuf s c v).slots) 0 with
    | none => .next s
    | some (k, h0, ft) =>
      let h := synthesise s inp (hopped h0)
      let d := judgeHead s r inp v h ft
      let s := modVc c v (fun b => { b with slots := setDisp d (setHead (fun _ => h) b.slots k) k }) s
      match d with
      | .build w => .next (if waitsStore s r h then s else dispose r inp v k w h s)
      | _ => .next s

/-- Index of the first packet that waits for the build store. -/
def firstBuild : List (Header × Bool × Disp × List Slot) → Nat → Option (Nat × Header × BuildWhy)
  | [], _ => none
  | (h, _, .build w, _) :: _, k => some (k, h, w)
  | _ :: t, k => firstBuild t (k + 1)

/-- A packet that waited for room in the build store is consumed and answered (BUILD_STORE_CONSUME, R372). -/
def execBuildStoreConsume (r : RouterId) (inp : PortIdx) (vc : Vc) (s : State) : Out :=
  if !hasPort r.val inp.val then .next s
  else
    match firstBuild (packetsOf (vcBuf s (inChan r.val inp.val) vc.val).slots) 0 with
    | none => .next s
    | some (k, h, w) => .next (if waitsStore s r.val h then s else dispose r.val inp.val vc.val k w h s)

/-! ## ABSORB -/

def setBuilt (src : Nat) (l : List Built) (x : Router) : Router :=
  if src = 0 then { x with store := l } else { x with absorb := tput [] x.absorb (src - 1) l }

/-- The first built packet whose only output is on an absorber, with its source and that output. -/
def builtToAbsorb (s : State) (r : Nat) : List Nat → Option (Nat × Built × Nat)
  | [] => none
  | src :: t =>
    match builtOf (router s r) src with
    | b :: _ =>
      match b.going, absorbOut s r (builtRoute s r b.hdr) with
      | none, some o => some (src, b, o)
      | _, _ => builtToAbsorb s r t
    | [] => builtToAbsorb s r t

def dropBuilt (r src : Nat) (s : State) : State :=
  modRouter r (fun x => setBuilt src (builtOf x src).tail x) s

/-- The absorber withholds the credits of a packet on a REQ, RWD, BIS or MGT request VC while 8 answers wait there or an
earlier packet waits for it (R247): of every packet but a response. -/
def withholds (s : State) (r o : Nat) (h : Header) : Bool :=
  !isResponse h && (absorberFull s r o || (router s r).handed.any (fun y => y.out == o))

/-- A Stop Bath absorber consumes the packet at the front of an input VC that is routed to it (ABSORB, R246, R247); at
input 14, a built packet, which is a response and is discarded. -/
def execAbsorb (r : RouterId) (inp : Fin 15) (vc : Vc) (s : State) : Out :=
  let r := r.val
  if inp.val = 14 then
    match builtToAbsorb s r (List.range 15) with
    | none => .next s
    | some (src, b, o) =>
      .next (absorbPacket r o (absorbStatus s r o) b.hdr (addRem r b.hdr.epoch (dropBuilt r src s)))
  else if !hasPort r inp.val then .next s
  else
    let c := inChan r inp.val
    let v := vc.val
    match (vcBuf s c v).slots with
    | .head h _ (.routed rt) :: _ =>
      match absorbOut s r rt with
      | none => .next s
      | some o =>
        if withholds s r o h then .next s
        else .next (absorbPacket r o (absorbStatus s r o) h (removePacket r inp.val v 0 h s))
    | _ => .next s

/-! ## The switch

A router's arbitration of an FCLK cycle begins with the cycle's first FLIT_GRANT at one of its outputs: the head flits
that R71 allows then are the `ready` members of the whole cycle, each input offers one of them, and each output grants at
most one (R164; DESIGN CHOICE, log entry 100). -/

/-- The flit at the front of an input VC as a candidate, when R71 allows it (R164). -/
def vcCand (s : State) (r inp : Nat) (mwin : Tbl (List Nat)) (v : Nat) : Option Cand :=
  let b := vcBuf s (inChan r inp) v
  match b.slots, b.going with
  | .data _ _ :: _, some (h, o, ov) =>
    if canOutData s r o ov then some (mkCand s inp v o ov h b.starved (mBudgetLeft s (tget [] mwin o))) else none
  | .head h _ (.routed rt) :: _, _ =>
    match requestOf s r rt with
    | some (o, ov) => some (mkCand s inp v o ov h b.starved (mBudgetLeft s (tget [] mwin o)))
    | none => none
  | _, _ => none

/-- The head flit of a source of input 14 as a candidate. -/
def builtCand (s : State) (r src : Nat) : Option Cand :=
  let x := router s r
  match builtOf x src with
  | [] => none
  | b :: _ =>
    let cand (o ov : Nat) : Cand :=
      { mkCand s 14 ov o ov b.hdr b.starved (mBudgetLeft s (tget [] x.mwin o)) with src := src }
    match b.going with
    | some (o, ov) => if canOutData s r o ov then some (cand o ov) else none
    | none => (requestOf s r (builtRoute s r b.hdr)).map (fun q => cand q.1 q.2)

/-- The head flits of a router that R71 allows now. -/
def allowedFlits (s : State) (r : Nat) : List Cand :=
  let port (i : Nat) : List Cand := (List.range 16).filterMap (vcCand s r i (router s r).mwin)
  ((List.range 14).filter (hasPort r)).flatMap port ++ (List.range 15).filterMap (builtCand s r)

/-- Those of the cycle. -/
def readyFlits (s : State) (r : Nat) : List Cand := (router s r).ready.getD (allowedFlits s r)

/-- A B or C candidate counts the cycle (R163). -/
def countStarve (r : Nat) (w : Cand) (s : State) : State :=
  if !isBC w.hdr then s
  else if w.pos = 14 then
    modRouter r (fun x => match builtOf x w.src with
      | b :: t => setBuilt w.src ({ b with starve := b.starve + 1 } :: t) x
      | [] => x) s
  else modVc (inChan r w.pos) w.vc (fun b => { b with starve := b.starve + 1 }) s

/-- The router's arbitration of this cycle begins. -/
def beginCycle (r : Nat) (s : State) : State :=
  match (router s r).ready with
  | some _ => s
  | none =>
    let l := allowedFlits s r
    forEach l (countStarve r) (modRouter r (fun x => { x with ready := some l }) s)

/-- The sources of input 14 from its round-robin pointer on. -/
def order14 (ptr : Nat) : List Nat := (List.range 15).drop ptr ++ (List.range 15).take ptr

/-- The flit that an input offers (offer(i), R164); input 14 chooses among its sources in round robin (R372), and has
no second flit to offer in the cycle. -/
def offerIn (s : State) (r inp : Nat) : Option Cand :=
  let l := (readyFlits s r).filter (fun c => c.pos == inp)
  if inp = 14 then
    if (router s r).gave14 then none else (order14 (router s r).rr14).findSome? (fun src => l.find? (fun c => c.src == src))
  else offerOf l

/-- What was offered can still be sent: another command of the cycle has not taken the flit or its output away. -/
def stillThere (s : State) (r : Nat) (w : Cand) : Bool :=
  if w.pos = 14 then
    match builtOf (router s r) w.src with
    | b :: _ => b.hdr == w.hdr
        && (if b.going.isSome then canOutData s r w.out w.outVc else canOut s r w.out w.outVc)
    | [] => false
  else
    let b := vcBuf s (inChan r w.pos) w.vc
    match b.slots, b.going with
    | .data _ _ :: _, some (h, o, ov) => h == w.hdr && o == w.out && ov == w.outVc && canOutData s r o ov
    | .head h _ (.routed _) :: _, _ => h == w.hdr && canOut s r w.out w.outVc
    | _, _ => false

/-- The winner at output `o` (arbitrate(o), R164); none once the output has granted in this cycle. -/
def arbitrate (s : State) (r o : Nat) : Option Cand :=
  if (router s r).gave.contains o then none
  else
    (winnerOf (fun g => tget 0 (router s r).rr (8 * o + g))
      (((List.range 15).filterMap (offerIn s r)).filter (fun c => c.out == o))).filter (stillThere s r)

/-- Pointers, window and counters after a grant (R162 to R164, R174). -/
def noteGrant (r : Nat) (w : Cand) (s : State) : State :=
  let s := modRouter r (fun x =>
    { x with
      gave := w.out :: x.gave
      gave14 := x.gave14 || w.pos == 14
      rr := if isEdf w.group then x.rr else tput 0 x.rr (8 * w.out + w.group) ((w.pos + 1) % 15)
      mwin := if w.group = 0 then tput [] x.mwin w.out (recordM s (tget [] x.mwin w.out)) else x.mwin }) s
  let s := onlyIf (w.group == 2) (wrapAdd (pgRouter r) Rtr.arbStatStarveGrants 1) s
  onlyIf (w.group == 4) (wrapAdd (pgRouter r) Rtr.arbStatMDeferred 1) s

/-- A DATA flit joins the held packet of its VC and header that still lacks one. -/
def heldData (v : Nat) (h : Header) (d : BitVec 512) :
    List (Nat × Header × List (BitVec 512)) → List (Nat × Header × List (BitVec 512))
  | [] => []
  | (w, g, l) :: t =>
    if w = v ∧ g = h ∧ l.length < dataFlits g then (w, g, l ++ [d]) :: t else (w, g, l) :: heldData v h d t

/-- A flit of header `h` and VC `v` enters the wake-hold buffer of port `p`: a HEAD opens a packet, a DATA flit joins the packet
that waits for it; a response is discarded with kind STRAY (R300). A held HEAD is a demand for a wake. -/
def holdFlit (p v : Nat) (body : FlitBody) (h : Header) (s : State) : State :=
  match body with
  | .idle | .reserved _ _ => s
  | .head _ _ =>
    if isResponse h then errNi eStray p h s
    else modNi p (fun n => { n with held := n.held ++ [(v, h, [])], demand := true }) s
  | .data d _ => if isResponse h then s else modNi p (fun n => { n with held := heldData v h d n.held }) s

/-- The flit moves to output `o` of router `r` on VC `ov`: to the wake-hold buffer, or onto the channel (R300). A TAIL
to L0–L3 counts in REM (R92). -/
def emit (r o ov : Nat) (body : FlitBody) (tail : Bool) (h : Header) (s : State) : State :=
  let p := 4 * r + o
  let isHead := match body with | .head _ _ => true | _ => false
  let s := if o < 4 && holds s p then holdFlit p ov body h s
    else
      let s := if o < 4 && isHead then headToNi p h s else s
      sendFlit (outChan r o) ov body h s
  if o < 4 && tail then addRem r h.epoch s else s

/-- Grants a winner that sits in input VC `w.vc` of input `w.pos`. -/
def grantIn (r : Nat) (w : Cand) (s : State) : State :=
  let c := inChan r w.pos
  match (vcBuf s c w.vc).slots with
  | .head h tail _ :: rest =>
    let s := modVc c w.vc (fun b =>
      { b with slots := rest, going := if tail then none else some (h, w.out, w.outVc), starve := 0
               starved := b.starved && !tail }) s
    let s := returnCredit c w.vc 1 s
    emit r w.out w.outVc (.head h tail) tail h s
  | .data d tail :: rest =>
    let s := modVc c w.vc (fun b =>
      { b with slots := rest, going := if tail then none else b.going, starve := 0, starved := b.starved && !tail }) s
    let s := returnCredit c w.vc 1 s
    emit r w.out w.outVc (.data d tail) tail w.hdr s
  | [] => s

/-- Grants the flit that input 14 offers. Its round robin stays on a source until that packet's TAIL is sent (DESIGN
CHOICE, log entry 101). -/
def grant14 (r : Nat) (w : Cand) (s : State) : State :=
  match builtOf (router s r) w.src with
  | [] => s
  | b :: rest =>
    let body : FlitBody := match b.going with | none => .head b.hdr (b.data = 0) | some _ => .data 0 (b.data = 1)
    let tail := match b.going with | none => b.data == 0 | some _ => b.data == 1
    let left : Built := { b with going := some (w.out, w.outVc), data := if b.going.isSome then b.data - 1 else b.data
                                 starve := 0 }
    let s := modRouter r (fun x =>
      setBuilt w.src (if tail then rest else left :: rest) { x with rr14 := if tail then (w.src + 1) % 15 else w.src }) s
    emit r w.out w.outVc body tail b.hdr s

/-- FLIT_GRANT at output `o` of router `r` (R164). -/
def grantRouter (r o : Nat) (s : State) : State :=
  let s := beginCycle r s
  match arbitrate s r o with
  | none => s
  | some w => (if w.pos = 14 then grant14 r w else grantIn r w) (noteGrant r w s)

end Sys2Proof.Machine
end

