-- ==== Sys2Proof/Machine/Shutter.lean ====
section
/-! DEFINITION. Shutter lists (spec/08 R193 to R200): their evaluation at a position, gate edges and exports, and the
takeover of a pending list. -/

namespace Sys2Proof.Machine

/-- A copy of a list: EN, BASE and CYCLE in ticks, and the segments of a cycle as (start, entry, gates) (R196). -/
structure ShlView where
  en : Bool
  base : Nat
  cycle : Nat
  segs : List (Nat × Nat × Nat)
  deriving DecidableEq, Repr

/-- The segments of a cycle: entries with a span that begin before CYCLE, and entry COUNT − 1 for what remains. `get`
gives the gates and the span in ticks of an entry. -/
def segsOf (get : Nat → Nat × Nat) (count cycle : Nat) : List (Nat × Nat × Nat) :=
  go (List.range count) 0
where
  go : List Nat → Nat → List (Nat × Nat × Nat)
  | [], t => if t < cycle then [(t, count - 1, (get (count - 1)).1)] else []
  | i :: l, t =>
    if (get i).2 = 0 then go l t
    else if cycle ≤ t then []
    else (t, i, (get i).1) :: go l (t + (get i).2)

/-- The active copy, and the staged copy, which is the pending list while one waits (R198). -/
def activeView (s : State) (p : Nat) : ShlView :=
  let pg := pgNi p
  let cycle := fget s pg Ni.shlCfgCycleNs * 4
  { en := fbit s pg Ni.shlCfgEn, base := fget s pg Ni.shlBaseBase, cycle := cycle
    segs := segsOf (fun i => (fget s pg Ni.shlEntryGates i, fget s pg Ni.shlEntryDurNs i * 4))
      (fget s pg Ni.shlCfgCount) cycle }
def stagedView (s : State) (p : Nat) : ShlView :=
  let pg := pgNi p
  let cycle := sget s pg Ni.shlCfgCycleNs * 4
  { en := sget s pg Ni.shlCfgEn == 1, base := sget s pg Ni.shlBaseBase, cycle := cycle
    segs := segsOf (fun i => (sget s pg Ni.shlEntryGates i, sget s pg Ni.shlEntryDurNs i * 4))
      (sget s pg Ni.shlCfgCount) cycle }

/-- Position p = (m − BASE) mod CYCLE (R196). -/
def posOf (v : ShlView) (m : Nat) : Nat := (((m : Int) - (v.base : Int)) % (v.cycle : Int)).toNat

/-- The segment in force at a position. -/
def segAt (segs : List (Nat × Nat × Nat)) (p : Nat) : Nat × Nat × Nat :=
  match (segs.filter (fun g => g.1 ≤ p)).getLast? with
  | some g => g
  | none => (0, 0, 15)

/-- Entry and gates in force at MTIME `m`; A, B, C and M open and MAINT 0 with EN = 0 (R196). No entry is in force then, and
SHL_STAT.INDEX reads 0 (DESIGN CHOICE, log entry 141). -/
def entryAt (v : ShlView) (m : Nat) : Nat := if v.en then (segAt v.segs (posOf v m)).2.1 else 0
def gatesAt (v : ShlView) (m : Nat) : Nat := if v.en then (segAt v.segs (posOf v m)).2.2 else 15

/-- Ticks from `m` to the next segment of the list whose gates meet a test, and its gates. -/
def nextSeg (v : ShlView) (m : Nat) (c : Nat → Bool) : Option (Nat × Nat) :=
  if !v.en then none
  else
    let p := posOf v m
    match v.segs.find? (fun g => p < g.1 && c g.2.2) with
    | some g => some (g.1 - p, g.2.2)
    | none =>
      match v.segs.find? (fun g => c g.2.2) with
      | some g => some (v.cycle - p + g.1, g.2.2)
      | none => none

/-- Ticks from `m` to the first cycle boundary of a list at or after it. -/
def toBoundary (v : ShlView) (m : Nat) : Nat := if posOf v m = 0 then 0 else v.cycle - posOf v m

/-- MTIME at which the pending list takes over: a boundary of the active list, or the commit's edge when that list has
EN = 0 (R198). -/
def takeoverAt (s : State) (p : Nat) : Nat :=
  let m := (ni s p).shlAt.toNat
  if (activeView s p).en then m + toBoundary (activeView s p) m else m

/-- The list of an NI is evaluated while the NI and the fabric are on (R199). -/
def evaluated (s : State) (p : Nat) : Bool := isLive p && nstate s p != 2 && fabOn s

/-- The registers that an NI works with: under test, those of before its test (R318). -/
def workingRegs (s : State) (p : Nat) : State := if (ni s p).underTest then { s with regs := s.strip.live } else s

/-- A pending list may take over: what a COMMIT gives a unit under test is its image alone until tr (R318). -/
def listMoves (s : State) (p : Nat) : Bool :=
  evaluated s p && !(ni s p).underTest && (ni s p).shlPend && takeoverAt s p ≤ s.mtime.toNat

/-- Gates in force at the NI (R196, R199). -/
def gatesNow (s : State) (p : Nat) : Nat := if evaluated s p then gatesAt (activeView s p) s.mtime.toNat else 15

/-- Ticks to the next moment at which the gates meet a test, and the gates then, the takeover of a pending list
included (R195, R200). -/
def nextWhere (s : State) (p : Nat) (c : Nat → Bool) : Option (Nat × Nat) :=
  let m := s.mtime.toNat
  let a := nextSeg (activeView s p) m c
  if !(ni s p).shlPend || (ni s p).underTest then a
  else
    let tb := takeoverAt s p - m
    let v := stagedView s p
    let after :=
      if c (gatesAt v (m + tb)) then some (tb, gatesAt v (m + tb))
      else (nextSeg v (m + tb) c).map (fun g => (tb + g.1, g.2))
    match a with
    | some g => if g.1 < tb then some g else after
    | none => after

/-- One FCLK period in sixths of a tick, at P0 to P3 (R23). From L6 on FCLK runs at the new multiplier, before LEVEL
changes at L7 (R290). -/
def cycleSixths (s : State) : Nat :=
  match fget s pgPower (if s.power.trans == some .l6 then Pwr.pwrStatTarget else Pwr.pwrStatLevel) with
  | 0 => 12 | 1 => 15 | 2 => 20 | _ => 40

/-- R194, R195: the gate that holds a packet; none for packets that are never gated. -/
def gateOf (h : Header) : Option Nat :=
  if h.mcls == 6 then (if isMgtCpl h then none else some 3)
  else if h.mcls == 2 || h.mcls == 3 || h.mcls == 5 then none
  else some h.scls.toNat

/-- The gate test of R195 for a packet of `n` flits: open now, and until the last flit has entered the channel. -/
def gatePasses (s : State) (p : Nat) (h : Header) (n : Nat) : Bool :=
  match gateOf h with
  | none => true
  | some b =>
    (gatesNow s p).testBit b &&
      match nextWhere s p (fun g => !g.testBit b) with
      | none => true
      | some (d, _) => (n + 1) * cycleSixths s ≤ d * 6

/-- The endpoint sees the exports of the shell together; while ep_clk is stopped they hold their last values (R284).
ep_clk is taken as stopped while ep_ready is low (DESIGN CHOICE, log entry 105). -/
def presentGates (n : Ni) : Ni :=
  if n.epReady then { n with gateOut := { now := n.gateNow, next := n.gateNext, lead := n.gateLead, valid := n.gateValid } }
  else n

/-- gate_valid, gate_now and gate_next as the list gives them now (R200). -/
def gateValidNow (s : State) (p : Nat) : Bool := evaluated s p && (activeView s p).en
def gateNowNow (s : State) (p : Nat) : Nat := if gateValidNow s p then gatesNow s p else 15
def gateNextNow (s : State) (p : Nat) : Nat :=
  if gateValidNow s p then ((nextWhere s p (· != gateNowNow s p)).map (·.2)).getD (gateNowNow s p) else 15

/-- The next change of gate_now lies within `lead` ns (R200). -/
def leadDue (s : State) (p lead : Nat) : Bool :=
  gateValidNow s p && (nextWhere s p (· != gateNowNow s p)).any (fun g => g.1 ≤ lead * 4)

/-- The exports follow the list (R200). A change of gate_now ends gate_lead and puts LEAD_NS into effect; where the change
that gate_lead announced has moved, gate_lead falls. -/
def exportGates (p : Nat) (s : State) : State :=
  let now := gateNowNow s p
  let nxt := gateNextNow s p
  let valid := gateValidNow s p
  let changed := (ni s p).gateNow != now
  let lead := if changed then fget (workingRegs s p) (pgNi p) Ni.shlLeadLeadNs else (ni s p).leadNs
  let up := !changed && (ni s p).gateValid && (ni s p).gateLead && leadDue s p lead
  modNi p (fun n => presentGates
    { n with gateNow := now, gateNext := nxt, gateLead := up, gateValid := valid, leadNs := lead }) s

/-- The gates in force change, by the list or after a step or a takeover (GATE_EDGE, R196, R197); the exports follow, and
follow a change ahead that has moved (R200). -/
def execGateEdge (p : Port) (s : State) : Out :=
  let p := p.val
  let n := ni s p
  let now := gatesNow s p
  let same := n.gateNow == gateNowNow s p && n.gateNext == gateNextNow s p && n.gateValid == gateValidNow s p
    && (!n.gateLead || leadDue s p n.leadNs)
  if !isLive p || same then .next s
  else
    let s := onlyIf (n.gateNow != now && evaluated s p && !synced s)
      (fun s => flag (pgNi p) Ni.shlEvtUnsyncEdge (satAdd (pgNi p) Ni.shlCountUnsyncEdges 1 s)) s
    .next (exportGates p s)

/-- gate_lead rises LEAD_NS before the next change of gate_now (GATE_LEAD, R200). -/
def execGateLead (p : Port) (s : State) : Out :=
  let p := p.val
  let n := ni s p
  .next (onlyIf (n.gateValid && n.gateNow == gateNowNow s p && leadDue s p n.leadNs)
    (modNi p (fun n => presentGates { n with gateLead := true })) s)

/-- Keys of the staged shutter registers of an NI page: SHL_CFG, SHL_BASE and SHL_ENTRY (R198). -/
def isShlKey (k : Nat) : Bool :=
  let off := k / (64 * 4096) % 512 * 8
  off == 0x100 || off == 0x108 || (0x800 ≤ off && off ≤ 0xBF8)

/-- A staged copy takes a value, which stands as staged where it differs from the value in force. -/
def stageKey (k v : Nat) (s : State) : State :=
  { s with staged := tput (tget (resetAt k) s.regs k) s.staged k v }

/-- Values written behind a pending list are staged. -/
def stageWrote (p : Nat) (s : State) : State :=
  let l := (ni s p).shlWrote
  if l.isEmpty then s
  else
    forEach l (fun e => stageKey e.1 e.2)
      (fset (pgNi p) Hdr.pageStatStaged 1 (modNi p (fun n => { n with shlWrote := [] }) s))

/-- The pending list becomes the active copy (R198). -/
def takeOver (p : Nat) (s : State) : State :=
  let mine := s.staged.filter (fun e => keyPage e.1 == pgNi p && isShlKey e.1)
  let s := { s with
    regs := mine.foldl (fun t e => tput (resetAt e.1) t e.1 e.2) s.regs
    staged := s.staged.filter (fun e => !(keyPage e.1 == pgNi p && isShlKey e.1)) }
  let s := modNi p (fun n => { n with shlPend := false }) s
  flag (pgNi p) Ni.shlEvtTakeover (wrapAdd (pgNi p) Ni.shlCountTakeovers 1 (stageWrote p s))

/-- A boundary of the active list is reached while a list is pending (TAKEOVER, R198). -/
def execTakeover (p : Port) (s : State) : Out :=
  let p := p.val
  if isLive p && listMoves s p then .next (takeOver p s) else .next s

/-- What a step of MTIME does to the lists (R197, R198): STEPPED where a list moves; after a backward step a pending
list waits for the next boundary ahead. -/
def stepLists (back : Bool) (s : State) : State :=
  forEach livePorts (fun p s =>
    let s := onlyIf (evaluated s p && ((activeView s p).en || (ni s p).shlPend)) (flag (pgNi p) Ni.shlEvtStepped) s
    onlyIf (back && (ni s p).shlPend) (modNi p (fun n => { n with shlAt := s.mtime })) s) s

end Sys2Proof.Machine
end

