-- ==== Sys2Proof/Machine/Time.lean ====
section
/-! DEFINITION. The Time Unit (spec/05): its states (R137), frames (R131 to R134), alignment and steps (R139 to R142),
software discipline (R150, R151), timers (R143, R371) and the event log (R145). -/

namespace Sys2Proof.Machine

def modTime (f : TimeUnit → TimeUnit) (s : State) : State := { s with time := f s.time }

def srcSoftware (s : State) : Bool := fbit s pgTime Tu.timeCtrlSrc
def timeQuiesced (s : State) : Bool := fbit s pgTime Hdr.pageCtrlQuiesce
def inSlewLocked (s : State) : Bool := timeState s == tsSlew || timeState s == tsLocked

/-- Tick part of TB_DELAY in force, in units of 1/64 tick (R135). -/
def delayTicks (s : State) : Int := (fget s pgTime Tu.tbDelayDelay / 64 : Nat)

/-- Enters a state other than HOLDOVER and ACQUIRE: a holdover ends (R147), and LOCKED sets LOCK_ACQUIRED. A state that
stays LOCKED goes on learning its ratio. -/
def enterState (st : Nat) (s : State) : State :=
  let was := timeState s
  let s := modTime (fun t => { t with
    holdover := false, ratios := if st == tsLocked && was == tsLocked then t.ratios else [] }) (fset pgTime Tu.timeStatState st s)
  onlyIf (st == tsLocked && was != tsLocked) (flag pgTime Tu.timeEvtLockAcquired) s

/-- An entry to HOLDOVER from SLEW, LOCKED or SW_DISC (R137): HO_ELAPSED_US restarts; slewing goes on (R140); a change
of TB_DELAY that waited for an epoch edge is in effect for the next alignment. -/
def enterHoldover (s : State) : State :=
  let s := fset pgTime Tu.timeStatState tsHoldover s
  let s := fset pgTime Tu.holdoverStatHoElapsedUs 0 s
  let s := wrapAdd pgTime Tu.holdoverStatHoCount 1 (flag pgTime Tu.timeEvtHoldoverEnter s)
  modTime (fun t => { t with holdover := true, holdLong := false, delayChg := none, delayNow := delayTicks s,
                             stepAt := none, ratios := [] }) s

/-- Armed times by SOURCE code (R144). -/
def armedTimes (s : State) : List (Nat × Nat) :=
  [(srcGc, s.time.gcAt), (srcSwap, s.time.swapAt), (srcFlip, s.time.flipAt), (srcLedger, some (400000 * s.time.ledgerK)),
   (srcStrip, s.time.stripAt)].filterMap (fun e => e.2.map (fun t => (e.1, t)))
  ++ (List.range 4).filterMap (fun k => (tget none s.time.timers k).map (fun t => (srcTimer k, t.1)))

/-- A step replaces MTIME at the Time Unit and in every replica (R142). Events that a forward step passes fire LATE;
a LATE event whose time lies ahead again waits for it (R143). Shutter lists move (R197). -/
def doStep (m : Word) (s : State) : State :=
  let old := s.mtime.toNat
  let delta := m - s.mtime
  let late := (armedTimes s).filterMap (fun e =>
    if e.2 ≤ m.toNat ∧ (old < e.2 ∨ s.time.late.contains e.1) then some e.1 else none)
  let s := { s with mtime := m }
  let s := modTime (fun t => { t with late := late, lastStep := some m, snapAt := t.snapAt.map (· + delta)
                                      slewAt := t.slewAt + delta }) s
  let s := fset pgTime Tu.lastStepDelta delta.toNat (flag pgTime Tu.timeEvtStepped s)
  stepLists (m.toNat < old) s

/-- The remaining offset becomes `o`; slewing starts one SLEW_PERIOD from now (R140). -/
def setOffset (o : Int) (s : State) : State :=
  let p := fget s pgTime Tu.timeCtrlSlewPeriod
  modTime (fun t => { t with offset := o, slewAt := if t.offset = 0 then s.mtime + BitVec.ofNat 64 p else t.slewAt }) s

/-- What a slew has still to remove is cancelled, and with it a tick still to be withheld (R140). -/
def cancelSlew (s : State) : State := modTime (fun t => { t with skip := 0 }) (setOffset 0 s)

/-- MTIME moved by a signed count of ticks. -/
def shifted (s : State) (o : Int) : Word := s.mtime + BitVec.ofInt 64 o

/-- The HOLDOVER rows of R139 for an offset `o`. `rest` is what a slew has still to remove beside it: it stays, so a step
row leaves SLEW while it is not 0 (DESIGN CHOICE, log entry 15). -/
def alignBy (o rest : Int) (s : State) : State :=
  let limit : Int := fget s pgTime Tu.timeCtrlSlewLimit
  if o = 0 then if rest = 0 then enterState tsLocked s else s
  else if (-limit ≤ o ∧ o ≤ limit) ∨ (o < 0 ∧ fget s pgTime Tu.timeCtrlStepBackEn = 0) then
    if o + rest = 0 then enterState tsLocked (setOffset 0 s) else enterState tsSlew (setOffset (o + rest) s)
  else enterState (if rest = 0 then tsLocked else tsSlew) (doStep (shifted s o) s)

/-! ## The rate of MTIME (R126, R136, R147) -/

/-- Units of a rate: a correction of 2^−16 ppm is one part in this many. -/
def rateUnit : Nat := 65536000000

/-- The correction of the TPLL's reference in a state: the ratio that software sets, the last one learnt, or none. -/
def stateRatio (s : State) (st : Nat) : Int :=
  if st = tsSwDisc then (BitVec.ofNat 32 (fget s pgTime Tu.swFreqFreqAdj)).toInt
  else if st = tsHoldover then s.time.learnt
  else if st = tsSlew ∨ st = tsLocked then Config.tbRatio s.us
  else 0

/-- The correction in force; in ACQUIRE that of the state it was entered from. -/
def ratioNow (s : State) : Int := stateRatio s (if timeState s = tsAcquire then s.time.origin else timeState s)

/-- A µs of LOCKED is learnt; with 1,000 of them their mean is the ratio learnt (R147). -/
def learnRatio (s : State) : State :=
  if timeState s = tsLocked then
    let l := (Config.tbRatio s.us :: s.time.ratios).take 1000
    modTime (fun t => { t with ratios := l, learnt := if l.length = 1000 then l.sum / 1000 else t.learnt }) s
  else s

/-! ## ACQUIRE and frames -/

/-- The acquisition detector is locked now, and whether it has locked within 50 µs of the entry (R126, R137). -/
def detectorLocked (s : State) : Bool := s.time.acqLock ≤ s.us - s.time.acqUs
def lockedInTime (s : State) : Bool := s.time.acqLock ≤ 50

/-- Edges of tb_ref arrive. After tb_ref was lost, earlier frames are forgotten, since no epoch edge was counted without it
(log entry 14). -/
def refPresent (s : State) : State :=
  if s.pins.tbRef then s
  else modTime (fun t => { t with lastGood := none }) { s with pins := { s.pins with tbRef := true } }

/-- tb_ref is present, and with SRC = TIMEBASE and the page not quiesced FREERUN and HOLDOVER enter ACQUIRE (R137). -/
def execAcquire (s : State) (lockUs : Nat := 0) : Out :=
  let s := refPresent s
  if (timeState s == tsFreerun || timeState s == tsHoldover) && !srcSoftware s && !timeQuiesced s then
    let s := modTime (fun t => { t with
      origin := timeState s, acqUs := s.us, acqLock := lockUs, goodRun := 0, badRun := 0, alignAt := none }) s
    .next (fset pgTime Tu.timeStatState tsAcquire s)
  else .next s

/-- tb_ref edges stop, or the TPLL loses lock while they arrive, `edges` (TB_REF_LOSS, R137). -/
def execTbRefLoss (s : State) (edges : Bool := false) : Out :=
  if !s.pins.tbRef then .next s
  else
    let s := flag pgTime Tu.timeEvtTbLoss { s with pins := { s.pins with tbRef := edges } }
    if inSlewLocked s then .next (enterHoldover s)
    else if timeState s = tsAcquire then .next (fset pgTime Tu.timeStatState s.time.origin s)
    else .next s

/-- CRC-16 of R133 over bits, most significant first. -/
def crc16 : List Bool → Nat → Nat
  | [], c => c
  | b :: t, c =>
    let top := (c / 2 ^ 15 % 2 == 1) != b
    crc16 t (if top then (c * 2 % 2 ^ 16) ^^^ 0x1021 else c * 2 % 2 ^ 16)

/-- The level of a half cell, and the bit of a cell: 1 is low to high at mid-cell (R130). -/
def halfCell (cells : BitVec 200) (i : Nat) : Bool := cells.getLsbD i
def cellBit (cells : BitVec 200) (i : Nat) : Bool := halfCell cells (2 * i + 1)
/-- The bits of `n` cells from cell `a` on, most significant first. -/
def cellsField (cells : BitVec 200) (a n : Nat) : Nat :=
  (List.range n).foldl (fun v i => 2 * v + (cellBit cells (a + i)).toNat) 0

/-- The frame that 100 cells spell (R130, R131): SYNC is high for two cells and low for two, and a cell without a
transition at its middle is a code violation. -/
def decodeFrame (cells : BitVec 200) : TbFrame where
  sync := (List.range 8).all (fun i => halfCell cells i == decide (i < 4))
  clean := (List.range 96).all (fun i => halfCell cells (2 * (i + 4)) != halfCell cells (2 * (i + 4) + 1))
  flags := BitVec.ofNat 8 (cellsField cells 4 8)
  edge := BitVec.ofNat 64 (cellsField cells 12 64)
  crc := BitVec.ofNat 16 (cellsField cells 76 16)

/-- Bits of cells 4 to 75: FLAGS, then EDGE_TIME, most significant first (R131). -/
def frameBits (f : TbFrame) : List Bool :=
  (List.range 8).map (fun i => f.flags.getLsbD (7 - i)) ++ (List.range 64).map (fun i => f.edge.getLsbD (63 - i))

/-- The counter of the first cause that makes a frame bad; none for a good frame (R134). -/
def judgeFrame (s : State) (f : TbFrame) : Option Fld :=
  if !f.sync || !f.clean then some Tu.tbCountersMissing
  else if crc16 (frameBits f) 0xFFFF ≠ f.crc.toNat then some Tu.tbCountersCrc
  else if f.flags.toNat / 32 ≠ 1 then some Tu.tbCountersVersion
  else if f.edge.toNat % 4000 ≠ 0 then some Tu.tbCountersMismatch
  else if f.flags.getLsbD 1 then none
  else
    match s.time.lastGood with
    | some e => if f.edge = e + BitVec.ofNat 64 (4000 * (s.time.periods + 1)) then none else some Tu.tbCountersMismatch
    | none => none

/-- A frame is judged at the epoch edge that ends it, which is the edge that it announces (DESIGN CHOICE, log entry 104):
R134, R138, R141. -/
def takeFrame (f : TbFrame) (s : State) : State :=
  match judgeFrame s f with
  | some cnt =>
    (modTime (fun t => { t with periods := t.periods + 1, badRun := t.badRun + 1, goodRun := 0, alignAt := none })
      (satAdd pgTime cnt 1 s))
  | none =>
    let stp := f.flags.getLsbD 1
    let s := modTime (fun t => { t with lastGood := some f.edge, periods := 0, badRun := 0 }) s
    let s := fset pgTime Tu.timeStatFlagsLast f.flags.toNat (fset pgTime Tu.lastFrameEdgeTime f.edge.toNat s)
    let s := onlyIf (f.flags.getLsbD 2) (flag pgTime Tu.timeEvtUpstreamHoldover) s
    if timeState s = tsAcquire then
      (modTime (fun t => { t with goodRun := if stp then 1 else t.goodRun + 1, alignAt := some f.edge }) s)
    else if !inSlewLocked s then s
    else if stp then (modTime (fun t => { t with stepAt := some f.edge }) s)
    else
      let d : Int := (f.edge.toNat : Int) + s.time.delayNow - (s.mtime.toNat : Int) - s.time.offset
      (onlyIf (d < -1 || 1 < d) (satAdd pgTime Tu.tbCountersMismatch 1) s)

/-- A frame is received (TB_FRAME, R130, R134). While SRC = SOFTWARE it is not decoded (R137), but its epoch edge counts. -/
def execTbFrame (cells : BitVec 200) (s : State) : Out :=
  if !s.pins.tbRef then .next s
  else if srcSoftware s then .next (modTime (fun t => { t with periods := t.periods + 1 }) s)
  else .next (takeFrame (decodeFrame cells) s)

/-- CODE_LOSS_LIMIT consecutive bad frames force HOLDOVER (CODE_LOSS, R137). -/
def execCodeLoss (s : State) : Out :=
  if inSlewLocked s && fget s pgTime Tu.timeCtrlCodeLossLimit ≤ s.time.badRun then
    .next (enterHoldover (flag pgTime Tu.timeEvtCodeLoss s))
  else .next s

/-- The TPLL has not locked within 50 µs of ACQUIRE (ACQ_FAIL, R137). -/
def execAcqFail (s : State) : Out :=
  if timeState s = tsAcquire ∧ 50 ≤ s.us - s.time.acqUs ∧ !lockedInTime s then
    .next (flag pgTime Tu.timeEvtAcqFail (fset pgTime Tu.timeStatState s.time.origin s))
  else .next s

/-- The epoch edge that the last qualifying frame announced (ALIGN, R139). A remaining offset is cancelled (R140). -/
def execAlign (s : State) : Out :=
  match s.time.alignAt with
  | none => .next s
  | some e =>
    if timeState s = tsAcquire ∧ detectorLocked s ∧ fget s pgTime Tu.timeCtrlAcqFrames ≤ s.time.goodRun then
      let d := delayTicks s
      let target := e + BitVec.ofInt 64 d
      let origin := s.time.origin
      let s := cancelSlew (modTime (fun t => { t with alignAt := none, delayNow := d, delayChg := none, stepAt := none }) s)
      if origin = tsFreerun then .next (enterState tsLocked (doStep target s))
      else .next (alignBy ((target.toNat : Int) - (s.mtime.toNat : Int)) 0 s)
    else .next s

/-- A committed change of TB_DELAY takes effect at an epoch edge (DELAY_CHANGE, R139). The change adds to a slew that
still runs (log entry 15). -/
def execDelayChange (s : State) : Out :=
  match s.time.delayChg with
  | none => .next s
  | some o =>
    if inSlewLocked s then
      .next (alignBy o s.time.offset (modTime (fun t => { t with delayChg := none, delayNow := t.delayNow + o }) s))
    else .next s

/-- The edge that a frame with STEP announced (STEP_ANNOUNCED, R141). Its TB_DELAY is the one in effect: a committed change
that waits for the same edge (R139) counts when DELAY_CHANGE comes first (DESIGN CHOICE, log entry 122). -/
def execStepAnnounced (s : State) : Out :=
  match s.time.stepAt with
  | none => .next s
  | some e =>
    if inSlewLocked s then
      let s := cancelSlew (modTime (fun t => { t with stepAt := none }) s)
      .next (flag pgTime Tu.timeEvtStepAnnounced (enterState tsLocked (doStep (e + BitVec.ofInt 64 s.time.delayNow) s)))
    else .next s

/-- One slew step: a tick added, or one withheld from the counting that follows (SLEW_STEP, R140). -/
def execSlewStep (s : State) : Out :=
  let o := s.time.offset
  if o = 0 ∨ s.mtime < s.time.slewAt then .next s
  else
    let p := BitVec.ofNat 64 (fget s pgTime Tu.timeCtrlSlewPeriod)
    let s := if 0 < o then { s with mtime := s.mtime + 1 } else modTime (fun t => { t with skip := t.skip + 1 }) s
    let o' := if 0 < o then o - 1 else o + 1
    let s := modTime (fun t => { t with offset := o', slewAt := t.slewAt + p }) s
    .next (onlyIf (o' == 0 && timeState s == tsSlew) (enterState tsLocked) s)

/-- A write of SW_FREQ (SW_FREQ, R137): refused while SRC = TIMEBASE; magnitudes above 500 ppm are reserved; from
FREERUN and HOLDOVER it enters SW_DISC. -/
def execSwFreq (value : Word) (s : State) : Out :=
  let v := value.extractLsb' 0 32
  if !srcSoftware s then .next (errState pgTime 0x70 s)
  else if 500 * 65536 < v.toInt ∨ v.toInt < -(500 * 65536) then .next (errReserved pgTime 0x70 s)
  else
    let s := modTime (fun t => { t with swUs := s.us }) (fset pgTime Tu.swFreqFreqAdj v.toNat s)
    .next (onlyIf (timeState s == tsFreerun || timeState s == tsHoldover) (enterState tsSwDisc) s)

/-- A write of SW_PHASE adds a signed slew (SW_PHASE, R140); refused while SRC = TIMEBASE. -/
def execSwPhase (value : Word) (s : State) : Out :=
  if !srcSoftware s then .next (errState pgTime 0x78 s)
  else .next (setOffset (s.time.offset + (value.extractLsb' 0 32).toInt) (modTime (fun t => { t with swUs := s.us }) s))

/-- No write of SW_FREQ or SW_PHASE for SW_WDOG_MS (SW_WDOG_EXPIRED, R137). -/
def execSwWdogExpired (s : State) : Out :=
  if timeState s = tsSwDisc ∧ fget s pgTime Tu.timeLimitsSwWdogMs * 1000 ≤ s.us - s.time.swUs then
    .next (enterHoldover (flag pgTime Tu.timeEvtSwWdogExpired s))
  else .next s

/-- A write of MTIME_SET (MTIME_SET, R142): an S field, accepted in FREERUN or HOLDOVER; the state becomes FREERUN. -/
def execMtimeSet (value : Word) (s : State) : Out :=
  if !fbit s pgTime Hdr.pageStatQuiesced then
    .next (if value.toNat = fget s pgTime Tu.mtimeSetValue then s
      else pageErr pgTime Hdr.pageErrStaticWrite 0x60 s)
  else if timeState s = tsFreerun ∨ timeState s = tsHoldover then
    .next (enterState tsFreerun (doStep value (cancelSlew (fset pgTime Tu.mtimeSetValue value.toNat s))))
  else .next (errState pgTime 0x60 s)

/-- HO_ELAPSED_US reaches HO_ALARM_MS (HOLDOVER_LONG, R147). -/
def execHoldoverLong (s : State) : Out :=
  if s.time.holdover && !s.time.holdLong
      && fget s pgTime Tu.timeLimitsHoAlarmMs * 1000 ≤ fget s pgTime Tu.holdoverStatHoElapsedUs then
    .next (modTime (fun t => { t with holdLong := true }) (flag pgTime Tu.timeEvtHoldoverLong s))
  else .next s

/-- A rising edge on tb_snap (TB_SNAP, R151): ignored within 1 µs of a capture. -/
def execTbSnap (s : State) : Out :=
  let near : Bool := match s.time.snapAt with
    | some t => decide (s.mtime - t < 4000)
    | none => false
  if near then .next s
  else .next (modTime (fun t => { t with snapAt := some s.mtime })
    (flag pgTime Tu.timeEvtSnapNew (fset pgTime Tu.snapSnapTime s.mtime.toNat s)))

/-! ## Timers (R143, R371) -/

/-- PERIODIC and PERIOD of a write to TIMERk_CTRL; the reserved combination leaves both (R6). -/
def timerFields (k : Nat) (value : Word) (s : State) : State :=
  let per := value.getLsbD 3
  let n := (value.extractLsb' 8 32).toNat
  if per && n < 4000 then errReserved pgTime (0x108 + 16 * k) s
  else fset pgTime Tu.timerCtrlPeriod n (fsetB pgTime Tu.timerCtrlPeriodic per s k) k

def timerDisarm (k : Nat) (s : State) : State :=
  modTime (fun t => { t with timers := tput none t.timers k none, late := t.late.filter (· != srcTimer k) })
    (fset pgTime Tu.timerCtrlArmed 0 s k)

/-- Arms a timer at TARGET, sampled with PERIODIC and PERIOD (R143). -/
def timerArm (k : Nat) (s : State) : State :=
  let t := fget s pgTime Tu.timerTimeTarget k
  let period := if fbit s pgTime Tu.timerCtrlPeriodic k then fget s pgTime Tu.timerCtrlPeriod k else 0
  let s := modTime (fun x => { x with timers := tput none x.timers k (some (t, period)) }) s
  markArm (srcTimer k) t (fset pgTime Tu.timerCtrlArmed 1 s k)

def execTimerArm (k : Fin 4) (value : Word) (s : State) : Out := .next (timerArm k.val (timerFields k.val value s))
def execTimerDisarm (k : Fin 4) (value : Word) (s : State) : Out := .next (timerDisarm k.val (timerFields k.val value s))
/-- DISARM and ARM in one write (TIMER_REARM, R371). -/
def execTimerRearm (k : Fin 4) (value : Word) (s : State) : Out :=
  .next (timerArm k.val (timerDisarm k.val (timerFields k.val value s)))

/-- A comparator of a lower Value is due at this edge, and its effects come first (R144). -/
def dueBefore (s : State) (src : Nat) : Bool := (armedTimes s).any (fun e => e.1 < src && e.2 ≤ s.mtime.toNat)

/-- A timer's comparator finds MTIME at or past its target (TIMER_FIRE, R143). A periodic timer's next T is
the comparator's alone: TIMERk_TIME.TARGET reads as software wrote it (DESIGN CHOICE, log entry 139). -/
def execTimerFire (k : Fin 4) (s : State) : Out :=
  let k := k.val
  match tget none s.time.timers k with
  | none => .next s
  | some (t, period) =>
    if s.mtime.toNat < t ∨ dueBefore s (srcTimer k) then .next s
    else
      let f := firing s (srcTimer k) t period
      let s := flagBit pgTime Tu.timeEvtTimer k (logFiring (srcTimer k) f s)
      if period = 0 then .next (timerDisarm k s)
      else .next (modTime (fun x => { x with timers := tput none x.timers k (some (f.target + period, period)) }) s)

/-- A read of EVT_LOG_W1 with VALID = 1 removes the oldest record (EVT_LOG_POP, R145). -/
def execEvtLogPop (s : State) : Out := .next (modTime (fun t => { t with log := t.log.tail }) s)

/-- What QUIESCE does to the Time Unit's state (R137, R359). -/
def quiesceTime (s : State) : State :=
  if timeState s = tsAcquire then fset pgTime Tu.timeStatState s.time.origin s
  else if inSlewLocked s || timeState s == tsSwDisc then enterHoldover s
  else s

/-- A COMMIT of TB_DELAY: in LOCKED or SLEW the change waits for an epoch edge, else it is in effect (R139). -/
def commitDelay (s : State) : State :=
  let d := delayTicks s
  if inSlewLocked s then
    modTime (fun t => { t with delayChg := if d = t.delayNow then none else some (d - t.delayNow) }) s
  else modTime (fun t => { t with delayNow := d, delayChg := none }) s

end Sys2Proof.Machine
end

