-- ==== Sys2Proof/Machine/Epochs.lean ====
section
/-! DEFINITION. Route epochs (spec/03 R88 to R94): arming a flip, the flip, drain samples, and writes of RT_DATA. -/

namespace Sys2Proof.Machine

/-- INJ(e) − REM(e) of a router (R92). -/
def residOf (s : State) (r : Nat) (e : Bool) : Int :=
  let x := router s r
  if e then (x.inj1 : Int) - x.rem1 else (x.inj0 : Int) - x.rem0

/-- The drain count of an epoch; zero while FAB is off (R92). -/
def drainCount (s : State) (e : Bool) : Int :=
  if fabOn s then ((List.range 64).map (fun r => residOf s r e)).sum else 0

/-- A bank is idle when its epoch differs from INJ_EPOCH and has drained (R89, R91). -/
def bankIdle (s : State) (e : Bool) : Bool :=
  e != injEpoch s && !fbit s pgFg Fg.rtEpochStatDraining && drainCount s e == 0

/-- A refused arm (R90). -/
def refuseFlip (cause : Nat) (s : State) : State :=
  flag pgFg Fg.rtEpochStatFlipRefused (fset pgFg Fg.rtEpochStatRefuseCause cause s)

/-- RT_EPOCH_CTRL.ARM (R90): the causes in their order, else the flip is armed at RT_FLIP_TIME. -/
def armFlip (s : State) : State :=
  let t := fget s pgFg Fg.rtFlipTimeFlipTime
  if !bankIdle s (!injEpoch s) then refuseFlip 1 s
  else if t < s.mtime.toNat + 1024 then refuseFlip 2 s
  else if s.time.flipAt.isSome then refuseFlip 3 s
  else markArm srcFlip t (fset pgFg Fg.rtEpochStatArmed 1 (modTime (fun x => { x with flipAt := some t }) s))

def disarmFlip (s : State) : State :=
  fset pgFg Fg.rtEpochStatArmed 0
    (modTime (fun x => { x with flipAt := none, late := x.late.filter (· != srcFlip) }) s)

/-- A write of ARM (FLIP_ARM, R90), of DISARM (FLIP_DISARM), and of both (FLIP_REARM, R371). -/
def execFlipArm (s : State) : Out := .next (armFlip s)
def execFlipDisarm (s : State) : Out := .next (disarmFlip s)
def execFlipRearm (s : State) : Out := .next (armFlip (disarmFlip s))

/-- The ROUTE_FLIP comparator fires and the flip reaches t3 (ROUTE_FLIP, R91). -/
def execRouteFlip (s : State) : Out :=
  if !due s s.time.flipAt || dueBefore s srcFlip then .next s
  else
    let f := firing s srcFlip (s.time.flipAt.getD 0) 0
    let s := disarmFlip (logFiring srcFlip f s)
    let s := fsetB pgFg Fg.rtEpochStatInjEpoch (!injEpoch s) s
    let s := fset pgFg Fg.rtEpochStatDraining 1 (fset pgFg Fg.rtEpochStatDrainDone 0 s)
    let s := wrapAdd pgFg Fg.rtEpochStatFlipCount 1 (irqHold pgFg 16 s)
    let s := onlyIf f.unsync (flag pgFg Fg.rtEpochStatFlipHoldover) s
    .next { s with flipUs := s.us, flipTick := s.ticks, flipStalled := false }

/-- A drain sample: RESIDUAL, and DRAIN_DONE at the first that finds zero; RT_DRAIN_LIMIT as written
so far takes effect (DRAIN_SAMPLE, R91 to R93). -/
def execDrainSample (s : State) : Out :=
  if !fbit s pgFg Fg.rtEpochStatDraining then .next s
  else
    let n := drainCount s (!injEpoch s)
    let s := { fset pgFg Fg.rtDrainCountResidual (n % 2 ^ 24).toNat s with flipLim := fget s pgFg Fg.rtDrainLimitLimitUs }
    if n ≠ 0 then .next s
    else
      let s := fset pgFg Fg.rtEpochStatDraining 0 (fset pgFg Fg.rtEpochStatDrainDone 1 s)
      .next (irqHold pgFg 17 (fset pgFg Fg.rtDrainCountLastDrainNs ((s.ticks - s.flipTick) / 4) s))

/-- DRAINING has outlasted RT_DRAIN_LIMIT as the last sample took it, once for a flip (DRAIN_STALL, R93). -/
def execDrainStall (s : State) : Out :=
  if fbit s pgFg Fg.rtEpochStatDraining && !s.flipStalled && s.flipLim < s.us - s.flipUs then
    .next { flag pgFg Fg.rtEpochStatDrainStall s with flipStalled := true }
  else .next s

/-- Whether reservation work depends on a route entry: A_OUT or VALID changes (R210). -/
def routeChange (a b : Word) : Bool := (rtEntry a).a != (rtEntry b).a || (rtEntry a).valid != (rtEntry b).valid

end Sys2Proof.Machine
end

