-- ==== Sys2Proof/Machine/Rsv.lean ====
section
/-! DEFINITION. The Reservation Table (spec/08 R201 to R213): channels and loads, admission, re-checks, and the writes of
RT_DATA (spec/03 R89) that start a re-check. -/

namespace Sys2Proof.Machine

/-- A copy of a reservation: RSV_W0 and RSV_W1 (R201). -/
structure RsvCopy where
  host : Nat
  fq : Nat
  kind : Nat
  len : Nat
  rprio : Nat
  part : Nat
  rate : Nat
  tkind : Nat
  ways : Nat
  tgt : Nat
  deriving DecidableEq, Repr

def rsvRequested (s : State) (i : Nat) : RsvCopy where
  host := fget s pgRsv Rsv.rsvW0Host i
  fq := fget s pgRsv Rsv.rsvW0Fq i
  kind := fget s pgRsv Rsv.rsvW0Kind i
  len := fget s pgRsv Rsv.rsvW0Len i
  rprio := fget s pgRsv Rsv.rsvW0Rprio i
  part := fget s pgRsv Rsv.rsvW0Part i
  rate := fget s pgRsv Rsv.rsvW0Rate i
  tkind := fget s pgRsv Rsv.rsvW1Tkind i
  ways := fget s pgRsv Rsv.rsvW1Ways i
  tgt := fget s pgRsv Rsv.rsvW1Tgt i

def rsvInForce (s : State) (i : Nat) : RsvCopy where
  host := fget s pgRsv Rsv.rsvForce0Host i
  fq := fget s pgRsv Rsv.rsvForce0Fq i
  kind := fget s pgRsv Rsv.rsvForce0Kind i
  len := fget s pgRsv Rsv.rsvForce0Len i
  rprio := fget s pgRsv Rsv.rsvForce0Rprio i
  part := fget s pgRsv Rsv.rsvForce0Part i
  rate := fget s pgRsv Rsv.rsvForce0Rate i
  tkind := fget s pgRsv Rsv.rsvForce1Tkind i
  ways := fget s pgRsv Rsv.rsvForce1Ways i
  tgt := fget s pgRsv Rsv.rsvForce1Tgt i

/-- The in-force copy takes a requested one. -/
def setInForce (i : Nat) (c : RsvCopy) (s : State) : State :=
  let s := fset pgRsv Rsv.rsvForce0Kind c.kind (fset pgRsv Rsv.rsvForce0Fq c.fq (fset pgRsv Rsv.rsvForce0Host c.host s i) i) i
  let s := fset pgRsv Rsv.rsvForce0Part c.part (fset pgRsv Rsv.rsvForce0Rprio c.rprio (fset pgRsv Rsv.rsvForce0Len c.len s i) i) i
  let s := fset pgRsv Rsv.rsvForce1Tkind c.tkind (fset pgRsv Rsv.rsvForce0Rate c.rate s i) i
  fset pgRsv Rsv.rsvForce1Tgt c.tgt (fset pgRsv Rsv.rsvForce1Ways c.ways s i) i

def rsvState (s : State) (i : Nat) : Nat := fget s pgRsv Rsv.rsvStatState i
def rsvAdmitted (s : State) (i : Nat) : Bool := rsvState s i == 1
def rsvHeld (s : State) (i : Nat) : Bool := fbit s pgRsv Rsv.rsvStatLoadHeld i

/-- Reservations whose RSV_STAT holds anything, ascending. -/
def rsvListed (s : State) : List Nat :=
  let ids := (s.regs.filter (fun e => keyPage e.1 == pgRsv && e.1 / (64 * 4096) % 512 == 0x70 / 8)).map (fun e => e.1 % 4096)
  ids.foldl insertNat []
where
  insertNat : List Nat → Nat → List Nat
  | [], a => [a]
  | b :: t, a => if a = b then b :: t else if a < b then a :: b :: t else b :: insertNat t a

def admittedList (s : State) : List Nat := (rsvListed s).filter (rsvAdmitted s)
def demotedList (s : State) : List Nat := (rsvListed s).filter (fun i => rsvState s i == 2)
/-- Reservations that hold load (R206). -/
def loadList (s : State) : List Nat := (rsvListed s).filter (fun i => rsvAdmitted s i || rsvHeld s i)

/-- The target set as ports (RSV_W1). -/
def targetsOf (c : RsvCopy) : List Nat :=
  if c.tkind = 0 then (List.range (2 ^ c.ways)).map (fun k => memPort (c.tgt + k)) else [c.tgt]

/-- Condition 1 of R206. -/
def wellFormedRsv (c : RsvCopy) : Bool :=
  c.kind != 0 && c.rate != 0 && c.tkind ≤ 1 && c.ways ≤ 6
    && (if c.tkind = 0 then c.tgt + 2 ^ c.ways ≤ 64
        else c.ways == 0 && (portType c.tgt == .mem || portType c.tgt == .ncache))

/-- Channels from router `r` along A_OUT of a bank to a port, over VALID entries, within `n` routers (R203, R206). -/
def aWalk (s : State) (bank dst : Nat) : Nat → Nat → Option (List Nat)
  | 0, _ => none
  | n + 1, r =>
    let e := rtEntry (rtImgWord s r bank dst)
    if !e.valid then none
    else if e.a < 4 then (if r = dst / 4 ∧ e.a = dst % 4 then some [outChan r e.a] else none)
    else (aWalk s bank dst n (far r e.a).1).map (fun l => outChan r e.a :: l)

/-- The path from one port to another in a bank, the source's local channel first. -/
def aPath (s : State) (bank src dst : Nat) : Option (List Nat) := (aWalk s bank dst 6 (src / 4)).map (fun l => niChan src :: l)

def unionNat (a b : List Nat) : List Nat := b.foldl (fun l x => if l.contains x then l else l ++ [x]) a

/-- Every path of R203, request and response; none where one does not reach its end. -/
def rsvPaths (s : State) (c : RsvCopy) : List (Nat × Option (List Nat)) × List (Nat × Option (List Nat)) :=
  let h := hostPort c.host
  let both := (targetsOf c).flatMap (fun t => [(0, t), (1, t)])
  (both.map (fun e => (e.1, aPath s e.1 h e.2)), both.map (fun e => (e.1, aPath s e.1 e.2 h)))

def chansOf (l : List (Nat × Option (List Nat))) : List Nat := l.foldl (fun a e => unionNat a (e.2.getD [])) []

/-- The loads of a reservation (R204). -/
structure RsvLoad where
  idx : Nat
  rprio : Nat
  req : List Nat
  rsp : List Nat
  reqLoad : Nat
  reqBurst : Nat
  rspLoad : Nat
  rspBurst : Nat
  tgts : List Nat
  rate : Nat
  routed : Bool
  deriving DecidableEq, Repr

def ceilDiv (a b : Nat) : Nat := (a + b - 1) / b

def loadOf (s : State) (i : Nat) (c : RsvCopy) : RsvLoad :=
  let (q, p) := rsvPaths s c
  let n := c.len + 1
  let small := ceilDiv c.rate n
  let big := ceilDiv (c.rate * (n + 1)) n
  { idx := i, rprio := c.rprio, req := chansOf q, rsp := chansOf p
    reqLoad := if c.kind = 1 then small else big, reqBurst := if c.kind = 1 then 1 else n + 1
    rspLoad := if c.kind = 2 then small else big, rspBurst := if c.kind = 2 then 1 else n + 1
    tgts := targetsOf c, rate := c.rate, routed := (q ++ p).all (fun e => e.2.isSome) }

def loadAt (l : RsvLoad) (c : Nat) : Nat := (if l.req.contains c then l.reqLoad else 0) + (if l.rsp.contains c then l.rspLoad else 0)
def burstAt (l : RsvLoad) (c : Nat) : Nat :=
  (if l.req.contains c then l.reqBurst else 0) + (if l.rsp.contains c then l.rspBurst else 0)

/-- LOAD, BSUM and BMIN of a channel, and TLOAD of a target (R206). -/
def sumLoad (ls : List RsvLoad) (c : Nat) : Nat := (ls.map (fun l => loadAt l c)).sum
def sumBurst (ls : List RsvLoad) (c : Nat) : Nat := (ls.map (fun l => burstAt l c)).sum
def minBurst (ls : List RsvLoad) (c : Nat) : Nat :=
  match (ls.map (fun l => burstAt l c)).filter (· != 0) with
  | [] => 0
  | b :: t => t.foldl min b
def sumTarget (ls : List RsvLoad) (t : Nat) : Nat := ((ls.filter (fun l => l.tgts.contains t)).map RsvLoad.rate).sum

/-- The level whose capacity admission assumes: the slower of A_LEVEL and the current level (R205, R213). -/
def capLevel (s : State) : Nat := max (fget s pgRsv Rsv.rsvCfgALevel) (fget s pgPower Pwr.pwrStatLevel)

/-- A_CAP of a channel (R205, R210): 0 for a link that is DOWN. -/
def aCap (s : State) (c : Nat) : Nat :=
  if (chan s c).st == .down then 0
  else match capLevel s with | 0 => 64000 | 1 => 51200 | 2 => 38400 | _ => 19200

/-- A lost target (R205): isolated or fenced, not present, in WAKE_FAILED or in CONFIG_LOST. -/
def lostTarget (s : State) (p : Nat) : Bool :=
  (portType p == .mem && !s.pins.present.getLsbD (slotOf p)) || fbit s (pgNi p) Ni.isoStatIsolated || fbit s pgPower Pwr.pwrNiStatWakeFailed p || fbit s pgPower Pwr.pwrNiStatConfigLost p

/-- TCAP of a port (R205). -/
def tCap (s : State) (p : Nat) : Nat :=
  let guar := match portType p with
    | .mem => fget s pgRsv Rsv.rsvCfgMemGuar
    | .ncache => fget s pgRsv Rsv.rsvCfgNcacheGuar
    | _ => 0
  if lostTarget s p then 0 else guar * (8 - (ni s p).derate) / 8

/-- An NI's power policy forbids N2 (R294). -/
def forbidsN2 (s : State) (p : Nat) : Bool :=
  !fbit s pgPower Pwr.pwrNiCfgSleepOk p && (nstate s p == 0 || nstate s p == 1) && (ni s p).entry.isNone

/-- Conditions 5, 6 and 7 of R206 on one channel or target. -/
def linkBad (s : State) (ls : List RsvLoad) (c : Nat) : Bool := aCap s c < sumLoad ls c
def burstBad (ls : List RsvLoad) (c : Nat) : Bool := 5 + minBurst ls c < sumBurst ls c
def targetBad (s : State) (ls : List RsvLoad) (t : Nat) : Bool := tCap s t < sumTarget ls t

/-- The least of a list. -/
def leastNat : List Nat → Option Nat
  | [] => none
  | a :: t => match leastNat t with
    | none => some a
    | some b => some (min a b)

/-- Outcome of the test of R206: CODE, CAUSE, FAIL_CH and FAIL_TGT. A field that the outcome does not name is 0 (DESIGN CHOICE,
log entry 142). -/
def admitTest (s : State) (i : Nat) : Nat × Nat × Nat × Nat :=
  let c := rsvRequested s i
  if !wellFormedRsv c then (4, 0, 0, 0)
  else if (admittedList s).any (fun j => j != i && (rsvInForce s j).host == c.host && (rsvInForce s j).fq == c.fq) then (4, 0, 0, 0)
  else
    let r := loadOf s i c
    let ls := r :: ((loadList s).filter (· != i)).map (fun j => loadOf s j (rsvInForce s j))
    let mine := unionNat r.req r.rsp
    if !r.routed then (5, 0, 0, 0)
    else if !(hostPort c.host :: r.tgts).all (forbidsN2 s) then (3, 0, 0, 0)
    else match leastNat (mine.filter (linkBad s ls)) with
      | some ch => (2, 1, ch, 0)
      | none => match leastNat (mine.filter (burstBad ls)) with
        | some ch => (2, 2, ch, 0)
        | none => match leastNat (r.tgts.filter (targetBad s ls)) with
          | some t => (2, 3, 0, t)
          | none => (1, 0, 0, 0)

/-! ## Banks 16 and 18 to 25 (R305, R306) -/

/-- A failed bank sets its bit of RET_FAIL.BANKS and raises RETENTION_FAIL (R306). -/
def markFailed (b : Nat) (s : State) : State := flagBit pgPower Pwr.retFailBanks b (flag pgPower Pwr.pwrEvtRetentionFail s)

/-- Bank 16 fails: every reservation becomes FREE with LOAD_HELD = 0. -/
def failBank16 (s : State) : State :=
  forEach (rsvListed s) (fun i s => fset pgRsv Rsv.rsvStatLoadHeld 0 (fset pgRsv Rsv.rsvStatState 0 s i) i) s

/-- Bank 16 is read; `bad`: SECDED finds an error that it cannot correct (R305). -/
def readBank16 (bad : Bool) (s : State) : State := onlyIf bad (fun s => failBank16 (markFailed 16 s)) s

/-- Whether a change of the entry for `port` at router `r` in a bank bears on an ADMITTED reservation (R210). -/
def routeMatters (s : State) (r bank port : Nat) : Bool :=
  (admittedList s).any (fun i =>
    let c := rsvInForce s i
    let (q, p) := rsvPaths s c
    (hostPort c.host :: targetsOf c).contains port
      && (q ++ p).any (fun e => e.1 == bank && (e.2.getD []).any (fun ch => ch < 1024 && ch / 16 == r)))

/-- Bank 18 + row: the Galon tables are loaded into the routers of the row and the bank. The load counts as a route write
(R210). -/
def failRow (row : Nat) (s : State) : State :=
  let keep (e : Nat × Word) : Bool := rowOf (e.1 / 512) != row
  let moved := s.rtImg.any (fun e => !keep e && routeChange e.2 (galonWord (e.1 / 512) (e.1 % 256))
    && routeMatters s (e.1 / 512) (e.1 / 256 % 2) (e.1 % 256))
  onlyIf moved (queueRecheck 5) { s with rt := s.rt.filter keep, rtImg := s.rtImg.filter keep }

/-- A bank of route tables fails: RET_FAIL beside it. -/
def failRoutes (row : Nat) (s : State) : State := failRow row (markFailed (18 + row) s)

/-- The rows whose route tables a walk along A_OUT reads. -/
def aRows (s : State) (bank dst : Nat) : Nat → Nat → List Nat
  | 0, _ => []
  | n + 1, r =>
    let e := rtEntry (rtImgWord s r bank dst)
    rowOf r :: (if !e.valid || e.a < 4 then [] else aRows s bank dst n (far r e.a).1)

/-- The rows that the paths of a reservation cross. -/
def pathRows (s : State) (c : RsvCopy) : List Nat :=
  let h := hostPort c.host
  (targetsOf c).flatMap (fun t => [0, 1].flatMap (fun b => aRows s b t 6 (h / 4) ++ aRows s b h 6 (t / 4)))

/-- The rows whose route tables a command or a re-check reads: an ADMIT reads none when condition 1 or 2 fails. -/
def rowsRead (s : State) : RsvJob → List Nat
  | .reserve i =>
    if (admitTest s i).1 = 4 then []
    else pathRows s (rsvRequested s i) ++ (loadList s).flatMap (fun j => pathRows s (rsvInForce s j))
  | .release _ => []
  | .recheck _ => (loadList s).flatMap (fun j => pathRows s (rsvInForce s j))

/-- The route tables that a job reads; `rows`: those in which SECDED finds an error that it cannot correct, which fail before
the job's result is formed (R305, log entry 127). -/
def readRoutes (rows : BitVec 8) (j : RsvJob) (s : State) : State :=
  forEach ((List.range 8).filter (fun r => rows.getLsbD r && (rowsRead s j).contains r)) failRoutes s

/-! ## Commands and re-checks (R206 to R212) -/

/-- RSV_RESULT of a completed command, with ADMIT_DONE (R207). CAUSE, FAIL_CH and FAIL_TGT are 0 where the result is not of their
own condition (DESIGN CHOICE, log entry 142). -/
def rsvResult (i : Nat) (x : Nat × Nat × Nat × Nat) (s : State) : State :=
  let s := fset pgRsv Rsv.rsvResultCause x.2.1 (fset pgRsv Rsv.rsvResultCode x.1 s)
  let s := fset pgRsv Rsv.rsvResultFailTgt x.2.2.2 (fset pgRsv Rsv.rsvResultFailCh x.2.2.1 s)
  flag pgRsv Rsv.rsvEvtAdmitDone (fset pgRsv Rsv.rsvResultIndex i s)

/-- The next waiting command or re-check starts (R207). -/
def rsvNext (s : State) : State :=
  match s.rsvWait with
  | [] => { s with rsvRun := none }
  | j :: t => { s with rsvRun := some j, rsvWait := t }

/-- ADMIT completes (R207). -/
def finishAdmit (i : Nat) (s : State) : State :=
  let x := admitTest s i
  let s := if x.1 = 1 then
      fset pgRsv Rsv.rsvStatLoadHeld 0 (fset pgRsv Rsv.rsvStatState 1 (setInForce i (rsvRequested s i) s) i) i
    else s
  rsvResult i x s

/-- RELEASE completes: FREE, and the load stays held (R207). -/
def finishRelease (i : Nat) (s : State) : State :=
  let s := onlyIf (rsvAdmitted s i) (fun s => fset pgRsv Rsv.rsvStatLoadHeld 1 s i) s
  rsvResult i (6, 0, 0, 0) (fset pgRsv Rsv.rsvStatState 0 s i)

/-- A write of RSV_CMD that starts a command, `value` being the whole word (R206, R207); refused while QUIESCE = 1
(R359). -/
def rsvCommand (job : Nat → RsvJob) (value : Word) (s : State) : State :=
  let i := fget s pgRsv Rsv.rsvSelIndex
  if value.getLsbD 0 && value.getLsbD 1 then errReserved pgRsv 0x60 s
  else if fbit s pgRsv Hdr.pageCtrlQuiesce then rsvResult i (7, 0, 0, 0) s
  else queueRsv (job i) s

def execRsvAdmit (value : Word) (s : State) : Out := .next (rsvCommand .reserve value s)
def execRsvRelease (value : Word) (s : State) : Out := .next (rsvCommand .release value s)

/-- The running command ends (RSV_CMD_DONE, R206, R207). When bank 16 failed under its reads, the reservation that it
admitted becomes FREE with the others (log entry 127). -/
def execRsvCmdDone (s : State) (bad16 : Bool := false) (rows : BitVec 8 := 0) : Out :=
  match s.rsvRun with
  | some (.reserve i) => .next (rsvNext (readBank16 bad16 (finishAdmit i (readRoutes rows (.reserve i) s))))
  | some (.release i) => .next (rsvNext (readBank16 bad16 (finishRelease i s)))
  | _ => .next s

/-- Demotes a reservation (R211). -/
def demote (cause i : Nat) (s : State) : State :=
  let s := fset pgRsv Rsv.rsvStatLoadHeld 1 (fset pgRsv Rsv.rsvStatState 2 s i) i
  let s := fset pgRsv Rsv.rsvStatDemoteCause cause s i
  flag pgRsv Rsv.rsvEvtDemoted (satAdd pgRsv Rsv.rsvSummaryDemotions 1 s)

/-- The candidate that is demoted first: lowest RPRIO, ties to the highest number (R211). -/
def victim : List RsvLoad → Option RsvLoad
  | [] => none
  | a :: t => match victim t with
    | none => some a
    | some b => some (if a.rprio < b.rprio ∨ (a.rprio = b.rprio ∧ b.idx < a.idx) then a else b)

/-- The demotions of a re-check (R211). `adm` are the ADMITTED loads that still count, `held` the others, `passed` the
violations passed over: channels, and 2,048 plus a target port. -/
def recheckLoop (s : State) (held : List RsvLoad) : Nat → List RsvLoad → List Nat → List Nat
  | 0, _, _ => []
  | n + 1, adm, passed =>
    let ls := adm ++ held
    let chs := ls.foldl (fun a l => unionNat (unionNat a l.req) l.rsp) []
    let bad := chs.filter (fun c => !passed.contains c && (linkBad s ls c || burstBad ls c))
    let tgs := (ls.foldl (fun a l => unionNat a l.tgts) []).filter (fun t => !passed.contains (2048 + t) && targetBad s ls t)
    match leastNat bad, leastNat tgs with
    | some c, _ =>
      match victim (adm.filter (fun l => loadAt l c != 0)) with
      | none => recheckLoop s held n adm (c :: passed)
      | some r => r.idx :: recheckLoop s held n (adm.filter (fun l => l.idx != r.idx)) passed
    | none, some t =>
      match victim (adm.filter (fun l => l.tgts.contains t)) with
      | none => recheckLoop s held n adm ((2048 + t) :: passed)
      | some r => r.idx :: recheckLoop s held n (adm.filter (fun l => l.idx != r.idx)) passed
    | none, none => []

/-- The state at whose capacities a re-check works: that of cause LEVEL at the new level's (R213, log entry 128). -/
def recheckAt (cause : Nat) (s : State) : State :=
  onlyIf (cause == 1) (fset pgPower Pwr.pwrStatLevel (fget s pgPower Pwr.pwrStatTarget)) s

/-- A re-check with a cause: reservations without a route go first, with cause ROUTE whichever re-check finds them (R210),
then R211. -/
def recheck (cause : Nat) (s : State) : State :=
  let adm := (admittedList s).map (fun i => loadOf s i (rsvInForce s i))
  let held := ((rsvListed s).filter (fun i => !rsvAdmitted s i && rsvHeld s i)).map (fun i => loadOf s i (rsvInForce s i))
  let lost := (adm.filter (fun l => !l.routed)).map RsvLoad.idx
  let ok := adm.filter RsvLoad.routed
  let all := ok ++ held
  let fuel := ok.length + (all.map (fun l => l.req.length + l.rsp.length + l.tgts.length)).sum + 1
  let out := recheckLoop (recheckAt cause s) held fuel ok []
  let s := flag pgRsv Rsv.rsvEvtRecheckDone (forEach out (demote cause) (forEach lost (demote 5) s))
  onlyIf (cause == 1) (modPower (fun w => { w with waitRecheck := false })) s

/-- The running re-check ends (RECHECK, R211, R212). It finds nothing ADMITTED when bank 16 failed under its reads. -/
def execRecheck (s : State) (bad16 : Bool := false) (rows : BitVec 8 := 0) : Out :=
  match s.rsvRun with
  | some (.recheck cause) => .next (rsvNext (recheck cause (readRoutes rows (.recheck cause) (readBank16 bad16 s))))
  | _ => .next s

/-- A host NI holds an OPEN transaction injected as class A under a reservation (R207). -/
def hasClassA (s : State) (i : Nat) : Bool :=
  (entriesOf (ni s (hostPort (rsvInForce s i).host))).any (fun e => e.2.st == .opened && e.2.rsv == some i)

/-- A held load is removed (LOAD_HELD_CLEAR, R207). -/
def execLoadHeldClear (i : Fin 4096) (s : State) : Out :=
  if rsvHeld s i.val && !rsvAdmitted s i.val && !hasClassA s i.val then .next (fset pgRsv Rsv.rsvStatLoadHeld 0 s i.val)
  else .next s

/-- Ports that ADMITTED reservations pin, each with the lowest reservation that does (R208). -/
def pinnedBy (s : State) (p : Nat) : Option Nat :=
  (admittedList s).find? (fun i => let c := rsvInForce s i; (hostPort c.host :: targetsOf c).contains p)

/-- Writes a route-table word to the spine image, and to the router unless it is off or under test (R89). -/
def writeRt (r bank port : Nat) (w : Word) (live : Bool) (s : State) : State :=
  let k := rtKey r bank port
  let d := galonWord r port
  let s := { s with rtImg := tput d s.rtImg k w }
  if live then { s with rt := tput d s.rt k w } else s

/-- A write through RT_DATA (RT_DATA, R78, R89), with the re-check of R210. A reserved encoding sets PAGE_ERR whatever the
bank, and a bank that is not idle reports itself whatever the word. -/
def execRtData (r : RouterId) (value : Word) (s : State) : Out :=
  let r := r.val
  let pg := pgRouter r
  let port := fget s pg Rtr.rtIndexEntry
  let bank := fget s pg Rtr.rtIndexBank
  let w := value &&& BitVec.ofNat 64 (2 ^ 37 - 1)
  let live := fabOn s && !(router s r).underTest
  let old := rtImgWord s r bank port
  let s0 := onlyIf (!rtEntryOk r w) (errReserved pg 0x50) s
  let t :=
    if !bankIdle s (bank == 1) then (if live then flag pg Rtr.rtStatusBankBusy s0 else errState pg 0x50 s0)
    else if !rtEntryOk r w then s0
    else
      onlyIf (routeChange old w && routeMatters s r bank port) (queueRecheck 5) (writeRt r bank port w live s)
  .next (onlyIf (fbit s pg Rtr.rtIndexAutoinc) (fset pg Rtr.rtIndexEntry (port + 1)) t)

end Sys2Proof.Machine
end

