-- ==== Sys2Proof/Machine/Complete.lean ====
section
/-! DEFINITION. The life-cycle state (spec/14 R341), and completion of SMX accesses (spec/15 R349, R352, R355): the response
to the master, the error record, and the completion buffers of the bridge. -/

namespace Sys2Proof.Machine

/-! ## Life-cycle state (R341) -/

def lcManufacture : Nat := 0x1
def lcDevelop : Nat := 0x3
def lcProduction : Nat := 0x7
def lcRma : Nat := 0xF

/-- The fuse pattern is a state of R341. -/
def lcValid (s : State) : Bool :=
  s.fuses.lc == lcManufacture || s.fuses.lc == lcDevelop || s.fuses.lc == lcProduction || s.fuses.lc == lcRma

/-- PRODUCTION, or an INVALID pattern that every access rule treats as PRODUCTION (R341). -/
def lcLocked (s : State) : Bool := s.fuses.lc == lcProduction || !lcValid s

/-! ## Completion -/

/-- CAUSE codes of SMX_ERR_INFO. -/
def ceDecode : Nat := 1
def ceNotConnected : Nat := 2
def ceReadOnly : Nat := 3
def ceSize : Nat := 4
def ceEcc : Nat := 5
def ceBridge : Nat := 6
def ceState : Nat := 7
def ceBootLock : Nat := 8

/-- Target codes of R347. -/
def tgRom : Nat := 0
def tgSram : Nat := 1
def tgPages : Nat := 2
def tgArtw : Nat := 3
def tgLedger : Nat := 4
def tgTime : Nat := 5
def tgBridge : Nat := 6
def tgDefault : Nat := 7

/-- An SMX access has completed at its master. The Safelight port, master 2, keeps the result (R345). -/
def smxComplete (m : Nat) (addr : Word) (write : Bool) (data : Word) (error : Bool) (s : State) : State :=
  let s := { s with smx := { s.smx with
    done := { master := m, addr := addr, write := write, data := data, error := error } :: s.smx.done } }
  if m ≠ 2 then s
  else
    let (d, s) := draw s
    { s with lc := { s.lc with
        slDone := true, slData := if write then s.lc.slData else data
        slStatus := if error then (Config.slSmxStatus d).toNat else 0 } }

/-- The paths of the sparse matrix (R348). -/
def connected (m t : Nat) : Bool :=
  match t with
  | 0 => m == 0 || m == 1 || m == 4
  | 1 => m != 3
  | 2 => true
  | 3 => m == 0 || m == 1 || m == 4
  | 4 => m < 3
  | 5 => true
  | 6 => m != 3
  | _ => false

/-- Which of DECODE_ERR, TARGET_ERR and BRIDGE_ERR an error response sets: the default target answers an address that
decodes nowhere and a path that is not connected. -/
def errFlag (m target : Nat) : Fld :=
  if !connected m target then Smx.smxEvtDecodeErr
  else if target = tgBridge then Smx.smxEvtBridgeErr
  else Smx.smxEvtTargetErr

/-- The three error flags are all clear. -/
def smxErrClear (s : State) : Bool :=
  !fbit s pgSmx Smx.smxEvtDecodeErr && !fbit s pgSmx Smx.smxEvtTargetErr && !fbit s pgSmx Smx.smxEvtBridgeErr

/-- The record of the first error. -/
def smxErrRecord (m : Nat) (addr : Word) (write : Bool) (target cause status : Nat) (s : State) : State :=
  let s := fset pgSmx Smx.smxErrInfoMaster m (fset pgSmx Smx.smxErrAddrAddr addr.toNat s)
  let s := fset pgSmx Smx.smxErrInfoCause cause (fset pgSmx Smx.smxErrInfoTarget target s)
  let s := fsetB pgSmx Smx.smxErrInfoWrite write (fset pgSmx Smx.smxErrInfoStatus status s)
  fset pgSmx Smx.smxErrInfoValid 1 s

/-- The SMX error response (R349): counted, flagged, recorded while no error flag stands, and given to the master. -/
def smxError (m : Nat) (addr : Word) (write : Bool) (target cause status : Nat) (s : State) : State :=
  let s := satAdd pgSmx Smx.smxCountErrors 1 s
  let s := onlyIf (smxErrClear s) (smxErrRecord m addr write target cause status) s
  smxComplete m addr write 0 true (flag pgSmx (errFlag m target) s)

/-- The accesses of a master's completion buffer that may leave it: those with a result, up to the first without. -/
def readyAccesses (m : Nat) (l : List BridgeAcc) : List BridgeAcc :=
  (l.filter (fun b => b.master == m)).takeWhile (fun b => b.result.isSome)

/-- A bridge access leaves its completion buffer. -/
def finishAccess (b : BridgeAcc) (s : State) : State :=
  match b.result with
  | none => s
  | some (w, none) => smxComplete b.master b.addr b.write (if b.write then 0 else w) false s
  | some (_, some (cause, status)) => smxError b.master b.addr b.write tgBridge cause status s

/-- Each master's bridge accesses complete in the order in which it issued them (R352). -/
def drainBridge (m : Nat) (s : State) : State :=
  let out := readyAccesses m s.smx.bridge
  let rest := (s.smx.bridge.filter (fun b => b.master == m)).drop out.length
  let others := s.smx.bridge.filter (fun b => b.master != m)
  out.foldl (fun s b => finishAccess b s) { s with smx := { s.smx with bridge := others ++ rest } }

/-- The result of the bridge access that holds an entry of port 110. -/
def bridgeResult (tag : Nat) (data : Word) (error : Option (Nat × Nat)) (s : State) : State :=
  match s.smx.bridge.find? (fun b => b.tag == tag && b.result.isNone) with
  | none => s
  | some b =>
    let put (x : BridgeAcc) : BridgeAcc :=
      if x.tag = tag && x.result.isNone then { x with result := some (data, error) } else x
    drainBridge b.master { s with smx := { s.smx with bridge := s.smx.bridge.map put } }

end Sys2Proof.Machine
end

