-- ==== Sys2Proof/Machine/Ni.lean ====
section
/-! DEFINITION. Shared operations of a network interface: its table (spec/04 R95 to R99), waypoints and groups (R47,
R115), what it queues for its local channel and for its endpoint, receipts (spec/10 R241), lateness (spec/06 R167), and
its accumulator (spec/14 R326, R329). -/

namespace Sys2Proof.Machine

/-! ## State of an NI -/

/-- TEI_STAT.STATE: 0 DOWN, 1 INIT, 2 UP (R269). -/
def teiState (s : State) (p : Nat) : Nat := fget s (pgNi p) Ni.teiStatState
def isolated (s : State) (p : Nat) : Bool := fbit s (pgNi p) Ni.isoStatIsolated
def configLost (s : State) (p : Nat) : Bool := fbit s pgPower Pwr.pwrNiStatConfigLost p
def niQuiesced (s : State) (p : Nat) : Bool := fbit s (pgNi p) Hdr.pageCtrlQuiesce
/-- The NI domain is powered (R25, R192). -/
def niOn (s : State) (p : Nat) : Bool := isLive p && nstate s p != 2
/-- The NI domain has power: in N0 and N1, and from the supply-good step of a wake on (R301). -/
def niPowered (s : State) (p : Nat) : Bool :=
  isLive p && (nstate s p != 2 || (ni s p).wake == some .w1 || (ni s p).wake == some .w2 || (ni s p).wake == some .w3)
/-- A HOST NI has flow queues and a window page (R175). -/
def isHost (p : Nat) : Bool := portType p == .host
/-- NIs whose endpoint serves waypoints (R116). -/
def isEngine (p : Nat) : Bool :=
  match portType p with
  | .crypt | .comp | .ncache | .tier => true
  | _ => false

/-! ## Counts and flags of an NI page -/

/-- Bits of an accumulator's counter (R329). -/
def accBits (counter : Nat) : Nat := if counter = 4 then 16 else 32

/-- A sum in an accumulator; one beyond its width is free (R329, log entry 118). -/
def accSum (counter a n : Nat) : Nat :=
  if a + n < 2 ^ accBits counter then a + n else Config.accOverflow (a + n) % 2 ^ accBits counter

/-- Adds to a counter of the partition in the NI's accumulator (R329): 0 BYTES_RD, 1 BYTES_WR, 2 RSV_BYTES, 3 TXNS,
4 FAULTS. With the ledger fused out nothing counts. -/
def accAdd (p part counter n : Nat) (s : State) : State :=
  if s.fuses.ledgerAbsent then s
  else modNi p (fun x => { x with acc := tput 0 x.acc (5 * part + counter) (accSum counter (tget 0 x.acc (5 * part + counter)) n) }) s

/-! ## The transaction table (R95, R96) -/

/-- The lowest index at or above `c` that a table, in index order, does not list. -/
def freeFrom : List (Nat × Option Entry) → Nat → Nat
  | [], c => c
  | (t, _) :: l, c => if t = c then freeFrom l (c + 1) else c

/-- Free entries, and the lowest-numbered one. -/
def freeCount (s : State) (p : Nat) : Nat := tableSize p - (ni s p).entries.length
def freeTag (s : State) (p : Nat) : Option Nat :=
  let t := freeFrom (ni s p).entries 0
  if t < tableSize p then some t else none

/-- An entry is taken, in acceptance order; HIGH_WATER follows (R95). -/
def takeEntry (p tag : Nat) (e : Entry) (s : State) : State :=
  let s := setEntry p tag (some { e with seq := (ni s p).nextAcc }) s
  let s := modNi p (fun n => { n with nextAcc := n.nextAcc + 1 }) s
  maxIn (pgNi p) Ni.txnStatHighWater (ni s p).entries.length s

/-- Outstanding count of a flow queue (R108). -/
def outstanding (s : State) (p q : Nat) : Nat :=
  ((entriesOf (ni s p)).filter (fun e => e.2.st == .opened && e.2.role == .leg0 && e.2.fq == q)).length

/-- OVER_QUOTA clears when the outstanding count falls below QUOTA (R109). -/
def quotaCheck (p q : Nat) (s : State) : State :=
  if !isHost p then s
  else
    let w := pgFqw (ordinal p)
    onlyIf (outstanding s p q < fget s w Fqw.fqQuotaQuota q) (fun s => fset w Fqw.fqStatOverQuota 0 s q) s

/-- The verdict in an entry is an ALLOW of a checked request (R218, R238). -/
def holdsAllow (e : Entry) : Bool :=
  match e.verdict with
  | some v => v.allow
  | none => false

/-- An entry returns to FREE; a checked request that has been OPEN counts in TXNS (R326). -/
def freeEntry (p tag : Nat) (s : State) : State :=
  match entry s p tag with
  | none => s
  | some e =>
    let s := onlyIf (e.role == .leg0 && e.wasOpen && holdsAllow e) (accAdd p e.hdr.part.toNat 3 1) s
    quotaCheck p e.fq (setEntry p tag none s)

/-- An entry moves to CLOSE (R96). -/
def closeEntry (p tag : Nat) (s : State) : State :=
  match entry s p tag with
  | none => s
  | some e => quotaCheck p e.fq (setEntry p tag (some { e with st := .close }) s)

/-- A generation is active or draining (R239, R250). -/
def genInUse (s : State) (gen : Bool) : Bool :=
  gen.toNat == fget s pgArt Art.artStatActiveSet || fbit s pgArt Art.artStatDraining

/-- An entry that leaves the drain count without its response marks the swap unsure (R239, R250). -/
def noteUnsure (e : Entry) (s : State) : State :=
  match e.verdict with
  | some v => if v.allow && genInUse s v.gen then { s with unsure := true } else s
  | none => s

/-! ## Waypoints and groups (R47, R87, R113, R115) -/

/-- The waypoints of a header. -/
def waypointsOf (h : Header) : List Nat :=
  ([h.wp0, h.wp1, h.wp2].takeWhile (· != 0xFF)).map BitVec.toNat

/-- The request is for this NI as a waypoint: its leg goes to waypoint LEG (R113, R116). -/
def isWaypointLeg (p : Nat) (h : Header) : Bool :=
  isEngine p && (h.mcls == 0 || h.mcls == 1) && h.leg.toNat < (waypointsOf h).length

/-- The hash of R115. -/
def groupHash (addr : BitVec 52) : Nat :=
  (addr.extractLsb' 8 16 ^^^ addr.extractLsb' 24 16 ^^^ (addr.extractLsb' 40 12).zeroExtend 16).toNat

/-- Port of an engine type of GROUP_CFG.TYPE. -/
def groupPort (type k : Nat) : Nat :=
  match type with | 0 => cryptPort k | 1 => compPort k | 2 => ncachePort k | _ => tierPort k

/-- The port that a waypoint names for an address; none for an empty group (R115). -/
def resolveWp (s : State) (w : Nat) (addr : BitVec 52) : Option Nat :=
  if w < 0x20 then some (cryptPort w)
  else if w < 0x40 then some (compPort (w - 0x20))
  else if w < 0x60 then some (ncachePort (w - 0x40))
  else if w < 0x70 then some (tierPort (w - 0x60))
  else if w < 0x80 ∨ 0xFF ≤ w then none
  else
    let mem := maskBits (fget s pgFg Fg.groupCfgMembers (w - 0x80)) 32
    (mem[groupHash addr % mem.length]?).map (groupPort (fget s pgFg Fg.groupCfgType (w - 0x80)))

/-- DST of leg `leg`: the waypoint resolved, or TGT when none is left (R57). -/
def legDst (s : State) (h : Header) (leg : Nat) : Option Nat :=
  match (waypointsOf h)[leg]? with
  | some w => resolveWp s w h.addr
  | none => some h.tgt.toNat

/-- R87 allows a REQ or RWD from port `p` to `dst`; a tied-off destination has no rank. -/
def rankOk (p dst : Nat) : Bool := !isLive dst || rankOf (portType p) < rankOf (portType dst)

/-! ## Toward the local channel -/

/-- A packet becomes ready for the local channel (R160). -/
def pushReady (p : Nat) (src : ReadySrc) (h : Header) (data : List (BitVec 512)) (s : State) : State :=
  modNi p (fun n => { n with ready := n.ready ++ [{ hdr := h, data := data, vc := injectVc h, src := src }] }) s

/-- Zero DATA flits of a packet that the fabric builds (R39). -/
def zeroData (h : Header) : List (BitVec 512) := List.replicate (dataFlits h) 0

/-- The NI answers a request with a built response (R58, R246). -/
def pushBuilt (p : Nat) (src : ReadySrc) (h : Header) (status : Nat) (s : State) : State :=
  pushReady p src (builtAnswer h status) (zeroData (builtAnswer h status)) s

/-- The NI answers a request itself. A malformed answer is logged: one that holds no receipt is discarded, and of a receipt the
built PROTOCOL_ERR takes its place, which is not tested anew (R64; DESIGN CHOICE, log entry 123). -/
def pushAnswer (p : Nat) (src : ReadySrc) (h : Header) (status : Nat) (s : State) : State :=
  if malformedNi (builtAnswer h status) then
    let s := errNi eNiRefused p (builtAnswer h status) s
    if src = .built then s else pushBuilt p src h stProtocol s
  else pushBuilt p src h status s

/-! ## Receipts (R241) -/

/-- The oldest receipt of (SRC, TAG). -/
def receiptOf (n : Ni) (src tag : Nat) : Option Receipt :=
  n.receipts.find? (fun r => r.hdr.src.toNat == src && r.hdr.tag.toNat == tag)

/-- The oldest receipt of (SRC, TAG) that no response answers yet. -/
def openReceipt (n : Ni) (src tag : Nat) : Option Receipt :=
  n.receipts.find? (fun r => r.hdr.src.toNat == src && r.hdr.tag.toNat == tag && !r.answered)

/-- Marks the oldest unanswered receipt of (SRC, TAG) as answered. -/
def markReceipt (src tag : Nat) : List Receipt → List Receipt
  | [] => []
  | r :: t =>
    if r.hdr.src.toNat == src && r.hdr.tag.toNat == tag && !r.answered then { r with answered := true } :: t
    else r :: markReceipt src tag t

/-- Removes the first receipt of (SRC, TAG). -/
def dropReceipt (src tag : Nat) : List Receipt → List Receipt
  | [] => []
  | r :: t => if r.hdr.src.toNat == src && r.hdr.tag.toNat == tag then t else r :: dropReceipt src tag t

def freeReceipt (p src tag : Nat) (s : State) : State :=
  modNi p (fun n => { n with receipts := dropReceipt src tag n.receipts }) s
def markAnswered (p src tag : Nat) (s : State) : State :=
  modNi p (fun n => { n with receipts := markReceipt src tag n.receipts }) s

/-- Most receipts that an NI holds (R241). -/
def receiptMax (p : Nat) : Nat := if portType p == .svc then 64 else 512

/-- The served request's entry of (SRC, TAG) (R116); one that an endpoint reset has orphaned serves no request any more
(R270). -/
def servedEntry (n : Ni) (src tag : Nat) : Option (Nat × Entry) :=
  (entriesOf n).find? (fun e => e.2.role == .served && !e.2.orphan && e.2.hdr.src.toNat == src && e.2.hdr.tag.toNat == tag)

/-- What frees with the HEAD of an answer to a request: a served entry, or the receipt alone (R116, R242). -/
def answerSrc (n : Ni) (h : Header) : ReadySrc :=
  match servedEntry n h.src.toNat h.tag.toNat with
  | some (t, _) => .served t
  | none => .receipt h.src.toNat h.tag.toNat

/-- The NI answers the request of a receipt itself; the receipt counts as answered until the HEAD is injected. -/
def answerReceipt (p status : Nat) (r : Receipt) (s : State) : State :=
  let s := pushAnswer p (answerSrc (ni s p) r.hdr) r.hdr status s
  let s := modNi p (fun n =>
    match servedEntry n r.hdr.src.toNat r.hdr.tag.toNat with
    | some (t, e) => { n with entries := tput none n.entries t (some { e with answered := true }) }
    | none => n) s
  satAdd (pgNi p) Ni.faultCntAnswered 1 (markAnswered p r.hdr.src.toNat r.hdr.tag.toNat s)

/-! ## Toward the endpoint -/

/-- Lateness of R167 in ns; none when the packet is not late. By age alone it is 0xFFFF. -/
def lateBy (s : State) (h : Header) : Option Nat :=
  if !h.dv || !(h.scls == 0 || h.scls == 1) then none
  else if negSlack s h then some (2 ^ 23 - slackKey s h)
  else if 2 ^ 25 ≤ ageOf s h then some 0xFFFF
  else none

/-- Fewer than 2^23 ns have passed since the last step (R167). -/
def stepRecent (s : State) : Bool :=
  match s.time.lastStep with
  | some m => (s.mtime - m).toNat < 2 ^ 25
  | none => false

/-- Counts a packet whose TAIL has arrived (R167). -/
def countLate (p : Nat) (h : Header) (s : State) : State :=
  match lateBy s h with
  | none => s
  | some n =>
    if !synced s || stepRecent s then satAdd (pgNi p) Ni.dlAuxLateDoubt 1 s
    else
      maxIn (pgNi p) Ni.dlAuxMaxLateNs n
        (satAdd (pgNi p) (if h.scls == 0 then Ni.dlLateLateA else Ni.dlLateLateB) 1 s)

/-- Judges the requests of receive VC `v` whose TAIL is written into the TEI FIFO, in order from packet `k` on (R167). A leg that
waits for its served entry is not written yet, nor what stands behind it (R116); a response is written as it is matched. -/
def judgeFrom (p v : Nat) : List (Header × Bool × Disp × List Slot) → Nat → State → State
  | [], _, s => s
  | (h, tl, d, body) :: t, k, s =>
    let put (d : Disp) (s : State) : State :=
      countLate p h (modVc (niRxChan p) v (fun b => { b with slots := setDisp d b.slots k }) s)
    let whole := tl || endsTail body
    let late := (lateBy s h).isSome
    match d with
    | .arrived _ | .served _ (some _) => judgeFrom p v t (k + 1) s
    | .served tag none => if whole then judgeFrom p v t (k + 1) (put (.served tag (some late)) s) else s
    | _ =>
      if isResponse h then judgeFrom p v t (k + 1) s
      else if isWaypointLeg p h || !whole then s
      else judgeFrom p v t (k + 1) (put (.arrived late) s)

/-- The TEI takes packets for its endpoint: INIT or UP, and after an endpoint reset UP only (R269, R270). -/
def teiTakes (s : State) (p : Nat) : Bool :=
  niPowered s p && teiState s p != 0 && !((ni s p).waitUp && teiState s p != 2)

/-- What the receive VCs hold for the endpoint is written into the TEI FIFO, once the TEI takes it. -/
def judgeRx (p : Nat) (s : State) : State :=
  onlyIf (teiTakes s p) (forEach (List.range 16) (fun v s =>
    judgeFrom p v (packetsOf (vcBuf s (niRxChan p) v).slots) 0 s)) s

/-- BYTES_RD and BYTES_WR of a delivered response (R326). -/
def countBytes (p tag : Nat) (h : Header) (s : State) : State :=
  match entry s p tag with
  | none => s
  | some e =>
    let q := e.hdr
    if h.status != 0 || !holdsAllow e then s
    else if q.mcls == 0 && h.mcls == 3 then accAdd p q.part.toNat 0 ((q.len.toNat + 1) * 64) s
    else if q.mcls == 1 && h.mcls == 2 then
      accAdd p q.part.toNat 1
        (if q.opc == 2 then ((List.range 64).filter q.byteEn.getLsbD).length else (q.len.toNat + 1) * 64) s
    else s

/-- The 8 bytes of a response that a service access reads (R355, R345): bytes 0 to 7 of an MGT_CPLD, the bytes at
ADDR[5:3] of a DRS. `addr` is the address of the access. -/
def accessBytes (h : Header) (data : List (BitVec 512)) (addr : Word) : Word :=
  let d := data.headD 0
  if h.mcls == 3 then BitVec.ofNat 64 (d.toNat / 2 ^ (64 * (addr.toNat / 8 % 8)))
  else if h.mcls == 6 && h.opc == 4 then d.extractLsb' 0 64
  else 0

/-- A response that ends an access of the SMX bridge or of the Safelight port: it completes the access in place of
crossing a TEI. -/
def completeAccess (p tag : Nat) (e : Entry) (d : Delivery) (s : State) : State :=
  let s := freeEntry p tag (countBytes p tag d.hdr s)
  let status := d.hdr.status.toNat
  match e.sl with
  | some a =>
    { s with lc := { s.lc with
        slDone := true, slStatus := status, slRefused := lcLocked s && status == stAccessFault
        slData := if e.hdr.mcls == 0 then accessBytes d.hdr d.data a else s.lc.slData } }
  | none =>
    let addr := (s.smx.bridge.find? (fun b => b.tag == tag && b.result.isNone)).map (·.addr)
    bridgeResult tag (accessBytes d.hdr d.data (addr.getD 0)) (if status = 0 then none else some (6, status)) s

/-- Activity at an NI: its idle count restarts, and N1 ends without a cycle (R293). -/
def wakeN1 (p : Nat) (s : State) : State :=
  modNi p stirred
    (onlyIf (nstate s p == 1) (fun s => fset pgPower Pwr.pwrNiStatNstate 0 s p) s)

/-- Writes a whole packet into the TEI FIFO of a VC (R167, R273); a FIFO that is not empty ends N1 (R293). -/
def toFifoAt (p v : Nat) (d : Delivery) (s : State) : State :=
  let d := { d with late := (lateBy s d.hdr).isSome }
  let s := countLate p d.hdr s
  let push (s : State) : State :=
    wakeN1 p (modNi p (fun n => { n with fifo := tput [] n.fifo v (tget [] n.fifo v ++ [d]) }) s)
  match d.frees with
  | none => push s
  | some tag =>
    match entry s p tag with
    | none => push s
    | some e => if e.smx || e.sl.isSome then completeAccess p tag e d s else push s
/-- A packet that the NI builds takes the VC that R69 gives it. -/
def toFifo (p : Nat) (d : Delivery) (s : State) : State := toFifoAt p (injectVc d.hdr) d s

/-- The NI returns to its own endpoint the response that a request calls for (R64, R96). -/
def refuseToEp (p : Nat) (e : Entry) (tag status : Nat) (s : State) : State :=
  let h := builtAnswer e.hdr status
  toFifo p { hdr := h, data := zeroData h, kind := 1, final := e.hdr.mcls == 4, etag := e.etag, ldid := e.ldid
             frees := some tag } s

/-! ## Statuses -/

/-- STATUS that an isolated NI answers with (R248). -/
def isoStatus (s : State) (p : Nat) : Nat :=
  if fget s (pgNi p) Ni.isoStatCause == 0x10 then stFailing else stIsolated

/-- A stray response is logged and counted (R86, R99); a BIR has matched no pending host (R110). -/
def strayResponse (p : Nat) (h : Header) (s : State) : State :=
  satAdd (pgNi p) Ni.faultCntStrays 1 (errNi eStray p h (onlyIf (h.mcls == 5) (flag (pgNi p) Ni.txnErrBirStray) s))

end Sys2Proof.Machine
end

