-- ==== Sys2Proof/Machine/Isolation.lean ====
section
/-! DEFINITION. Stop Bath isolation of an NI (spec/10 R245 to R251), the wake-hold buffer's release (spec/12 R302), and
what an NI in isolation or CONFIG_LOST does with the packets it holds (R249, R307). -/

namespace Sys2Proof.Machine

/-! ## What an NI holds -/

/-- The slots of a begun delivery that stand before the next HEAD leave the buffer with their credits. -/
def dropBegun (c v : Nat) (s : State) : State :=
  let b := vcBuf s c v
  let rest := b.slots.dropWhile frontPacket.isData
  let gone := b.slots.length - rest.length
  if b.going.isNone then s
  else
    returnCredit c v gone (modVc c v (fun b =>
      { b with slots := rest, going := none, starve := 0, starved := false, dropRx := b.dropRx || (rest.isEmpty && b.openRx) }) s)

/-- An NI answers one packet of its receive side with a status, or discards it (R249, R307). A request that has taken a
served entry frees it with the answer. -/
def answerHeld (p status : Nat) (h : Header) (d : Disp) (s : State) : State :=
  if isAnswered h then
    let s := satAdd (pgNi p) Ni.faultCntAnswered 1 s
    match d with
    | .served t _ => modEntry p t (fun e => { e with answered := true }) (pushAnswer p (.served t) h status s)
    | _ => pushAnswer p .built h status s
  else if isolated s p then satAdd (pgNi p) Ni.faultCntDiscarded 1 s
  else s

/-- Every packet of a receive VC is answered or discarded. -/
def sweepVc (p status v : Nat) (s : State) : State :=
  let c := niRxChan p
  let s := dropBegun c v s
  let l := packetsOf (vcBuf s c v).slots
  let s := forEach l (fun e s => answerHeld p status e.1 e.2.2.1 s) s
  forEach l (fun _ s => consumePacket c v 0 s) s

/-- Every packet of the receive buffers is answered or discarded (R249, R307). -/
def sweepRx (p status : Nat) (s : State) : State := forEach (List.range 16) (sweepVc p status) s

/-- The packets of the wake-hold buffer go to the router's absorber (R249, R302); ANSWERED counts the requests. They have
left the fabric already (R92). The demand that they were ends, but for one by command, which wakes an isolated NI (R369). -/
def releaseHeld (p status : Nat) (s : State) : State :=
  let l := (ni s p).held
  let s := satAdd (pgNi p) Ni.faultCntAnswered (l.filter (fun e => isAnswered e.2.1)).length s
  forEach l (fun e s => hand (p / 4) { out := p % 4, status := status, hdr := e.2.1, counts := false } s)
    (modNi p (fun n => { n with held := [], demand := n.ordered }) s)

/-- The NI's link and its TEI end with its supply: the link trains again at the next wake, unless it is DOWN (R74,
R255), and the domain keeps nothing (R25). -/
def switchOff (p : Nat) (s : State) : State :=
  let train := fun x : Chan => if x.st == .up then { x with st := .train, retraining := false } else x
  let s := noteLink (niChan p) s (modChan (niRxChan p) train (modChan (niChan p) train s))
  fset (pgNi p) Ni.teiStatState 0 (modNi p shellOf s)
where
  /-- What the shell keeps of an NI (R26). -/
  shellOf (n : Ni) : Ni :=
    { shlPend := n.shlPend, shlAt := n.shlAt, shlWrote := n.shlWrote, lateWrites := n.lateWrites
      gateNow := n.gateNow, gateNext := n.gateNext, gateLead := n.gateLead
      gateValid := n.gateValid, leadNs := n.leadNs, gateOut := n.gateOut, held := n.held, demand := n.demand
      ordered := n.ordered
      entry := n.entry, inF3 := n.inF3, wake := n.wake
      stepUs := n.stepUs, wakeUs := n.wakeUs, ackTo := n.ackTo, drainTo := n.drainTo, wakeTo := n.wakeTo
      awakeF3 := n.awakeF3, wakeAtF0 := n.wakeAtF0, wakeF3 := n.wakeF3, epRstN := n.epRstN, epReady := n.epReady
      derate := n.derate, grace := n.grace, graceUs := n.graceUs, graceTo := n.graceTo, readmitting := n.readmitting
      diverted := n.diverted, deferred := n.deferred, tsHold := n.tsHold, tsIdle := n.tsIdle
      tsPrep := n.tsPrep, underTest := n.underTest, zeroise := n.zeroise, zeroAck := n.zeroAck, slotEpoch := n.slotEpoch, slotFlush := n.slotFlush
      flushUs := n.flushUs, crcStored := n.crcStored }

/-- A wake in progress ends: the supply switch opens, tei_wake falls and NSTATE stays N2 (R249, R302). -/
def endWake (p : Nat) (s : State) : State :=
  if (ni s p).wake.isNone then s
  else
    let s := fset pgPower Pwr.pwrNiStatWaking 0 s p
    switchOff p (modNi p (fun n => { n with wake := none }) s)

/-- The TEI FIFO is emptied: what it still holds is not delivered, and entries in CLOSE end (R245, R268). -/
def emptyFifo (p : Nat) (s : State) : State :=
  let held := (ni s p).fifo
  let tags := (entriesOf (ni s p)).filterMap (fun e => if e.2.st == .close then some e.1 else none)
  let s := modNi p (fun n => { n with fifo := [] }) s
  let n := (held.map (fun e => e.2.length)).sum
  let s := onlyIf (isolated s p) (satAdd (pgNi p) Ni.faultCntDiscarded n) s
  forEach tags (freeEntry p) s

/-! ## Entry into isolation -/

/-- Leg 0 entries return to FREE without a response to the endpoint (R250); what waits for the local channel of them, and
fetch legs that have not started, are dropped. A verdict in flight is discarded, and installs nothing (DESIGN CHOICE, log
entry 143). -/
def freeLeg0 (p : Nat) (s : State) : State :=
  let mine := (entriesOf (ni s p)).filter (fun e => e.2.role == .leg0 && e.2.st != .close)
  let s := forEach mine (fun e s => freeEntry p e.1 (noteUnsure e.2 s)) s
  modNi p (fun n => { n with
    ready := n.ready.filter (fun r => r.headSent || !ownLeg r.src), verdicts := [], cacheWas := none }) s
where
  ownLeg : ReadySrc → Bool
    | .leg0 _ | .fetch _ => true
    | _ => false

/-- A served entry that no answer frees any more: an endpoint reset has orphaned it (R270), or its request has been lost with its
link (R256), so that neither a receipt nor a packet of the local channel stands for it. -/
def staleServed (n : Ni) (x : Nat × Entry) : Bool :=
  x.2.role == .served && (x.2.orphan ||
    !(n.ready.any (fun r => r.src == .served x.1 || r.src == .relay x.1)
      || n.receipts.any (fun r => r.hdr.src == x.2.hdr.src && r.hdr.tag == x.2.hdr.tag)))

/-- Such entries return to FREE too; a response that arrives for them is discarded at the absorber (R250). -/
def freeStale (p : Nat) (s : State) : State :=
  forEach ((entriesOf (ni s p)).filter (staleServed (ni s p))) (fun e s => freeEntry p e.1 s) s

/-! ## What the NIs of a row present to its check plane (R226) -/

def checkRow (s : State) (row : Nat) : CheckRow := tget {} s.lookups row
def setCheckRow (row : Nat) (x : CheckRow) (s : State) : State := { s with lookups := tput {} s.lookups row x }

/-- Each NI presents the first that it holds, a lookup only while fewer than eight of its lookups are in flight. `seen`:
the ports passed already. -/
def offerAll (s : State) : List Nat → List Lookup → List Lookup
  | _, [] => []
  | seen, q :: t =>
    let may := !seen.contains q.port && q.since.isNone && (q.report.isSome || (ni s q.port).verdicts.length < 8)
    (if may then { q with since := some s.cyc } else q) :: offerAll s (q.port :: seen) t

def offerRow (row : Nat) (s : State) : State :=
  setCheckRow row { checkRow s row with waiting := offerAll s [] (checkRow s row).waiting } s

/-- The lookups of a port leave the check plane's queues unanswered, with no verdict and no record (R250, R270; DESIGN CHOICE, log
entry 143). -/
def dropLookups (p : Nat) (s : State) : State :=
  let x := checkRow s (p / 32)
  offerRow (p / 32) (setCheckRow (p / 32)
    { x with waiting := x.waiting.filter (fun l => l.port != p || l.report.isSome) } s)

/-- Every receipt that no result has answered yet is answered by the NI (R249, R251). -/
def answerReceipts (p : Nat) (s : State) : State :=
  forEach ((ni s p).receipts.filter (fun r => !r.answered)) (answerReceipt p (isoStatus s p)) s

/-- A fence grace ends: the remaining receipts are answered (R251). -/
def endGrace (p : Nat) (s : State) : State :=
  answerReceipts p (modNi p (fun n => { n with grace := false }) s)

/-- MEM and NCACHE NIs are targets of reservations (R205). -/
def isTarget (p : Nat) : Bool := portType p == .mem || portType p == .ncache

/-- The causes in a mask strike an NI (R245): t0 to t3 of the entry; to an NI that is isolated already they add their
bits, abandon a re-admission (R253) and end a fence grace unless the only cause is PWR_WARN (R251). -/
def isolateNow (p causes : Nat) (s : State) : State :=
  let pg := pgNi p
  let s0 := s
  let s := fset pg Ni.isoStatCause (fget s pg Ni.isoStatCause ||| causes) s
  if isolated s p then
    let s := abortEntry p rsIsolating 0 2 p (modNi p (fun n => { n with readmitting := false }) s)
    if (ni s p).grace && causes != 0x10 then endGrace p s else s
  else
    let fence := causes == 0x10
    let newlyLost := isTarget p && !lostTarget s0 p
    let s := fset pg Ni.isoStatIsolated 1 (fset pg Ni.isoStatSwept 0 (fsetB pg Ni.isoStatFenced fence s))
    let s := modNi p (fun n =>
      { n with diverted := true, tsHold := false, grace := fence, graceUs := s.us, graceTo := fget s pgFg Fg.hpCfgFenceGraceUs }) s
    let s := abortEntry p rsIsolating 0 2 p s
    let s := dropLookups p (freeLeg0 p s)
    let s := endWake p s
    let s := emptyFifo p s
    let s := freeStale p (sweepRx p (isoStatus s p) s)
    let s := releaseHeld p (if causes.testBit 7 then stWakeFailed else isoStatus s p) s
    let s := onlyIf (!fence) (answerReceipts p) s
    onlyIf newlyLost (queueRecheck 3) s

/-- A running slice defers the causes for the NI it tests, aborts, and goes to its restore (R319). -/
def isolateMask (p causes : Nat) (s : State) : State :=
  if !isLive p then s
  else if (ni s p).underTest then
    let s := fset pgStrip Ts.tsStatPhase 3 (modNi p (fun n => { n with deferred := n.deferred ||| causes }) s)
    { s with strip := { s.strip with found := some (7, 0, 0) } }
  else isolateNow p causes s

/-- Cause numbers of R245. -/
def cSoftware : Nat := 0
def cWdogAccept : Nat := 1
def cWdogResp : Nat := 2
def cLinkDown : Nat := 3
def cPwrWarn : Nat := 4
def cFuseTrip : Nat := 5
def cAbsent : Nat := 6
def cWakeFailed : Nat := 7

def isolate (p cause : Nat) (s : State) : State := isolateMask p (2 ^ cause) s

/-- A packet has arrived at the receive side of an NI that is isolated or in CONFIG_LOST (R245, R307). -/
def sweepArrival (p : Nat) (s : State) : State :=
  if isolated s p then sweepRx p (isoStatus s p) s
  else if configLost s p then sweepRx p stConfigLost s
  else s

/-- The NI holds nothing that still has to be answered or injected (R245 tz). -/
def nothingHeld (s : State) (p : Nat) : Bool :=
  let n := ni s p
  n.ready.isEmpty && n.receipts.isEmpty && n.held.isEmpty && (entriesOf n).isEmpty
    && ((chan s (niRxChan p)).vcs.all (fun e => e.2.slots.isEmpty))
    && !(router s (p / 4)).handed.any (fun x => x.out == p % 4)

/-- The command ISOLATE: a write of ISO_CTRL.ISOLATE (R245). -/
def execIsolate (p : Port) (s : State) : Out :=
  if !isLive p.val then .next s else .next (isolate p.val cSoftware s)

/-- The last answer has been injected (SWEPT, R245 tz, R249); from L3 to L7 the flag waits (R369 entry 6). -/
def execSwept (p : Port) (s : State) : Out :=
  let p := p.val
  let pg := pgNi p
  if isolated s p && !fbit s pg Ni.isoStatSwept && !(ni s p).grace && nothingHeld s p && !flowHold s then
    let s := fset pg Ni.isoStatSwept 1 (fset pg Ni.isoStatFenced 0 s)
    let s := errRecord eIsolated true p 0 (BitVec.ofNat 64 (fget s pg Ni.isoStatCause)) 0 s
    .next (flag pgFg Fg.faultEvtIsolation s)
  else .next s

/-- The grace of a fence ends (FENCE_GRACE_END, R251). -/
def execFenceGraceEnd (p : Port) (s : State) : Out :=
  let n := ni s p.val
  if n.grace && n.graceTo ≤ s.us - n.graceUs then .next (endGrace p.val s) else .next s

end Sys2Proof.Machine
end

