-- ==== Sys2Proof/Machine/Channel.lean ====
section
/-! DEFINITION. Commands of the links: reception of a flit (spec/02 R34 to R36), replay, retraining and training (spec/03
R74 to R77), and a link's entry to DOWN (spec/10 R255, R256). -/

namespace Sys2Proof.Machine

/-! ## FLIT_RECEIVE -/

/-- What arrival at an NI does: an isolated NI or one in CONFIG_LOST answers, and any other writes what its TEI takes into
the TEI FIFO (R167). -/
def arriveNi (p : Nat) (s : State) : State := judgeRx p (sweepArrival p s)

/-- An NI at the receiving end restarts its idle count: a flit has come, whether or not it is accepted (R293). -/
def stirRx (c : Nat) (s : State) : State :=
  match chanEnd c with
  | .inl p => modNi p stirred s
  | .inr _ => s

/-- A router counts in INJ a HEAD that enters it from a local channel (R92). -/
def arriveRouter (c r : Nat) (body : FlitBody) (s : State) : State :=
  match body with
  | .head h _ | .reserved h _ => if 1024 ≤ c then addInj r h.epoch s else s
  | _ => s

/-- The sequence number of a flit is checked (R75). -/
def isSequenced (f : Flit) : Bool := f.body != .idle || f.crd.isSome

/-- An accepted flit enters its VC's buffer, with its credit; at an NI under test too, which a window with HOLD_ALL = 0 does not
keep packets from (R313; DESIGN CHOICE, log entry 146). -/
def acceptFlit (c : Nat) (f : Flit) (s : State) : State :=
  let s := modChan c (fun x => { x with expSeq := (x.expSeq + 1) % 256, nakOn := false, ackNews := true }) s
  let s := takeBody c f (takeCredit c f s)
  match chanEnd c with
  | .inl p => arriveNi p s
  | .inr (r, _) => arriveRouter c r f.body s

/-- A sequenced flit ahead of the one that the receiver expects: flits before it were lost, so the receiver asks for a
retry (R76). One behind it is a duplicate of a replay (DEDUCED, log entry 28). -/
def isAhead (s : State) (c : Nat) (f : Flit) : Bool := (f.seq + 256 - (chan s c).expSeq) % 256 < 128

/-- What a receiver does with a flit that passed its checks: it takes ACK_SEQ and NAK, accepts the next sequence number,
discards a duplicate and reports ACK_SEQ again, and asks for a retry at a flit out of order or framed wrongly (R36, R75,
R76). -/
def takeFlit (c : Nat) (f : Flit) (s : State) : State :=
  let o := linkOwner c
  let s := onlyIf (f.body != .idle) (stirRx c) s
  let next := f.seq == (chan s c).expSeq
  if isSequenced f && next && framingBad s c f then
    refuseFlit c (satAdd (pgRouter o.1) Rtr.linkErrCntUncorrectable 1 s o.2)
  else
    let s := takeAck c f s
    if !isSequenced f then s
    else if next then acceptFlit c f s
    else if isAhead s c f then refuseFlit c s
    else modChan c (fun x => { x with ackNews := true }) s

/-- A receiver takes the next flit of a directed channel (FLIT_RECEIVE, R34): it corrects single-bit errors and counts
them, and discards an uncorrectable flit. `err` inverts wires on the way. A DOWN or training link discards the flit. A cycle
in which nothing was sent carried an empty IDLE flit (R32; DESIGN CHOICE, log entry 22). -/
def execFlitReceive (ch : ChanId) (err : WireFlit) (s : State) : Out :=
  let c := ch.val
  let live := carries s c
  let w := flipWires ((chan s c).wire.headD (encodeFlit (idleFlit s c))) err
  let s := onlyIf (!(chan s c).wire.isEmpty) (modChan c (fun x => { x with wire := x.wire.tail })) s
  let o := linkOwner c
  if !live then .next s
  else
    let s := satAdd (pgRouter o.1) Rtr.linkErrCntCorrected (correctedWords w) s o.2
    match decodeFlit w with
    | none => .next (stirRx c (refuseFlit c (satAdd (pgRouter o.1) Rtr.linkErrCntUncorrectable 1 s o.2)))
    | some f => .next (takeFlit c f s)

/-! ## Replay and retraining -/

/-- A sender that has received NAK resends (REPLAY, R76), also in the flow hold of R290 L3, which waits for acknowledgement. -/
def execReplay (ch : ChanId) (s : State) : Out :=
  let c := ch.val
  .next (onlyIf (carries s c && (chan s c).naked) (replayChan c) s)

/-- REPLAY_TO cycles have passed without an advance of ACK_SEQ (REPLAY_TO, R76). -/
def execReplayTo (ch : ChanId) (s : State) : Out :=
  let c := ch.val
  let x := chan s c
  let due := !x.replay.isEmpty && fget s (pgRouter (txOwner c).1) Rtr.linkCfgReplayTo ≤ x.noAck
  .next (onlyIf (carries s c && due) (replayChan c) s)

/-! ## A link enters DOWN

Each packet that the link carries stands in INJ and leaves the drain count once (R92): at the sender, whose output did not
let it out of the fabric; at the receiver, when an NI sent it or when its last flit has arrived there; or where its HEAD has
been consumed already, at any hop further on. -/

/-- A packet that the failing link has lost is logged and counted at a router (R256, R264). -/
def logLost (r i : Nat) (h : Header) (s : State) : State :=
  errQ0 eLinkLost false r i h (satAdd (pgRouter r) Rtr.rtrErrCntLinkLost 1 s)

/-- The packet that a receive VC holds in part: the header of the packet that still arrives, and its place among the
HEADs held; none of them when its HEAD has been forwarded. Of a packet whose rest is discarded already there is none. -/
def partialPacket (b : VcBuf) : Option (Header × Option Nat) :=
  if !b.openRx || b.dropRx then none
  else
    match (packetsOf b.slots).getLast? with
    | some (h, _, _, _) => some (h, some ((packetsOf b.slots).length - 1))
    | none => b.going.map (fun g => (g.1, none))

/-- A router has consumed the HEAD of the packet that still arrives on VC `v` of channel `c`, and with it has counted the
packet: the receiver, or a router that the receiver forwards it to. `fuel` bounds the hops that one packet spans. -/
def consumedBeyond (s : State) : Nat → Nat → Nat → Bool
  | 0, _, _ => false
  | fuel + 1, c, v =>
    let b := vcBuf s c v
    match chanEnd c with
    | .inl _ => false
    | .inr (r, _) =>
      (b.openRx && b.dropRx)
        || (headPassed s c v && (match b.going with
          | some (_, o, ov) => 4 ≤ o && consumedBeyond s fuel (outChan r o) ov
          | none => false))

/-- The packet part-way through the router from VC `v` of channel `c` still arrives, and a link above has cut it off. -/
def restCut (s : State) (c v : Nat) : Bool :=
  headPassed s c v && c < 1024 && !tailComes (chan s c) v && unfed s 64 c v

/-- The receiver of a failing channel discards the packet it holds in part; a request is answered (R256). What it has
forwarded of the packet stays where it is (DESIGN CHOICE, log entry 102). -/
def losePartial (c v : Nat) (s : State) : State :=
  let o := linkOwner c
  let s := match partialPacket (vcBuf s c v) with
    | none => s
    | some (h, k) =>
      let mine := 1024 ≤ c && !consumedBeyond s 64 c v
      let s := match k with
        | some k => consumePacket c v k s
        | none => returnCredit c v (vcBuf s c v).slots.length (modVc c v (fun b => { b with slots := [], going := none, starve := 0, starved := false }) s)
      let s := logLost o.1 o.2 h s
      let x : Handed := { out := o.2, status := stIsolated, hdr := h, counts := mine }
      if isAnswered h then hand o.1 x s else onlyIf x.counts (addRem o.1 h.epoch) s
  modVc c v (fun b => { b with openRx := false, dropRx := false }) s

/-- The packets with a flit in a replay buffer, each once (R256). -/
def replayPackets (l : List (Flit × Header)) : List Header :=
  l.foldl (fun a e => if e.1.body == .idle || a.contains e.2 then a else a ++ [e.2]) []

/-- The TAIL of a packet stands in the replay buffer, and whether the receiver has accepted it. -/
def tailSent (x : Chan) (h : Header) : Bool := x.replay.any (fun e => isTail e.1.body && e.2 == h)
def tailTaken (x : Chan) (h : Header) : Bool :=
  x.replay.any (fun e => isTail e.1.body && e.2 == h && (x.expSeq + 255 - e.1.seq) % 256 < 128)

/-- The receiver has accepted the HEAD of a packet with a flit in the replay buffer, and the packet has been consumed. -/
def consumedThere (s : State) (c : Nat) (h : Header) : Bool :=
  let x := chan s c
  let mine := x.replay.filter (fun e => e.1.body != .idle && e.2 == h)
  let headComes := mine.any (fun e =>
    (match e.1.body with | .head _ _ | .reserved _ _ => true | _ => false) && 128 ≤ (x.expSeq + 255 - e.1.seq) % 256)
  !headComes && mine.any (fun e => consumedBeyond s 64 c e.1.vc)

/-- The rest of packet `h` will not reach the sender `c` either: a link above has cut it off, and it was counted there. -/
def cutAbove (s : State) (c : Nat) (h : Header) : Bool :=
  let x := chan s c
  !tailSent x h && x.replay.any (fun e => e.1.body != .idle && e.2 == h && unfed s 64 c e.1.vc)

/-- Whether the drain count loses a packet at the sender `c` of a failing link: an output to L0–L3 has counted it with its
TAIL, the receiver counts one that it holds whole, a router further on may have consumed its HEAD, a link above may have
cut it off, and an NI counts none (R92). -/
def countsAtSender (s : State) (c : Nat) (h : Header) : Bool :=
  c < 1024 && !cutAbove s c h
    && (if c % 16 < 4 then !tailSent (chan s c) h else !tailTaken (chan s c) h && !consumedThere s c h)

/-- A packet that was part-way into the failing channel sends nothing more of itself. One with no flit left in the replay
buffer leaves the drain count here, unless a router further on has consumed it already or a link above has cut it off. -/
def dropGoing (c : Nat) (l : List Header) (s : State) : State :=
  if 1024 ≤ c then modNi (c - 1024) (fun n => { n with ready := n.ready.filter (fun r => !r.headSent) }) s
  else
    let r := c / 16
    let o := c % 16
    let leave (h : Header) (v : Nat) (cut : Bool) (s : State) : State :=
      let counts := !l.contains h && !cut && !(4 ≤ o && consumedBeyond s 64 c v)
      onlyIf counts (addRem r h.epoch) s
    let s := forEach ((List.range 14).filter (hasPort r)) (fun i s =>
      forEach (List.range 16) (fun v s =>
        match (vcBuf s (inChan r i) v).going with
        | some (h, oo, ov) => if oo = o then leave h ov (restCut s (inChan r i) v) (dropBegun (inChan r i) v s) else s
        | none => s) s) s
    let mine (b : Built) : Bool := b.going.any (fun g => g.1 == o)
    forEach (List.range 15) (fun src s =>
      forEach ((builtOf (router s r) src).filter mine) (fun b s => leave b.hdr ((b.going.map (·.2)).getD 0) false s)
        (modRouter r (fun x => setBuilt src ((builtOf x src).filter (fun b => !mine b)) x) s)) s

/-- The sender of a failing channel hands every packet with an unacknowledged flit to the absorber of its output, or of
the router's output toward it when an NI sends (R256). -/
def loseReplay (c : Nat) (s : State) : State :=
  let o := txOwner c
  let was := s
  let l := replayPackets (chan s c).replay
  let s := modChan c (fun x => { x with replay := [], wire := [], openTx := [], occ := [], naked := false, noAck := 0
                                        st := .down, retraining := false }) s
  forEach l (fun h s =>
    hand o.1 { out := o.2, status := stIsolated, hdr := h, counts := countsAtSender was c h } (logLost o.1 o.2 h s))
    (dropGoing c l s)

/-- A router's part of a link's entry to DOWN: the count, the record and LINK_CHANGE (R254, R255). -/
def noteDown (o : Nat × Nat) (s : State) : State :=
  linkChange o.1 (errRecord eLinkDown false o.1 o.2 0 0 (satAdd (pgRouter o.1) Rtr.linkErrCntDowns 1 s o.2))

/-- Both channels of a link enter DOWN (R77, R255, R256). -/
def enterDown (c : Nat) (s : State) : State :=
  let d := revChan c
  let s := loseReplay d (loseReplay c s)
  let s := forEach (List.range 16) (fun v s => losePartial d v (losePartial c v s)) s
  let s := noteDown (linkOwner c) s
  let s := onlyIf (txOwner c != linkOwner c) (noteDown (txOwner c)) s
  let s := queueRecheck 4 (flag pgFg Fg.faultEvtLinkDown s)
  match chanEnd c, chanEnd d with
  | .inl p, _ => isolate p cLinkDown s
  | _, .inl p => isolate p cLinkDown s
  | _, _ => s

/-- After a retraining a direction replays from the last acknowledged flit; with nothing to resend no replay starts (R77,
R254, log entry 125). -/
def replayAfter (c : Nat) (s : State) : State :=
  let starts := !(chan s c).replay.isEmpty
  resend c (onlyIf starts (fun s => satAdd (pgRouter (txOwner c).1) Rtr.linkErrCntReplays 1 s (txOwner c).2) s)

/-- A retraining completes, and both directions replay from the last acknowledged flit; when that replay fails too, the
link enters DOWN (RETRAIN_DONE, R77). -/
def execRetrainDone (ch : ChanId) (replayOk : Bool) (s : State) : Out :=
  let c := ch.val
  if !hasChan c || !(chan s c).retraining || !fabOn s then .next s
  else if !replayOk then .next (enterDown c s)
  else
    let was := s
    let up := fun x : Chan => { x with retraining := false }
    let s := modChan (revChan c) up (modChan c up s)
    .next (noteLink c was (replayAfter (revChan c) (replayAfter c s)))

/-- A slice keeps the link in TRAIN until its test cycles end (R317). -/
def testHolds (s : State) (c : Nat) : Bool :=
  fget s pgStrip Ts.tsStatPhase == 2
    && ((router s (linkOwner c).1).underTest || (router s (txOwner c).1).underTest
      || s.strip.linkTest == some c || s.strip.linkTest == some (revChan c))

/-- A receiver completes phase training, and its link leaves TRAIN (TRAIN_DONE, R74). At a local link the router's
receiver trains, and the NI must be on. -/
def execTrainDone (ch : ChanId) (s : State) : Out :=
  let c := ch.val
  if s.strip.deadUntilReset || !hasChan c || !fabOn s || (chan s c).st != .train || testHolds s c then .next s
  else
    let up := fun x : Chan => { x with st := .up }
    if 1024 ≤ c then
      .next (onlyIf (niPowered s (c - 1024)) (fun t => noteLink c s (modChan (revChan c) up (modChan c up t))) s)
    else if c % 16 < 4 then .next s
    else .next (noteLink c s (modChan c up s))

end Sys2Proof.Machine
end

