-- ==== Sys2Proof/Machine/Art.lean ====
section
/-! DEFINITION. The Access Rule Table (spec/09): masters, the verdict, lookups and verdict caches, fault records, building
a rule set, and swaps. -/

namespace Sys2Proof.Machine

/-! ## Entries, banks and masters -/

/-- The active set, which is ART_GEN, and the inactive one (R237). -/
def activeSet (s : State) : Nat := fget s pgArt Art.artStatActiveSet
def inactiveSet (s : State) : Nat := 1 - activeSet s
def artGen (s : State) : Bool := activeSet s == 1

def artKey (set i : Nat) : Nat := 131072 * set + i
def artEnt (s : State) (set i : Nat) : ArtEnt := tget {} s.art (artKey set i)
def countField (set : Nat) : Fld := if set = 0 then Art.artCountCountA else Art.artCountCountB
def artCount (s : State) (set : Nat) : Nat := fget s pgArt (countField set)
def fenceOf (s : State) (set b : Nat) : Nat := tget 0 s.fence (8 * set + b)

def ArtEnt.first (e : ArtEnt) : Nat := e.w0.toNat % 2 ^ 46
def ArtEnt.last (e : ArtEnt) : Nat := e.w1.toNat % 2 ^ 46
def ArtEnt.part (e : ArtEnt) : Nat := e.w0.toNat / 2 ^ 46 % 64
def ArtEnt.ccls (e : ArtEnt) : Nat := e.w0.toNat / 2 ^ 52 % 8
def ArtEnt.ord (e : ArtEnt) : Nat := e.w0.toNat / 2 ^ 55 % 4
def ArtEnt.lock (e : ArtEnt) : Bool := e.w0.getLsbD 57
def ArtEnt.debug (e : ArtEnt) : Bool := e.w0.getLsbD 58

/-- A spine bank is marked invalid (R223). -/
def bankBad (s : State) (b : Nat) : Bool := (fget s pgArt Art.artValAuxInvalidBanks).testBit b
def setBankBad (b : Nat) (bad : Bool) (s : State) : State :=
  if bad then flagBit pgArt Art.artValAuxInvalidBanks b s else unflagBit pgArt Art.artValAuxInvalidBanks b s

/-- The listed entries of a set below COUNT, by index. -/
def listedEntries (s : State) (set : Nat) : List (Nat × ArtEnt) :=
  (s.art.filter (fun e => e.1 / 131072 == set && e.1 % 131072 < artCount s set)).map (fun e => (e.1 % 131072, e.2))

/-- The lowest index that a list of indexed entries skips. -/
def firstGap : List (Nat × ArtEnt) → Nat → Nat
  | [], c => c
  | (i, _) :: l, c => if i = c then firstGap l (c + 1) else c

/-- The entry of a set that holds a line, with its number (R215). An entry that nothing has written holds line 0 alone. -/
def regionOf (s : State) (set line : Nat) : Option (Nat × ArtEnt) :=
  let l := listedEntries s set
  match l.find? (fun e => e.2.first ≤ line && line ≤ e.2.last) with
  | some e => some e
  | none => if line = 0 ∧ firstGap l 0 < artCount s set then some (firstGap l 0, {}) else none

/-- Bank b of R219: the highest existing bank whose fence is at or below the line. -/
def bankFor (s : State) (set line : Nat) : Option Nat :=
  ((List.range 8).filter (fun b => 16384 * b < artCount s set && fenceOf s set b ≤ line)).getLast?

/-- GROUP and PRIV of a master at a port (R216). -/
def groupOfMid (s : State) (p mid : Nat) : Nat × Bool :=
  if 0xFF0 ≤ mid then
    (fget s pgArt Art.svcMidCfgGroup (mid - 0xFF0), fbit s pgArt Art.svcMidCfgPriv (mid - 0xFF0))
  else
    let d := if portType p == .host then mid % 16 else 0
    (fget s (pgNi p) Ni.midCfgGroup d, fbit s (pgNi p) Ni.midCfgPriv d)

/-- Life-cycle states in which the Safelight master is unrestricted (R224). -/
def lcOpen (s : State) : Bool := s.fuses.lc == 1 || s.fuses.lc == 3 || s.fuses.lc == 15

/-! ## The verdict (R219, R224) -/

def caNoPerm : Nat := 0
def caNoRegion : Nat := 1
def caNoDefault : Nat := 2
def caLong : Nat := 3
def caRetention : Nat := 4
def caDebugState : Nat := 5
def caDebugLogged : Nat := 6

def allowBy (gen : Bool) (region : Option Nat) (cause part ccls ord : Nat) : Verdict :=
  { allow := true, cause := cause, part := part, ccls := ccls, ord := ord, gen := gen, region := region }
def denyBy (gen : Bool) (cause : Nat) (r : Option (Nat × ArtEnt)) : Verdict :=
  { allow := false, cause := cause, part := (r.map (fun e => e.2.part)).getD 0, ccls := 0, ord := 0, gen := gen
    region := r.map (·.1) }

/-- The lowest-numbered Default Map entry in force that holds a line (R222). -/
def defaultEntry (s : State) (line : Nat) : Option Nat :=
  (List.range 16).find? (fun i =>
    fbit s pgArt Art.dmW0Valid i && fget s pgArt Art.dmW0Start i ≤ line && line ≤ fget s pgArt Art.dmW1End i)

def isLong (s : State) (group : Nat) : Bool := (fget s pgArt Art.artLongLong).testBit group

/-- The verdict on MID 0xFF1 (R224). -/
def safelightVerdict (s : State) (line : Nat) : Verdict :=
  let g := artGen s
  let set := activeSet s
  let bad := bankBad s 17 || (match bankFor s set line with | some b => bankBad s (8 * set + b) | none => false)
  let r := if bad then none else regionOf s set line
  if lcOpen s then
    match r with
    | some (i, e) => allowBy g (some i) caDebugLogged e.part e.ccls e.ord
    | none => allowBy g none caDebugLogged 63 4 2
  else
    match r with
    | some (i, e) =>
      if e.debug && !e.lock then allowBy g (some i) 0 e.part e.ccls e.ord else denyBy g caDebugState r
    | none => denyBy g (if bad then caRetention else caDebugState) none

/-- The verdict on any other master (R219). -/
def masterVerdict (s : State) (q : Lookup) (line : Nat) : Verdict :=
  let g := artGen s
  let set := activeSet s
  if bankBad s 17 then denyBy g caRetention none
  else if (match bankFor s set line with | some b => bankBad s (8 * set + b) | none => false) then
    denyBy g caRetention none
  else
    let r := regionOf s set line
    if 0 < q.len ∧ !isLong s q.group then denyBy g caLong r
    else
      match r with
      | some (i, e) =>
        if (if q.write then e.w3 else e.w2).getLsbD q.group then allowBy g (some i) 0 e.part e.ccls e.ord
        else denyBy g caNoPerm r
      | none =>
        if !q.priv then denyBy g caNoRegion none
        else
          match defaultEntry s line with
          | some d =>
            if fbit s pgArt (if q.write then Art.dmW0Wr else Art.dmW0Rd) d then
              allowBy g none 0 (fget s pgArt Art.dmW0Part d) (fget s pgArt Art.dmW0Ccls d) (fget s pgArt Art.dmW0Ord d)
            else denyBy g caNoDefault none
          | none => denyBy g caNoDefault none

/-- The verdict of an engine (R219, R224). -/
def verdictOf (s : State) (q : Lookup) : Verdict :=
  if q.mid = 0xFF1 then safelightVerdict s (q.addr / 64) else masterVerdict s q (q.addr / 64)

/-! ## Fault records (R229) -/

/-- A verdict leaves a record: a DENY, or a logged Safelight access. -/
def isRecorded (v : Verdict) : Bool := !v.allow || v.cause == caDebugLogged

def faultWord (q : Lookup) (v : Verdict) : Word :=
  let reg := v.region.isSome
  BitVec.ofNat 64 (q.write.toNat + q.len * 2 + v.cause * 2 ^ 3 + v.gen.toNat * 2 ^ 7 + q.mid * 2 ^ 8
    + (if reg then v.part else 0) * 2 ^ 20 + reg.toNat * 2 ^ 26 + reg.toNat * 2 ^ 27 + v.region.getD 0 * 2 ^ 28 + 2 ^ 63)

/-- Puts a record behind those of earlier cycles and of lower engines; `w2` of a record holds its SPCLK cycle and engine. -/
def insertRec (r : Rec) : List Rec → List Rec
  | [] => [r]
  | x :: t => if r.w2.toNat < x.w2.toNat then r :: x :: t else x :: insertRec r t

/-- The engine of a row writes the record of a verdict. The records of one SPCLK cycle stand in ascending engine number. -/
def recordFault (q : Lookup) (v : Verdict) (s : State) : State :=
  let s := if v.cause == caDebugLogged then satAdd pgArt Art.artCountersDebugGrants 1 s
    else satAdd pgArt Art.artCountersFaults 1 s
  let r : Rec := ⟨BitVec.ofNat 64 q.addr, faultWord q v, BitVec.ofNat 64 (8 * (s.cyc / 2) + q.port / 32)⟩
  let l := (insertRec r s.faults).take 256
  if 256 ≤ s.faults.length then flag pgArt Art.artEvtFaultOvf (satAdd pgArt Art.artCountersFaultDropped 1 { s with faults := l })
  else flag pgArt Art.artEvtFault { s with faults := l }

/-- A read that returns a valid record removes it (FAULT_RECORD_POP, R229). -/
def execFaultRecordPop (s : State) : Out := .next { s with faults := s.faults.tail }

/-! ## Failed spine units (R223, R306) -/

/-- Bank 17 fails: the ART control page takes its reset values, closed rather than open (R223), and RTR_CFG and LINK_CFG
of every router theirs. -/
def failBank17 (s : State) : State :=
  let other (e : Nat × Nat) : Bool := keyPage e.1 != pgArt
  let s := { s with
    regs := s.regs.filter other, staged := s.staged.filter other
    time := { s.time with
      swapAt := none, late := s.time.late.filter (· != srcSwap), stagedAt := s.time.stagedAt.filter other }
    artCmd := none, artWait := [], faults := [], unsure := false }
  let s := fset pgArt Art.artValAuxInvalidBanks (2 ^ 18 - 1) (fset pgArt Art.dmW0Valid 0 s)
  let s := fset pgArt Art.artLongLong 0 s
  let s := forEach (List.range 10) (fun i s => setLk s.fuses.lk (lcLocked s) Art.svcMidCfgGroup i
    (setLk s.fuses.lk (lcLocked s) Art.svcMidCfgPriv i s)) s
  forEach (List.range 64) (fun r s =>
    clearFields (pgRouter r) (fun f => f.off == Rtr.rtrCfgAdaptEn.off || f.off == Rtr.linkCfgReplayTo.off) s) s
where
  /-- An SVC_MID_CFG field: 0, or in PRODUCTION and INVALID states the value of R364. -/
  setLk (lk : Tbl Nat) (locked : Bool) (f : Fld) (i : Nat) (s : State) : State :=
    fset pgArt f (if locked then tget 0 lk (fkey pgArt f i) else 0) s i

/-- A bank of the ART and bank 17 fail: RET_FAIL, and what each brings (R306). -/
def failArt (b : Nat) (s : State) : State := flagBit pgArt Art.artValAuxInvalidBanks b (markFailed b s)
def failControl (s : State) : State := failBank17 (markFailed 17 s)

/-- What a failed bank brings (R306). -/
def failBank (b : Nat) (s : State) : State :=
  if b < 16 then failArt b s
  else if b = 16 then readBank16 true s
  else if b = 17 then failControl s
  else failRoutes (b - 18) s

/-- Banks of the ART, and bank 17 last, in which a command's reads find an error that SECDED cannot correct fail (R305, log
entry 127). -/
def failBanks (bad : BitVec 18) (read : List Nat) (s : State) : State :=
  let s := forEach ((List.range 16).filter (fun b => read.contains b && bad.getLsbD b)) failArt s
  onlyIf (read.contains 17 && bad.getLsbD 17) failControl s

/-! ## Lookups and verdict caches (R225 to R228) -/

/-- The gap of a line that no region holds (R227). -/
def gapOf (s : State) (set line : Nat) : Nat × Nat :=
  let l := (if firstGap (listedEntries s set) 0 < artCount s set then [(0, ({} : ArtEnt))] else []) ++ listedEntries s set
  ((l.filter (fun e => e.2.last < line)).foldl (fun m e => max m (e.2.last + 1)) 0,
   (l.filter (fun e => line < e.2.first)).foldl (fun m e => min m (e.2.first - 1)) (2 ^ 46 - 1))

/-- What a cache may install of a verdict (R227). -/
def installOf (s : State) (q : Lookup) (v : Verdict) : Option CacheEnt :=
  let set := activeSet s
  let line := q.addr / 64
  if q.mid = 0xFF1 ∨ v.cause = caRetention then none
  else
    match v.region with
    | some i =>
      let e := artEnt s set i
      some { lo := e.first, hi := e.last, group := q.group, priv := q.priv, gen := v.gen, isRegion := true
             rdOk := e.w2.getLsbD q.group, wrOk := e.w3.getLsbD q.group, long := isLong s q.group
             part := e.part, ccls := e.ccls, ord := e.ord, region := i }
    | none =>
      if v.allow ∨ v.cause ≠ caNoRegion then none
      else
        some { lo := (gapOf s set line).1, hi := (gapOf s set line).2, group := q.group, priv := q.priv, gen := v.gen
               isRegion := false, rdOk := false, wrOk := false, long := isLong s q.group
               part := 0, ccls := 0, ord := 0, region := 0 }

/-- What a cache entry decides, as R219 would (R227). -/
def cacheVerdict (c : CacheEnt) (write : Bool) (len : Nat) : Verdict :=
  let r := if c.isRegion then some c.region else none
  let deny (cause : Nat) : Verdict :=
    { allow := false, cause := cause, part := c.part, ccls := 0, ord := 0, gen := c.gen, region := r }
  if 0 < len ∧ !c.long then deny caLong
  else if !c.isRegion then deny caNoRegion
  else if (if write then c.wrOk else c.rdOk) then allowBy c.gen r 0 c.part c.ccls c.ord
  else deny caNoPerm

/-- The cache of a HOST NI is in use (R227). -/
def cacheOn (s : State) (p : Nat) : Bool := isHost p && fbit s (pgNi p) Ni.vcCtrlVcEn

/-- The entry that a request hits (R227). A failed bank invalidates none (R228, DEDUCED, log entry 134). -/
def cacheHit (s : State) (p : Nat) (q : Lookup) : Option CacheEnt :=
  if !cacheOn s p || q.mid == 0xFF1 then none
  else
    (ni s p).cache.find? (fun c => c.lo ≤ q.addr / 64 && q.addr / 64 ≤ c.hi && c.group == q.group && c.priv == q.priv
      && c.gen == artGen s)

/-- A used entry becomes the most recent one; an installed one replaces the least recently used of 64. -/
def cacheTouch (p : Nat) (c : CacheEnt) (s : State) : State :=
  modNi p (fun n => { n with cache := (c :: n.cache.filter (· != c)).take 64 }) s

/-- An NI has a lookup or a fault report for the check plane of its row (R225). -/
def present (q : Lookup) (s : State) : State :=
  let x := checkRow s (q.port / 32)
  offerRow (q.port / 32) (setCheckRow (q.port / 32) { x with waiting := x.waiting ++ [q] } s)

/-- The lookup that an NI presents. -/
def presentedBy (x : CheckRow) (port : Nat) : Option Lookup := x.waiting.find? (fun q => q.port == port && q.since.isSome)

/-- What the leaf of router `r` of a row grants: round robin over its four NIs (R226). -/
def leafGrant (x : CheckRow) (row r : Nat) : Option Lookup :=
  (List.range 4).findSome? (fun k => presentedBy x (32 * row + 4 * r + (tget 0 x.leafRr r + k) % 4))

/-- What a node grants whose subtree has `depth` levels of nodes: round robin over its two children. Nodes 8 to 15 stand
for the leaves. The levels decide together at engine entry (DESIGN CHOICE, log entry 27). -/
def nodeGrant (x : CheckRow) (row : Nat) : Nat → Nat → Option Lookup
  | 0, n => leafGrant x row (n - 8)
  | depth + 1, n =>
    match nodeGrant x row depth (2 * n + tget 0 x.nodeRr n) with
    | some q => some q
    | none => nodeGrant x row depth (2 * n + (1 - tget 0 x.nodeRr n))

/-- The pointers move past what was granted, which leaves its queue. -/
def takeGrant (q : Lookup) (x : CheckRow) : CheckRow :=
  let leaf := 8 + q.port % 32 / 4
  { x with
    waiting := x.waiting.erase q
    leafRr := tput 0 x.leafRr (leaf - 8) ((q.port + 1) % 4)
    nodeRr := [leaf, leaf / 2, leaf / 4].foldl (fun t n => tput 0 t (n / 2) (1 - n % 2)) x.nodeRr }

/-- Banks that a lookup reads with an uncorrectable SECDED error fail (R21, R305): bank 17, and the bank that it searches.
A bank marked invalid is not read. -/
def failRead (q : Lookup) (bad17 badBank : Bool) (s : State) : State :=
  let s := onlyIf (bad17 && !bankBad s 17) failControl s
  match bankFor s (activeSet s) (q.addr / 64) with
  | some b =>
    let b := 8 * activeSet s + b
    onlyIf (badBank && !bankBad s 17 && !bankBad s b) (failArt b) s
  | none => s

/-- A lookup or fault report enters the engine of a row, which forms the verdict and writes its record (ART_LOOKUP,
R219, R225, R228). `bad17`, `badBank`: the banks that it reads show an uncorrectable error. -/
def execArtLookup (engine : Fin 8) (s : State) (bad17 badBank : Bool := false) : Out :=
  let e := engine.val
  match nodeGrant (checkRow s e) e 3 1 with
  | none => .next s
  | some q =>
    let s := setCheckRow e (takeGrant q (checkRow s e)) s
    let s := maxIn pgCp Cp.cpTreeWaitMax ((s.cyc - q.since.getD s.cyc) / 2) s e
    let s := wrapAdd pgCp Cp.cpEngLookups 1 s e
    match q.report with
    | some v => .next (offerRow e (recordFault q v s))
    | none =>
      let s := failRead q bad17 badBank s
      let v := verdictOf s q
      let s := onlyIf (!v.allow) (fun s => wrapAdd pgCp Cp.cpEngDenials 1 s e) s
      let m : VerdictMsg := ⟨q.tag, v, installOf s q v⟩
      let s := onlyIf (isRecorded v) (recordFault q v) s
      .next (offerRow e (modNi q.port (fun n => { n with verdicts := n.verdicts ++ [m] }) s))

/-- Verdicts in flight to a port decide their requests but are not installed any more (R228). -/
def staleVerdicts (p : Nat) (s : State) : State :=
  modNi p (fun n => { n with
    cache := [], cacheWas := none, verdicts := n.verdicts.map (fun m => { m with install := none }) }) s

/-- VC_CTRL.FLUSH (FLUSH, R228). -/
def execFlush (p : Port) (s : State) : Out :=
  if isHost p.val then .next (staleVerdicts p.val s) else .next s

/-- Every cache is invalidated by a COMMIT of the ART control page (R228). -/
def staleAll (s : State) : State := forEach ((List.range 16).map hostPort) staleVerdicts s

/-! ## Building a rule set (R231 to R235) -/

/-- VALIDATE's STATUS: 0 NOT_RUN, 1 OK, 2 ERROR, 3 RUNNING. -/
def valStatus (s : State) : Nat := fget s pgArt Art.artValStatus
def setBusy (s : State) : State := flag pgArt Art.artEvtSetBusy s

/-- The inactive set is idle (R231). -/
def setIdle (s : State) : Bool :=
  !fbit s pgArt Art.artStatDraining && s.time.swapAt.isNone && s.artCmd.isNone

/-- AUTOINC of ARTW_SEL, after each access to ARTW_W3. -/
def artwStep (s : State) : State :=
  onlyIf (fbit s pgArtw Artw.artwSelAutoinc)
    (fun s => fset pgArtw Artw.artwSelEntry (fget s pgArtw Artw.artwSelEntry + 1) s) s

/-- A write of ARTW_W3 stores the entry that ARTW_SEL selects, from the holding buffer (ARTW_W3, R231). -/
def execArtwW3 (value : Word) (s : State) : Out :=
  let set := fget s pgArtw Artw.artwSelSet
  let i := fget s pgArtw Artw.artwSelEntry
  if set = activeSet s ∨ !setIdle s then .next (artwStep (setBusy s))
  else
    let e := { s.artHold with w3 := value }
    .next (artwStep (fset pgArt Art.artValStatus 0 { s with art := tput {} s.art (artKey set i) e, artHold := e }))

/-- One COUNT field of a write of ART_COUNT (R231). -/
def writeCount (set v : Nat) (s : State) : State :=
  if v = artCount s set then s
  else if 131072 < v then errReserved pgArt Art.artCountCountA.off s
  else if set = activeSet s ∨ !setIdle s then setBusy s
  else fset pgArt Art.artValStatus 0 (fset pgArt (countField set) v s)

/-- A write of ART_COUNT (ART_COUNT, R231). -/
def execArtCount (value : Word) (s : State) : Out :=
  .next (writeCount 1 (value.toNat / 2 ^ 32 % 2 ^ 18) (writeCount 0 (value.toNat % 2 ^ 18) s))

/-- A command starts (R232). -/
def startCmd (c : ArtCmd) (s : State) : State :=
  fset pgArt Art.artStatCmdBusy 1
    (onlyIf (c == .validate) (fset pgArt Art.artValStatus 3)
      { s with artCmd := some c, artLongAt := if c == .validate then fget s pgArt Art.artLongLong else 0 })

/-- A write of ART_CMD (R232): more than one command is a reserved combination; a command waits while another runs. -/
def artCommand (c : ArtCmd) (value : Word) (s : State) : State :=
  if 1 < (maskBits value.toNat 3).length then errReserved pgArt Art.artCmdValidate.off s
  else if c != .validate && (fbit s pgArt Art.artStatDraining || s.time.swapAt.isSome) then setBusy s
  else if s.artCmd.isSome then { s with artWait := s.artWait ++ [c] }
  else startCmd c s

/-- Writes of ART_CMD with VALIDATE, COPY and CLEAR (VALIDATE, COPY, CLEAR, R232, R233). -/
def execValidate (value : Word) (s : State) : Out := .next (artCommand .validate value s)
def execCopy (value : Word) (s : State) : Out := .next (artCommand .copy value s)
def execClear (value : Word) (s : State) : Out := .next (artCommand .clear value s)

/-- The first error of entries `i` up to COUNT, in the order of R233, with the END of the entry before. -/
def firstError (s : State) (set : Nat) : Nat → Nat → Nat → Option (Nat × Nat)
  | 0, _, _ => none
  | fuel + 1, i, prev =>
    let e := artEnt s set i
    if bankBad s (8 * set + i / 16384) then some (1, i)
    else if e.last < e.first then some (2, i)
    else if 0 < i ∧ e.first ≤ prev then some (3, i)
    else firstError s set fuel (i + 1) e.last

/-- LOCK_MISSING is tested: in PRODUCTION (R233), and not in an INVALID life-cycle state, which R341 treats as PRODUCTION
for access rules only (log entry 133). -/
def testsLocks (s : State) : Bool := s.fuses.lc == 7

/-- The first active-set entry with LOCK = 1 that the inactive set lacks (R233). -/
def lockMissing (s : State) : Option Nat :=
  if !testsLocks s then none
  else
    let l := listedEntries s (inactiveSet s)
    ((listedEntries s (activeSet s)).find? (fun e => e.2.lock && !(l.any (fun f => f.2 == e.2)))).map (·.1)

/-- An entry is UNALIGNED_FOR_LONG (R234). -/
def unaligned (s : State) (e : ArtEnt) : Bool :=
  (e.first % 4 != 0 || (e.last + 1) % 4 != 0) && (((e.w2 ||| e.w3).toNat &&& s.artLongAt) != 0)

/-- The fences of a set, from its entries (R219). -/
def setFences (set : Nat) (s : State) : State :=
  forEach (List.range 8) (fun b s => { s with fence := tput 0 s.fence (8 * set + b) (artEnt s set (16384 * b)).first }) s

/-- VALIDATE ends (R233, R234). -/
def doValidate (s : State) : State :=
  let set := inactiveSet s
  let n := artCount s set
  let err := firstError s set n 0 0
  let seen := match err with | some (_, i) => i | none => n
  let flagged := (listedEntries s set).filter (fun e => e.1 < seen && unaligned s e.2)
  let s := setFences set s
  let s := fset pgArt Art.artValUnalignedCount flagged.length s
  let s := fset pgArt Art.artValAuxUnalignedFirst ((flagged.head?.map (·.1)).getD 0) s
  let s := onlyIf (!flagged.isEmpty) (flag pgArt Art.artEvtUnaligned) s
  let out (status cause index : Nat) : State :=
    fset pgArt Art.artValStatus status (fset pgArt Art.artValErrCause cause (fset pgArt Art.artValErrIndex index s))
  match err, lockMissing s with
  | some (c, i), _ => out 2 c i
  | none, some i => out 2 4 i
  | none, none => out 1 0 0

/-- COPY ends: entries, COUNT, fences and invalid marks of the active set (R232). -/
def doCopy (s : State) : State :=
  let a := activeSet s
  let d := inactiveSet s
  let kept := s.art.filter (fun e => e.1 / 131072 == a)
  let moved := kept.map (fun e => (artKey d (e.1 % 131072), e.2))
  let s := { s with art := if d = 0 then moved ++ kept else kept ++ moved }
  let s := fset pgArt (countField d) (artCount s a) s
  let s := forEach (List.range 8) (fun b s =>
    setBankBad (8 * d + b) (bankBad s (8 * a + b)) { s with fence := tput 0 s.fence (8 * d + b) (fenceOf s a b) }) s
  fset pgArt Art.artValStatus 0 s

/-- CLEAR ends (R232). -/
def doClear (s : State) : State :=
  let d := inactiveSet s
  let s := { s with art := s.art.filter (fun e => e.1 / 131072 != d) }
  let s := forEach (List.range 8) (fun b s =>
    setBankBad (8 * d + b) false { s with fence := tput 0 s.fence (8 * d + b) 0 }) (fset pgArt (countField d) 0 s)
  fset pgArt Art.artValStatus 0 s

/-- Banks of a set that hold entries below COUNT. -/
def countedBanks (s : State) (set : Nat) : List Nat :=
  ((List.range 8).filter (fun b => 16384 * b < artCount s set)).map (8 * set + ·)

/-- The banks that a command reads (R232, R233). -/
def readBanks (s : State) : ArtCmd → List Nat
  | .validate => 17 :: countedBanks s (inactiveSet s) ++ if testsLocks s then countedBanks s (activeSet s) else []
  | .copy => 17 :: (List.range 8).map (8 * activeSet s + ·)
  | .clear => [17]

/-- The running command ends, and the next one that waits starts (CMD_DONE, R232). `bad`: banks in which its reads found an
error that SECDED cannot correct (R305); bank 17 ends every command. -/
def execCmdDone (s : State) (bad : BitVec 18 := 0) : Out :=
  let s := match s.artCmd with
    | some c => failBanks bad (readBanks s c) s
    | none => s
  match s.artCmd with
  | none => .next s
  | some c =>
    let s := match c with | .validate => doValidate s | .copy => doCopy s | .clear => doClear s
    let s := flag pgArt Art.artEvtCmdDone (fset pgArt Art.artStatCmdBusy 0 { s with artCmd := none, artLongAt := 0 })
    match s.artWait with
    | [] => .next s
    | d :: rest => .next (startCmd d { s with artWait := rest })

/-! ## Swapping rule sets (R236 to R240) -/

def refuseSwap (cause : Nat) (s : State) : State :=
  flag pgArt Art.artEvtSwapRefused (fset pgArt Art.artStatRefuseCause cause s)

/-- ART_SWAP_CTRL.ARM: the first cause of R236, else the swap is armed. -/
def armSwap (s : State) : State :=
  let t := fget s pgArt Art.artSwapTimeSwapTime
  if fbit s pgArt Art.artStatDraining then refuseSwap 1 s
  else if t < s.mtime.toNat + 1024 then refuseSwap 2 s
  else if s.time.swapAt.isSome then refuseSwap 3 s
  else if s.artCmd.isSome ∨ valStatus s ≠ 1 then refuseSwap 4 s
  else markArm srcSwap t (fset pgArt Art.artStatArmed 1 (modTime (fun x => { x with swapAt := some t }) s))

def disarmSwap (s : State) : State :=
  fset pgArt Art.artStatArmed 0
    (modTime (fun x => { x with swapAt := none, late := x.late.filter (· != srcSwap) }) s)

/-- Writes of ART_SWAP_CTRL with ARM, DISARM, and both (SWAP_ARM, SWAP_DISARM, SWAP_REARM, R236, R371). -/
def execSwapArm (s : State) : Out := .next (armSwap s)
def execSwapDisarm (s : State) : Out := .next (disarmSwap s)
def execSwapRearm (s : State) : Out := .next (armSwap (disarmSwap s))

/-- The ART_SWAP comparator fires (ART_SWAP, R236, R237). A GLOBAL_COMMIT due at the same edge applies first. -/
def execArtSwap (s : State) : Out :=
  if !due s s.time.swapAt || due s s.time.gcAt then .next s
  else
    let f := firing s srcSwap (s.time.swapAt.getD 0) 0
    let s := disarmSwap (logFiring srcSwap f s)
    if valStatus s ≠ 1 then .next (refuseSwap 4 s)
    else
      let s := fset pgArt Art.artStatActiveSet (inactiveSet s) s
      let s := fset pgArt Art.artStatDraining 1 (fset pgArt Art.artStatSwapDone 0 s)
      let s := flag pgArt Art.artEvtSwapped (wrapAdd pgArt Art.artStatSwapCount 1 s)
      let s := onlyIf f.unsync (flag pgArt Art.artEvtSwapHoldover) s
      .next { fset pgArt Art.artValStatus 0 s with swapUs := s.us, swapTick := s.ticks, swapStalled := false }

/-- An NI's drain count of a generation (R238). -/
def residArt (s : State) (p : Nat) (g : Bool) : Nat :=
  ((entriesOf (ni s p)).filter (fun e => e.2.role == .leg0 && !e.2.legacy &&
    (match e.2.verdict with | some v => v.allow && v.gen == g | none => false))).length

/-- The NIs with state, by port. -/
def niPorts (s : State) : List Nat := s.nis.map (·.1)

/-- A verdict of a generation is on its way to its NI. -/
def verdictFlying (s : State) (g : Bool) : Bool := s.nis.any (fun e => e.2.verdicts.any (fun m => m.v.gen == g))

/-- A drain sample (ART_DRAIN_SAMPLE, R237 to R239): none is taken until every verdict of the old generation has reached
its NI. With it ART_DRAIN_LIMIT as written so far takes effect (R240). -/
def execArtDrainSample (s : State) : Out :=
  let old := !artGen s
  if !fbit s pgArt Art.artStatDraining || verdictFlying s old then .next s
  else
    let n := ((niPorts s).map (fun p => residArt s p old)).sum
    let s := { fset pgArt Art.artDrainResidual n s with swapLim := fget s pgArt Art.artDrainLimitLimitUs }
    if n ≠ 0 then .next s
    else
      let s := fset pgArt Art.artStatDraining 0 (fset pgArt Art.artStatSwapDone 1 s)
      let s := flag pgArt Art.artEvtDrained (fset pgArt Art.artDrainLastDrainNs ((s.ticks - s.swapTick) / 4) s)
      let s := onlyIf (s.unsure || s.unsureGen.getLsbD old.toNat) (flag pgArt Art.artEvtSwapUnsure) s
      .next { s with unsure := false, unsureGen := s.unsureGen &&& ~~~(1#2 <<< old.toNat) }

/-- DRAINING has outlasted ART_DRAIN_LIMIT as the last sample took it, once for a swap (ART_DRAIN_STALL, R240). -/
def execArtDrainStall (s : State) : Out :=
  if fbit s pgArt Art.artStatDraining && !s.swapStalled && s.swapLim < s.us - s.swapUs then
    .next { flag pgArt Art.artEvtDrainStall s with swapStalled := true }
  else .next s

/-- A write of DM_W1 of entry `i`: END below the START of the staged DM_W0 is a reserved encoding (DM_W1, R6). -/
def execDmW1 (i : Fin 16) (value : Word) (s : State) : Out :=
  let e := value.toNat % 2 ^ 46
  if e < sget s pgArt Art.dmW0Start i.val then .next (errReserved pgArt (Art.dmW1End.off + 16 * i.val) s)
  else .next (sset pgArt Art.dmW1End e s i.val)

end Sys2Proof.Machine
end

