-- ==== Sys2Proof/Machine/Slice.lean ====
section
/-! DEFINITION. The rotation of test-strip slices (spec/13 R314) and what a window holds at an NI (R313), and with it
whether an NI may start a HEAD (spec/08 R195, spec/15 R359). -/

namespace Sys2Proof.Machine

/-- Parts of an NI's slices (R314). -/
def niParts (p : Nat) : Nat := match portType p with | .host => 4 | .tier => 3 | _ => 2

/-- The slices of NIs, and the link ids, in their order (R314). -/
def niSlices : List (Nat × Nat) := livePorts.flatMap (fun p => (List.range (niParts p)).map (fun k => (p, k)))
def linkIds : List Nat :=
  (List.range 64).flatMap (fun r =>
    ((List.range 14).filter (fun i => 4 ≤ i && hasPort r i && r < (far r i).1)).map (fun i => 16 * r + i))
    ++ livePorts.map niChan

/-- What a slice index tests (R314). -/
inductive SliceUnit
  | timebase
  | router (r part : Nat)
  | ni (p part : Nat)
  | link (c : Nat)
  deriving DecidableEq, Repr

def sliceAt (i : Nat) : SliceUnit :=
  if i = 0 then .timebase
  else if i ≤ 128 then .router ((i - 1) / 2) ((i - 1) % 2)
  else if i ≤ 648 then (match niSlices[i - 129]? with | some (p, k) => .ni p k | none => .timebase)
  else match linkIds[i - 649]? with | some c => .link c | none => .timebase

/-- KIND of a slice: 0 TIMEBASE, 1 ROUTER, 2 NI, 3 LINK. -/
def kindOfSlice (i : Nat) : Nat := if i = 0 then 0 else if i ≤ 128 then 1 else if i ≤ 648 then 2 else 3

def kindEnabled (s : State) (i : Nat) : Bool := (fget s pgStrip Ts.tsCfgKindEn).testBit (kindOfSlice i)

/-- The first index from NEXT on whose kind is in the rotation (R312): the first of this kind, or of the next kinds. -/
def chosenSlice (s : State) : Option Nat :=
  let n := fget s pgStrip Ts.tsPtrNext
  if kindEnabled s n then some n
  else
    match [1, 129, 649].find? (fun i => n < i && kindEnabled s i) with
    | some i => some i
    | none => [0, 1, 129, 649].find? (kindEnabled s)

/-- Whether a window that runs or skips the chosen slice holds injection at port `p` (R313). -/
def windowHolds (s : State) (p : Nat) : Bool :=
  fstate s == 0 &&
    (fbit s pgStrip Ts.tsCfgHoldAll ||
      match (chosenSlice s).map sliceAt with
      | some (.router _ _) => true
      | some (.ni q _) => q == p
      | some (.link c) => c < 1024 || c == niChan p
      | _ => false)

/-- The hold is in force at an NI (R313). -/
def stripHeld (s : State) (p : Nat) : Bool := s.strip.holdAll || s.strip.holdPort == some p

/-- A packet of `n` flits ends before the next window's scheduled time, which closes the gate until the window has taken
its hold (R313, R195). -/
def beforeWindow (s : State) (p n : Nat) : Bool :=
  match s.time.stripAt with
  | some t => !windowHolds s p || (n + 1) * cycleSixths s ≤ (t - s.mtime.toNat) * 6
  | none => true

/-- While a router page is quiesced no NI starts a HEAD (R359). -/
def routerQuiesced (s : State) : Bool := (List.range 64).any (fun r => fbit s (pgRouter r) Hdr.pageCtrlQuiesce)

/-- No HEAD of any kind starts at the NI's local channel. -/
def headHold (s : State) (p : Nat) : Bool := stripHeld s p || routerQuiesced s

/-- The gate test of R195, with a window's scheduled time as a closing edge. -/
def mayStart (s : State) (p : Nat) (h : Header) : Bool :=
  !headHold s p && gatePasses s p h (1 + dataFlits h) && beforeWindow s p (1 + dataFlits h)

end Sys2Proof.Machine
end

