-- ==== Sys2Proof/Machine/FlowQ.lean ====
section
/-! DEFINITION. Flow queues (spec/07): classification, token buckets, quotas, telemetry, and the class a request travels as
(spec/08 R202). `w` is the window page of a host, `q` a local flow queue. -/

namespace Sys2Proof.Machine

/-- Indices at which a page lists a value of a field that differs from its reset value. -/
def listedIdx (s : State) (page : Nat) (f : Fld) : List Nat :=
  (s.regs.filter (fun e => fkey page f 0 ≤ e.1 && e.1 < fkey page f 0 + 4096)).map (fun e => e.1 - fkey page f 0)

/-- A host NI is on, so its shapers run and its status is its own (R192). -/
def hostOn (s : State) (h : Nat) : Bool := niOn s (hostPort h)

/-- Its shapers take resets and its maxima clear: a page of a unit under test reaches its image alone (R192, R318). -/
def shaperOn (s : State) (h : Nat) : Bool := hostOn s h && !(ni s (hostPort h)).underTest

/-! ## Classification (R175, R176) -/

/-- Bit of KIND_MASK for a message class. -/
def kindBit (h : Header) : Nat := if h.mcls == 0 then 0 else if h.mcls == 1 then 1 else 2

/-- Rule `i` in force matches (R175). -/
def ruleMatches (s : State) (w i : Nat) (h : Header) (ldid : Nat) : Bool :=
  fbit s w Fqw.clsW0Valid i && (fget s w Fqw.clsW0KindMask i).testBit (kindBit h)
    && (fget s w Fqw.clsW0LdidMask i).testBit ldid
    && ((h.opc.toNat ^^^ fget s w Fqw.clsW0OpcVal i) &&& fget s w Fqw.clsW0OpcMask i) == 0
    && (!fbit s w Fqw.clsW0AddrEn i ||
        (fget s w Fqw.clsW1Base i ≤ h.addr.toNat / 2 ^ 26 && h.addr.toNat / 2 ^ 26 ≤ fget s w Fqw.clsW1Limit i))

/-- Classifies a request of a host; a request that no rule matches goes to DEFAULT_FQ and is counted (R176). -/
def classify (host : Nat) (h : Header) (ldid : Nat) (s : State) : Nat × State :=
  let w := pgFqw host
  match (listedIdx s w Fqw.clsW0Valid).find? (fun i => ruleMatches s w i h ldid) with
  | some i => (fget s w Fqw.clsW0Fq i, s)
  | none => (fget s w Fqw.fqwCfgDefaultFq, flag w Fqw.fqwEvtClsDefault (satAdd w Fqw.fqwStatDefaulted 1 s))

/-- A write of CLS_W1 (CLS_W1, R6, R177): LIMIT below BASE leaves the word unchanged; AUTOINC follows each access. -/
def execClsW1 (h : HostId) (value : Word) (s : State) : Out :=
  let w := pgFqw h.val
  let i := fget s w Fqw.clsSelIndex
  let base := value.toNat % 2 ^ 26
  let limit := value.toNat / 2 ^ 26 % 2 ^ 26
  let s := if limit < base then errReserved w Fqw.clsW1Base.off s
    else sset w Fqw.clsW1Limit limit (sset w Fqw.clsW1Base base s i) i
  .next (onlyIf (fbit s w Fqw.clsSelAutoinc) (fset w Fqw.clsSelIndex (i + 1)) s)

/-! ## Token buckets (R181 to R185) -/

/-- TOKENS as a signed count of bytes. -/
def tokens (s : State) (w q : Nat) : Int :=
  let t := fget s w Fqw.fqTokensTokens q
  if t < 2 ^ 31 then (t : Int) else (t : Int) - 2 ^ 32
def setTokens (w q : Nat) (t : Int) (s : State) : State := fset w Fqw.fqTokensTokens (t % 2 ^ 32).toNat s q

/-- The registers that a window's shapers work with (R318). -/
def shaperRegs (s : State) (w : Nat) : State := workingRegs s (hostPort (unitOf w))

/-- One refill tick of a shaper (R181). -/
def refill (w q : Nat) (s : State) : State :=
  let x := fget (shaperRegs s w) w Fqw.fqRateRate q * 64 + fget s w Fqw.fqTokensFrac q
  let depth := (fget (shaperRegs s w) w Fqw.fqDepthDepth q : Int)
  let t := min (tokens s w q + (x / 1000 : Nat)) depth
  fset w Fqw.fqTokensFrac (if t = depth then 0 else x % 1000) (setTokens w q t s) q

/-- The shapers whose state a refill tick may change: the others are full. -/
def unfull (s : State) (w : Nat) : List Nat :=
  unionNat (unionNat (unionNat [] (listedIdx s w Fqw.fqTokensTokens)) (listedIdx s w Fqw.fqTokensFrac))
    (listedIdx (shaperRegs s w) w Fqw.fqDepthDepth)

/-- A refill tick is due: bits [63:8] of MTIME have changed (R181). -/
def refillDue (s : State) : Bool := s.mtime.toNat / 256 != s.refillAt

/-- The refill tick that is due, if any. At an FCLK edge it comes before a write to a flow queue, and that before the
admission test (R183, R185). -/
def refillTick (s : State) : State :=
  if !refillDue s then s
  else
    let hosts := (List.range 16).filter (hostOn s)
    let s := forEach hosts (fun h s => forEach (unfull s (pgFqw h)) (refill (pgFqw h)) s) s
    { s with refillAt := s.mtime.toNat / 256 }

/-- A refill tick (REFILL_TICK, R181). -/
def execRefillTick (s : State) : Out := .next (refillTick s)

/-- Resets a shaper (R184). -/
def resetShaper (w q : Nat) (s : State) : State :=
  let t := tokens s w q
  let s := fset w Fqw.fqTokensFrac 0 s q
  if fget s w Fqw.fqDepthReloadMode q = 0 then
    let s := onlyIf (t < 0) (fun s => flag w Fqw.fqwEvtDebtForgiven (satAdd w Fqw.fqStatDebtForgiven 1 s q)) s
    setTokens w q (fget s w Fqw.fqDepthDepth q) s
  else setTokens w q (min t 0) s

/-- The queue that FQ_SEL selects. -/
def selQ (s : State) (w : Nat) : Nat := fget s w Fqw.fqSelIndex

/-- A write to a flow queue acts before the admission test of its edge: one that follows the test in its cycle meets the
next edge (R185, log entry 113). -/
def beforeTest (h off : Nat) (v : Word) (act : State → State) (s : State) : State :=
  if hostOn s h && (ni s (hostPort h)).admitted then
    modNi (hostPort h) (fun n => { n with lateWrites := n.lateWrites ++ [(selQ s (pgFqw h), off, v)] }) s
  else act (refillTick s)

/-- A write of FQ_RATE (FQ_RATE, R183). -/
def execFqRate (h : HostId) (value : Word) (s : State) : Out :=
  .next (beforeTest h.val 0x90 value
    (fun s => fset (pgFqw h.val) Fqw.fqRateRate value.toNat s (selQ s (pgFqw h.val))) s)

/-- A write of FQ_DEPTH resets the shaper, while the NI is on (FQ_DEPTH, R184, R192). -/
def execFqDepth (h : HostId) (value : Word) (s : State) : Out :=
  .next (beforeTest h.val 0x98 value (fun s =>
    let w := pgFqw h.val
    let q := selQ s w
    let s := fset w Fqw.fqDepthReloadMode (value.toNat / 2 ^ 20) (fset w Fqw.fqDepthDepth value.toNat s q) q
    onlyIf (shaperOn s h.val) (resetShaper w q) s) s)

/-- FQ_CMD.RELOAD (RELOAD, R184, R192). -/
def execReload (h : HostId) (s : State) : Out :=
  .next (beforeTest h.val 0xa8 1
    (fun s => onlyIf (shaperOn s h.val) (fun s => resetShaper (pgFqw h.val) (selQ s (pgFqw h.val)) s) s) s)

/-! ## Quotas (R108, R109) -/

/-- The quota of the selected queue (R109). -/
def writeQuota (h v : Nat) (s : State) : State :=
  let w := pgFqw h
  let q := selQ s w
  if 2048 < v then errReserved w Fqw.fqQuotaQuota.off s
  else
    let s := fset w Fqw.fqQuotaQuota v s q
    if hostOn s h && v < outstanding s (hostPort h) q then flag w Fqw.fqwEvtQuotaCut (fset w Fqw.fqStatOverQuota 1 s q)
    else quotaCheck (hostPort h) q s

/-- A write of FQ_QUOTA (FQ_QUOTA, R109). -/
def execFqQuota (h : HostId) (value : Word) (s : State) : Out :=
  .next (beforeTest h.val 0xa0 value (writeQuota h.val (value.toNat % 2 ^ 12)) s)

/-! ## Telemetry (R190, R191) -/

/-- Requests of a queue that have not been admitted, with their tags (R187). -/
def waitingOf (s : State) (p q : Nat) : List (Nat × Entry) :=
  (entriesOf (ni s p)).filter (fun e =>
    e.2.role == .leg0 && e.2.fq == q && (e.2.st == .check || (e.2.st == .hold && !e.2.resulted)))

/-- HELD (R191, FQ_STAT): requests of the queue in HOLD. -/
def heldOf (s : State) (p q : Nat) : Nat :=
  ((entriesOf (ni s p)).filter (fun e => e.2.role == .leg0 && e.2.fq == q && e.2.st == .hold)).length

/-- CLR_MAX of a queue: the greatest HELD since then starts with the HELD that stands. -/
def clearMax (h q : Nat) (s : State) : State :=
  fset (pgFqw h) Fqw.fqDelayDelayMaxNs 0 (fset (pgFqw h) Fqw.fqSampleDepthMax (heldOf s (hostPort h) q) s q) q

/-- FQ_CMD.CLR_MAX and CLR_ALL_MAX (CLR_MAX, CLR_ALL_MAX, R190, R192). -/
def execClrMax (h : HostId) (s : State) : Out :=
  .next (onlyIf (shaperOn s h.val) (fun s => clearMax h.val (selQ s (pgFqw h.val)) s) s)
def execClrAllMax (h : HostId) (s : State) : Out :=
  let w := pgFqw h.val
  .next (onlyIf (shaperOn s h.val)
    (fun s => forEach (unionNat (listedIdx s w Fqw.fqSampleDepthMax) (listedIdx s w Fqw.fqDelayDelayMaxNs)) (clearMax h.val) s) s)

/-- The entry accepted first. -/
def oldest : List (Nat × Entry) → Option (Nat × Entry)
  | [] => none
  | e :: t => match oldest t with
    | none => some e
    | some f => some (if e.2.seq ≤ f.2.seq then e else f)

/-- The queues with a request waiting. -/
def busyQueues (s : State) (p : Nat) : List Nat :=
  unionNat [] (((entriesOf (ni s p)).filter (fun e => e.2.role == .leg0 && (e.2.st == .check || e.2.st == .hold))).map
    (fun e => e.2.fq))

/-- Number of the sample period of MTIME (R191). -/
def samplePeriod (s : State) (w : Nat) : Nat := s.mtime.toNat / (4000 * 2 ^ fget s w Fqw.fqwCfgSampleLog2)

/-- A sample of one queue. When MTIME has stepped back behind the t0 of its head, WAIT_SMP_NS is 0 (DESIGN CHOICE, log
entry 131). -/
def sampleQueue (p w q : Nat) (s : State) : State :=
  let wait := match oldest (waitingOf s p q) with
    | some e => nowNs s - e.2.t0ns
    | none => 0
  fset w Fqw.fqSampleWaitSmpNs (min wait (2 ^ 32 - 1)) (fset w Fqw.fqSampleDepthSmp (heldOf s p q) s q) q

/-- A telemetry sample of all queues of a host (TELEMETRY_SAMPLE, R191); none at an NI under test (R318). -/
def execTelemetrySample (h : HostId) (s : State) : Out :=
  let w := pgFqw h.val
  let p := hostPort h.val
  if !hostOn s h.val || (ni s p).smpAt == samplePeriod s w then .next s
  else
    let s := modNi p (fun n => { n with smpAt := samplePeriod s w }) s
    if (ni s p).underTest then .next s
    else
      let busy := (busyQueues s p).filter (· < 4096)
      let qs := unionNat (unionNat busy (listedIdx s w Fqw.fqSampleDepthSmp)) (listedIdx s w Fqw.fqSampleWaitSmpNs)
      let s := forEach qs (sampleQueue p w) s
      let s := fset w Fqw.smpTimeTime s.mtime.toNat (wrapAdd w Fqw.fqwStatSmpSeq 1 s)
      let s := flag w Fqw.fqwEvtSampleTaken s
      .next (onlyIf (!synced s) (flag w Fqw.fqwEvtSampleUnsync) s)

/-! ## The class of a request (R178, R179, R202) -/

/-- The conditions of R202 but the sixth. -/
def classAOk (s : State) (host q : Nat) (e : Entry) : Bool :=
  let w := pgFqw host
  let r := fget s w Fqw.fqClassRsv q
  let c := rsvInForce s r
  rsvAdmitted s r && c.host == host && c.fq == q
    && ((e.hdr.mcls == 0 && !ndrOnly e.hdr.opc && !e.ndrExp && (c.kind == 1 || c.kind == 3))
        || (e.hdr.mcls == 1 && (c.kind == 2 || c.kind == 3)))
    && e.hdr.len.toNat ≤ c.len
    && (targetsOf c).contains e.hdr.tgt.toNat
    && fget s w Fqw.fqRateRate q ≤ c.rate && fget s w Fqw.fqDepthDepth q ≤ (c.len + 1) * 64

/-- SCLS that a host's request travels with now (R114, R178 to R180, R202). -/
def travelsAs (s : State) (host : Nat) (e : Entry) : Nat :=
  if e.hdr.mcls == 6 then sM
  else
    let c := fget s (pgFqw host) Fqw.fqClassScls e.fq
    if c = sA then (if (waypointsOf e.hdr).isEmpty && classAOk s host e.fq e then sA else sB) else c

/-- Counts an admitted request of an SCLS A queue (R114, R202). -/
def countClass (p host : Nat) (e : Entry) (scls : Nat) (s : State) : State :=
  if e.hdr.mcls == 6 || fget s (pgFqw host) Fqw.fqClassScls e.fq ≠ sA then s
  else if scls = sA then wrapAdd (pgNi p) Ni.aStatAInjected 1 s
  else if !(waypointsOf e.hdr).isEmpty then satAdd (pgNi p) Ni.txnErrAChainDemoted 1 s
  else satAdd (pgNi p) Ni.aStatAFallback 1 s

/-- key(q) of R188. -/
def queueKey (s : State) (w q : Nat) : Nat :=
  let b := fget s w Fqw.fqClassBudgetNs q
  if b ≠ 0 then b else fget s pgFg Fg.synOffsetOffsetNs (fget s w Fqw.fqClassPrio q)

end Sys2Proof.Machine
end

