-- ==== Sys2Proof/Machine/Submit.lean ====
section
/-! DEFINITION. What an endpoint may submit across the TEI (spec/11 R274, R277, R280) and the leg 0 header that the NI
builds from it (spec/02 R57, spec/11 R275). -/

namespace Sys2Proof.Machine

/-! ## Credits and kinds -/

/-- tei_rst_n is high: the endpoint may submit (R269). -/
def teiAble (s : State) (p : Nat) : Bool := niPowered s p && teiState s p != 0

/-- The REQ pool is withdrawn: an N2 entry runs (R296), a slice prepares or runs (R316), or the page is quiesced
(R359). -/
def reqWithdrawn (s : State) (p : Nat) : Bool :=
  (ni s p).entry.isSome || (ni s p).tsPrep || (ni s p).tsHold || niQuiesced s p

/-- REQ-pool credits that the endpoint holds (R95, R277), and RSP-pool credits: each returns within 8 ep_clk cycles. -/
def reqAvail (s : State) (p : Nat) : Nat :=
  if teiAble s p && !reqWithdrawn s p then min (ni s p).reqLim (freeCount s p) else 0
def rspAvail (s : State) (p : Nat) : Nat := if teiAble s p then (ni s p).rspLim else 0

/-- The CXL.mem requests for which a host NI injects a packet (R61). -/
def hostMessage (h : Header) : Bool :=
  if h.mcls == 0 then
    h.opc.toNat == opMemRd || h.opc.toNat == opMemRdData || h.opc.toNat == opMemSpecRd || isInv h.opc || isBIConflict h.opc
  else if h.mcls == 1 then h.opc.toNat == opMemWr || h.opc.toNat == opMemWrPtl
  else true

/-- Message classes that R274 allows in a REQUEST. A target-only service port originates nothing (R17). A message that R61
does not name is no kind that a host NI accepts (DESIGN CHOICE, log entry 108). -/
def requestKind (p : Nat) (h : Header) : Bool :=
  let rw := h.mcls == 0 || h.mcls == 1 || (h.mcls == 6 && !isMgtCpl h)
  match portType p with
  | .host => rw && hostMessage h
  | .tier | .crypt | .comp | .ncache => rw
  | .dir => rw || h.mcls == 4
  | .svc => rw && (svcMid p).isSome
  | .mem | .spare => false

/-- Message classes that R274 allows in a RESPONSE. -/
def responseKind (p : Nat) (h : Header) : Bool :=
  isMgtCpl h || (if isHost p then h.mcls == 5 else h.mcls == 2 || h.mcls == 3)

/-- The checks of a submission that come before its meaning: framing and credit (R280), isolation (R245, with the grace
of R251), and the kind (R274). A kind that is not allowed has no pool whose credit it could lack (log entry 108). The second
part of the answer says whether the submission goes on. -/
def submitCheck (p avail : Nat) (graceOk kindOk : Bool) (sub : Submission) (s : State) : State × Bool :=
  if !sub.framed then (flag (pgNi p) Ni.teiErrFraming s, false)
  else if kindOk && avail == 0 then (flag (pgNi p) Ni.teiErrNoCredit s, false)
  else if isolated s p && !((ni s p).grace && graceOk) then (satAdd (pgNi p) Ni.faultCntDiscarded 1 s, false)
  else if !kindOk then (flag (pgNi p) Ni.teiErrBadKind s, false)
  else (wakeN1 p s, true)

/-- The DATA flits that a header calls for, from what was submitted: bytes beyond TAIL_BYTES of the last one are zero
(R40). -/
def fitData (h : Header) (l : List (BitVec 512)) : List (BitVec 512) :=
  let all := (l ++ List.replicate (dataFlits h) 0).take (dataFlits h)
  if h.tailBytes = 0 then all
  else all.take (dataFlits h - 1) ++ (all.drop (dataFlits h - 1)).map (fun d => d &&& BitVec.ofNat 512 (2 ^ (8 * h.tailBytes.toNat) - 1))

/-- TAIL_BYTES of a packet without DATA flits is 0 (R40). -/
def tailOf (h : Header) : Header := if dataFlits h = 0 then { h with tailBytes := 0 } else h

/-! ## The leg 0 header -/

/-- MID of a request from a port (R18). -/
def ownMid (p : Nat) (ldid : BitVec 4) : BitVec 12 :=
  match svcMid p with
  | some m => BitVec.ofNat 12 m
  | none => BitVec.ofNat 12 (p * 16 + (if isHost p then ldid.toNat else 0))

/-- SCLS of leg 0 in CHECK: M for MGT and for service ports, TEI_CFG.LEG0_SCLS elsewhere. At a HOST NI the flow queue
gives it at admission (R178); until then the entry holds B. -/
def leg0Scls (s : State) (p : Nat) (mcls : BitVec 3) : Nat :=
  if mcls == 6 || portType p == .svc then sM
  else if isHost p then sB
  else fget s (pgNi p) Ni.teiCfgLeg0Scls

/-- Endpoints that supply DEADLINE, DV and PRIO (R153). -/
def suppliesDeadline (p : Nat) : Bool := isEngine p || portType p == .dir

/-- Ports that take TGT and waypoints from the decoder (R101, R113). -/
def hasSad (p : Nat) : Bool := isHost p || portType p == .tier

/-- The lowest host of a multicast mask. -/
def firstHost (mcast : BitVec 16) : Option Nat := (List.range 16).find? mcast.getLsbD

/-- The header of leg 0 at t1 of R100 (R57, R275). Fields that the NI has not written yet hold 0. -/
def leg0Header (s : State) (p tag : Nat) (sub : Submission) : Header :=
  let b := sub.hdr
  let dl := suppliesDeadline p
  let bis := b.mcls == 4
  let taken := !hasSad p && !bis
  let host := ((firstHost b.mcast).map hostPort).getD 0
  tailOf
    { mcls := b.mcls, scls := BitVec.ofNat 2 (leg0Scls s p b.mcls), epoch := false
      dst := 0, src := BitVec.ofNat 8 p, legSrc := BitVec.ofNat 8 p
      tgt := if bis then BitVec.ofNat 8 host else if taken then b.tgt else 0
      deadline := if dl && b.dv then b.deadline else 0
      dv := dl && b.dv, syn := false
      prio := if dl then b.prio else if portType p == .svc then 7 else 0
      hops := 0, leg := 0
      wp0 := if hasSad p then 0xFF else b.wp0, wp1 := if hasSad p then 0xFF else b.wp1
      wp2 := if hasSad p then 0xFF else b.wp2
      mcast := if bis then b.mcast else 0
      tag := BitVec.ofNat 11 tag, mid := ownMid p sub.ldid, part := 0
      len := b.len, tailBytes := b.tailBytes, status := b.status, ccls := 0, ord := b.ord, artgen := false
      opc := b.opc, addr := b.addr, injTs := 0, byteEn := b.byteEn }

/-- The header of a refused request as the answer to the endpoint and the error log show it: what the NI has not written
by then is free (log entry 30). `stage`: 0 refused at t1 of R100; 1 denied at t2, when TGT and DST stand; 2 refused at t2
after its verdict, when ORD, CCLS, PART and ARTGEN stand too. -/
def refusedHeader (s : State) (p stage : Nat) (u : Header) (h : Header) : Header :=
  { h with
    scls := if isHost p && h.mcls != 6 then u.scls else h.scls
    prio := if isHost p then u.prio else h.prio
    deadline := if portType p == .svc then h.deadline else u.deadline
    dv := if portType p == .svc then h.dv else u.dv
    epoch := u.epoch
    tgt := if hasSad p && stage == 0 then u.tgt else h.tgt
    dst := match (if stage = 0 then none else legDst s h 0) with
      | some d => BitVec.ofNat 8 d
      | none => u.dst
    part := if stage = 2 then h.part else u.part
    ccls := if stage = 2 then h.ccls else u.ccls
    artgen := if stage = 2 then h.artgen else u.artgen
    ord := if stage = 2 then h.ord else u.ord
    injTs := u.injTs }

end Sys2Proof.Machine
end

