-- ==== Sys2Proof/Machine/Inject.lean ====
section
/-! DEFINITION. The local channel of an NI (spec/06 R160 to R164): its candidates, the stamps of a HEAD that enters it
(spec/02 R56, spec/06 R153, R154), and what the injection of a HEAD frees. -/

namespace Sys2Proof.Machine

/-! ## Stamps -/

/-- DEADLINE, DV and SYN of leg 0 at injection, and whether R154 replaced the deadline. Until then a host's ready packet
holds its budget in DEADLINE, with DV = 0 for a budget of zero (R153). -/
def stampDeadline (s : State) (p : Nat) (h : Header) : Header × Bool :=
  if !h.dv then ({ h with deadline := 0, syn := false }, false)
  else
    let now := nowNs s
    let slack := if isHost p then h.deadline.toNat else (h.deadline.toNat + 2 ^ 24 - now % 2 ^ 24) % 2 ^ 24
    let put (n : Nat) : Header := { h with deadline := BitVec.ofNat 24 (now + n), syn := false }
    if 2 ^ 23 ≤ slack then (put 0, true)
    else if 2 ^ 22 - 1 < slack then (put (2 ^ 22 - 1), true)
    else (put slack, false)

/-- The header with which a ready packet enters the local channel now (R56, R88, R153). -/
def stampHead (s : State) (p : Nat) (r : Ready) : Header × Bool :=
  let h := { r.hdr with epoch := injEpoch s }
  match r.src with
  | .leg0 _ =>
    let d := stampDeadline s p h
    ({ d.1 with injTs := BitVec.ofNat 32 s.mtime.toNat }, d.2)
  | .fetch _ => ({ h with injTs := BitVec.ofNat 32 s.mtime.toNat }, false)
  | _ => (h, false)

/-! ## Candidates (R160, R164) -/

/-- A ready HEAD may start now: no hold is in force, and a relay or fetch leg passes its gate test (R194, R195). Leg 0
has passed it at admission; a relay or fetch leg is tested in every cycle until it is granted (DESIGN CHOICE, log entry 140).
No packet straddles the start of a window's hold (R313). -/
def startable (s : State) (p : Nat) (r : Ready) : Bool :=
  match r.src with
  | .relay _ | .fetch _ => mayStart s p r.hdr
  | .leg0 _ => !headHold s p
  | _ => !headHold s p && beforeWindow s p (1 + dataFlits r.hdr)

/-- The first packet of a list that a test picks, with its place. -/
def findReady (ok : Ready → Bool) : List Ready → Nat → Option (Nat × Ready)
  | [], _ => none
  | r :: t, k => if ok r then some (k, r) else findReady ok t (k + 1)

/-- The candidate of a VC: the packet that is part-way, else the first that may start. `out` is its place in the list. -/
def niCand (s : State) (p v : Nat) : Option Cand :=
  let n := ni s p
  let left := mBudgetLeft s n.mwin
  match findReady (fun r => r.vc == v && r.headSent) n.ready 0 with
  | some (k, r) => if canData s (niChan p) v then some (mkCand s v v k v r.hdr r.starved left) else none
  | none =>
    match findReady (fun r => r.vc == v && startable s p r) n.ready 0 with
    | some (k, r) =>
      if canHead s (niChan p) v then some (mkCand s v v k v (stampHead s p r).1 r.starved left) else none
    | none => none

def niCands (s : State) (p : Nat) : List Cand := if niOn s p then (List.range 16).filterMap (niCand s p) else []

/-- The B and C head flits that R71 lets a local channel take count the cycle, once in each (R163). -/
def countLocal (p : Nat) (s : State) : State :=
  if (ni s p).counted then s
  else
    let l := (niCands s p).map (·.out)
    let count (e : Nat × Ready) : Ready :=
      if isBC e.2.hdr && l.contains e.1 then { e.2 with starve := e.2.starve + 1 } else e.2
    modNi p (fun n => { n with
      counted := true, ready := ((List.range n.ready.length).zip n.ready).map count }) s

/-- The flit that wins the local channel. -/
def niWinner (s : State) (p : Nat) : Option Cand := winnerOf (tget 0 (ni s p).rr) (niCands s p)

/-! ## Injection -/

/-- A served request's entry is freed with its receipt (R116, R242). -/
def freeServed (p tag : Nat) (s : State) : State :=
  match entry s p tag with
  | some e => freeReceipt p e.hdr.src.toNat e.hdr.tag.toNat (freeEntry p tag s)
  | none => s

/-- The entry of leg 0 keeps the stamped header; that of a BIS enters OPEN with its first copy, and records MCAST (R110). -/
def sentLeg0 (legTo : Nat) (h : Header) (e : Entry) : Entry :=
  let e := { e with hdr := { h with dst := e.hdr.dst, tgt := e.hdr.tgt } }
  if h.mcls == 4 && e.st == .hold then
    { e with st := .opened, wasOpen := true, resulted := false, mask := h.mcast, age := 0, legTo := legTo } else e

/-- The HEAD of a packet has been injected: an MGT_MSG frees its entry (R97), leg 0 keeps its stamped header, a leg
counts in LEGS_INJECTED, and an answer frees its receipt (R116, R242). -/
def headInjected (p : Nat) (src : ReadySrc) (h : Header) (s : State) : State :=
  match src with
  | .leg0 t =>
    if h.mcls == 6 && h.opc == 2 then freeEntry p t s
    else modEntry p t (sentLeg0 (fget s (pgNi p) Ni.legacyCfgLegacyToUs) h) s
  | .relay t => freeServed p t (wrapAdd (pgNi p) Ni.relayStatLegsInjected 1 s)
  | .fetch t =>
    modEntry p t (fun e => { e with fetch := some h }) (wrapAdd (pgNi p) Ni.relayStatLegsInjected 1 s)
  | .receipt a b => freeReceipt p a b s
  | .served t => freeServed p t s
  | .built => s

/-- Pointer and window after a grant at the local channel (R162, R164). -/
def noteNi (p : Nat) (w : Cand) (s : State) : State :=
  modNi p (fun n => { stirred n with
    rr := if isEdf w.group then n.rr else tput 0 n.rr w.group ((w.pos + 1) % 16)
    mwin := if w.group = 0 then recordM s n.mwin else n.mwin }) s

/-- A flit of ready packet `k` enters the local channel: its HEAD, or its next DATA flit. -/
def injectFlit (p k : Nat) (s : State) : State :=
  match (ni s p).ready[k]? with
  | none => s
  | some r =>
    let keep (r' : Ready) (last : Bool) (s : State) : State :=
      modNi p (fun n => { n with ready := if last then n.ready.eraseIdx k else n.ready.set k r' }) s
    if r.headSent then
      match r.data with
      | [] => s
      | d :: rest =>
        sendFlit (niChan p) r.vc (.data d rest.isEmpty) r.hdr
          (keep { r with data := rest, starve := 0 } rest.isEmpty s)
    else
      let st := stampHead s p r
      let s := onlyIf st.2 (satAdd (pgNi p) Ni.dlAuxDlClamped 1) s
      let s := keep { r with hdr := st.1, headSent := true, starve := 0 } r.data.isEmpty s
      headInjected p r.src st.1 (sendFlit (niChan p) r.vc (.head st.1 r.data.isEmpty) st.1 s)

/-- Grants a candidate of the local channel. -/
def grantNi (p : Nat) (w : Cand) (s : State) : State := injectFlit p w.out (noteNi p w (countLocal p s))

/-- The winner is a HEAD that has not been sent, with what it is. -/
def headOfWinner (s : State) (p : Nat) (w : Cand) : Option ReadySrc :=
  match (ni s p).ready[w.out]? with
  | some r => if r.headSent then none else some r.src
  | none => none

/-- A ready relay leg, fetch leg or response wins the local channel and its HEAD is injected (NI_INJECT, R160). -/
def execNiInject (p : Port) (s : State) : Out :=
  let p := p.val
  if !isLive p then .next s
  else
    match niWinner s p with
    | none => .next s
    | some w =>
      match headOfWinner s p w with
      | none | some (.leg0 _) => .next s
      | some _ => .next (grantNi p w s)

/-- An arbitration point grants its winner (FLIT_GRANT, R164): output `ch` of a router, or a local channel. -/
def execFlitGrant (ch : ChanId) (s : State) : Out :=
  let c := ch.val
  if !hasChan c then .next s
  else if c < 1024 then .next (grantRouter (c / 16) (c % 16) s)
  else
    match niWinner s (c - 1024) with
    | none => .next s
    | some w => .next (grantNi (c - 1024) w s)

/-! ## STARVE_LIMIT (R163) -/

def starveLimit (s : State) : Nat := fget s pgFg Fg.arbCfgStarveLimit

/-- The header of the flit at the front of a router's input VC. -/
def frontHeader (b : VcBuf) : Option Header :=
  match b.slots, b.going with
  | .data _ _ :: _, some (h, _, _) => some h
  | .head h _ _ :: _, _ => some h
  | _, _ => none

/-- Ready packets of a VC whose count has reached the limit enter group 2. -/
def starveReady (lim v : Nat) (l : List Ready) : List Ready :=
  mapIf (fun r => r.vc == v && isBC r.hdr && lim ≤ r.starve) (fun r => { r with starved := true }) l

/-- The head flit of each source of input 14 whose packet uses VC `v` enters group 2 once its count has reached the
limit (R163, R372). -/
def starveBuilt (lim v : Nat) (x : Router) : Router :=
  forEach (List.range 15) (fun src x =>
    match builtOf x src with
    | b :: t =>
      let on := match b.going with
        | some (_, ov) => ov == v
        | none => escVc b.hdr == v || adVc b.hdr == v
      if on && isBC b.hdr && lim ≤ b.starve then setBuilt src ({ b with starved := true } :: t) x else x
    | [] => x) x

/-- The starvation count of a B or C head flit has reached STARVE_LIMIT (STARVE_LIMIT, R163). At a router, `inp` and `vc`
name the input VC, and input 14 its built packets on that VC; at a local channel (`ch` from 1,024 on) `inp` 0 names the channel's own point, and any other value the
TEI delivery of its NI. -/
def execStarveLimit (ch : ChanId) (inp : Fin 15) (vc : Vc) (s : State) : Out :=
  let c := ch.val
  let v := vc.val
  let lim := starveLimit s
  if !hasChan c then .next s
  else if 1024 ≤ c then
    let p := c - 1024
    if inp.val = 0 then .next (modNi p (fun n => { n with ready := starveReady lim v n.ready }) s)
    else
      .next (onlyIf (lim ≤ tget 0 (ni s p).teiStarve v)
        (modNi p (fun n => { n with teiStarved := v :: n.teiStarved.filter (· != v) })) s)
  else if inp.val = 14 then .next (modRouter (c / 16) (starveBuilt lim v) s)
  else if !hasPort (c / 16) inp.val then .next s
  else
    let i := inChan (c / 16) inp.val
    let b := vcBuf s i v
    .next (onlyIf ((frontHeader b).any isBC && lim ≤ b.starve) (modVc i v (fun b => { b with starved := true })) s)

end Sys2Proof.Machine
end

