-- ==== Sys2Proof/Machine/Request.lean ====
section
/-! DEFINITION. CHECK of a request (spec/04 R96, R100 to R103, R113, R115; spec/09 R218, R221, R227): t0 to t2. -/

namespace Sys2Proof.Machine

/-! ## Address decoding (R101, R102) -/

/-- SAD entry `i` in force matches a request. -/
def sadMatches (s : State) (p i : Nat) (h : Header) : Bool :=
  let pg := pgNi p
  let last := (h.addr.toNat + (h.len.toNat + 1) * 64 - 1) / 2 ^ 26
  fbit s pg Ni.sadW0Valid i && fget s pg Ni.sadW1Base i ≤ h.addr.toNat / 2 ^ 26 && last ≤ fget s pg Ni.sadW1Limit i

/-- TGT that entry `i` gives. -/
def sadTarget (s : State) (p i : Nat) (addr : Nat) : Nat :=
  let pg := pgNi p
  let t := fget s pg Ni.sadW0Tgt i
  if fget s pg Ni.sadW0Kind i = 1 then t
  else memPort (t + addr / 2 ^ (8 + 2 * fget s pg Ni.sadW0Gran i) % 2 ^ fget s pg Ni.sadW0Ways i)

/-- The chain that entry `i` gives a request (R113). -/
def sadChain (s : State) (p i : Nat) (h : Header) : Nat :=
  if h.mcls == 0 && !ndrOnly h.opc then fget s (pgNi p) Ni.sadW0RdChain i
  else if h.mcls == 1 then fget s (pgNi p) Ni.sadW0WrChain i
  else 0xFFFFFF

/-- TGT and waypoints from the decoder at HOST and TIER NIs; none when no entry matches. -/
def decodeAddr (s : State) (p : Nat) (h : Header) : Option Header :=
  if !hasSad p then some h
  else
    match (List.range 64).find? (fun i => sadMatches s p i h) with
    | none => none
    | some i =>
      let c := sadChain s p i h
      some { h with
        tgt := BitVec.ofNat 8 (sadTarget s p i h.addr.toNat)
        wp0 := BitVec.ofNat 8 c, wp1 := BitVec.ofNat 8 (c / 2 ^ 8), wp2 := BitVec.ofNat 8 (c / 2 ^ 16) }

/-! ## The end of CHECK -/

/-- A request fails CHECK: the entry goes to CLOSE with the response that its class calls for; an MGT_MSG has none, and
its entry is freed (R64, R96). `stage` as in `refusedHeader`. -/
def refuse (p tag status stage : Nat) (log : Option Nat) (s : State) : State :=
  match entry s p tag with
  | none => s
  | some e =>
    let d := draw s
    let h := refusedHeader s p stage (Config.unwritten d.1) e.hdr
    let s := match log with
      | some k => errNi k p h d.2
      | none => d.2
    if isAnswered h then
      refuseToEp p { e with hdr := h } tag status (setEntry p tag (some { e with st := .close, waitsArt := false }) s)
    else freeEntry p tag s

/-- A request with an ALLOW verdict, or one that is not checked: ORD, CCLS, PART and ARTGEN, the resolution of WP0 and
R87 (t2 of R100). It enters HOLD. -/
def allowRequest (p tag : Nat) (v : Verdict) (checked : Bool) (s : State) : State :=
  match entry s p tag with
  | none => s
  | some e =>
    let h := { e.hdr with
      part := BitVec.ofNat 6 v.part, ccls := BitVec.ofNat 3 v.ccls, artgen := v.gen
      ord := BitVec.ofNat 2 (max e.hdr.ord.toNat v.ord) }
    let e := { e with hdr := h, verdict := if checked then some v else none, waitsArt := false }
    let s := setEntry p tag (some e) s
    match legDst s h 0 with
    | none => refuse p tag stDecodeErr 2 none (flag (pgNi p) Ni.txnErrGroupEmpty s)
    | some d =>
      if checked && !rankOk p d then
        refuse p tag stDecodeErr 2 (some eRank) (flag (pgNi p) Ni.txnErrRankRefused s)
      else
        let s := setEntry p tag (some { e with hdr := { h with dst := BitVec.ofNat 8 d }, st := .hold }) s
        onlyIf (isHost p)
          (fun s => maxIn (pgFqw (ordinal p)) Fqw.fqSampleDepthMax (heldOf s p e.fq) s e.fq) s

/-- The Proof Ledger's count of a DENY verdict (R326, R328). -/
def chargeDenial (p : Nat) (v : Verdict) (s : State) : State :=
  if s.fuses.ledgerAbsent then s
  else if v.region.isSome then accAdd p v.part 4 1 s
  else { s with ledger := { s.ledger with unattributed := s.ledger.unattributed + 1 } }

/-- A verdict decides a checked request (R221). -/
def takeVerdict (p tag : Nat) (v : Verdict) (s : State) : State :=
  if v.allow then allowRequest p tag v true s
  else
    refuse p tag stAccessFault 1 none (chargeDenial p v s)

/-- A request at the end of t1 meets the ART (R218, R227): a cache hit decides at once and sends a denial up as a fault
report; a miss issues a lookup. -/
def checkArt (p tag : Nat) (h : Header) (s : State) : State :=
  let g := groupOfMid s p h.mid.toNat
  let q : Lookup := { port := p, tag := tag, addr := h.addr.toNat, write := h.mcls == 1, len := h.len.toNat
                      mid := h.mid.toNat, group := g.1, priv := g.2, report := none }
  match cacheHit s p q with
  | some c =>
    let v := cacheVerdict c q.write q.len
    let s := cacheTouch p c (wrapAdd (pgNi p) Ni.vcStatHits 1 s)
    takeVerdict p tag v (onlyIf (!v.allow) (present { q with report := some v }) s)
  | none =>
    let s := onlyIf (isHost p) (wrapAdd (pgNi p) Ni.vcStatMisses 1) s
    modEntry p tag (fun e => { e with waitsArt := true }) (present q s)

/-- The verdict of a request that is not checked (R218). -/
def freeVerdict (s : State) : Verdict :=
  { allow := true, cause := 0, part := 0, ccls := 4, ord := 0, gen := artGen s, region := none }

/-- Condition 8 of R63 on the SCLS that the NI itself gives: at a HOST NI that of the flow queue. -/
def refused8 (s : State) (p fq : Nat) (h : Header) : Bool :=
  malformed8 p (if isHost p && h.mcls != 6 then
    { h with scls := BitVec.ofNat 2 (fget s (pgFqw (ordinal p)) Fqw.fqClassScls fq) } else h)

/-- t1 and t2 of R100 for the entry that the request has taken: classification beside the checks (R175). -/
def checkRequest (p tag : Nat) (h : Header) (ldid : Nat) (s : State) : State :=
  let cl := if isHost p then classify (ordinal p) h ldid s else (0, s)
  let s := modEntry p tag (fun e => { e with fq := cl.1 }) cl.2
  if malformedNi h || refused8 s p cl.1 h then refuse p tag stProtocol 0 (some eNiRefused) s
  else if h.mcls == 4 && h.mcast == 0 then refuse p tag stProtocol 0 none s
  else
    match decodeAddr s p h with
    | none => refuse p tag stDecodeErr 0 none (flag (pgNi p) Ni.txnErrDecodeMiss s)
    | some h =>
      let s := modEntry p tag (fun e => { e with hdr := h }) s
      if h.mcls == 0 || h.mcls == 1 then checkArt p tag h s else allowRequest p tag (freeVerdict s) false s

/-- An endpoint submits a REQUEST (TEI_REQUEST, R95, R96, R100). The SMX bridge takes its requests from the SMX
(R355), not across a TEI. -/
def execTeiRequest (p : Port) (sub : Submission) (s : State) : Out :=
  let p := p.val
  if !isLive p || p == portBridge then .next s
  else if !niPowered s p then .next s
  else
    let r := submitCheck p (reqAvail s p) false (sub.kind == 0 && requestKind p sub.hdr) sub s
    if !r.2 then .next r.1
    else
      let s := r.1
      match freeTag s p with
      | none => .next s
      | some tag =>
        let h := leg0Header s p tag sub
        let ldid := if isHost p then sub.ldid else 0
        let e : Entry := { st := .check, hdr := h, data := fitData h sub.data, etag := sub.etag, ldid := ldid
                           ndrExp := sub.ndrExp, t0ns := nowNs s }
        .next (checkRequest p tag h ldid.toNat (takeEntry p tag e s))

/-- A verdict reaches its NI and completes CHECK; the cache installs what R227 says (VERDICT_RETURN, R221). -/
def execVerdictReturn (p : Port) (s : State) : Out :=
  let p := p.val
  match (ni s p).verdicts with
  | [] => .next s
  | m :: rest =>
    let s := offerRow (p / 32) (modNi p (fun n => { n with verdicts := rest }) s)
    let s := match m.install with
      | some c => onlyIf (cacheOn s p) (cacheTouch p c) s
      | none => s
    match entry s p m.tag with
    | some e => .next (onlyIf (e.st == .check && e.waitsArt) (takeVerdict p m.tag m.v) s)
    | none => .next s

end Sys2Proof.Machine
end

