-- ==== Sys2Proof/Machine/Admission.lean ====
section
/-! DEFINITION. The admission test (spec/04 R96, R97, R104 to R109; spec/07 R182, R187 to R190; spec/08 R194, R202) and
what admission does. -/

namespace Sys2Proof.Machine

/-! ## The ordering condition (R105) -/

/-- Two requests have a line in common. -/
def sharesLine (a b : Header) : Bool :=
  let mem (h : Header) : Bool := h.mcls == 0 || h.mcls == 1
  if mem a && mem b then
    a.addr.toNat / 64 ≤ b.addr.toNat / 64 + b.len.toNat && b.addr.toNat / 64 ≤ a.addr.toNat / 64 + a.len.toNat
  else a.mcls == 6 && b.mcls == 6 && a.tgt == b.tgt && a.addr.toNat / 64 == b.addr.toNat / 64

/-- Q is a predecessor of P by P's ORD. -/
def precedes (q p : Header) : Bool :=
  match p.ord.toNat with
  | 1 => sharesLine q p
  | 2 => q.mid == p.mid
  | _ => false

/-- Leg 0 of an entry waits for its HEAD at the local channel. -/
def headWaits (s : State) (p tag : Nat) : Bool :=
  (ni s p).ready.any (fun r => !r.headSent && (match r.src with | .leg0 t => t == tag | _ => false))

/-- Q, OPEN, and P are path-ordered. A BIS to several hosts has for its DST the port of the lowest of them (DESIGN CHOICE, log
entry 109); a Q whose HEAD has not entered the local channel has no EPOCH yet and is not path-ordered (DESIGN CHOICE, log
entry 110). -/
def pathOrdered (s : State) (p tag : Nat) (q h : Header) : Bool :=
  (waypointsOf q).isEmpty && (waypointsOf h).isEmpty && q.dst == h.dst && injectVc q == injectVc h
    && q.epoch == injEpoch s && !headWaits s p tag

/-- The ordering condition of entry `e`, whose header as it will travel is `h`. -/
def orderOk (s : State) (p : Nat) (e : Entry) (h : Header) : Bool :=
  (entriesOf (ni s p)).all (fun q =>
    q.2.role != .leg0 || e.seq ≤ q.2.seq || q.2.st == .close || !precedes q.2.hdr h
      || (q.2.st == .opened && pathOrdered s p q.1 q.2.hdr h))

/-! ## The admission test -/

/-- The header that a request would travel with if it were admitted now: at a HOST NI its flow queue gives SCLS, PRIO
and the budget, which DEADLINE holds until injection (R153, R178 to R180). -/
def travelHeader (s : State) (p : Nat) (e : Entry) : Header :=
  if !isHost p then e.hdr
  else
    let w := pgFqw (ordinal p)
    let b := fget s w Fqw.fqClassBudgetNs e.fq
    { e.hdr with
      scls := BitVec.ofNat 2 (travelsAs s (ordinal p) e), prio := BitVec.ofNat 3 (fget s w Fqw.fqClassPrio e.fq)
      deadline := BitVec.ofNat 24 b, dv := b != 0 }

/-- The conditions of R96 on a head: quota, order, shaper, gate. -/
structure Tests where
  quota : Bool
  order : Bool
  shaper : Bool
  gate : Bool
  deriving DecidableEq, Repr

def testHead (s : State) (p : Nat) (e : Entry) : Tests :=
  let h := travelHeader s p e
  let w := pgFqw (ordinal p)
  { quota := !isHost p || outstanding s p e.fq < fget s w Fqw.fqQuotaQuota e.fq
    order := orderOk s p e h
    shaper := !isHost p || 0 < tokens s w e.fq
    gate := mayStart s p h }

def Tests.pass (t : Tests) : Bool := t.quota && t.order && t.shaper && t.gate

/-- A request that waits at an NI for its admission. -/
def isWaiting (e : Entry) : Bool := e.role == .leg0 && (e.st == .check || (e.st == .hold && !e.resulted))

/-- The oldest waiting requests: one of each flow queue at a HOST NI, one at any other (R106). -/
def heads (s : State) (p : Nat) : List (Nat × Entry) :=
  let l := (entriesOf (ni s p)).filter (fun e => isWaiting e.2)
  if isHost p then (busyQueues s p).filterMap (fun q => oldest (l.filter (fun e => e.2.fq == q)))
  else (oldest l).toList

/-- The heads that meet every condition now (R187). -/
def eligible (s : State) (p : Nat) : List (Nat × Entry) :=
  (heads s p).filter (fun e => e.2.st == .hold && (testHead s p e.2).pass)

/-- SHAPER_HOLD, ORDER_HOLD and GATE_HOLD of the heads that this test has found (R189). -/
def holdFlags (p : Nat) (s : State) : State :=
  if !isHost p then s
  else
    let w := pgFqw (ordinal p)
    let l := ((heads s p).filter (fun e => e.2.st == .hold)).map (fun e => (e.2.fq, testHead s p e.2))
    forEach l (fun t s =>
      fsetB w Fqw.fqStatGateHold (!t.2.gate)
        (fsetB w Fqw.fqStatOrderHold (!t.2.order) (fsetB w Fqw.fqStatShaperHold (!t.2.shaper) s t.1) t.1) t.1) s

/-! ## The choice among flow queues (R188) -/

/-- The member with the lowest (key, acceptance order, queue). -/
def lowestKey (s : State) (w : Nat) : List (Nat × Entry) → Option (Nat × Entry)
  | [] => none
  | e :: t =>
    match lowestKey s w t with
    | none => some e
    | some f =>
      let ke := queueKey s w e.2.fq
      let kf := queueKey s w f.2.fq
      some (if ke < kf || (ke == kf && e.2.seq ≤ f.2.seq) then e else f)

/-- The member of the lowest flow queue. -/
def lowestFq : List (Nat × Entry) → Option (Nat × Entry)
  | [] => none
  | e :: t => match lowestFq t with
    | none => some e
    | some f => some (if e.2.fq ≤ f.2.fq then e else f)

/-- The member of the first flow queue at or after a pointer, in ascending order of the queues. -/
def fromPtr (ptr : Nat) (l : List (Nat × Entry)) : Option (Nat × Entry) :=
  match lowestFq (l.filter (fun e => ptr ≤ e.2.fq)) with
  | some e => some e
  | none => lowestFq l

/-- Which pointer chose. -/
inductive ByPtr
  | none | m | s | c
  deriving DecidableEq, Repr

/-- The head that a host admits, and the pointer that chose it. -/
def pickHost (s : State) (p : Nat) (cand : List (Nat × Entry)) : Option ((Nat × Entry) × ByPtr) :=
  let n := ni s p
  let w := pgFqw (ordinal p)
  let cls (e : Nat × Entry) : Nat := travelsAs s (ordinal p) e.2
  let m := cand.filter (fun e => cls e == sM)
  let a := cand.filter (fun e => cls e == sA)
  let st := cand.filter (fun e => (cls e == sB || cls e == sC) && starveLimit s ≤ e.2.wait)
  let b := cand.filter (fun e => cls e == sB)
  if !m.isEmpty then (fromPtr n.ptrM m).map (·, .m)
  else if !a.isEmpty then (lowestKey s w a).map (·, .none)
  else if !st.isEmpty then (fromPtr n.ptrS st).map (·, .s)
  else if !b.isEmpty then (lowestKey s w b).map (·, .none)
  else (fromPtr n.ptrC cand).map (·, .c)

/-- The pointer moves past the queue that it has chosen. -/
def movePtr (p fq : Nat) (b : ByPtr) (s : State) : State :=
  let v := (fq + 1) % 4096
  match b with
  | .none => s
  | .m => modNi p (fun n => { n with ptrM := v }) s
  | .s => modNi p (fun n => { n with ptrS := v }) s
  | .c => modNi p (fun n => { n with ptrC := v }) s

/-- B and C heads that are eligible and not picked count the cycle. -/
def countWaits (p tag : Nat) (cand : List (Nat × Entry)) (s : State) : State :=
  let l := cand.filter (fun e =>
    e.1 != tag && (travelsAs s (ordinal p) e.2 == sB || travelsAs s (ordinal p) e.2 == sC))
  forEach l (fun e s => modEntry p e.1 (fun x => { x with wait := x.wait + 1 }) s) s

/-! ## Admission -/

/-- The charge and the telemetry of an admitted request (R182, R190, R202). When MTIME has stepped back behind the request's t0,
its delay is 0 (DESIGN CHOICE, log entry 131). -/
def chargeRequest (p : Nat) (e : Entry) (h : Header) (s : State) : State :=
  if !isHost p then s
  else
    let w := pgFqw (ordinal p)
    let lines := h.len.toNat + 1
    let delay := nowNs s - e.t0ns
    let s := countClass p (ordinal p) e h.scls.toNat s
    let s := setTokens w e.fq (tokens s w e.fq - (lines * 64 : Nat)) s
    let s := wrapAdd w Fqw.fqAdmittedRequests 1 s e.fq
    let s := wrapAdd w Fqw.fqAdmittedLines lines s e.fq
    let s := maxIn w Fqw.fqDelayDelayMaxNs delay s e.fq
    fset w Fqw.fqDelayDelayLastNs (min delay (2 ^ 32 - 1)) s e.fq

/-- Hosts of a multicast mask, ascending. -/
def hostsOf (mcast : BitVec 16) : List Nat := (List.range 16).filter mcast.getLsbD

/-- The packets of leg 0: one, or one copy of a BIS for each host (R53). -/
def leg0Packets (h : Header) : List Header :=
  if h.mcls == 4 then
    (hostsOf h.mcast).map (fun k => { h with dst := BitVec.ofNat 8 (hostPort k), tgt := BitVec.ofNat 8 (hostPort k) })
  else [h]

/-- The reservation that a class A request travels under. -/
def rsvOf (s : State) (p : Nat) (e : Entry) (h : Header) : Option Nat :=
  if h.scls == 0 then some (fget s (pgFqw (ordinal p)) Fqw.fqClassRsv e.fq) else none

/-- An entry passes its admission test: it enters OPEN, or stays in HOLD as an MGT_MSG or, until its first copy is injected,
as a BIS, and leg 0 is ready (R96, R97, R110, R117). -/
def openEntry (p tag : Nat) (e : Entry) (s : State) : State :=
  let h := travelHeader s p e
  let s := chargeRequest p e h s
  let stays := h.mcls == 4 || (h.mcls == 6 && h.opc == 2)
  let e' : Entry :=
    { e with
      hdr := h, rsv := rsvOf s p e h, wait := 0
      st := if stays then .hold else .opened, wasOpen := !stays, resulted := stays
      age := 0, legTo := fget s (pgNi p) Ni.legacyCfgLegacyToUs }
  forEach (leg0Packets h) (fun g s => pushReady p (.leg0 tag) g e.data s) (setEntry p tag (some e') s)

/-- The HEAD of leg 0 enters the local channel at once when it wins there (t4 of R100). -/
def injectLeg0 (p tag : Nat) (s : State) : State :=
  match niWinner s p with
  | none => s
  | some w => if headOfWinner s p w = some (.leg0 tag) then grantNi p w s else s

/-- A request in HOLD passes the admission test (ADMISSION, R96, R187): at most one in a cycle at a HOST NI. -/
def execAdmission (p : Port) (s : State) : Out :=
  let p := p.val
  if !isLive p then .next s
  else if !niOn s p || ((ni s p).admitted && isHost p) then .next s
  else
    let s := holdFlags p (onlyIf (isHost p) refillTick s)
    let cand := eligible s p
    let pick := if isHost p then pickHost s p cand else cand.head?.map (·, .none)
    match pick with
    | none => .next s
    | some (e, b) =>
      let s := countWaits p e.1 (if isHost p then cand else []) (movePtr p e.2.fq b s)
      let s := openEntry p e.1 e.2 (modNi p (fun n => { n with admitted := true }) s)
      .next (injectLeg0 p e.1 s)

end Sys2Proof.Machine
end

