-- ==== Sys2Proof/Machine/Crypto.lean ====
section
/-! DEFINITION. SHA-384 (FIPS 180-4) and ECDSA over P-384 (FIPS 186-5), which the Proof Ledger and RMA entry use (spec/14
R334, R338, R339, R344). Messages are numbers whose byte 0 is lowest. -/

namespace Sys2Proof.Machine

/-! ## SHA-384

The constants are computed from what they are, fractions of roots of primes. A round works on two histories, newest first: of
the words that FIPS 180-4 calls a (then b, c, d) and of those it calls e (then f, g, h). A message is one number. -/

/-- The primes below 410: the first 80. -/
def primes80 : List Nat :=
  (List.range 410).filter (fun n => 2 ≤ n && (List.range 21).all (fun d => d < 2 || n ≤ d || n % d != 0))

/-- The first 64 bits of the fraction of the `k`-th root of `p`, the root found from its top bit down. -/
def rootFraction (k p : Nat) : Word :=
  BitVec.ofNat 64 ((List.range 72).foldr (fun i r => if (r + 2 ^ i) ^ k ≤ p * 2 ^ (64 * k) then r + 2 ^ i else r) 0)

/-- The words that the rounds add. -/
def roundWords : List Word := primes80.map (rootFraction 3)

/-- `x` turned right by each of the counts, all XORed onto `x` shifted right by `drop` (64: onto nothing). -/
def turned (counts : List Nat) (drop : Nat) (x : Word) : Word :=
  counts.foldl (fun a n => a ^^^ x.rotateRight n) (x >>> drop)

/-- The schedule, newest word first, `n` words longer. -/
def extendSchedule (n : Nat) (w : List Word) : List Word :=
  (List.range n).foldl (fun l _ =>
    let ago (k : Nat) : Word := l.getD (k - 1) 0
    (ago 16 + ago 7 + turned [1, 8] 7 (ago 15) + turned [19, 61] 6 (ago 2)) :: l) w

/-- Two histories: of a and of e. -/
abbrev Histories := List Word × List Word

/-- A round that adds `w`, a word of the schedule plus the round's own. -/
def hashRound (s : Histories) (w : Word) : Histories :=
  match s with
  | (a0 :: a1 :: a2 :: a3 :: _, e0 :: e1 :: e2 :: e3 :: _) =>
    let choice := e2 ^^^ (e0 &&& (e1 ^^^ e2))
    let majority := (a0 &&& (a1 ||| a2)) ||| (a1 &&& a2)
    let push := e3 + turned [14, 18, 41] 64 e0 + choice + w
    ((push + turned [28, 34, 39] 64 a0 + majority) :: s.1, (a3 + push) :: s.2)
  | _ => s

/-- Both histories' newest four words, added to those before the block. -/
def addHistories (old new : Histories) : Histories :=
  (List.zipWith (· + ·) old.1 new.1, List.zipWith (· + ·) old.2 new.2)

/-- The histories after a block, a number of 1,024 bits. -/
def hashBlock (s : Histories) (block : Nat) : Histories :=
  let first := (List.range 16).map (fun i => BitVec.ofNat 64 (block / 2 ^ (64 * i)))
  let words := (extendSchedule 64 first).reverse
  addHistories s ((List.zipWith (· + ·) roundWords words).foldl hashRound s)

/-- A message of `len` bytes, byte 0 lowest, as the number it spells with byte 0 highest. -/
def bigEndian (len m : Nat) : Nat :=
  (List.range len).foldl (fun n i => 256 * n + m / 2 ^ (8 * i) % 256) 0

/-- SHA-384 of a message of `len` bytes: the digest as a number, its first byte most significant. The message is padded to
`blocks` blocks by a 1 bit, zeros and its length in bits. -/
def sha384 (len m : Nat) : Nat :=
  let blocks := (8 * len + 129 + 1023) / 1024
  let padded := (2 * bigEndian len m + 1) * 2 ^ (1024 * blocks - 8 * len - 1) + 8 * len
  let start := (primes80.drop 8).map (rootFraction 2)
  let h := (List.range blocks).foldl (fun h k => hashBlock h (padded / 2 ^ (1024 * (blocks - 1 - k)) % 2 ^ 1024))
    (start.take 4, (start.drop 4).take 4)
  (h.1 ++ h.2.take 2).foldl (fun n w => 2 ^ 64 * n + w.toNat) 0

/-! ## P-384 -/

/-- The prime of the field, and the order of the base point. -/
def p384P : Nat := 2 ^ 384 - 2 ^ 128 - 2 ^ 96 + 2 ^ 32 - 1
def p384N : Nat :=
  0xffffffffffffffffffffffffffffffffffffffffffffffffc7634d81f4372ddf581a0db248b0a77aecec196accc52973

/-- The base point. -/
def p384G : Nat × Nat :=
  (0xaa87ca22be8b05378eb1c71ef320ad746e1d3b628ba79b9859f741e082542a385502f25dbf55296c3a545e3872760ab7
   , 0x3617de4a96262c6f5d9e98bf9292dc29f8f41dbd289a147ce9da3113b5f0b8c00a60b1ce1d7e819d7a431d7c90ea0e5f)

/-- `b` to the power `e`, below 2^384, modulo `m`. -/
def powMod (m b e : Nat) : Nat :=
  (List.range 384).foldr (fun i a => let q := a * a % m; if e.testBit i then q * b % m else q) 1

/-- The inverse modulo a prime. -/
def invMod (m x : Nat) : Nat := powMod m x (m - 2)

/-- The sum of two points; none is the point at infinity. The curve has a = −3. -/
def ecAdd : Option (Nat × Nat) → Option (Nat × Nat) → Option (Nat × Nat)
  | none, q => q
  | p, none => p
  | some (x1, y1), some (x2, y2) =>
    if x1 = x2 ∧ (y1 + y2) % p384P = 0 then none
    else
      let l :=
        if x1 = x2 then (3 * x1 * x1 + p384P - 3) % p384P * invMod p384P (2 * y1 % p384P) % p384P
        else (y2 + p384P - y1) % p384P * invMod p384P ((x2 + p384P - x1) % p384P) % p384P
      let x := (l * l + 2 * p384P - x1 - x2) % p384P
      some (x, (l * (x1 + p384P - x) + p384P - y1) % p384P)

/-- A multiple, below 2^384, of a point. -/
def ecMul (k : Nat) (q : Nat × Nat) : Option (Nat × Nat) :=
  (List.range 384).foldr (fun i a => let d := ecAdd a a; if k.testBit i then ecAdd d (some q) else d) none

/-- A number of 1 to n − 1, as a private key and a per-message secret are. -/
def scalarOf (x : Nat) : Nat := 1 + x % (p384N - 1)

/-- The public key of a private key. -/
def ecPublic (d : Nat) : Nat × Nat := (ecMul d p384G).getD (0, 0)

/-- The signature r and s of a digest by a private key with a per-message secret. -/
def ecdsaSign (d digest k : Nat) : Nat × Nat :=
  let r := (ecPublic k).1 % p384N
  (r, invMod p384N k * (digest + r * d) % p384N)

/-- The signature r and s of a digest verifies against a public key. -/
def ecdsaVerify (q : Nat × Nat) (digest r s : Nat) : Bool :=
  if r = 0 ∨ p384N ≤ r ∨ s = 0 ∨ p384N ≤ s then false
  else
    let w := invMod p384N s
    match ecAdd (ecMul (digest * w % p384N) p384G) (ecMul (r * w % p384N) q) with
    | none => false
    | some (x, _) => x % p384N == r

end Sys2Proof.Machine
end

