-- ==== Sys2Proof/Machine/Deliver.lean ====
section
/-! DEFINITION. Toward the endpoint: served requests (spec/04 R116), the match of a response (R99, R110, R118, R121), and
delivery across the TEI with its credits (spec/11 R271, R273, R278; spec/10 R241). -/

namespace Sys2Proof.Machine

/-! ## Served requests -/

/-- The first waypoint leg of a receive VC that has no entry yet, by its place. -/
def firstUnserved (p : Nat) : List (Header × Bool × Disp × List Slot) → Nat → Option (Nat × Header × Disp)
  | [], _ => none
  | (h, _, d, _) :: t, k =>
    match d with
    | .served _ _ => firstUnserved p t (k + 1)
    | d => if isWaypointLeg p h then some (k, h, d) else firstUnserved p t (k + 1)

/-- An entry is free for a served request; a TIER NI keeps one for each unused REQ-pool credit (R95, R116). -/
def servedRoom (s : State) (p : Nat) : Bool :=
  (if portType p == .tier then reqAvail s p else 0) < freeCount s p

/-- A waypoint NI accepts the HEAD of an incoming leg into a free entry (WAYPOINT_ACCEPT, R116). -/
def execWaypointAccept (p : Port) (vc : Vc) (s : State) : Out :=
  let p := p.val
  let c := niRxChan p
  let v := vc.val
  if !isLive p then .next s
  else if !niOn s p || isolated s p || !servedRoom s p then .next s
  else
    match firstUnserved p (packetsOf (vcBuf s c v).slots) 0, freeTag s p with
    | some (k, h, _), some tag =>
      let s := modVc c v (fun b => { b with slots := setDisp (.served tag none) b.slots k }) (wakeN1 p s)
      let s := modNi p (fun n => { n with
        lateAnswers := n.lateAnswers.filter (fun a => a != (h.src.toNat, h.tag.toNat)) }) s
      .next (judgeRx p (takeEntry p tag { st := .opened, role := .served, hdr := h } s))
    | _, _ => .next s

/-- The NI answers a served request in place of its engine (R118, R123): the entry and its receipt go with the HEAD. -/
def answerServed (p tag status : Nat) (s : State) : State :=
  match entry s p tag with
  | none => s
  | some e =>
    let s := pushAnswer p (.served tag) e.hdr status s
    let s := modEntry p tag (fun e => { e with answered := true }) s
    markAnswered p e.hdr.src.toNat e.hdr.tag.toNat s

/-- The engine still owes its last result for a request that the NI has answered (R118). -/
def noteLateAnswer (p : Nat) (h : Header) (s : State) : State :=
  modNi p (fun n => { n with lateAnswers := (h.src.toNat, h.tag.toNat) :: n.lateAnswers }) s

/-! ## RESPONSE_ARRIVE -/

/-- A target-only service port: its unit takes every packet (R152, R310, R336). -/
def unitPort (p : Nat) : Bool := p == portTime || p == portPower || p == portLedger

/-- DATA flits of a packet's slots. -/
def slotData : List Slot → List (BitVec 512)
  | [] => []
  | .data d _ :: t => d :: slotData t
  | .head _ _ _ :: t => slotData t

/-- The bit of the host whose port sent a BIR. -/
def birHost (h : Header) : Option Nat :=
  if h.mcls == 5 && isHost h.src.toNat then some (ordinal h.src.toNat) else none

/-- A BIR for a BIS entry (R110). -/
def takeBir (p v tag : Nat) (e : Entry) (h : Header) (s : State) : State :=
  match (birHost h).filter e.mask.getLsbD with
  | none => strayResponse p h s
  | some k =>
    let mask := e.mask &&& ~~~(1#16 <<< k)
    let s := wrapAdd (pgNi p) Ni.biStatBirReceived 1 (modEntry p tag (fun e => { e with mask := mask }) s)
    let last := mask == 0
    let s := onlyIf last (closeEntry p tag) s
    toFifoAt p v { hdr := h, data := [], kind := 1, final := last, etag := e.etag, ldid := e.ldid
                   frees := if last then some tag else none } s

/-- The first matching response of any other leg 0 entry: it closes the entry, and R121 tests a DRS that answers a
REQ. -/
def takeAnswer (p v tag : Nat) (e : Entry) (h : Header) (data : List (BitVec 512)) (s : State) : State :=
  let bad := e.hdr.mcls == 0 && h.mcls == 3 && (h.len != e.hdr.len || h.tailBytes != 0)
  let h' := if bad then { h with len := e.hdr.len, tailBytes := 0, status := BitVec.ofNat 4 stProtocol } else h
  let s := onlyIf bad (flag (pgNi p) Ni.txnErrLengthMismatch) s
  toFifoAt p v { hdr := h', data := if bad then zeroData h' else data, kind := 1, etag := e.etag, ldid := e.ldid
                 frees := some tag } (closeEntry p tag s)

/-- The response to a fetch leg (R118, R273): SRC and TAG become the served request's; a status other than OK makes the NI
answer the served request. -/
def takeFetch (p v tag : Nat) (e : Entry) (h : Header) (data : List (BitVec 512)) (s : State) : State :=
  let fails := h.status != 0 && !e.answered
  let s := modEntry p tag (fun e => { e with fetch := none }) s
  let s := onlyIf fails (fun s => noteLateAnswer p e.hdr (answerServed p tag h.status.toNat s)) s
  toFifoAt p v { hdr := { h with src := e.hdr.src, tag := e.hdr.tag }, data := data, kind := 2
                 answered := fails || e.answered } s

/-- A response reaches its initiator NI (RESPONSE_ARRIVE, R86, R99): the front packet of a receive VC, once complete. -/
def execResponseArrive (p : Port) (vc : Vc) (s : State) : Out :=
  let p := p.val
  let c := niRxChan p
  let v := vc.val
  if !isLive p then .next s
  else
    match packetsOf (vcBuf s c v).slots with
    | [] => .next s
    | (h, _, _, _) :: _ =>
      let slots := (frontPacket (vcBuf s c v).slots).1
      if !niOn s p || unitPort p || !isResponse h || !endsTail slots then .next s
      else
        let t := h.tag.toNat
        let go (s : State) : State := consumePacket c v 0 (wakeN1 p s)
        match entry s p t with
        | none => .next (strayResponse p h (go s))
        | some e =>
          if e.st != .opened then .next (strayResponse p h (go s))
          else if e.orphan then .next (freeEntry p t (go s))
          else if e.role == .served then
            if e.fetch.isNone || headPending (ni s p) t then .next (strayResponse p h (go s))
            else if teiTakes s p then .next (takeFetch p v t e h (slotData slots) (go s))
            else .next s
          else if !teiTakes s p then .next s
          else if e.hdr.mcls == 4 then .next (takeBir p v t e h (go s))
          else .next (takeAnswer p v t e h (slotData slots) (go s))
where
  /-- The fetch leg of an entry has not been injected yet. -/
  headPending (n : Ni) (tag : Nat) : Bool :=
    n.ready.any (fun r => !r.headSent && (match r.src with | .fetch t => t == tag | _ => false))

/-! ## TEI_DELIVER (R271, R160) -/

/-- A request at the front of a receive VC that may be delivered: complete, with its served entry at a waypoint, and
with room for a receipt (R241); none starts while the page is quiesced (R359). -/
def requestFront (s : State) (p v : Nat) : Option Header :=
  let b := vcBuf s (niRxChan p) v
  match b.slots, b.going with
  | .data _ _ :: _, some (h, _, _) => some h
  | .head h _ d :: _, _ =>
    let whole := endsTail (frontPacket b.slots).1
    let served := match d with | .served _ _ => true | _ => false
    if isResponse h || unitPort p || !whole || (isWaypointLeg p h && !served) || niQuiesced s p
        || (isAnswered h && receiptMax p ≤ (ni s p).receipts.length) then none
    else some h
  | _, _ => none

/-- What a VC delivers next: a packet of the TEI FIFO, or a request of the receive buffer. -/
def deliveryFront (s : State) (p v : Nat) : Option Header :=
  match tget [] (ni s p).fifo v with
  | d :: _ => some d.hdr
  | [] => requestFront s p v

def teiCand (s : State) (p v : Nat) : Option Cand :=
  let n := ni s p
  if tget 0 n.dnCrd v = 0 then none
  else (deliveryFront s p v).map (fun h => mkCand s v v 0 v h (n.teiStarved.contains v) (mBudgetLeft s n.mwinTei))

/-- The NI delivers to its endpoint now. -/
def delivers (s : State) (p : Nat) : Bool := teiTakes s p && !isolated s p && !(ni s p).tsHold

def teiCands (s : State) (p : Nat) : List Cand := if delivers s p then (List.range 16).filterMap (teiCand s p) else []
/-- The B and C head flits that an NI could deliver count the cycle, once in each (R163). -/
def countTei (p : Nat) (s : State) : State :=
  if (ni s p).teiCounted then s
  else
    let l := ((teiCands s p).filter (fun w => isBC w.hdr)).map (·.vc)
    modNi p (fun n => { n with
      teiCounted := true, teiStarve := l.foldl (fun t v => tput 0 t v (tget 0 t v + 1)) n.teiStarve }) s

def teiWinner (s : State) (p : Nat) : Option Cand := winnerOf (fun g => tget 0 (ni s p).rr (8 + g)) (teiCands s p)

/-- The next beat of the packet at the front of a TEI FIFO VC; with its last beat the packet has crossed the TEI. -/
def beatFifo (p v : Nat) (d : Delivery) (rest : List Delivery) (s : State) : State :=
  let left := d.data.tail
  let last := left.isEmpty
  let beat : Beat := { vc := v, sop := !d.begun, eop := last, hdr := d.hdr, kind := d.kind, answered := d.answered
                       final := d.final, late := d.late, etag := d.etag, ldid := d.ldid, data := d.data.head? }
  let s := modNi p (fun n => { n with
    lastBeat := some beat
    fifo := tput [] n.fifo v (if last then rest else { d with begun := true, data := left } :: rest) }) s
  match last, d.frees with
  | true, some t => freeEntry p t (countBytes p t d.hdr s)
  | _, _ => s

/-- The next beat of the request at the front of a receive VC. Its first beat carries the header and DATA flit 0, and
takes the receipt (R241). -/
def beatRequest (p v : Nat) (s : State) : State :=
  let c := niRxChan p
  let b := vcBuf s c v
  let beat (h : Header) (sop eop late : Bool) (d : Option (BitVec 512)) : Beat :=
    { vc := v, sop := sop, eop := eop, hdr := h, kind := 0, answered := false, final := false, late := late
      etag := 0, ldid := 0, data := d }
  let put (h : Header) (n : Nat) (x : Beat) (s : State) : State :=
    let s := modVc c v (fun b => { b with
      slots := b.slots.drop n, going := if x.eop then none else some (h, 0, 0) }) s
    modNi p (fun m => { m with lastBeat := some x }) (returnCredit c v n s)
  match b.slots, b.going with
  | .data d t :: _, some (h, _, _) => put h 1 (beat h false t false (some d)) s
  | .head h t disp :: rest, _ =>
    let late := match disp with | .served _ l => l.getD false | .arrived l => l | _ => false
    let s := onlyIf (isAnswered h) (modNi p (fun n => { n with receipts := n.receipts ++ [{ hdr := h, age := 0 }] })) s
    if t then put h 1 (beat h true true late none) s
    else
      match rest with
      | .data d t' :: _ => put h 2 (beat h true t' late (some d)) s
      | _ => s
  | _, _ => s

/-- Pointers, window, credit and counts after a beat (R162 to R164, R243, R278). -/
def noteBeat (p : Nat) (w : Cand) (s : State) : State :=
  modNi p (fun n => { stirred n with
    rr := if isEdf w.group then n.rr else tput 0 n.rr (8 + w.group) ((w.pos + 1) % 16)
    mwinTei := if w.group = 0 then recordM s n.mwinTei else n.mwinTei
    dnCrd := tput 0 n.dnCrd w.vc (tget 0 n.dnCrd w.vc - 1)
    accWait := tput 0 n.accWait w.vc 0
    teiStarve := tput 0 n.teiStarve w.vc 0 }) s

/-- A packet that has been delivered leaves group 2 (R163). -/
def endStarve (p v : Nat) (s : State) : State :=
  onlyIf ((ni s p).lastBeat.any (·.eop)) (modNi p (fun n => { n with teiStarved := n.teiStarved.filter (· != v) })) s

/-- An NI delivers one beat to its endpoint (TEI_DELIVER, R271). -/
def execTeiDeliver (p : Port) (s : State) : Out :=
  let p := p.val
  if !isLive p then .next s
  else
    match teiWinner s p with
    | none => .next s
    | some w =>
      let s := noteBeat p w (countTei p s)
      let s := match tget [] (ni s p).fifo w.vc with
        | d :: rest => beatFifo p w.vc d rest s
        | [] => beatRequest p w.vc s
      .next (endStarve p w.vc s)

/-- An endpoint returns a delivery credit (DELIVERY_CREDIT, R278, R280). -/
def execDeliveryCredit (p : Port) (vc : Vc) (s : State) : Out :=
  let p := p.val
  let v := vc.val
  if !isLive p then .next s
  else if !teiAble s p then .next s
  else if 255 ≤ tget 0 (ni s p).dnCrd v then .next (flag (pgNi p) Ni.teiErrCrdOvf s)
  else
    .next (modNi p (fun n => { n with dnCrd := tput 0 n.dnCrd v (tget 0 n.dnCrd v + 1), accWait := tput 0 n.accWait v 0 }) s)

end Sys2Proof.Machine
end

