-- ==== Sys2Proof/Machine/Ledger.lean ====
section
/-! DEFINITION. The Proof Ledger (spec/14 R326 to R340): epochs and flushes over the tap, records and their queue, signing,
and the answers of its readout port. -/

namespace Sys2Proof.Machine

def modLedger (f : Ledger → Ledger) (s : State) : State := { s with ledger := f s.ledger }

/-- The ledger is fused out (R340). -/
def ledgerGone (s : State) : Bool := s.fuses.ledgerAbsent

def max32 : Nat := 2 ^ 32 - 1

/-! ## Records (R333) -/

/-- The 16 general places of the record queue are taken. -/
def queueFull (s : State) : Bool := 16 ≤ s.ledger.queue.length

/-- The bytes of a word that is sent most significant byte first, as a number with byte 0 lowest. -/
def revBytes (n v : Nat) : Nat :=
  ((List.range n).map (fun i => v / 2 ^ (8 * (n - 1 - i)) % 256 * 2 ^ (8 * i))).sum

/-- The private key of a slot (R338), a number of 1 to n − 1. -/
def privateKey (draw : Nat) : Nat := scalarOf (Config.privateKey draw)

/-- Body of a BOOT record: the public key X‖Y of the key in use, or zero. -/
def keyBytes (k : Option Nat) : Nat :=
  match k with
  | some d =>
    let q := ecPublic (privateKey d)
    revBytes 96 (q.1 * 2 ^ 384 + q.2)
  | none => 0

/-- Records are signed in PRODUCTION with a valid key (R334). -/
def signs (s : State) : Bool := s.fuses.lc == lcProduction && s.ledger.key.isSome

/-- The header words of a record created now. Word 1, BOOT_NONCE, is read from the ledger's draw. -/
def recWords (s : State) (type bodyLen : Nat) : List Word :=
  let l := s.ledger
  let boot := s.fuses.bootCount
  let w0 := type + 2 ^ 8 + s.fuses.lc % 16 * 2 ^ 16 + (if 8191 ≤ boot then 2 ^ 21 else 0) + boot % 2 ^ 16 * 2 ^ 32
  [w0, 0, l.seq, s.mtime.toNat, fget s pgLedger Ldg.ldgEpochClosed, l.unsync + l.late * 2 ^ 32
   , l.gaps + bodyLen * 2 ^ 32, l.unattributed].map (BitVec.ofNat 64)

/-- A record created now; whether it will be signed is decided with it. -/
def newRecord (s : State) (type body bodyLen : Nat) (key : Option Nat) : LedgerRec :=
  { type := type, words := recWords s type bodyLen, body := body, bodyLen := bodyLen, key := key, toSign := signs s }

/-- A BOOT record carries the key in use. -/
def bootRecord (s : State) : LedgerRec := newRecord s 1 (keyBytes s.ledger.key) 96 s.ledger.key

/-- A record enters the queue; QUEUE_FULL sets with the sixteenth. -/
def enqueue (r : LedgerRec) (s : State) : State :=
  let s := modLedger (fun l => { l with queue := l.queue ++ [r], seq := l.seq + 1 }) s
  onlyIf (queueFull s) (flag pgLedger Ldg.ldgEvtQueueFull) s

/-- A record that is not to be signed is readable (R334). READABLE is 0 at AON reset and counts the unsigned BOOT record from
the first cycle, or ledger command, on (DEDUCED, log entry 117). -/
def readyUnsigned (s : State) : State :=
  if s.ledger.queue.any (fun r => !r.toSign && !r.readable) then
    flag pgLedger Ldg.ldgEvtRecordReady (modLedger (fun l => { l with
      queue := l.queue.map (fun r => if r.toSign then r else { r with readable := true }) }) s)
  else s

/-- A record is filed; one that is not to be signed is readable at once (R334). -/
def fileRecord (r : LedgerRec) (s : State) : State :=
  let s := readyUnsigned s
  if r.toSign then enqueue r s
  else flag pgLedger Ldg.ldgEvtRecordReady (enqueue { r with readable := true } s)

/-- A BOOT record is never refused (R333). -/
def fileBoot (s : State) : State := fileRecord (bootRecord s) s

/-- A GAP event with cause FLUSH_TIMEOUT (R332): the record is absent when no general place is free. -/
def fileGap (p : Nat) (s : State) : State :=
  let s := flag pgLedger Ldg.ldgEvtGap (modLedger (fun l => { l with gaps := min (l.gaps + 1) max32 }) s)
  if queueFull s then s
  else
    fileRecord (newRecord s 3 (p + 1 * 2 ^ 8 + s.mtime.toNat * 2 ^ 64 + (s.ledger.firedK + 1) * 2 ^ 128) 32 none) s

/-- Totals of every partition at 40 bytes each (R333). -/
def totalsBody (s : State) : Nat :=
  ((List.range 320).map (fun i => tget 0 s.ledger.totals i % 2 ^ 64 * 2 ^ (64 * i))).sum

/-- LDG_CMD.READOUT (READOUT, R335). -/
def execReadout (s : State) : Out :=
  if ledgerGone s then .next s
  else if queueFull s || fbit s pgLc Lc.lcStatBusy then .next (flag pgLedger Ldg.ldgEvtReadoutRefused s)
  else .next (fileRecord (newRecord s 2 (totalsBody s) 2560 none) s)

/-- The oldest readable record (R335). -/
def oldestRecord (s : State) : Option LedgerRec := s.ledger.queue.find? (·.readable)

/-- LDG_CMD.POP removes the oldest readable record (POP, R335). -/
def execPop (s : State) : Out :=
  if ledgerGone s then .next s
  else .next (modLedger (fun l => { l with queue := l.queue.eraseP (·.readable) }) (readyUnsigned s))

/-- The first record that is not readable becomes so: signed with a fresh secret when it was filed to be and the key has
not gone since (DESIGN CHOICE, log entry 86). -/
def readyFirst (sign : Option (Nat × Nat)) : List LedgerRec → List LedgerRec
  | [] => []
  | r :: t => if r.readable then r :: readyFirst sign t else { r with readable := true, signedBy := if r.toSign then sign else none } :: t

/-- A record becomes readable (RECORD_READY, R334). -/
def execRecordReady (s : State) : Out :=
  if s.ledger.queue.all (·.readable) then .next s
  else
    let (d, s1) := draw s
    let (sign, s) := if signs s then (s.ledger.key.map (fun k => (k, d)), s1) else (none, s)
    .next (flag pgLedger Ldg.ldgEvtRecordReady (modLedger (fun l => { l with queue := readyFirst sign l.queue }) s))

/-! ## Bytes of a record -/

/-- Header word `i`, with BOOT_NONCE and SIGNED in their places. -/
def recWord (s : State) (r : LedgerRec) (i : Nat) : Nat :=
  let w := (r.words.getD i 0).toNat
  if i = 1 then (Config.bootNonce s.ledger.nonce).toNat
  else if i = 0 ∧ r.signedBy.isSome then w + 2 ^ 20
  else w

/-- Header and body as a number, byte 0 lowest. -/
def recMessage (s : State) (r : LedgerRec) : Nat :=
  ((List.range 8).map (fun i => recWord s r i * 2 ^ (64 * i))).sum + r.body * 2 ^ 512

/-- Header, body and signature (R333, R334); the signature is zero in an unsigned record. -/
def recBytes (s : State) (r : LedgerRec) : Nat :=
  let m := recMessage s r
  let sig :=
    match r.signedBy with
    | some (k, d) =>
      let g := ecdsaSign (privateKey k) (sha384 (64 + r.bodyLen) m) (scalarOf (Config.messageSecret d))
      revBytes 96 (g.1 * 2 ^ 384 + g.2)
    | none => 0
  m + sig * 2 ^ (8 * (64 + r.bodyLen))

/-- The 8 bytes at an offset of the oldest readable record; zero beyond it, or when none is readable (R335). -/
def ledgerWord (s : State) (off : Nat) : Word :=
  match oldestRecord s with
  | some r => BitVec.ofNat 64 (recBytes s r / 2 ^ (8 * off))
  | none => 0

/-! ## Epochs and flushes (R330 to R332) -/

def addSummary (a b : Summary) : Summary := b.foldl (fun t e => tput 0 t e.1 (tget 0 t e.1 + e.2)) a

/-- At a firing of epoch k, an awake NI moves its accumulator into its EPOCH slot when that is empty (R330). -/
def moveAcc (k p : Nat) (s : State) : State :=
  if niOn s p && tableSize p != 0 && (ni s p).slotEpoch.isNone then
    modNi p (fun n => { n with slotEpoch := some (k, n.acc), acc := [] }) s
  else s

/-- The LEDGER_EPOCH comparator fires (LEDGER_EPOCH, R330): T_k = 400,000 × k. -/
def execLedgerEpoch (s : State) : Out :=
  let t := 400000 * s.time.ledgerK
  if s.mtime.toNat < t ∨ dueBefore s srcLedger then .next s
  else
    let f := firing s srcLedger t 400000
    let k := f.target / 400000
    let s := logFiring srcLedger f s
    let s := { s with time := { s.time with ledgerK := k + 1 } }
    if ledgerGone s then .next s
    else
      let s := forEach livePorts (moveAcc k) s
      let s := modLedger (fun l => { l with
        firedK := k
        unsync := if f.unsync then min (l.unsync + 1) max32 else l.unsync
        late := if f.late then min (l.late + 1) max32 else l.late }) s
      .next (onlyIf f.unsync (flag pgLedger Ldg.ldgEvtEpochUnsync) s)

/-- EPOCH slots that hold a summary, with their ports. -/
def epochSlots (s : State) : List (Nat × Nat × Summary) :=
  livePorts.filterMap (fun p => (ni s p).slotEpoch.map (fun e => (p, e.1, e.2)))

/-- The epoch that closes next: the lowest whose summaries have not all been added. -/
def closingEpoch (s : State) : Nat := ((epochSlots s).map (fun e => e.2.1)).foldl min s.ledger.firedK

/-- Every summary of an epoch has arrived; the epoch joins the totals as a whole (EPOCH_CLOSE, R331). -/
def execEpochClose (s : State) : Out :=
  let k := closingEpoch s
  if ledgerGone s || k ≤ fget s pgLedger Ldg.ldgEpochClosed then .next s
  else
    let mine := (epochSlots s).filter (fun e => e.2.1 == k)
    let sums := mine.map (fun e => e.2.2) ++ (s.ledger.openEpoch.filter (fun e => e.1 ≤ k)).map (·.2)
    let s := modLedger (fun l => { l with
      totals := sums.foldl addSummary l.totals, openEpoch := l.openEpoch.filter (fun e => k < e.1) }) s
    let s := forEach mine (fun e s => modNi e.1 (fun n => { n with slotEpoch := none }) s) s
    .next (fset pgLedger Ldg.ldgEpochClosed k s)

/-- The ledger adds a flush to the epoch that is open (R332). -/
def addFlush (f : Summary) (s : State) : State :=
  modLedger (fun l => { l with
    openEpoch := tput [] l.openEpoch (l.firedK + 1) (addSummary (tget [] l.openEpoch (l.firedK + 1)) f) }) s

end Sys2Proof.Machine
end

