-- ==== Sys2Proof/Machine/Wake.lean ====
section
/-! DEFINITION. Shared operations of sleep and wake (spec/12 R294 to R307): TEI restarts (spec/11 R268, R269), the steps
of an N2 entry and of a wake, the release of the wake-hold buffer, and the loss of an NI's configuration. -/

namespace Sys2Proof.Machine

/-- An endpoint is powered off while its shell asks for no wake and it does not show ep_ready (R281; DEDUCED, log entry 124). -/
def epOff (s : State) (p : Nat) : Bool := !(ni s p).teiWake && !(ni s p).epReady

/-- CRYPT endpoints yet to acknowledge zeroise; one that is powered off holds nothing, and its acknowledgement is taken as
given; one that is waking answers later (R285). -/
def acksPending (s : State) : Nat :=
  (((List.range 32).map cryptPort).filter (fun p => !epOff s p && !(ni s p).zeroAck)).length

/-- N2 entries and wakes pause from L3 to L7 (R290), and while the router or the local link is under test (R319). -/
def paused (s : State) (p : Nat) : Bool :=
  flowHold s || (router s (p / 4)).underTest || s.strip.linkTest == some (niChan p)

/-! ## TEI restarts (R268, R269) -/

/-- s0: tei_rst_n falls, the TEI FIFOs empty, and every credit is gone; no packet is left part-way in group 2 (R163). -/
def teiS0 (p : Nat) (s : State) : State :=
  let s := forEach (List.range 16) (dropBegun (niRxChan p)) (emptyFifo p s)
  fset (pgNi p) Ni.teiStatState 0
    (modNi p (fun n => { n with
      teiRstN := false, dnCrd := [], reqLim := 0, rspLim := 0, accWait := [], teiStarve := [], teiStarved := [] }) s)

/-- A TEI restart begins. In CONFIG_LOST it goes no further than s0 (R268). -/
def teiRestart (p : Nat) (s : State) : State :=
  let s := teiS0 p s
  if configLost s p then s else satAdd (pgNi p) Ni.teiErrRestarts 1 s

/-! ## Wake (R300 to R302) -/

/-- W0: the supply switch closes and tei_wake rises. -/
def startWake (p : Nat) (s : State) : State :=
  if !isLive p || nstate s p != 2 || (ni s p).wake.isSome || (ni s p).entry.isSome then s
  else
    let s := fset pgPower Pwr.pwrNiStatWaking 1 s p
    modNi p (fun n => { n with
      wake := some .w0, wakeUs := s.us, wakeTo := fget s pgPower Pwr.pwrCfgWakeToUs, teiWake := true
      demand := false, ordered := false, wakeAtF0 := false, wakeF3 := false }) s

/-- The registers of the NI's pages take the values of a power-on: flags, counters and selectors restart (R7, R192,
R301), and VC_EN, which is not in the image, is 1 again (R227). ISO_STAT belongs to the shell (R252). -/
def powerOnRegs (p : Nat) (s : State) : State :=
  let s := clearFields (pgNi p) (fun f => (isStatus f && f.off != 0x208) || f.off == 0x1c8) s
  if isHost p then
    clearFields (pgFqw (ordinal p)) (fun f => isStatus f || f.off == 0x60 || f.off == 0x80) s
  else s

/-- Each shaper is reset with TOKENS taken as 0 before it (R192). -/
def wakeShapers (p : Nat) (s : State) : State :=
  if !isHost p then s
  else
    let w := pgFqw (ordinal p)
    let l := unionNat (listedIdx s w Fqw.fqDepthDepth) (listedIdx s w Fqw.fqDepthReloadMode)
    let now := s.mtime.toNat / (4000 * 2 ^ fget s w Fqw.fqwCfgSampleLog2)
    modNi p (fun n => { n with smpAt := now }) (forEach l (fun q s => resetShaper w q (setTokens w q 0 s)) s)

/-- A held packet enters the NI's receive side (R301). -/
def releaseOne (p : Nat) (e : Nat × Header × List (BitVec 512)) (s : State) : State :=
  let (v, h, data) := e
  let c := niRxChan p
  let whole := data.length == dataFlits h
  let tails := (List.range data.length).map (fun i => whole && i + 1 == data.length)
  let body := (data.zip tails).map (fun x => Slot.data x.1 x.2)
  let s := modVc c v (fun b =>
    { b with slots := b.slots ++ Slot.head h (dataFlits h == 0) .unseen :: body, openRx := b.openRx || !whole }) s
  modChan c (fun x => { x with
    occ := tput 0 x.occ v (tget 0 x.occ v + 1 + data.length)
    openTx := if whole then x.openTx else tput none x.openTx v (some h) }) s

/-- W4 is reached once the link is up and the TEI is UP, or at once in CONFIG_LOST, whose TEI stays down (R301,
R307). -/
def finishWake (p : Nat) (s : State) : State :=
  if (ni s p).wake != some .w3 || paused s p || !(configLost s p || teiState s p == 2) then s
  else
    let s := fset pgPower Pwr.pwrNiStatWaking 0 (fset pgPower Pwr.pwrNiStatNstate 0 s p) p
    let s := flag pgPower Pwr.pwrNiStatNiWoke (fset pgPower Pwr.pwrNiStatWakeFailed 0 s p) p
    let s := wrapAdd pgPower Pwr.pwrNiStatWakes 1 (flag pgPower Pwr.pwrEvtNiWoke s) p
    let held := (ni s p).held
    let s := modNi p (fun n => { n with wake := none, demand := false, ordered := false, held := [], idle := 0, active := true }) s
    let s := exportGates p (wakeShapers p s)
    let s := onlyIf ((ni s p).shlPend && takeoverAt s p ≤ s.mtime.toNat) (fun s => exportGates p (takeOver p s)) s
    judgeRx p (sweepArrival p (forEach held (releaseOne p) s))

/-- A wake fails, with the causes beside WAKE_FAILED (R302, R263). The target becomes lost with WAKE_FAILED (R205, R210). -/
def failWake (p causes : Nat) (s : State) : State :=
  let lost := isTarget p && !lostTarget s p
  let s := flag pgPower Pwr.pwrEvtWakeFailed (fset pgPower Pwr.pwrNiStatWakeFailed 1 s p)
  onlyIf lost (queueRecheck 3) (endWake p (isolateMask p (2 ^ cWakeFailed ||| causes) s))

/-! ## CONFIG_LOST (R306, R307) -/

/-- The section of a waking NI has failed: every configuration register takes its reset value. -/
def loseConfig (p : Nat) (s : State) : State :=
  let lost := isTarget p && !lostTarget s p
  let s := flagBit pgPower Pwr.retFailBanks (26 + p / 32) (flag pgPower Pwr.pwrEvtRetentionFail s)
  let s := fset pgPower Pwr.retFailPortV 1 (fset pgPower Pwr.retFailPort p s)
  let s := clearFields (pgNi p) isConfig (fset pgPower Pwr.pwrNiStatConfigLost 1 s p)
  let s := onlyIf (isHost p) (clearFields (pgFqw (ordinal p)) isConfig) s
  onlyIf lost (queueRecheck 3) (modNi p (fun n => { n with shlPend := false }) s)

/-! ## N2 entry (R296 to R299) -/

/-- E4: the router's output toward the NI is connected to the wake-hold buffer. In an F3 entry every NI takes it in one
cycle (R303). -/
def goE4 (p : Nat) (s : State) : State :=
  modNi p (fun n => { n with entry := if n.inF3 then some .e4 else some .e5 }) s

/-- E3: the accumulator goes into the FLUSH slot and restarts at zero; skipped with the ledger fused out (R299). -/
def goE3 (p : Nat) (s : State) : State :=
  if ledgerGone s || tableSize p == 0 then goE4 p s
  else
    modNi p (fun n => { n with
      entry := some .e3, slotFlush := some (addSummary (n.slotFlush.getD []) n.acc), acc := [], flushUs := s.us }) s

/-- An NI whose endpoint an entry does not consult, being isolated or in CONFIG_LOST: E0 to E2 are met (R298, R369). -/
def skipsDrain (s : State) (p : Nat) : Bool := isolated s p || configLost s p

/-- E0: ENTERING sets, and the shell raises pwr_req; or E0 to E2 are met, and E3 follows at once, or when a pause ends (R290,
R298, R319, R369). -/
def startEntry (f3 : Bool) (p : Nat) (s : State) : State :=
  let s := fset pgPower Pwr.pwrNiStatEntering 1 s p
  let s := modNi p (fun n => { n with
    entry := some .e1, inF3 := f3, stepUs := s.us, ackTo := fget s pgPower Pwr.pwrCfgAckToUs
    drainTo := fget s pgPower Pwr.pwrCfgDrainToUs }) s
  if skipsDrain s p then
    if paused s p then modNi p (fun n => { n with entry := some .e2 }) s else goE3 p s
  else modNi p (fun n => { n with pwrReq := true }) s

/-- E3 ends: the slot is free again. -/
def endFlush (p : Nat) (s : State) : State := if (ni s p).entry == some .e3 && !paused s p then goE4 p s else s

/-- E1 is met: the endpoint has answered. -/
def goE2 (p : Nat) (s : State) : State := modNi p (fun n => { n with entry := some .e2, stepUs := s.us, pwrAck := false }) s

/-- What waited for the end of a flow hold or of a router's test goes on. -/
def resumeNi (p : Nat) (s : State) : State :=
  let s := onlyIf ((ni s p).entry == some .e1 && (ni s p).pwrAck && !paused s p) (goE2 p) s
  let met := (ni s p).entry == some .e2 && skipsDrain s p && !paused s p
  let s := if met then goE3 p s else onlyIf (ni s p).slotFlush.isNone (endFlush p) s
  finishWake p s
def resumeAll (s : State) : State := forEach livePorts resumeNi s

/-- A demand that wakes the NI: of traffic or the endpoint, which an isolated NI does not follow, or by command (R297, R302,
R369). -/
def wantsWake (s : State) (p : Nat) : Bool := ((ni s p).demand && !isolated s p) || (ni s p).ordered

/-- A wake by demand: at once in F0, otherwise when FSTATE is F0 again (R294, R300, R304). -/
def demandWake (p : Nat) (s : State) : State :=
  if fstate s == 0 && (ni s p).entry.isNone then startWake p s else modNi p (fun n => { n with demand := true }) s

end Sys2Proof.Machine
end

