-- ==== Sys2Proof/Machine/Tei.lean ====
section
/-! DEFINITION. The endpoint boundary (spec/11): endpoint resets, TEI restarts, the power handshake and DERATE; the target
watchdogs (spec/10 R243, R244); and the µs tick. -/

namespace Sys2Proof.Machine

/-! ## Endpoint reset (R270) -/

/-- What the local channel still held of an entry that a reset has freed is dropped. -/
def dropLeg0 (p tag : Nat) (s : State) : State :=
  modNi p (fun n => { n with ready := n.ready.filter (fun r =>
    r.headSent || !(match r.src with | .leg0 t => t == tag | _ => false)) }) s

/-- An entry is marked orphaned and counted. The answer to a served request then frees its receipt alone: the entry waits
for the fetch answer. -/
def orphan (p tag : Nat) (e : Entry) (s : State) : State :=
  let src (x : ReadySrc) : ReadySrc :=
    if x = .served tag then .receipt e.hdr.src.toNat e.hdr.tag.toNat else x
  satAdd (pgNi p) Ni.teiErrOrphaned 1
    (modNi p (fun n => { n with ready := n.ready.map (fun r => { r with src := src r.src }) })
      (modEntry p tag (fun e => { e with orphan := true }) s))

/-- Entries at an endpoint reset: CHECK and HOLD return to FREE; OPEN, a fetch leg in flight among them, is orphaned. -/
def orphanOne (p : Nat) (x : Nat × Entry) (s : State) : State :=
  match x.2.role, x.2.st with
  | .leg0, .check => freeEntry p x.1 s
  | .leg0, .hold => dropLeg0 p x.1 (freeEntry p x.1 s)
  | _, .opened => if x.2.orphan || (x.2.role == .served && x.2.fetch.isNone) then s else orphan p x.1 x.2 s
  | _, _ => s

/-- Results of the endpoint that have not started on the local channel: fetch legs. -/
def unsentFetch (r : Ready) : Bool :=
  !r.headSent && (match r.src with | .fetch _ => true | _ => false)

/-- Fetch legs that have not started are no legs. -/
def dropFetches (n : Ni) : Ni :=
  let tags := n.ready.filterMap (fun r => if unsentFetch r then (match r.src with | .fetch t => some t | _ => none) else none)
  { n with
    ready := n.ready.filter (fun r => !unsentFetch r)
    entries := n.entries.map (fun e => (e.1, e.2.map (fun x => if tags.contains e.1 then { x with fetch := none } else x))) }

/-- s0 of a restart, and the answers of R270. -/
def abandonTei (p : Nat) (s : State) : State :=
  let s := teiRestart p s
  let s := dropLookups p (modNi p (fun n => { dropFetches n with waitUp := true, verdicts := [], cacheWas := none }) s)
  let s := forEach ((ni s p).receipts.filter (fun r => !r.answered)) (answerReceipt p stIsolated) s
  forEach (entriesOf (ni s p)) (orphanOne p) s

/-- The endpoint has been reset: EP_RESET and what R270 gives. -/
def endpointReset (p : Nat) (s : State) : State := abandonTei p (flag (pgNi p) Ni.teiErrEpReset s)

/-- ep_rst_n falls (EP_RESET, R270). In DOWN only the pin changes. -/
def execEpReset (p : Port) (s : State) : Out :=
  let p := p.val
  if !isLive p then .next s
  else
    let s := modNi p (fun n => { n with epRstN := false }) s
    .next (onlyIf (niPowered s p && teiState s p != 0) (endpointReset p) s)

/-- ep_ready falls: an endpoint reset while tei_wake is high and the TEI is UP (EP_READY_FALL, R281). -/
def execEpReadyFall (p : Port) (s : State) : Out :=
  let p := p.val
  if !isLive p then .next s
  else
    let s := modNi p (fun n => { n with epReady := false }) s
    .next (onlyIf ((ni s p).teiWake && teiState s p == 2) (endpointReset p) s)

/-- The levels of ep_rst_n and ep_ready; with ep_ready ep_clk runs, and the endpoint sees the shutter list as it stands
(R284). -/
def setEpPins (p : Nat) (rstN ready : Bool) (s : State) : State :=
  modNi p (fun n => presentGates { n with epRstN := rstN, epReady := ready }) s

/-- s2: in DOWN, tei_rst_n rises once ep_rst_n and ep_ready are high, with the credits of TEI_CFG (TEI_RESET_RELEASE,
R269). In INIT and UP only the pins rise. -/
def execTeiResetRelease (p : Port) (s : State) (rstN ready : Bool := true) : Out :=
  let p := p.val
  if !isLive p then .next s
  else if teiState s p != 0 then .next (setEpPins p (rstN || (ni s p).epRstN) (ready || (ni s p).epReady) s)
  else
    let restored := (ni s p).wake != some .w0 && (ni s p).wake != some .w1
    let s := setEpPins p rstN ready s
    if rstN && ready && niPowered s p && restored && !configLost s p then
      let s := modNi p (fun n => { n with
        teiRstN := true, initUs := s.us
        reqLim := fget s (pgNi p) Ni.teiCfgReqCredits, rspLim := fget s (pgNi p) Ni.teiCfgRspCredits }) s
      .next (judgeRx p (fset (pgNi p) Ni.teiStatState 1 s))
    else .next s

/-- The least number of delivery credits that an endpoint advertises on a VC (R278). -/
def minCredits (p v : Nat) : Nat :=
  match portType p with
  | .mem | .ncache | .host => if 14 ≤ v then 24 else 2
  | _ => 2

/-- VCs below the minimum. -/
def shortVcs (s : State) (p : Nat) : List Nat :=
  (List.range 16).filter (fun v => tget 0 (ni s p).dnCrd v < minCredits p v)

/-- s4: every VC holds its minimum, or 1 µs has passed since s2 (TEI_UP, R269). A waking NI may reach W4 with it. ep_ready
low by then is an endpoint reset (R281). -/
def execTeiUp (p : Port) (s : State) : Out :=
  let p := p.val
  let short := shortVcs s p
  if !isLive p then .next s
  else if !niPowered s p || teiState s p != 1 || !(short.isEmpty || 1 ≤ s.us - (ni s p).initUs) then .next s
  else
    let s := fset (pgNi p) Ni.teiStatState 2 (modNi p (fun n => { n with waitUp := false }) s)
    let s := fset (pgNi p) Ni.teiStatCrdShortVc ((short.map (fun v => 2 ^ v)).sum) s
    let s := finishWake p (onlyIf (!short.isEmpty) (flag (pgNi p) Ni.teiErrCrdShort) s)
    .next (onlyIf ((ni s p).teiWake && !(ni s p).epReady) (endpointReset p) (judgeRx p s))

/-! ## Power handshake (R281, R297, R304) -/

/-- Reason PROTOCOL of pwr_reason: pwr_ack and pwr_nak are high together (R281, R282). -/
def epProtocol : Nat := 4

/-- The endpoint raises pwr_ack: E1 is met (PWR_ACK, R281, R296), after a pause when one runs (R290, R319). With pwr_nak high it
counts as a refusal. -/
def execPwrAck (p : Port) (s : State) (nak : Bool := false) : Out :=
  if !isLive p.val then .next s
  else if (ni s p.val).pwrReq && (ni s p.val).entry == some .e1 then
    if nak then .next (abortEntry p.val rsEpNak epProtocol 2 p.val s)
    else if paused s p.val then .next (modNi p.val (fun n => { n with pwrAck := true }) s)
    else .next (goE2 p.val s)
  else .next s

/-- The endpoint raises pwr_nak with a reason; the entry aborts with EP_NAK (PWR_NAK, R281, R282, R296). At E2 pwr_ack is
still high with pwr_req, so that the reason is PROTOCOL (DESIGN CHOICE, log entry 114). -/
def execPwrNak (p : Port) (reason : BitVec 4) (s : State) : Out :=
  if !isLive p.val || !(ni s p.val).pwrReq then .next s
  else
    match (ni s p.val).entry with
    | some .e1 => .next (abortEntry p.val rsEpNak (if (ni s p.val).pwrAck then epProtocol else reason.toNat) 2 p.val s)
    | some .e2 => .next (abortEntry p.val rsEpNak epProtocol 2 p.val s)
    | _ => .next s

/-- The F3 wake wakes this NI (R304, R367). -/
def wakesWithF3 (s : State) (p : Nat) : Bool :=
  (ni s p).awakeF3
    || (!fbit s pgPower Pwr.pwrNiCfgSleepOk p && (!s.power.everWoke || (ni s p).wakeF3))

/-- An F3 wake begins: VDD_FAB is enabled (R304). A trigger during RMA entry is held (R369). -/
def startF3Wake (s : State) : State :=
  if s.lc.running == some lcRma then modPower (fun w => { w with wakeHeld := true }) s
  else
    let s := fset pgPower Pwr.pwrStatFabWakeFailed 0 (fset pgPower Pwr.pwrStatFstate 3 s)
    modPower (fun w => { w with
      supply := false, wakeHeld := false, noReturn := false, wakeUs := s.us
      wakeTo := fget s pgPower Pwr.pwrCfgWakeToUs }) s

/-- ep_wake_req rises (EP_WAKE_REQ, R281, R297, R300, R304). An isolated NI is not woken by it (R302). -/
def execEpWakeReq (p : Port) (s : State) : Out :=
  let p := p.val
  let n := ni s p
  if !isLive p then .next s
  else
    match n.entry with
    | some .e5 | some .e6 => .next (onlyIf (!isolated s p) (modNi p (fun n => { n with demand := true })) s)
    | some _ => .next (abortEntry p rsDemand 0 2 p s)
    | none =>
      if nstate s p != 2 || isolated s p && fstate s != 2 then .next s
      else if fstate s == 2 then
        if fbit s pgPower Pwr.pwrStatFabWakeFailed then .next s
        else if n.awakeF3 || !fbit s pgPower Pwr.pwrNiCfgSleepOk p then .next (startF3Wake s)
        else .next (onlyIf (!isolated s p) (modNi p (fun n => { n with demand := true })) s)
      else .next (demandWake p s)

/-- A value of ep_derate that two µs ticks saw becomes DERATE (DERATE_ACCEPT, R283). -/
def execDerateAccept (p : Port) (value : BitVec 3) (s : State) : Out :=
  let p := p.val
  if !isLive p then .next s
  else if !isTarget p || nstate s p == 2 then .next s
  else
    let old := (ni s p).derate
    .next (onlyIf (old < value.toNat) (queueRecheck 2) (modNi p (fun n => { n with derate := value.toNat }) s))

/-! ## Target watchdogs (R243, R244) -/

/-- The watchdogs are suspended in N2, during a wake, and while a slice holds the endpoint. -/
def wdogOff (s : State) (p : Nat) : Bool := nstate s p == 2 || (ni s p).wake.isSome || (ni s p).tsHold

/-- The conditions of the two watchdogs. -/
def acceptOver (s : State) (p : Nat) : Bool :=
  let lim := (ni s p).accLim
  lim != 0 && (ni s p).accWait.any (fun e => lim ≤ e.2)
def respOver (s : State) (p : Nat) : Bool :=
  let lim := (ni s p).respLim
  lim != 0 && (ni s p).receipts.any (fun r => lim ≤ r.age)

/-- A watchdog trips: a WDOG record, and isolation or WDOG_REPORT by ACTION. -/
def trip (p kind cause : Nat) (s : State) : State :=
  let s := errRecord eWdog true p 0 (BitVec.ofNat 64 kind) 0 s
  if fbit s (pgNi p) Ni.wdogCfgAction then isolate p cause s else flag pgFg Fg.faultEvtWdogReport s

/-- The ACCEPT watchdog trips (WDOG_ACCEPT, R243). -/
def execWdogAccept (p : Port) (vc : Vc) (s : State) : Out :=
  let p := p.val
  let lim := (ni s p).accLim
  if !isLive p then .next s
  else if wdogOff s p || (ni s p).accTripped || lim == 0 || tget 0 (ni s p).accWait vc.val < lim then .next s
  else
    .next (trip p 1 cWdogAccept
      (flag (pgNi p) Ni.wdogStatTripAccept (modNi p (fun n => { n with accTripped := true }) s)))

/-- The RESPONSE watchdog trips (WDOG_RESP, R243). -/
def execWdogResp (p : Port) (s : State) : Out :=
  let p := p.val
  if !isLive p then .next s
  else if wdogOff s p || (ni s p).respTripped || !respOver s p then .next s
  else
    .next (trip p 2 cWdogResp
      (flag (pgNi p) Ni.wdogStatTripResp (modNi p (fun n => { n with respTripped := true }) s)))

/-! ## The µs tick (R244, R257, R326) -/

/-- VCs whose ACCEPT wait counts: something waits at the head while the TEI is UP. -/
def waitingVcs (s : State) (p : Nat) : List Nat :=
  if teiState s p == 2 && !isolated s p then
    (List.range 16).filter (fun v => (deliveryFront s p v).isSome)
  else []

/-- One tick of an NI's ages. A watchdog re-arms when its condition has cleared. -/
def tickNi (p : Nat) (s : State) : State :=
  if !niPowered s p then s
  else
    let s := modNi p (fun n => { n with
      accLim := fget s (pgNi p) Ni.wdogCfgAcceptToUs, respLim := fget s (pgNi p) Ni.wdogCfgRespToUs }) s
    let acc := acceptOver s p
    let resp := respOver s p
    let vcs := waitingVcs s p
    let older (e : Entry) : Entry := if e.st == .opened && e.role == .leg0 then { e with age := e.age + 1 } else e
    modNi p (fun n => { n with
      accTripped := n.accTripped && acc, respTripped := n.respTripped && resp
      receipts := n.receipts.map (fun r => { r with age := r.age + 1 })
      accWait := if wdogOff s p then n.accWait else vcs.map (fun v => (v, tget 0 n.accWait v + 1))
      entries := n.entries.map (fun e => (e.1, e.2.map older)) }) s

/-- RSV_BYTES of an ADMITTED reservation: RATE bytes at its host NI (R326). -/
def tickRsv (i : Nat) (s : State) : State :=
  let c := rsvInForce s i
  accAdd (hostPort c.host) c.part 2 c.rate s

/-- The µs tick that the AON domain derives from fab_ref (MICROSECOND_TICK, R244, R326). -/
def execMicrosecondTick (s : State) : Out :=
  if s.strip.deadUntilReset then .next s
  else
    let s := { s with us := s.us + 1 }
    let s := onlyIf s.time.holdover (satAdd pgTime Tu.holdoverStatHoElapsedUs 1) s
    .next (forEach (admittedList s) tickRsv (forEach livePorts tickNi (learnRatio s)))

end Sys2Proof.Machine
end

