-- ==== Sys2Proof/Machine/HotPlug.lean ====
section
/-! DEFINITION. Re-admission (spec/10 R253), the hot-plug inputs (R260 to R263), and the error log's reader (R264). -/

namespace Sys2Proof.Machine

/-! ## Re-admission (R253) -/

/-- The NI's local link is UP in both directions (R94). -/
def localUp (s : State) (p : Nat) : Bool :=
  fabOn s && linkCode s (p / 4) (p % 4) == 2

/-- A filtered power warning of a slot group. -/
def slotWarned (s : State) (c : Nat) : Bool := s.slots.warned.getLsbD c

/-- The first refusal of R253 that applies; 0 when none does. -/
def readmitRefusal (s : State) (p : Nat) (newAck : Bool) : Nat :=
  let pg := pgNi p
  let mem := portType p == .mem
  let c := slotOf p
  if !isolated s p then 1
  else if !fbit s pg Ni.isoStatSwept || (ni s p).grace then 2
  else if nstate s p == 2 then 3
  else if mem && (!s.pins.present.getLsbD c || slotWarned s c || (fget s pgFg Fg.hpStateFuse).testBit c) then 4
  else if mem && !(fget s pgFg Fg.hpStateStable).testBit c then 5
  else if mem && (fget s pgFg Fg.hpGroupNew).testBit c && !newAck then 6
  else if !localUp s p then 7
  else 0

/-- t0 and t1: CAUSE, NEW and the trips clear, and a TEI restart begins. -/
def readmitNow (p : Nat) (s : State) : State :=
  let pg := pgNi p
  let s := fset pg Ni.isoStatCause 0 (onlyIf (portType p == .mem) (unflagBit pgFg Fg.hpGroupNew (slotOf p)) s)
  let s := fset pg Ni.wdogStatTripAccept 0 (fset pg Ni.wdogStatTripResp 0 s)
  teiRestart p (modNi p (fun n => { n with accTripped := false, respTripped := false, readmitting := true }) s)

/-- A write of ISO_CTRL.READMIT without ISOLATE (READMIT, R253). -/
def execReadmit (p : Port) (newAck : Bool) (s : State) : Out :=
  let p := p.val
  if !isLive p then .next s
  else
    match readmitRefusal s p newAck with
    | 0 => .next (readmitNow p s)
    | r => .next (flag pgFg Fg.faultEvtReadmitRefused (fset (pgNi p) Ni.isoStatRefuse r s))

/-- t2: the router's output returns to the NI (READMIT_RETURN, R253). -/
def execReadmitReturn (p : Port) (s : State) : Out :=
  let p := p.val
  let pg := pgNi p
  if !isLive p then .next s
  else if !(ni s p).readmitting || !isolated s p then .next s
  else
    let s := fset pg Ni.isoStatSwept 0 (fset pg Ni.isoStatIsolated 0 s)
    .next (modNi p (fun n => { n with diverted := false, readmitting := false }) s)

/-! ## Hot-plug inputs (R260 to R263) -/

/-- A filtered input of a group has changed. -/
def slotChanged (c : Nat) (s : State) : State :=
  flag pgFg Fg.faultEvtHpChange (flagBit pgFg Fg.hpGroupChanged c s)

/-- slot_present has been low for 1 µs (REMOVAL, R261). -/
def execRemoval (c : SlotGroup) (s : State) : Out :=
  let c := c.val
  if !s.pins.present.getLsbD c then .next s
  else
    let s0 := s
    let s := { s with pins := { s.pins with present := s.pins.present &&& ~~~(1#32 <<< c) } }
    let s := flagBit pgFg Fg.hpGroupNew c (unflagBit pgFg Fg.hpStateStable c s)
    let s := slotChanged c (satAdd pgFg Fg.hpCountRemovals 1 s)
    .next (forEach (slotPorts c) (fun p s =>
      onlyIf (!lostTarget s0 p) (queueRecheck 3) (isolate p cAbsent s)) s)

/-- The filter that a fall of pwr_warn_n `lowUs` µs ago met (R261, R265). -/
def warnFilter (s : State) (lowUs : Nat) : Nat :=
  match s.slots.filters.find? (fun e => e.1 ≤ s.us - lowUs) with
  | some e => e.2
  | none => Fg.hpCfgPwrWarnFilterUs.reset

/-- pwr_warn_n has been low for PWR_WARN_FILTER_US (FENCE, R251, R261). Before that only the pin is low. -/
def execFence (c : SlotGroup) (s : State) (lowUs : Nat := 0) : Out :=
  let c := c.val
  if slotWarned s c then .next s
  else if lowUs < warnFilter s lowUs then .next { s with pins := { s.pins with warn := s.pins.warn ||| 1#32 <<< c } }
  else
    let s := { s with slots := { s.slots with warned := s.slots.warned ||| 1#32 <<< c }
                      pins := { s.pins with warn := s.pins.warn ||| 1#32 <<< c } }
    let s := slotChanged c (flag pgFg Fg.faultEvtFence (satAdd pgFg Fg.hpCountFences 1 s))
    .next (forEach (slotPorts c) (fun p s => isolate p cPwrWarn s) s)

/-- pwr_warn_n returns high before the filter expires (WARN_GLITCHES, R261). -/
def execWarnGlitches (c : SlotGroup) (s : State) (lowUs : Nat := 0) : Out :=
  if slotWarned s c.val || warnFilter s lowUs ≤ lowUs then .next s
  else .next (satAdd pgFg Fg.hpCountWarnGlitches 1 { s with pins := { s.pins with warn := s.pins.warn &&& ~~~(1#32 <<< c.val) } })

/-- fuse_tripped has been high for 100 ns (FUSE_TRIP, R261, R263): a waking NI fails its wake at once. -/
def execFuseTrip (c : SlotGroup) (s : State) : Out :=
  let c := c.val
  if s.slots.tripped.getLsbD c then .next s
  else
    let s := flagBit pgFg Fg.hpStateFuse c { s with
      slots := { s.slots with tripped := s.slots.tripped ||| 1#32 <<< c }
      pins := { s.pins with fuse := s.pins.fuse ||| 1#32 <<< c } }
    let s := slotChanged c (flag pgFg Fg.faultEvtFuseTrip (satAdd pgFg Fg.hpCountTrips 1 s))
    .next (forEach (slotPorts c) (fun p s =>
      if (ni s p).wake.isSome then failWake p (2 ^ cFuseTrip) s else isolate p cFuseTrip s) s)

/-- A rising edge of slot_present restarts the HOLDOFF count (SLOT_INSERT, R262), with the HOLDOFF_MS of now (R265). -/
def execSlotInsert (c : SlotGroup) (s : State) : Out :=
  let c := c.val
  let s := onlyIf (!s.pins.present.getLsbD c) (slotChanged c) s
  let s := unflagBit pgFg Fg.hpStateStable c { s with pins := { s.pins with present := s.pins.present ||| 1#32 <<< c } }
  .next { s with stableUs := tput 0 s.stableUs c (s.us + fget s pgFg Fg.hpCfgHoldoffMs * 1000) }

/-- slot_present has been high for HOLDOFF_MS (HOLDOFF, R262). -/
def execHoldoff (c : SlotGroup) (s : State) : Out :=
  let c := c.val
  if s.pins.present.getLsbD c && tget 0 s.stableUs c ≤ s.us then .next (flagBit pgFg Fg.hpStateStable c s) else .next s

/-- pwr_warn_n returns high after a fence (PWR_WARN_N_RISE, R261). -/
def execPwrWarnNRise (c : SlotGroup) (s : State) : Out :=
  let c := c.val
  if !slotWarned s c then .next s
  else
    .next (slotChanged c { s with
      slots := { s.slots with warned := s.slots.warned &&& ~~~(1#32 <<< c) }
      pins := { s.pins with warn := s.pins.warn &&& ~~~(1#32 <<< c) } })

/-- fuse_tripped falls (FUSE_TRIPPED_FALL, R263). -/
def execFuseTrippedFall (c : SlotGroup) (s : State) : Out :=
  let c := c.val
  if !(fget s pgFg Fg.hpStateFuse).testBit c then .next s
  else
    .next (slotChanged c (unflagBit pgFg Fg.hpStateFuse c { s with
      slots := { s.slots with tripped := s.slots.tripped &&& ~~~(1#32 <<< c) }
      pins := { s.pins with fuse := s.pins.fuse &&& ~~~(1#32 <<< c) } }))

/-- A read of ERR_LOG_W2 that returns VALID removes the oldest record (ERR_LOG_POP, R264). -/
def execErrLogPop (s : State) : Out := .next { s with errLog := s.errLog.tail }

end Sys2Proof.Machine
end

