-- ==== Sys2Proof/Machine/Sleep.lean ====
section
/-! DEFINITION. Sleep and wake of one NI (spec/12 R293 to R302, R305 to R308). -/

namespace Sys2Proof.Machine

/-! ## Commands of the Power page (R308) -/

/-- Refusers: UNIT 0 and 1, a reservation, a port (R308). -/
def ukPort : Nat := 2
def ukRsv : Nat := 3
def ukUnit : Nat := 4

/-- PWR_RESULT of a command. -/
def pwrResult (code reason rk rid cmd : Nat) (s : State) : State :=
  let s := fset pgPower Pwr.pwrResultReason reason (fset pgPower Pwr.pwrResultCode code s)
  let s := fset pgPower Pwr.pwrResultRefuserId rid (fset pgPower Pwr.pwrResultRefuserKind rk s)
  fset pgPower Pwr.pwrResultCmd cmd s
def pwrAccept (cmd : Nat) (s : State) : State := pwrResult 1 0 0 0 cmd s
/-- A refused command changes nothing but the accounts (R308). -/
def pwrRefuse (cmd port reason rk rid : Nat) (s : State) : State :=
  pwrResult 2 reason rk rid cmd (refRecord false cmd port reason 0 rk rid s)

/-! ## N1 (R293) -/

/-- N1_IDLE idle cycles have passed (N1_ENTRY, R293). -/
def execN1Entry (p : Port) (s : State) : Out :=
  let p := p.val
  if !isLive p then .next s
  else if nstate s p == 0 && fbit s pgPower Pwr.pwrNiCfgN1En p && (ni s p).fifo.isEmpty
      && fget s pgPower Pwr.pwrNiCfgN1Idle p ≤ (ni s p).idle then
    .next (fset pgPower Pwr.pwrNiStatNstate 1 s p)
  else .next s

/-! ## Wake commands (R294, R297, R300) -/

/-- A wake asked for by the Power Controller, of an NI in any state: an entry before E4 aborts with DEMAND, one from E4
on is followed by a wake, and an NI in N2 wakes. -/
def commandWake (p : Nat) (s : State) : State :=
  match (ni s p).entry with
  | some .e5 | some .e6 => modNi p (fun n => { n with demand := true, ordered := true }) s
  | some _ => abortEntry p rsDemand 0 ukUnit 0 s
  | none => startWake p s

/-- The NI_WAKE command (NI_WAKE, R297, R300). -/
def execNiWake (p : Port) (s : State) : Out :=
  let p := p.val
  let entering := match (ni s p).entry with
    | some .e5 | some .e6 | none => false
    | some _ => true
  if !isLive p || !(fstate s == 0 || (fstate s == 1 && entering)) then
    .next (pwrRefuse 3 p rsState ukUnit 0 s)
  else .next (commandWake p (pwrAccept 3 s))

/-- What a write of SLEEP_OK = 0 does beside the policy (R294, R297, R367). -/
def sleepForbidden (p : Nat) (s : State) : State :=
  if (ni s p).entry.isSome then commandWake p s
  else if nstate s p != 2 then s
  else
    match fstate s with
    | 0 => startWake p s
    | 3 => onlyIf (ni s p).wake.isNone (modNi p (fun n => { n with wakeAtF0 := true })) s
    | _ => modNi p (fun n => { n with wakeF3 := true }) s

/-- A write of PWR_NI_CFG at the selected port: SLEEP_OK with its own rule, and N1_EN and N1_IDLE beside it (SLEEP_OK,
R294, R208). -/
def execSleepOk (value : Word) (s : State) : Out :=
  let p := fget s pgPower Pwr.pwrNiSelPort
  if !isLive p then .next s
  else
    let idle := value.toNat / 2 ^ 8 % 2 ^ 8
    let s := fsetB pgPower Pwr.pwrNiCfgN1En (value.getLsbD 1) s p
    let s := if idle < 8 then errReserved pgPower Pwr.pwrNiCfgN1Idle.off s else fset pgPower Pwr.pwrNiCfgN1Idle idle s p
    if value.getLsbD 0 then
      match pinnedBy s p with
      | some r => .next (refRecord false 0 p rsPinned 0 ukRsv r s)
      | none => .next (modNi p (fun n => { n with wakeF3 := false }) (fset pgPower Pwr.pwrNiCfgSleepOk 1 s p))
    else .next (sleepForbidden p (fset pgPower Pwr.pwrNiCfgSleepOk 0 s p))

/-! ## N2 entry (R295 to R299) -/

/-- A slice holds the NI's endpoint, or tests it (R295, R316). -/
def sliceHolds (s : State) (p : Nat) : Bool := (ni s p).tsHold || (ni s p).tsPrep || (ni s p).underTest

/-- The first refusal of R295: reason, refuser kind and id. -/
def sleepRefusal (s : State) (p : Nat) : Option (Nat × Nat × Nat) :=
  if !isLive p || nstate s p == 2 || (ni s p).entry.isSome || (ni s p).wake.isSome || fstate s != 0 then
    some (rsState, ukUnit, 0)
  else if sliceHolds s p then some (rsBusy, ukUnit, 1)
  else
    match pinnedBy s p with
    | some r => some (rsPinned, ukRsv, r)
    | none =>
      if !fbit s pgPower Pwr.pwrNiCfgSleepOk p then some (rsPolicy, ukPort, p)
      else if isolated s p && !fbit s (pgNi p) Ni.isoStatSwept then some (rsIsolating, ukPort, p)
      else none

/-- The NI_SLEEP command (NI_SLEEP, R295, R296). -/
def execNiSleep (p : Port) (s : State) : Out :=
  match sleepRefusal s p.val with
  | some (r, k, i) => .next (pwrRefuse 2 p.val r k i s)
  | none => .next (startEntry false p.val (pwrAccept 2 s))

/-- E2: entries, receipts, receive buffers and TEI FIFOs are empty, and nothing is part-way into the local channel. -/
def drained (s : State) (p : Nat) : Bool :=
  let n := ni s p
  (entriesOf n).isEmpty && n.receipts.isEmpty && n.ready.isEmpty && n.fifo.isEmpty
    && (chan s (niRxChan p)).vcs.all (fun e => e.2.slots.isEmpty && !e.2.openRx)

/-- An entering NI has drained (NI_DRAINED, R296). -/
def execNiDrained (p : Port) (s : State) : Out :=
  let p := p.val
  if !isLive p then .next s
  else .next (onlyIf ((ni s p).entry == some .e2 && drained s p && !paused s p) (goE3 p) s)

/-- E1 exceeds its bound: the endpoint has not answered (ACK_TIMEOUT, R296). An answer that waits for the end of a pause has
ended the wait (DESIGN CHOICE, log entry 136). -/
def execAckTimeout (p : Port) (s : State) : Out :=
  let p := p.val
  let n := ni s p
  if !isLive p then .next s
  else .next (onlyIf (n.entry == some .e1 && !n.pwrAck && n.ackTo ≤ s.us - n.stepUs) (abortEntry p rsAckTimeout 0 ukPort p) s)

/-- E2 exceeds its bound (DRAIN_TIMEOUT, R296); an NI that skips it has none (R298). -/
def execDrainTimeout (p : Port) (s : State) : Out :=
  let p := p.val
  let n := ni s p
  if !isLive p then .next s
  else .next (onlyIf (n.entry == some .e2 && !skipsDrain s p && n.drainTo ≤ s.us - n.stepUs) (abortEntry p rsDrainTimeout 0 ukPort p) s)

/-- The ledger acknowledges a flush: it joins the open epoch, and an entry at E3 takes E4 (FLUSH_ACK, R299, R332). -/
def execFlushAck (p : Port) (s : State) : Out :=
  let p := p.val
  if !isLive p then .next s
  else
    match (ni s p).slotFlush with
    | none => .next s
    | some f => .next (endFlush p (modNi p (fun n => { n with slotFlush := none }) (addFlush f s)))

/-- A flush goes unacknowledged for 4 µs: it is discarded, and a GAP is filed (FLUSH_TIMEOUT, R332). -/
def execFlushTimeout (p : Port) (s : State) : Out :=
  let p := p.val
  if !isLive p then .next s
  else if (ni s p).slotFlush.isNone || s.us - (ni s p).flushUs < 4 then .next s
  else .next (endFlush p (fileGap p (modNi p (fun n => { n with slotFlush := none }) s)))

/-- One bit of CRC-32 (R305): polynomial 0x04C1_1DB7, reflected input and output. -/
def crcBit (c : BitVec 32) : BitVec 32 := if c.getLsbD 0 then (c >>> 1) ^^^ 0xEDB88320 else c >>> 1
def crcByte (c : BitVec 32) (b : BitVec 8) : BitVec 32 :=
  let c := c ^^^ b.setWidth 32
  crcBit (crcBit (crcBit (crcBit (crcBit (crcBit (crcBit (crcBit c)))))))

/-- The register after a word, byte 0 first. -/
def crcWord (c : BitVec 32) (w : Word) : BitVec 32 :=
  (List.range 8).foldl (fun c i => crcByte c (w.extractLsb' (8 * i) 8)) c

/-- CRC-32 of the words of a unit in ascending address (R305). -/
def crc32 (l : List Word) : BitVec 32 := ~~~(l.foldl crcWord 0xFFFFFFFF)

/-- The words of a unit of `n` words, those that are not listed 0. -/
def denseWords (n : Nat) (l : List (Nat × Word)) : List Word :=
  (List.range n).map (fun i => ((l.find? (fun e => e.1 == i)).map (·.2)).getD 0)

/-- A unit of `n` words fails: an uncorrectable error is found, or the CRC of what is read differs from the stored one
(R305). Every write to a unit updates its stored CRC, which so is that of the contents; CRC-32 is linear, and what is read,
the contents XOR the errors `err`, has another CRC just when the errors alone leave a register of 0 other than 0. -/
def unitFails (n : Nat) (err : List (Nat × Word)) (ecc : Bool) : Bool :=
  ecc || (!err.isEmpty && (denseWords n err).foldl crcWord 0 != 0)

/-- E5: the CRC of the image section is stored (IMAGE_CRC_STORED, R296, R305). `ecc`: SECDED finds an error that it cannot
correct as the section is read for it, and the section fails. -/
def execImageCrcStored (p : Port) (s : State) (ecc : Bool := false) : Out :=
  let p := p.val
  if !isLive p then .next s
  else
    .next (onlyIf ((ni s p).entry == some .e5 && !paused s p)
      (fun s => onlyIf ecc (loseConfig p) (modNi p (fun n => { n with entry := some .e6, crcStored := true }) s)) s)

/-- E6: the supply switch opens (N2_ENTERED, R296). A packet or demand since E4 wakes the NI at once (R297). -/
def execN2Entered (p : Port) (s : State) : Out :=
  let p := p.val
  if !isLive p then .next s
  else if (ni s p).entry != some .e6 || paused s p then .next s
  else
    let s := fset pgPower Pwr.pwrNiStatEntering 0 (fset pgPower Pwr.pwrNiStatNstate 2 s p) p
    let s := flag pgPower Pwr.pwrEvtEntryDone (modNi p (fun n => { n with entry := none }) s)
    let s := exportGates p (switchOff p s)
    .next (onlyIf (wantsWake s p && fstate s == 0) (startWake p) s)

/-! ## Wake (R301, R302, R305 to R307) -/

/-- W1: the NI's supply is good (NI_SUPPLY_GOOD, R301); the domain is reset. -/
def execNiSupplyGood (p : Port) (s : State) : Out :=
  let p := p.val
  if !isLive p then .next s
  else
    .next (onlyIf ((ni s p).wake == some .w0 && !paused s p)
      (fun s => powerOnRegs p (modNi p (fun n => { n with wake := some .w1 }) s)) s)

/-- W2: the image section is read and checked against its stored CRC, and the registers take it (IMAGE_RESTORE, R301,
R305). Without a stored CRC it is restored unchecked. -/
def execImageRestore (p : Port) (err : List (Nat × Word)) (s : State) (ecc : Bool := false) : Out :=
  let p := p.val
  if !isLive p then .next s
  else if (ni s p).wake != some .w1 || paused s p then .next s
  else
    let s := modNi p (fun n => { n with wake := some .w2 }) s
    .next (teiRestart p (onlyIf ((ni s p).crcStored && unitFails 2048 err ecc) (loseConfig p) s))

/-- W3: the local link is trained and UP (WAKE_LINK_UP, R301). -/
def execWakeLinkUp (p : Port) (s : State) : Out :=
  let p := p.val
  if !isLive p then .next s
  else
    .next (onlyIf ((ni s p).wake == some .w2 && localUp s p && !paused s p)
      (fun s => finishWake p (modNi p (fun n => { n with wake := some .w3 }) s)) s)

/-- W4 is not reached within WAKE_TO_US (WAKE_TIMEOUT, R302). -/
def execWakeTimeout (p : Port) (s : State) : Out :=
  let p := p.val
  let n := ni s p
  if !isLive p then .next s
  else .next (onlyIf (n.wake.isSome && n.wakeTo ≤ s.us - n.wakeUs) (failWake p 0) s)

/-- PWR_NI_CTRL.CONFIG_VALID at the selected port ends CONFIG_LOST (CONFIG_VALID, R307). -/
def execConfigValid (s : State) : Out :=
  let p := fget s pgPower Pwr.pwrNiSelPort
  if !isLive p || !configLost s p then .next s
  else
    let s := fset pgPower Pwr.pwrNiStatConfigLost 0 (modNi p (fun n => { n with crcStored := true }) s) p
    .next (onlyIf (niPowered s p) (teiRestart p) s)

end Sys2Proof.Machine
end

