-- ==== Sys2Proof/Machine/Fabric.lean ====
section
/-! DEFINITION. Fabric F3: entry, wake and retention checks (spec/12 R303 to R306, spec/09 R223). -/

namespace Sys2Proof.Machine

/-- A test-strip window is open (R311). -/
def windowOpen (s : State) : Bool := fbit s pgStrip Ts.tsStatOpen

/-- The lowest live port that meets a test. -/
def firstPort (c : Nat → Bool) : Option Nat := livePorts.find? c

/-- The first refusal of R303: reason, refuser kind and id. -/
def fabSleepRefusal (s : State) : Option (Nat × Nat × Nat) :=
  let awake (p : Nat) : Bool := nstate s p != 2
  if fstate s != 0 then some (rsState, ukUnit, 0)
  else if fbit s pgPower Pwr.pwrStatTrans || livePorts.any (fun p => (ni s p).entry.isSome || (ni s p).wake.isSome) then
    some (rsBusy, ukUnit, 0)
  else if windowOpen s || s.strip.running then some (rsBusy, ukUnit, 1)
  else
    match admittedList s with
    | r :: _ => some (rsPinned, ukRsv, r)
    | [] =>
      match firstPort (fun p => awake p && !fbit s pgPower Pwr.pwrNiCfgSleepOk p) with
      | some p => some (rsPolicy, ukPort, p)
      | none =>
        (firstPort (fun p => isolated s p && !fbit s (pgNi p) Ni.isoStatSwept)).map (fun p => (rsIsolating, ukPort, p))

/-- The FAB_SLEEP command (FAB_SLEEP, R303): every NI in N0 or N1 runs E0 to E3. -/
def execFabSleep (s : State) : Out :=
  match fabSleepRefusal s with
  | some (r, k, i) => .next (pwrRefuse 4 0 r k i s)
  | none =>
    let s := modPower (fun w => { w with noReturn := false, wakeHeld := false })
      (fset pgPower Pwr.pwrStatFstate 1 (pwrAccept 4 s))
    .next (forEach (livePorts.filter (fun p => nstate s p != 2)) (startEntry true) s)

/-- Every NI has reached E3 and both drain counts are zero: the common E4 (F3_NO_RETURN, R303). -/
def execF3NoReturn (s : State) : Out :=
  let at4 := livePorts.all (fun p => nstate s p == 2 || (ni s p).entry == some .e4)
  if fstate s != 1 || s.power.noReturn || !at4 || drainCount s false ≠ 0 || drainCount s true ≠ 0 then .next s
  else
    .next (forEach (livePorts.filter (fun p => (ni s p).entry == some .e4))
      (fun p s => modNi p (fun n => { n with entry := some .e5 }) s) (modPower (fun w => { w with noReturn := true }) s))

/-- VDD_FAB switches off (F3_ENTERED, R303): FAB keeps nothing (R25). A wake held since the common E4, or a demand at an NI
that the F3 wake will wake, starts the F3 wake at once (R297, R304). The CRCs of banks 0–25 are stored first; `ecc`: banks in which
SECDED finds an error that it cannot correct as they are read for it, which fail (R305). -/
def execF3Entered (s : State) (ecc : BitVec 26 := 0) : Out :=
  if fstate s != 1 || !s.power.noReturn || !livePorts.all (fun p => nstate s p == 2 && (ni s p).entry.isNone) then .next s
  else
    let s := forEach ((List.range 26).filter (fun b => ecc.getLsbD b)) failBank s
    let s := { s with chans := [], routers := [] }
    let s := forEach livePorts (fun p s => modNi p (fun n => { n with awakeF3 := n.inF3, inF3 := false }) s) s
    let s := modPower (fun w => { w with crcStored := true, noReturn := false, supply := false })
      (fset pgPower Pwr.pwrStatFstate 2 s)
    let s := flag pgPower Pwr.pwrEvtEntryDone s
    let go := s.power.wakeHeld || livePorts.any (fun p => (ni s p).demand && wakesWithF3 s p)
    .next (onlyIf go startF3Wake s)

/-- The FAB_WAKE command (FAB_WAKE, R304): in F3 it wakes the fabric, in F3_ENTRY it aborts the entry or is held. -/
def execFabWake (s : State) : Out :=
  if s.strip.deadUntilReset then .next s
  else
    let s := pwrAccept 5 s
    match fstate s with
    | 1 =>
      if s.power.noReturn then .next (modPower (fun w => { w with wakeHeld := true }) s)
      else .next (abortF3 rsDemand 0 ukUnit 0 s)
    | 2 => .next (startF3Wake s)
    | _ => .next s

/-- Words of 64 bits in a bank (R20). -/
def bankWords (b : Nat) : Nat := if b < 16 then 65536 else if b = 16 then 16384 else if b = 17 then 512 else 8192

/-- A bank fails its check at F3 wake (R305). -/
def bankFails (err : List (Nat × Nat × Word)) (ecc : BitVec 26) (b : Nat) : Bool :=
  unitFails (bankWords b) ((err.filter (fun e => e.1 == b)).map (fun e => e.2)) (ecc.getLsbD b)

/-- VDD_FAB power-good in an F3 wake (F3_POWER_GOOD, R304 to R306): routers load, their status restarts, and the NIs
that wake with the fabric begin to. The first wake after AON reset checks nothing. -/
def execF3PowerGood (err : List (Nat × Nat × Word)) (s : State) (ecc : BitVec 26 := 0) : Out :=
  if fstate s != 3 || s.power.supply then .next s
  else
    let checked := s.power.everWoke && s.power.crcStored
    let go := livePorts.filter (wakesWithF3 s)
    let s := modPower (fun w => { w with supply := true, everWoke := true }) s
    let s := forEach (List.range 64) (fun r s =>
      clearFields (pgRouter r) (fun f => isStatus f || f.off == Rtr.rtIndexEntry.off || f.off == Rtr.linkErrSelPort.off) s) s
    let s := { s with rt := s.rtImg, chans := [], routers := [] }
    let s := if checked then forEach ((List.range 26).filter (bankFails err ecc)) failBank s else s
    .next (forEach go startWake s)

/-- The F3 wake completes (F3_WAKE_DONE, R304): demands held and writes of SLEEP_OK = 0 made during it wake their NIs. -/
def execF3WakeDone (s : State) : Out :=
  if fstate s != 3 || !s.power.supply then .next s
  else
    let s := flag pgPower Pwr.pwrEvtWakeDone (fset pgPower Pwr.pwrStatFstate 0 s)
    .next (forEach (livePorts.filter (fun p => (ni s p).wakeAtF0 || wantsWake s p)) startWake s)

end Sys2Proof.Machine
end

