-- ==== Sys2Proof/Machine/Strip.lean ====
section
/-! DEFINITION. The Test Strip Controller (spec/13 R311 to R325): windows, the injection hold, slices, repair, fusing and
the clearing before scan. -/

namespace Sys2Proof.Machine

def modStrip (f : Strip → Strip) (s : State) : State := { s with strip := f s.strip }

/-! ## Windows (R311, R312) -/

def stripPhase (s : State) : Nat := fget s pgStrip Ts.tsStatPhase
def setPhase (n : Nat) (s : State) : State := fset pgStrip Ts.tsStatPhase n s

/-- Ticks between window openings. -/
def stripPeriod (s : State) : Nat := fget s pgStrip Ts.tsPeriodPeriodUs * 4000

/-- The first grid value above MTIME (R311). -/
def stripGrid (s : State) : Nat :=
  let b := fget s pgStrip Ts.tsBaseBase
  let m := s.mtime.toNat
  if m < b then b else b + ((m - b) / stripPeriod s + 1) * stripPeriod s

/-- The comparator after a COMMIT of the page: disarmed with EN = 0; rearmed when the schedule changed, or when EN
rose (R311). -/
def rearmStrip (changed : Bool) (s : State) : State :=
  let at' := if !fbit s pgStrip Ts.tsCfgEn then none
    else if changed || s.time.stripAt.isNone then some (stripGrid s)
    else s.time.stripAt
  if at' == s.time.stripAt then s
  else { s with time := { s.time with stripAt := at', late := s.time.late.filter (· != srcStrip) } }

/-! ## The rotation (R314, R320) -/

/-- TS_PTR.NEXT takes a new index; SKIPS counts skips of the index it stands at. `wrapped`: the pointer passed 0. -/
def moveNext (n : Nat) (wrapped : Bool) (s : State) : State :=
  let s := fset pgStrip Ts.tsPtrNext n (fset pgStrip Ts.tsStatSkips 0 s)
  onlyIf wrapped (fun s => flag pgStrip Ts.tsEvtRotation (satAdd pgStrip Ts.tsCountRotations 1 s)) s

/-- NEXT advances by one, unless software has moved it off the slice `i` meanwhile. -/
def advanceNext (i : Nat) (s : State) : State :=
  if fget s pgStrip Ts.tsPtrNext = i then moveNext ((i + 1) % 1197) (i == 1196) s else s

/-! ## The log (R321) -/

def logSlice (i result detail measure : Nat) (s : State) : State :=
  if 32 ≤ s.strip.log.length then satAdd pgStrip Ts.tsStatLogDropped 1 s
  else
    let w1 := kindOfSlice i + i * 2 ^ 2 + result * 2 ^ 13 + detail % 16 * 2 ^ 16 + measure % 2 ^ 16 * 2 ^ 32 + 2 ^ 63
    modStrip (fun t => { t with log := t.log ++ [⟨s.strip.winT, BitVec.ofNat 64 w1, 0⟩] }) s

/-- A read of TS_LOG_W1 that returns VALID = 1 removes the oldest record (TS_LOG_POP, R321). -/
def execTsLogPop (s : State) : Out := .next (modStrip (fun t => { t with log := t.log.tail }) s)

/-! ## Preconditions (R316) -/

def suState : Nat := 1
def suNotQuiet : Nat := 2
def suNotIdle : Nat := 3
def suAsleep : Nat := 4
def suUnavailable : Nat := 5
def suLate : Nat := 6
def suNoRef : Nat := 7

/-- The NI that a slice needs idle: its own, or that of a local link. -/
def niOfSlice : SliceUnit → Option Nat
  | .ni p _ => some p
  | .link c => if 1024 ≤ c then some (c - 1024) else none
  | _ => none

/-- The NI holds nothing, and its endpoint is held; an isolated NI has been swept. -/
def niQuiet (s : State) (p : Nat) : Bool :=
  let n := ni s p
  (entriesOf n).isEmpty && n.receipts.isEmpty && n.ready.isEmpty
    && (chan s (niRxChan p)).vcs.all (fun e => e.2.slots.isEmpty)
    && (if isolated s p then fbit s (pgNi p) Ni.isoStatSwept else n.tsHold && n.tsIdle)

/-- The cause of a precondition that decides at once. -/
def sliceCause (s : State) (u : SliceUnit) : Option Nat :=
  if u == .timebase then
    if s.pins.tbRef && inSlewLocked s then none else some suNoRef
  else if fstate s != 0 || s.power.trans.isSome then some suState
  else
    match u with
    | .link c => if c < 1024 && (chan s c).st == .down then some suState else niCause (niOfSlice u)
    | _ => niCause (niOfSlice u)
where
  niCause : Option Nat → Option Nat
    | none => none
    | some p =>
      if nstate s p == 2 && (ni s p).wake.isNone then some suAsleep
      else if nstate s p == 2 || (ni s p).entry.isSome || configLost s p then some suUnavailable
      else none

/-- The cause of a precondition that has QUIET_US to be met. -/
def quietCause (s : State) (u : SliceUnit) : Option Nat :=
  match u, niOfSlice u with
  | .timebase, _ => none
  | _, some p => if niQuiet s p then none else some suNotIdle
  | _, none => if drainCount s false + drainCount s true = 0 then none else some suNotQuiet

def unmet (s : State) (u : SliceUnit) : Option Nat :=
  match sliceCause s u with
  | some c => some c
  | none => quietCause s u

/-- REQ-pool credits return and ts_hold falls (R317). -/
def endPrepare (s : State) : State :=
  match s.strip.prepared with
  | none => s
  | some p =>
    modStrip (fun t => { t with prepared := none })
      (modNi p (fun n => { n with tsPrep := false, tsHold := false, tsIdle := false }) s)

/-- The hold ends at every NI (R313). -/
def endHold (s : State) : State := modStrip (fun t => { t with holdAll := false, holdPort := none, overrun := false }) s

/-- The slice in the window is skipped; the last skip of SKIP_LIMIT passes it over with a record of its own (R316,
R320, R321). A slice that software has moved NEXT off counts no skip there. After the window's close the hold ends with it
(R313). -/
def skipSlice (i cause : Nat) (s : State) : State :=
  let s := endPrepare (setPhase 0 (modStrip (fun t => { t with running := false }) s))
  let s := onlyIf (!windowOpen s) endHold s
  let s := flag pgStrip Ts.tsEvtSliceSkipped (satAdd pgStrip Ts.tsCountSkipped 1 (logSlice i 6 cause 0 s))
  let s := onlyIf (fget s pgStrip Ts.tsPtrNext == i) (satAdd pgStrip Ts.tsStatSkips 1) s
  if fget s pgStrip Ts.tsPtrNext = i ∧ s.strip.skipLimit ≤ fget s pgStrip Ts.tsStatSkips then
    advanceNext i (flag pgStrip Ts.tsEvtPassedOver (logSlice i 6 cause 0 s))
  else s

/-- The slice that is chosen or running. -/
def stripIndex (s : State) : Nat := fget s pgStrip Ts.tsStatIndex
def stripUnit (s : State) : SliceUnit := sliceAt (stripIndex s)

/-- Preparation of an NI slice from IDLE_US before T: the NI withdraws its REQ-pool credits, and raises ts_hold once its
table is free (SLICE_PREPARE, R316). -/
def raiseHold (p : Nat) (s : State) : State :=
  if (ni s p).tsPrep && (entriesOf (ni s p)).isEmpty && !isolated s p then modNi p (fun n => { n with tsHold := true }) s
  else s

def execSlicePrepare (s : State) : Out :=
  match s.time.stripAt, (chosenSlice s).bind (fun i => niOfSlice (sliceAt i)) with
  | some t, some p =>
    if s.mtime.toNat < t && t ≤ s.mtime.toNat + fget s pgStrip Ts.tsCfgIdleUs * 4000 && niPowered s p
        && sliceCause s (.ni p 0) == none && s.strip.prepared.isNone then
      .next (raiseHold p (modNi p (fun n => { n with tsPrep := true }) (modStrip (fun x => { x with prepared := some p }) s)))
    else .next s
  | _, _ => .next s

/-- The window takes its hold (R313). -/
def startHold (runs : Bool) (u : SliceUnit) (s : State) : State :=
  if fstate s != 0 then s
  else if fbit s pgStrip Ts.tsCfgHoldAll then modStrip (fun t => { t with holdAll := true }) s
  else if !runs then s
  else
    match u, niOfSlice u with
    | .timebase, _ => s
    | _, some p => modStrip (fun t => { t with holdPort := some p }) s
    | _, none => modStrip (fun t => { t with holdAll := true }) s

/-- The pointer passes over every index that is not in the rotation, without using a window (R312). -/
def passOver (i : Nat) (s : State) : State :=
  let n := fget s pgStrip Ts.tsPtrNext
  if i = n then s else moveNext i (i < n) s

/-- A window opens with a firing: t0 to t3 of R317. -/
def openWindow (f : Firing) (s : State) : State :=
  let s := modStrip (fun t => { t with
    winT := BitVec.ofNat 64 f.target, openUs := s.us, quietUs := s.us, running := false, overrun := false, found := none
    quietTo := fget s pgStrip Ts.tsCfgQuietUs, skipLimit := fget s pgStrip Ts.tsCfgSkipLimit
    softEn := fbit s pgStrip Ts.tsCfgSoftRepairEn, jitterLimit := fget s pgStrip Ts.tsTimebaseJitterLimitPs }) s
  let s := fset pgStrip Ts.tsStatOpen 1 (onlyIf f.unsync (flag pgStrip Ts.tsEvtUnsyncWindow) s)
  match chosenSlice s with
  | none => startHold false .timebase s
  | some i =>
    let u := sliceAt i
    let s := fset pgStrip Ts.tsStatIndex i (passOver i s)
    let s := onlyIf (s.strip.prepared != niOfSlice u) endPrepare s
    let cause :=
      if fbit s pgStrip Hdr.pageCtrlQuiesce || s.lc.running.isSome then some suState
      else if f.late && f.target + 8000 ≤ s.mtime.toNat then some suLate
      else sliceCause s u
    match cause with
    | some c => skipSlice i c (startHold false u s)
    | none => setPhase 1 (modStrip (fun t => { t with running := true }) (startHold true u s))

/-- The fabric honours test_mode (R286). -/
def honoursTest (s : State) : Bool := s.fuses.lc == lcManufacture || s.fuses.lc == lcRma

/-- The STRIP_WINDOW comparator fires (STRIP_WINDOW, R311, R312). No window opens while test_mode is high (R325), nor
while one is open or its slice still runs. -/
def execStripWindow (s : State) : Out :=
  match s.time.stripAt with
  | none => .next s
  | some t =>
    if s.mtime.toNat < t ∨ dueBefore s srcStrip then .next s
    else
      let f := firing s srcStrip t (stripPeriod s)
      let s := logFiring srcStrip f s
      let s := { s with time := { s.time with stripAt := some (f.target + stripPeriod s) } }
      if (s.pins.testMode && honoursTest s) || windowOpen s || s.strip.running then .next (onlyIf (!s.strip.running) endPrepare s)
      else .next (openWindow f s)

/-- The window closes (WINDOW_CLOSE, R311, R313): a slice in TEST or in restore keeps the hold until its restore ends. One
that a step of MTIME finds still in QUIET is skipped with the cause that is not met, or goes on with OVERRUN when all are met
(R319; DESIGN CHOICE, log entry 145). -/
def execWindowClose (s : State) : Out :=
  if !windowOpen s || (s.mtime.toNat < s.strip.winT.toNat + 120000 && s.us - s.strip.openUs < 40) then .next s
  else
    let s := fset pgStrip Ts.tsStatOpen 0 s
    if !s.strip.running then .next (endHold (endPrepare s))
    else
      match unmet s (stripUnit s) with
      | some c =>
        if stripPhase s = 1 then .next (endHold (skipSlice (stripIndex s) c s))
        else .next (flag pgStrip Ts.tsEvtOverrun (modStrip (fun t => { t with overrun := true }) s))
      | none => .next (flag pgStrip Ts.tsEvtOverrun (modStrip (fun t => { t with overrun := true }) s))

/-! ## Running a slice (R317 to R319) -/

/-- One channel of each link that a slice tests. -/
def testedLinks (u : SliceUnit) : List Nat :=
  match u with
  | .router r _ =>
    (List.range 14).filterMap (fun i =>
      if i < 4 then (if isLive (4 * r + i) then some (niChan (4 * r + i)) else none)
      else if hasPort r i then some (outChan r i) else none)
  | .link c => [c]
  | _ => []

/-- A link that is UP enters TRAIN at both ends. -/
def trainLink (c : Nat) (s : State) : State :=
  let d := revChan c
  let down := fun x : Chan => if x.st == .up then { x with st := .train, retraining := false } else x
  noteLink c s (modChan d down (modChan c down s))

/-- A link has left TRAIN; the local link of an NI without supply does not train. -/
def linkBack (s : State) (c : Nat) : Bool :=
  ((chan s c).st != .train && (chan s (revChan c)).st != .train) || (1024 ≤ c && !niPowered s (c - 1024))

/-- Marks the unit of a slice as under test, or as back in service. -/
def markTest (u : SliceUnit) (on : Bool) (s : State) : State :=
  match u with
  | .timebase => s
  | .router r _ => modRouter r (fun x => { x with underTest := on }) s
  | .ni p _ => modNi p (fun n => { n with underTest := on }) s
  | .link c => modStrip (fun t => { t with linkTest := if on then some c else none }) s

/-- The level of ts_idle of the slice's endpoint: it stays high until ts_hold falls (R285). -/
def noteIdle (tsIdle : Bool) (s : State) : State :=
  match niOfSlice (stripUnit s) with
  | some p => onlyIf (stripPhase s == 1 && tsIdle && (ni s p).tsHold) (modNi p (fun n => { n with tsIdle := true })) s
  | none => s

/-- The status and counter fields that a slice saves: those of its unit's pages but for the header, the shell's ISO_STAT, and
the TEI side, which no slice tests (R26, R315, R318). -/
def savedField (u : SliceUnit) (page : Nat) (f : Fld) : Bool :=
  match u with
  | .router r _ => page == pgRouter r && isStatus f
  | .ni p _ =>
    isStatus f && ((page == pgNi p && !(f.off == 0x208 || (0x300 ≤ f.off && f.off < 0x400)))
      || (isHost p && page == pgFqw (ordinal p)))
  | _ => false
def savedKey (u : SliceUnit) (k : Nat) : Bool := (fieldAt k).any (savedField u (keyPage k))

/-- A register field of an NI under test. -/
def unitKey (u : SliceUnit) (e : Nat × Nat) : Bool :=
  match u with
  | .ni p _ => keyPage e.1 == pgNi p || (isHost p && keyPage e.1 == pgFqw (ordinal p))
  | _ => false

/-- They are saved at tq, and written back at tr. -/
def saveStatus (u : SliceUnit) (s : State) : State :=
  modStrip (fun t => { t with saved := s.regs.filter (fun e => savedKey u e.1), live := s.regs.filter (unitKey u) }) s
def writeBack (u : SliceUnit) (s : State) : State :=
  modStrip (fun t => { t with saved := [], live := [] })
    { s with regs := s.strip.saved.foldl (fun t e => tins t e.1 e.2) (s.regs.filter (fun e => !savedKey u e.1)) }

/-- Before the first shift of an LBIST the unit's flops are reset: what they held is saved, but for the verdict cache of a
HOST NI, which is flushed (R324). -/
def clearUnit (u : SliceUnit) (s : State) : State :=
  match u with
  | .ni p 0 => onlyIf (isHost p) (staleVerdicts p) s
  | _ => s

/-- tq: the preconditions hold within QUIET_US (SLICE_TEST, R317). -/
def execSliceTest (s : State) (tsIdle : Bool := true) : Out :=
  let s := noteIdle tsIdle s
  if stripPhase s != 1 || s.strip.quietTo < s.us - s.strip.quietUs || (unmet s (stripUnit s)).isSome then .next s
  else
    let u := stripUnit s
    let s := clearUnit u (saveStatus u (setPhase 2 (modStrip (fun t => { t with found := none }) s)))
    .next (forEach (testedLinks u) trainLink (markTest u true s))

/-- QUIET_US passes without them (QUIET_TIMEOUT, R316). -/
def execQuietTimeout (s : State) (tsIdle : Bool := true) : Out :=
  let s := noteIdle tsIdle s
  let t := s.us - s.strip.quietUs
  if stripPhase s != 1 || t < s.strip.quietTo then .next s
  else
    match unmet s (stripUnit s) with
    | some c => .next (skipSlice (stripIndex s) c s)
    | none => .next s

/-- A part is tested by March C− on SRAMs with spare rows. -/
def isMarch : SliceUnit → Bool
  | .router _ k => k == 0
  | .ni _ k => k != 0
  | _ => false

/-- The spare of an SRAM that no repair uses yet. -/
def freeSpare (l : List Repair) (slice sram : Nat) : Option Nat :=
  (List.range 2).find? (fun k => !l.any (fun r => r.slice == slice && r.sram == sram && r.spare == k))

/-- Maps failing rows to spares beside the repairs `l` (R322); none when a row finds no spare. -/
def mapRows (slice : Nat) (l : List Repair) : List (Nat × Nat) → Option (List Repair)
  | [] => some []
  | (sram, row) :: t =>
    match freeSpare l slice sram with
    | none => none
    | some k =>
      let r : Repair := ⟨slice, sram, row, k⟩
      (mapRows slice (r :: l) t).map (r :: ·)

/-- The repairs of the failing rows of a slice, when soft repair is on and they fit in the remaining spares. -/
def softRepairs (s : State) (m : SliceMeasure) : Option (List Repair) :=
  if s.strip.softEn then mapRows (stripIndex s) (s.strip.soft ++ s.fuses.repairs) m.failRows.eraseDups else none

/-- RESULT, DETAIL and MEASURE of a slice (R321). A lock detector that fails its check is a failure of the TIMEBASE slice
(DESIGN CHOICE, log entry 115). -/
def judgeSlice (s : State) (u : SliceUnit) (m : SliceMeasure) : Nat × Nat × Nat :=
  match u with
  | .timebase => (if !m.detectorOk || s.strip.jitterLimit < m.measure then 5 else 0, 0, m.measure)
  | .link _ => (if !m.loopbackOk || 15 < m.measure then 5 else if 8 < m.measure then 1 else 0, 0, m.measure)
  | _ =>
    if isMarch u then
      if m.failRows.isEmpty then (0, 0, 0)
      else if (softRepairs s m).isSome then (2, m.bank.toNat, 0)
      else (3, m.bank.toNat, 0)
    else (if m.signatureOk then 0 else 4, 0, 0)

/-- The test cycles end; failing rows that fit are mapped to spares (TEST_END, R317, R322). -/
def execTestEnd (m : SliceMeasure) (s : State) : Out :=
  if stripPhase s != 2 then .next s
  else
    let u := stripUnit s
    let r := judgeSlice s u m
    let l := if r.1 = 2 then (softRepairs s m).getD [] else []
    let s := satAdd pgStrip Ts.tsRepairSoftUsed l.length
      (modStrip (fun t => { t with soft := t.soft ++ l, unfused := t.unfused ++ l }) s)
    let s := onlyIf (u == .timebase) (fset pgStrip Ts.tsTimebaseJitterPs m.measure) s
    .next (setPhase 3 (modStrip (fun t => { t with found := some r }) s))

/-- The flow-queue state that an FQ part does not save restarts as at a wake, and the verdict cache of a HOST NI is empty
(R318). -/
def restoreNi (p part : Nat) (s : State) : State :=
  let s := onlyIf (isHost p) (fun s => modNi p (fun n => { n with cache := [] }) (staleVerdicts p s)) s
  if part = 3 then
    wakeShapers p (clearFields (pgFqw (ordinal p)) (fun f => f.off == 0xb8 || f.off == 0xc0 || f.off == 0xc8 || f.off == 0xd0) s)
  else s

/-- The section of an NI that a restore reads has failed: it enters CONFIG_LOST, whose tei_rst_n is low (R306, R307). -/
def loseImage (p : Nat) (s : State) : State :=
  let s := loseConfig p s
  onlyIf (teiState s p != 0) (abandonTei p) s

/-- A list that a COMMIT made pending during the test takes over, its boundary being past (R198, R318). -/
def moveList (p : Nat) (s : State) : State := onlyIf (listMoves s p) (takeOver p) s

/-- Route-table banks of a router are loaded from its image (R317). -/
def reloadRt (r : Nat) (s : State) : State :=
  let mine (e : Nat × Word) : Bool := e.1 / 512 == r
  { s with rt := (s.rtImg.filter mine).foldl (fun t e => tins t e.1 e.2) (s.rt.filter (fun e => !mine e)) }

/-- What a result brings beside its record (R321). -/
def resultFlags (u : SliceUnit) (result : Nat) (s : State) : State :=
  let s := onlyIf (3 ≤ result && result ≤ 5) (fun s => flag pgStrip Ts.tsEvtSliceFail (satAdd pgStrip Ts.tsCountFailed 1 s)) s
  match result, u with
  | 1, _ => flag pgStrip Ts.tsEvtWarn s
  | 2, _ => flag pgStrip Ts.tsEvtRepaired s
  | 3, _ => flag pgStrip Ts.tsEvtRepairExhausted s
  | 5, .link c => enterDown c s
  | _, _ => s

/-- An isolation that the slice deferred strikes now (R319). -/
def strikeDeferred (p : Nat) (s : State) : State :=
  let causes := (ni s p).deferred
  if causes = 0 then s else isolateNow p causes (modNi p (fun n => { n with deferred := 0 }) s)

/-- tr: the restore ends (SLICE_DONE, R317). A link without lock is put DOWN as it stands (R321). -/
def execSliceDone (s : State) (bad : Bool := false) : Out :=
  let u := stripUnit s
  let i := stripIndex s
  match s.strip.found with
  | none => .next s
  | some (result, detail, measure) =>
    let noLock := match u with | .link _ => result == 5 | _ => false
    if stripPhase s != 3 || !(noLock || (testedLinks u).all (linkBack s)) then .next s
    else
      let s := markTest u false (setPhase 0 (writeBack u s))
      let s := match u with
        | .router r _ => onlyIf bad (failRoutes (rowOf r)) (reloadRt r s)
        | .ni p k => onlyIf bad (loseImage p) (moveList p (restoreNi p k s))
        | _ => s
      let s := endPrepare (modStrip (fun t => { t with running := false, found := none }) s)
      let s := logSlice i result detail measure s
      let s := flag pgStrip Ts.tsEvtSliceDone (satAdd pgStrip Ts.tsCountRun 1 s)
      let s := advanceNext i (resultFlags u result s)
      let s := onlyIf s.strip.overrun endHold s
      let s := match u with
        | .ni p _ => strikeDeferred p s
        | _ => s
      .next (resumeAll s)

/-! ## Fusing (R323) -/

def freeRecords (s : State) : Nat := 64 - s.fuses.repairs.length

/-- FUSE_LEFT. -/
def fuseLeft (s : State) : Nat :=
  if s.fuses.lc = lcProduction then s.fuses.fuseLeft.getD (freeRecords s) else freeRecords s

/-- TS_FUSE_CMD.BURN (BURN, R323). A fabric held in reset takes none (R325). -/
def execBurn (s : State) : Out :=
  let l := s.strip.unfused
  let busy := s.strip.fusing.getD []
  if s.strip.deadUntilReset then .next s
  else if windowOpen s || l.isEmpty || fuseLeft s < l.length + busy.length then .next (flag pgStrip Ts.tsEvtFuseRefused s)
  else .next (modStrip (fun t => { t with unfused := [], fusing := some (busy ++ l) }) s)

/-- Fusing ends (FUSE_DONE, R323). -/
def execFuseDone (s : State) : Out :=
  match s.strip.fusing with
  | none => .next s
  | some l =>
    let s := { s with fuses := { s.fuses with
      repairs := s.fuses.repairs ++ l, fuseLeft := s.fuses.fuseLeft.map (· - l.length) } }
    .next (flag pgStrip Ts.tsEvtFuseDone (modStrip (fun t => { t with fusing := none }) s))

/-! ## Clearing before scan (R325) -/

/-- CRYPT endpoints. -/
def cryptPorts : List Nat := (List.range 32).map cryptPort

/-- zeroise rises to every CRYPT endpoint. -/
def raiseZeroise (s : State) : State := forEach cryptPorts (fun p s => modNi p (fun n => { n with zeroise := true }) s) s

/-- The levels of zeroise_ack: an endpoint holds it until zeroise falls (R285). -/
def noteAcks (acks : BitVec 32) (s : State) : State :=
  forEach ((List.range 32).filter acks.getLsbD) (fun i s =>
    modNi (cryptPort i) (fun n => { n with zeroAck := n.zeroAck || n.zeroise }) s) s

/-- The NI's buffers and tables hold zeros. -/
def zeroNi (p : Nat) (s : State) : State :=
  modNi p (fun n => { n with entries := [], ready := [], receipts := [], held := [], cache := [] }) (staleVerdicts p s)

/-- The buffers of a channel hold zeros. -/
def zeroChan (x : Chan) : Chan := { x with vcs := [], replay := [], occ := [], openTx := [], owed := [], wire := [] }

/-- test_mode rises (TEST_MODE, R325): steps 1 to 4; step 5 waits for the acknowledgements. In DEVELOP and PRODUCTION
nothing else happens (R286). -/
def execTestMode (s : State) (scanEn : Bool := false) (scanIn : BitVec 32 := 0) : Out :=
  let s := { s with pins := { s.pins with testMode := true, scanEn := scanEn, scanIn := scanIn } }
  if s.strip.deadUntilReset || !honoursTest s || fbit s pgStrip Ts.tsScanClearing || fbit s pgStrip Ts.tsScanScanAllowed then .next s
  else
    let s := raiseZeroise s
    let s := { s with chans := (s.chans.map (fun e => (e.1, zeroChan e.2))).filter (fun e => e.2 != {}) }
    let s := forEach livePorts zeroNi s
    let s := modLedger (fun l => { l with key := none }) s
    let s := modStrip (fun t => { t with clearUs := s.us }) s
    .next (flag pgStrip Ts.tsEvtClearDone (fset pgStrip Ts.tsScanClearing 1 s))

/-- An acknowledgement is still missing after 1 ms (ZEROISE_WAIT, R325). -/
def execZeroiseWait (s : State) (acks : BitVec 32 := 0xFFFFFFFF) : Out :=
  let s := noteAcks acks s
  if fbit s pgStrip Ts.tsScanClearing && acksPending s != 0 && 1000 ≤ s.us - s.strip.clearUs then
    .next (flag pgStrip Ts.tsEvtZeroiseWait s)
  else .next s

/-- Every CRYPT endpoint has acknowledged (SCAN_ALLOWED, R325). -/
def execScanAllowed (s : State) (acks : BitVec 32 := 0xFFFFFFFF) : Out :=
  let s := noteAcks acks s
  if fbit s pgStrip Ts.tsScanClearing && acksPending s == 0 then
    .next (fset pgStrip Ts.tsScanScanAllowed 1 (fset pgStrip Ts.tsScanClearing 0 s))
  else .next s

/-- scan_out: low unless the fabric honours test_mode and scan is allowed (R286); what the chains shift out is free. -/
def scanOut (s : State) : BitVec 32 :=
  if s.pins.testMode && honoursTest s && fbit s pgStrip Ts.tsScanScanAllowed then Config.scanChain s.free else 0

end Sys2Proof.Machine
end

