-- ==== Sys2Proof/Machine/LifeCycle.lean ====
section
/-! DEFINITION. Life cycle (spec/14 R341 to R344): LC_CMD, the transitions, and the nonce and token of RMA entry. -/

namespace Sys2Proof.Machine

def modLc (f : LifeCycle → LifeCycle) (s : State) : State := { s with lc := f s.lc }

/-- LC_RESULT.CODE: 1 DONE, 2 BUSY, 3 KEYSTORE_FULL, 4 STATE, 5 TOKEN, 6 BAD_CMD. -/
def lcResult (code : Nat) (s : State) : State := fset pgLc Lc.lcResultCode code s

/-- A refusal: TRANSITION_REFUSED, and CODE. -/
def lcRefuse (code : Nat) (s : State) : State := flag pgLc Lc.lcEvtTransitionRefused (lcResult code s)

/-- The transitions of R342. -/
def lcPermits (s : State) (target : Nat) : Bool :=
  let lc := s.fuses.lc
  decide (lc < target)
    && ((lc == lcManufacture && target == lcDevelop)
      || ((lc == lcManufacture || lc == lcDevelop) && target == lcProduction)
      || target == lcRma)

/-- The message that the RMA token signs (R344): DEVICE_ID in 8 bytes, the state in 1, RMA_NONCE in 16. -/
def rmaDigest (s : State) (nonce : Nat) : Nat :=
  sha384 25 (Config.deviceId.toNat + s.fuses.lc % 256 * 2 ^ 64 + (Config.rmaNonce nonce).toNat * 2 ^ 72)

/-- The token r‖s, written in signature byte order, as a number. -/
def rmaToken (s : State) : Nat :=
  revBytes 96 (((List.range 12).map (fun i => (tget 0 s.lc.token i).toNat * 2 ^ (64 * i))).sum)

/-- The token verifies against the RMA key for the nonce of a draw (R344). -/
def tokenGood (s : State) (nonce : Nat) : Bool :=
  ecdsaVerify Config.rmaKey (rmaDigest s nonce) (rmaToken s / 2 ^ 384) (rmaToken s % 2 ^ 384)

/-- The transition runs until its fuses are blown. -/
def lcStart (target : Nat) (s : State) : State :=
  fset pgLc Lc.lcStatBusy 1 (modLc (fun l => { l with running := some target }) s)

/-- A transition has completed. -/
def lcFinish (target : Nat) (s : State) : State :=
  let s := modLc (fun l => { l with running := none }) { s with fuses := { s.fuses with lc := target } }
  flag pgLc Lc.lcEvtTransitionDone (lcResult 1 (fset pgLc Lc.lcStatBusy 0 s))

/-- The wake-hold buffer and the verdict cache of an NI hold nothing (R325, R344). -/
def clearSecrets (p : Nat) (s : State) : State :=
  modNi p (fun n => { n with held := [], cache := [] }) (staleVerdicts p s)

/-- An accepted RMA entry begins with steps 1, 3 and 4 of R325, and the wake-hold buffers (R344). -/
def startRma (s : State) : State :=
  lcStart lcRma (modLedger (fun l => { l with key := none }) (forEach livePorts clearSecrets (raiseZeroise s)))

/-- The token is tested (R344): each nonce serves one attempt. With no nonce current there is nothing that a token could fail
for, and TOKEN_FAILS and TOKEN_FAIL stay (DESIGN CHOICE, log entry 147). -/
def tryToken (s : State) : State :=
  match s.lc.nonce with
  | none => lcRefuse 5 s
  | some d =>
    let t := modLc (fun l => { l with nonce := none }) s
    if tokenGood s d then startRma t
    else lcRefuse 5 (flag pgLc Lc.lcEvtTokenFail (satAdd pgLc Lc.lcStatTokenFails 1 t))

/-- The key pair of a transition to PRODUCTION is generated in the lowest unused slot (R338, R343). -/
def takeKeySlot (s : State) : State :=
  if ledgerGone s then s
  else
    let (d, s) := draw s
    { s with fuses := { s.fuses with slots := s.fuses.slots ++ [d] } }

/-- LC_CMD.REQUEST (LC_REQUEST, R342): the conditions in order; the first that fails is reported. A fabric held in reset takes
none (R325). -/
def execLcRequest (value : Word) (s : State) : Out :=
  let target := value.toNat % 16
  let confirm := value.toNat / 2 ^ 16 % 2 ^ 16
  if s.strip.deadUntilReset then .next s
  else if confirm ≠ 0x5A3C ∨ lcPermits s target = false then .next (lcRefuse 6 s)
  else if s.lc.running.isSome then .next (lcRefuse 2 s)
  else if target = lcDevelop then .next (lcFinish lcDevelop s)
  else if target = lcProduction then
    if windowOpen s then .next (lcRefuse 2 s)
    else if !ledgerGone s && 2 ≤ s.fuses.slots.length then .next (lcRefuse 3 s)
    else .next (lcStart lcProduction (takeKeySlot s))
  else if fstate s ≠ 2 then .next (lcRefuse 4 s)
  else .next (tryToken s)

/-- LC_CMD.NONCE_GEN (NONCE_GEN, R344): ignored after 8 failures. -/
def execNonceGen (s : State) : Out :=
  if 8 ≤ fget s pgLc Lc.lcStatTokenFails then .next s
  else
    let (d, s) := draw s
    .next (modLc (fun l => { l with nonce := some d }) s)

/-- The fields marked LK, with the page and index of each (R364). -/
def lkFields : List (Fld × Nat) :=
  (Art.fields.filter (·.lk)).flatMap (fun f => (List.range f.count).map (fun i => (f, i)))

/-- The committed values of the LK fields are fused, and their staged copies take them (R358, R364). -/
def fuseLk (s : State) : State :=
  let lk := lkFields.foldl (fun t e => tput 0 t (fkey pgArt e.1 e.2) (fget s pgArt e.1 e.2)) []
  let other (e : Nat × Nat) : Bool := !(keyPage e.1 == pgArt && (fieldAt e.1).any (·.lk))
  { s with
    fuses := { s.fuses with lkFused := true, lk := lk }
    staged := s.staged.filter other
    time := { s.time with stagedAt := s.time.stagedAt.filter other } }

/-- The transition to PRODUCTION completes (PRODUCTION_DONE, R343). -/
def execProductionDone (s : State) : Out :=
  if s.lc.running ≠ some lcProduction then .next s
  else
    let s := fuseLk (lcFinish lcProduction s)
    let s := { s with fuses := { s.fuses with fuseLeft := some (min 16 (freeRecords s)) } }
    let s := fset pgArt Art.artValStatus 0 s
    if ledgerGone s then .next s
    else .next (fileBoot (modLedger (fun l => { l with key := s.fuses.slots.getLast? }) s))

/-- RMA entry completes once every CRYPT endpoint has acknowledged (RMA_DONE, R325, R344): the key slots are overwritten, the
fuses blown. A wake trigger that came meanwhile starts the F3 wake (R369). `acks`: the levels of zeroise_ack. -/
def execRmaDone (s : State) (acks : BitVec 32 := 0xFFFFFFFF) : Out :=
  if s.lc.running ≠ some lcRma then .next s
  else
    let s := noteAcks acks s
    if acksPending s != 0 then .next s
    else
      let s := lcFinish lcRma { s with fuses := { s.fuses with wiped := true } }
      .next (onlyIf s.power.wakeHeld startF3Wake s)

end Sys2Proof.Machine
end

