-- ==== Sys2Proof/Machine/Level.lean ====
section
/-! DEFINITION. Performance levels (spec/12 R289 to R292): the steps of a SET_LEVEL transition. -/

namespace Sys2Proof.Machine

def level (s : State) : Nat := fget s pgPower Pwr.pwrStatLevel
def levelTarget (s : State) : Nat := fget s pgPower Pwr.pwrStatTarget

/-- The first refusal of R291; every reason is BUSY. -/
def levelRefuser (s : State) : Option Nat :=
  if fbit s pgPower Pwr.pwrStatTrans || fstate s == 1 || fstate s == 3 then some 0
  else if windowOpen s || s.strip.running then some 1
  else none

def setTrans (t : Option LevelStep) (s : State) : State := modPower (fun w => { w with trans := t }) s

/-- A transition ends with an event flag. -/
def endTrans (f : Fld) (s : State) : State :=
  flag pgPower f (fset pgPower Pwr.pwrStatTrans 0 (modPower (fun w => { w with trans := none, inF3 := false }) s))

/-- A ramp begins, bounded by WAKE_TO_US. -/
def startRamp (t : LevelStep) (s : State) : State :=
  modPower (fun w => { w with trans := some t, rampUs := s.us, rampTo := fget s pgPower Pwr.pwrCfgWakeToUs }) s

/-- The SET_LEVEL command (SET_LEVEL, R290, R291): L0, and the first step that applies. -/
def execSetLevel (l : Fin 4) (s : State) : Out :=
  match levelRefuser s with
  | some u => .next (pwrRefuse 1 0 rsBusy ukUnit u s)
  | none =>
    let s := pwrAccept 1 s
    if l.val = level s then .next s
    else
      let inUse := max (fget s pgRsv Rsv.rsvCfgALevel) (level s)
      let old := level s
      let s := fset pgPower Pwr.pwrStatTrans 1 (fset pgPower Pwr.pwrStatTarget l.val s)
      if fstate s = 2 then
        .next (modPower (fun w => { w with trans := some .l5, inF3 := true }) (fset pgPower Pwr.pwrStatLevel l.val s))
      else if l.val < old then .next (startRamp .l2 s)
      else if inUse < l.val then
        .next (queueRecheck 1 (modPower (fun w => { w with trans := some .l1, waitRecheck := true }) s))
      else .next (setTrans (some .l3) s)

/-- The re-check of R213 is done (LEVEL_RECHECK_DONE, R290 L1). -/
def execLevelRecheckDone (s : State) : Out :=
  .next (onlyIf (s.power.trans == some .l1 && !s.power.waitRecheck) (setTrans (some .l3)) s)

/-- Power-good after a ramp up (POWER_GOOD, R290 L2). -/
def execPowerGood (s : State) : Out := .next (onlyIf (s.power.trans == some .l2) (setTrans (some .l3)) s)

/-- Every channel that carries flits is empty and acknowledged. -/
def channelsEmpty (s : State) : Bool :=
  s.chans.all (fun e => e.2.st != .up || (e.2.wire.isEmpty && e.2.replay.isEmpty))

/-- The flow hold has emptied the channels; FCLK stops (FLOW_HOLD, R290 L3, L4). -/
def execFlowHold (s : State) : Out :=
  .next (onlyIf (s.power.trans == some .l3 && channelsEmpty s) (setTrans (some .l5)) s)

/-- The fabric PLL has relocked (PLL_RELOCK, R290 L5); in F3 nothing follows (R291). -/
def execPllRelock (s : State) : Out :=
  if s.power.trans != some .l5 then .next s
  else if s.power.inF3 then .next (endTrans Pwr.pwrEvtLevelDone s)
  else .next (setTrans (some .l6) s)

/-- The links have retrained, and flow resumes at the new level (LEVEL_RETRAIN, R290 L6, L7). What the hold made wait goes
on. -/
def execLevelRetrain (s : State) : Out :=
  if s.power.trans != some .l6 then .next s
  else
    let slower := level s < levelTarget s
    let s := fset pgPower Pwr.pwrStatLevel (levelTarget s) s
    let s := if slower then startRamp .l8 s else endTrans Pwr.pwrEvtLevelDone s
    .next (resumeAll s)

/-- VDD_FAB has ramped down (RAMP_DOWN_DONE, R290 L8). -/
def execRampDownDone (s : State) : Out :=
  .next (onlyIf (s.power.trans == some .l8) (endTrans Pwr.pwrEvtLevelDone) s)

/-- Power-good does not arrive within WAKE_TO_US at L2 or L8 (LEVEL_FAILED, R291). LEVEL keeps its value. -/
def execLevelFailed (s : State) : Out :=
  let ramping := s.power.trans == some .l2 || s.power.trans == some .l8
  .next (onlyIf (ramping && s.power.rampTo ≤ s.us - s.power.rampUs) (endTrans Pwr.pwrEvtLevelFailed) s)

end Sys2Proof.Machine
end

