-- ==== Sys2Proof/Machine/Read.lean ====
section
/-! DEFINITION. What a register read returns (spec/15 R356 to R358, R363): which registers a page has, the fields that
are computed from the machine rather than stored, and the side effects of a read. -/

namespace Sys2Proof.Machine

/-! ## Pages -/

/-- Number of live ports in N2 (PWR_STAT.N2_NIS). -/
def n2Count (s : State) : Nat := (livePorts.filter (fun p => nstate s p == 2)).length

/-- The page's register domain is powered (PAGE_STAT.DOMAIN_ON, R356). -/
def domainOn (s : State) (page : Nat) : Bool :=
  match kindOf page with
  | some .router => fabOn s
  | some .ni => niPowered s (unitOf page)
  | some .fqw => niPowered s (hostPort (unitOf page))
  | some .ledger => !ledgerGone s
  | _ => true

/-- The status registers of a page show its unit: those of a flow-queue window read zero until its NI has left N2 (R192). -/
def statusOn (s : State) (page : Nat) : Bool :=
  match kindOf page with
  | some .fqw => hostOn s (unitOf page)
  | _ => domainOn s page

/-- The NI types that have the registers at an offset of an NI page; every other offset exists at every live NI. -/
def niHas (p off : Nat) : Bool :=
  let t := portType p
  let engine := t == .crypt || t == .comp || t == .ncache
  let initiator := t != .mem && t != .spare && !(t == .svc && tableSize p == 0)
  if !isLive p then false
  else if off = 0x40 then t == .host || t == .tier || t == .dir || t == .svc
  else if off = 0x48 || off = 0x218 then initiator
  else if off = 0x50 then engine || t == .tier
  else if off = 0x58 then t == .dir
  else if 0x400 ≤ off && off < 0x800 then hasSad p
  else if off = 0x130 || off = 0x1c0 || off = 0x1c8 then t == .host
  else if off = 0x140 then (t == .host || t == .tier || t == .dir || engine) && p != 255
  else if 0x140 < off && off < 0x1c0 then t == .host
  else if off = 0x1d0 then t == .host || t == .tier || t == .dir || engine || t == .svc
  else true

/-- Whether the page has its registers beyond the common header at an offset. -/
def pageHas (s : State) (page off : Nat) : Bool :=
  match kindOf page with
  | none => false
  | some .ni => niHas (unitOf page) off
  | some .ledger => !ledgerGone s
  | some _ => true

/-- Index of a field that stands at an offset: its place in an array, or its selector's value. -/
def fieldIdx (s : State) (page off : Nat) (f : Fld) : Option Nat :=
  if f.sel ≠ 0 then (if off = f.off then some (fget s page { off := f.sel, lo := 0, w := f.selW, cls := .l }) else none)
  else if f.step = 0 then (if off = f.off then some 0 else none)
  else if f.off ≤ off ∧ (off - f.off) % f.step = 0 ∧ (off - f.off) / f.step < f.count then some ((off - f.off) / f.step)
  else none

/-- The fields at an offset of a page, with their index. -/
def fieldsAt (s : State) (page off : Nat) : List (Fld × Nat) :=
  match kindOf page with
  | none => []
  | some kd =>
    if pageHas s page off then (fieldsOf kd).filterMap (fun f => (fieldIdx s page off f).map (fun i => (f, i))) else []

/-! ## Computed fields -/

/-- The bits of a word that a field names. -/
def fromWord (w : Word) (f : Fld) : Nat := w.toNat / 2 ^ f.lo % 2 ^ f.w

/-- A signed value in a field's width. -/
def twos (w : Nat) (v : Int) : Nat := (v % (2 ^ w : Nat)).toNat

def routerField (s : State) (r : Nat) (f : Fld) : Option Nat :=
  if f.off = 0x50 then
    let port := fget s (pgRouter r) Rtr.rtIndexEntry
    let bank := fget s (pgRouter r) Rtr.rtIndexBank
    some (if fabOn s && !(router s r).underTest then rtWord s r bank port else rtImgWord s r bank port).toNat
  else if f.off = 0x58 then
    match f.lo with
    | 1 => some (bankIdle s false).toNat
    | 2 => some (bankIdle s true).toNat
    | 32 => some (if fbit s pgFg Fg.rtEpochStatDraining then twos 16 (residOf s r (!injEpoch s)) else 0)
    | _ => none
  else if f.off = 0x68 then some ((List.range 14).map (fun i => linkCode s r i * 2 ^ (2 * i))).sum
  else none

def fgField (s : State) (f : Fld) : Option Nat :=
  let rec0 := s.errLog.head?
  match f.off with
  | 0x308 => some (if f.lo = 0 then s.pins.present.toNat else s.pins.warn.toNat)
  | 0x330 => some ((rec0.map (fun r => fromWord r.w0 f)).getD 0)
  | 0x338 => some ((rec0.map (fun r => fromWord r.w1 f)).getD 0)
  | 0x340 => some ((rec0.map (fun r => fromWord r.w2 f)).getD 0)
  | 0x348 => if f.lo = 0 then some s.errLog.length else none
  | 0x90 =>
    if f.lo = 0 then some s.time.gcAt.isSome.toNat
    else if f.lo = 16 then
      some (s.regs.filter (fun e => e.1 == fkey (keyPage e.1) Hdr.pageStatGcJoined 0 && e.2 != 0)).length
    else none
  | _ => none

/-- OLDEST_US and ACCEPT_WAIT_US (R243). -/
def oldestUs (n : Ni) : Nat := min 65535 ((n.receipts.map (·.age)).foldl max 0)
def acceptWait (n : Ni) : Nat := min 65535 ((n.accWait.map (·.2)).foldl max 0)

/-- Fields of an NI page that its units hold. TXN_STAT.OPEN counts served entries too, which are OPEN from their acceptance
on (DESIGN CHOICE, log entry 112). -/
def niField (s : State) (p : Nat) (f : Fld) : Option Nat :=
  let n := ni s p
  let count (c : Entry → Bool) : Option Nat := some ((entriesOf n).filter (fun e => c e.2)).length
  let v := activeView s p
  match f.off, f.lo with
  | 0x40, 0 => count (fun e => e.st == .opened)
  | 0x40, 16 => count (fun e => e.st == .hold)
  | 0x50, 0 => count (fun e => e.role == .served)
  | 0x50, 16 => count (fun e => e.role == .served && e.fetch.isSome)
  | 0x58, 0 => count (fun e => e.st == .opened && e.hdr.mcls == 4)
  | 0x110, 0 => some v.en.toNat
  | 0x110, 1 => some n.shlPend.toNat
  | 0x110, 2 => some (if evaluated s p then entryAt v s.mtime.toNat else 0)
  | 0x110, _ => some (gatesNow s p)
  | 0x1d0, _ => some (if fbit s pgArt Art.artStatDraining then residArt s p (!artGen s) else 0)
  | 0x208, 3 => some (if portType p == .mem then ((fget s pgFg Fg.hpGroupNew).testBit (slotOf p)).toNat else 0)
  | 0x208, 32 => some n.receipts.length
  | 0x228, 0 => some (oldestUs n)
  | 0x228, 16 => some (acceptWait n)
  | 0x308, 2 => some (!n.epRstN).toNat
  | 0x308, 3 => some n.epReady.toNat
  | 0x308, 4 => some n.derate
  | _, _ => none

def timeField (s : State) (f : Fld) : Option Nat :=
  let rec0 := s.time.log.head?
  let st := timeState s
  match f.off, f.lo with
  | 0x50, 3 =>
    some (if st = tsAcquire then (detectorLocked s).toNat else (inSlewLocked s).toNat)
  | 0x50, 4 => some s.pins.tbRef.toNat
  | 0x50, 5 => some (synced s).toNat
  | 0x50, 32 => some (offsetField s)
  | 0x58, _ => some s.mtime.toNat
  | 0x78, _ => some (twos 32 s.time.offset)
  | 0xc0, _ => some ((rec0.map (fun r => fromWord r.w0 f)).getD 0)
  | 0xc8, _ => some ((rec0.map (fun r => fromWord r.w1 f)).getD 0)
  | _, _ => none

def fqwField (s : State) (h i : Nat) (f : Fld) : Option Nat :=
  match f.off, f.lo with
  | 0xb0, 0 => some (heldOf s (hostPort h) i)
  | 0xb0, 16 => some (outstanding s (hostPort h) i)
  | _, _ => none

/-- Loads of every reservation that counts. -/
def allLoads (s : State) : List RsvLoad := (loadList s).map (fun i => loadOf s i (rsvInForce s i))

/-- Computed fields of the Reservation Table page (R213). The local channels of a tied-off port are no absent ports: they
show their loads and CAP (DESIGN CHOICE, log entry 132). -/
def rsvField (s : State) (i : Nat) (f : Fld) : Option Nat :=
  let ch (g : List RsvLoad → Nat) : Option Nat := some (if hasChan i then g (allLoads s) else 0)
  match f.off, f.lo with
  | 0x68, 0 => some s.rsvRun.isSome.toNat
  | 0x90, 0 => some (admittedList s).length
  | 0x90, 16 => some (demotedList s).length
  | 0xa0, 0 => ch (fun l => sumLoad l i)
  | 0xa0, 24 => ch (fun l => sumBurst l i)
  | 0xa0, 32 => ch (fun l => minBurst l i)
  | 0xa0, _ => ch (fun _ => aCap s i)
  | 0xb0, 0 => some (sumTarget (allLoads s) i)
  | 0xb0, 24 => some (ni s i).derate
  | 0xb0, 27 => some (isTarget i && lostTarget s i).toNat
  | 0xb0, _ => some (tCap s i)
  | _, _ => none

def artField (s : State) (f : Fld) : Option Nat :=
  let rec0 := s.faults.head?
  match f.off with
  | 0xa0 => some ((rec0.map (fun r => fromWord r.w0 f)).getD 0)
  | 0xa8 => some ((rec0.map (fun r => fromWord r.w1 f)).getD 0)
  | _ => none

/-- ARTW_W0 to ARTW_W3 read the selected entry. -/
def artwField (s : State) (f : Fld) : Option Nat :=
  let e := artEnt s (fget s pgArtw Artw.artwSelSet) (fget s pgArtw Artw.artwSelEntry)
  match f.off with
  | 0x48 => some (fromWord e.w0 f)
  | 0x50 => some (fromWord e.w1 f)
  | 0x58 => some e.w2.toNat
  | 0x60 => some e.w3.toNat
  | _ => none

def powerField (s : State) (i : Nat) (f : Fld) : Option Nat :=
  match f.off, f.lo with
  | 0x50, 32 => some (n2Count s)
  | 0x88, _ => if isLive i then none else some 0
  | 0x90, 8 => some (ni s i).held.length
  | 0x90, _ => if isLive i then none else some 0
  | 0xa0, _ =>
    some ((List.range 64).map (fun b => if !isLive (64 * i + b) || nstate s (64 * i + b) == 2 then 2 ^ b else 0)).sum
  | 0x100, _ => some (((s.power.log.take 16)[i]?.map (fun r => fromWord r.w0 f)).getD 0)
  | 0x108, _ => some (((s.power.log.take 16)[i]?.map (fun r => fromWord r.w1 f)).getD 0)
  | _, _ => none

def stripField (s : State) (f : Fld) : Option Nat :=
  let rec0 := s.strip.log.head?
  match f.off, f.lo with
  | 0x78, _ => some ((rec0.map (fun r => fromWord r.w0 f)).getD 0)
  | 0x80, _ => some ((rec0.map (fun r => fromWord r.w1 f)).getD 0)
  | 0x88, 16 => some s.fuses.repairs.length
  | 0x88, 32 => some (fuseLeft s)
  | 0xa0, 8 => some (if fbit s pgStrip Ts.tsScanClearing then acksPending s else 0)
  | _, _ => none

/-- The fused digest of the slot in use (R338, R339). -/
def keyDigest (s : State) : Nat :=
  match s.fuses.slots.getLast? with
  | some d => revBytes 48 (sha384 96 (keyBytes (some d)))
  | none => 0

def lcField (s : State) (i : Nat) (f : Fld) : Option Nat :=
  match f.off, f.lo with
  | 0x40, 0 => some s.fuses.lc
  | 0x40, 4 => some (!lcValid s).toNat
  | 0x40, 6 => some (!ledgerGone s).toNat
  | 0x40, 7 => some s.fuses.slots.length
  | 0x58, _ => some Config.deviceId.toNat
  | 0x60, _ => some ((s.lc.nonce.map (fun d => (Config.rmaNonce d).toNat / 2 ^ (64 * i))).getD 0)
  | 0xe0, _ => some (keyDigest s / 2 ^ (64 * i))
  | _, _ => none

def ledgerField (s : State) (i : Nat) (f : Fld) : Option Nat :=
  let l := s.ledger
  match f.off, f.lo with
  | 0x40, 0 => some l.queue.length
  | 0x40, 5 => some (signs s && l.queue.any (fun r => !r.readable)).toNat
  | 0x40, 6 => some l.key.isSome.toNat
  | 0x40, 7 => some (oldestRecord s).isSome.toNat
  | 0x40, 16 => some s.fuses.bootCount
  | 0x100, _ => some (keyBytes l.key / 2 ^ (64 * i))
  | 0x400, _ => some (ledgerWord s (8 * i)).toNat
  | _, _ => none

/-- A field whose value follows from the machine; none for a stored one. -/
def computed (s : State) (page i : Nat) (f : Fld) : Option Nat :=
  match kindOf page with
  | some .router => routerField s (unitOf page) f
  | some .fg => fgField s f
  | some .ni => niField s (unitOf page) f
  | some .time => timeField s f
  | some .fqw => fqwField s (unitOf page) i f
  | some .rsv => rsvField s i f
  | some .art => artField s f
  | some .artw => artwField s f
  | some .power => powerField s i f
  | some .strip => stripField s f
  | some .lc => lcField s i f
  | some .ledger => ledgerField s i f
  | _ => none

/-! ## Interrupt flags (R363) -/

/-- The source of each IRQ_STAT bit that is not held in the header: the bit, its field and the bit of that field. -/
def irqSources (kd : Kind) : List (Nat × Fld × Nat) :=
  let ev (off up down : Nat) : List (Nat × Fld × Nat) :=
    ((fieldsOf kd).filter (fun f => f.cls == .w1c && f.off == off)).flatMap (fun f =>
      (List.range f.w).map (fun k => (f.lo + k + up - down, f, k)))
  match kd with
  | .fg => ev 0x328 0 0 ++ [(18, Fg.rtEpochStatDrainStall, 0), (19, Fg.rtEpochStatFlipRefused, 0), (20, Fg.rtEpochStatFlipHoldover, 0)]
  | .time => ev 0xa8 0 0
  | .smx | .ledger => ev 0x50 0 0
  | .power => ev 0x60 0 0
  | .strip => ev 0x68 0 0
  | .lc => ev 0x70 0 0
  | .art => ev 0x90 0 0
  | .rsv => ev 0x88 0 0
  | .router => [(0, Rtr.rtStatusBankBusy, 0)]
  | .ni => ev 0x118 0 0 ++ ev 0x48 8 0 ++ ev 0x310 16 0 ++ ev 0x228 0 8
  | .fqw => ev 0x48 0 0
  | .artw | .cp => []

/-- IRQ_STAT bits held only in the header. -/
def irqHeld (kd : Kind) : List Nat :=
  match kd with
  | .fg => [16, 17, 24, 25, 26, 27, 63]
  | .router => [1, 63]
  | _ => [63]

/-- Sources of a page: those of registers that the page has, while its domain is on. -/
def pageSources (s : State) (page : Nat) : List (Nat × Fld × Nat) :=
  match kindOf page with
  | none => []
  | some kd => if statusOn s page then (irqSources kd).filter (fun e => pageHas s page e.2.1.off) else []

/-- IRQ_STAT. LINK_CHANGE reads 0 while FAB is off. -/
def irqStat (s : State) (page : Nat) : Nat :=
  let held := fget s page Hdr.irqStatStat
  let held := if domainOn s page then held else if held.testBit 63 then 2 ^ 63 else 0
  ((pageSources s page).filter (fun e => (fget s page e.2.1).testBit e.2.2)).foldl (fun a e => a ||| 2 ^ e.1) held

/-- Level of interrupt line `n` (R287): a page of the line has a bit set in both IRQ_STAT and IRQ_EN. -/
def irqPages (n : Nat) : List Nat :=
  if n < 7 then [n]
  else if n = 7 then [pgArt, pgArtw, pgCp]
  else if n = 8 then [pgRsv]
  else if n = 9 then (List.range 64).map pgRouter
  else if n < 14 then (List.range 64).map (fun i => pgNi (64 * (n - 10) + i))
  else if n = 14 then (List.range 16).map pgFqw
  else []
def irqLine (s : State) (n : Nat) : Bool :=
  (irqPages n).any (fun pg => (irqStat s pg &&& fget s pg Hdr.irqEnEn) != 0)

/-! ## Reads -/

/-- A field of the common header. -/
def headerField (s : State) (page : Nat) (kd : Kind) (f : Fld) : Nat :=
  match f.off, f.lo with
  | 0x00, 0 => page
  | 0x00, 16 => kd.code
  | 0x00, 24 => if kd == .ni then (portType (unitOf page)).code else 0
  | 0x00, 32 => unitOf page
  | 0x18, 3 => (domainOn s page).toNat
  | 0x18, 4 => (!(kd == .ledger && ledgerGone s)).toNat
  | 0x18, 5 => (lcLocked s).toNat
  | 0x28, _ => irqStat s page
  | _, _ => if f.cls == .w1s then 0 else fget s page f

/-- The staged copy of a field as software sees it: what it wrote in the cycle of a t3, behind the list that t3 has made pending
there, or the copy (R358, R362, log entry 107). -/
def stagedRead (s : State) (page : Nat) (f : Fld) (i : Nat) : Nat :=
  let behind := if kindOf page == some .ni then (ni s (unitOf page)).shlWrote else []
  tget (sget s page f i) behind (fkey page f i) % 2 ^ f.w

/-- A field as it reads (R358): the staged copy of a G field; 0 for a status field of a domain that is off (R192), ISO_STAT
apart, which the shell keeps (R252). -/
def fieldRead (s : State) (page : Nat) (f : Fld) (i : Nat) : Nat :=
  match f.cls with
  | .wo => 0
  | .w1s => if page = pgSmx then fget s page f i else 0
  | .g => stagedRead s page f i
  | .s | .l => ((computed s page i f).getD (fget s page f i)) % 2 ^ f.w
  | .ro | .w1c =>
    if statusOn s page || (kindOf page == some .ni && f.off == 0x208) then
      ((computed s page i f).getD (fget s page f i)) % 2 ^ f.w
    else 0

/-- The word that a register reads as. -/
def regWord (s : State) (page off : Nat) : Word :=
  match kindOf page with
  | none => 0
  | some kd =>
    if off < 0x40 then
      BitVec.ofNat 64 ((Hdr.fields.filter (fun f => f.off == off)).map (fun f => headerField s page kd f * 2 ^ f.lo)).sum
    else BitVec.ofNat 64 ((fieldsAt s page off).map (fun e => fieldRead s page e.1 e.2 * 2 ^ e.1.lo)).sum

/-- A meaning's next state, or the state as it was. -/
def nextOr (o : Out) (s : State) : State :=
  match o with
  | .next t => t
  | _ => s

/-- What a read does beside returning a word: selectors that advance after each access, and logs that pop. -/
def readEffect (page off : Nat) (s : State) : State :=
  let pops := (regWord s page off).getLsbD 63
  match kindOf page, off with
  | some .router, 0x50 =>
    onlyIf (fbit s page Rtr.rtIndexAutoinc) (fun s => fset page Rtr.rtIndexEntry (fget s page Rtr.rtIndexEntry + 1) s) s
  | some .fqw, 0x70 =>
    onlyIf (fbit s page Fqw.clsSelAutoinc) (fun s => fset page Fqw.clsSelIndex (fget s page Fqw.clsSelIndex + 1) s) s
  | some .fqw, 0xd0 =>
    onlyIf (fbit s page Fqw.fqSelAutoinc) (fun s => fset page Fqw.fqSelIndex (fget s page Fqw.fqSelIndex + 1) s) s
  | some .artw, 0x60 => artwStep s
  | some .fg, 0x340 => onlyIf pops (fun s => nextOr (execErrLogPop s) s) s
  | some .time, 0xc8 => onlyIf pops (fun s => nextOr (execEvtLogPop s) s) s
  | some .art, 0xa8 => onlyIf pops (fun s => nextOr (execFaultRecordPop s) s) s
  | some .strip, 0x80 => onlyIf pops (fun s => nextOr (execTsLogPop s) s) s
  | _, _ => s

end Sys2Proof.Machine
end

