-- ==== Sys2Proof/Machine/Result.lean ====
section
/-! DEFINITION. What an endpoint returns: responses to receipts (spec/10 R242, spec/04 R112), engine results (R116 to R118,
R123; spec/11 R276), and the legacy timer (spec/10 R257); writes of SAD words (spec/04 R124). -/

namespace Sys2Proof.Machine

/-! ## Receipts that a submission finds (R276) -/

/-- A submission that finds no receipt to answer (R118, R242): ANSWER_STRAY for a request that the NI has answered in the
engine's place, and NO_RECEIPT once no receipt is left. A second answer to a receipt whose first still waits for its HEAD is
discarded with neither (DESIGN CHOICE, log entry 144). `h` is the submitted header. -/
def noReceipt (p src tag : Nat) (h : Header) (s : State) : State :=
  let n := ni s p
  let late := n.lateAnswers.contains (src, tag) || (servedEntry n src tag).any (fun e => e.2.answered)
  let s := onlyIf late (fun s =>
    flag (pgNi p) Ni.txnErrAnswerStray
      (modNi p (fun n => { n with lateAnswers := n.lateAnswers.filter (· != (src, tag)) }) s)) s
  onlyIf (receiptOf n src tag).isNone (errNi eNoReceipt p h) s

/-- The entry of a served request cannot take a result: it waits on a fetch leg, or has its result (R276). -/
def resultStray (e : Entry) : Bool := e.fetch.isSome || e.answered || e.resulted

def answerStray (p : Nat) (s : State) : State := flag (pgNi p) Ni.txnErrAnswerStray s
def badResult (p : Nat) (s : State) : State := flag (pgNi p) Ni.txnErrResultMalformed s

/-! ## TEI_RESPONSE -/

/-- The response that an endpoint's submission becomes (R57, R112, R119, R275). Its STATUS is the submitted one, also where
an engine's ANSWER gives another than OK, POISON and PROTOCOL_ERR (DESIGN CHOICE, log entry 111). An NDR and a BIR copy LEN
from the request (R38, R57, R112); a DRS takes the submitted one (R275; DEDUCED, log entry 120). -/
def responseHeader (p : Nat) (q b : Header) : Header :=
  let copied := b.mcls == 2 || b.mcls == 5
  tailOf
    { q with
      mcls := b.mcls, opc := b.opc, status := b.status
      len := if copied then q.len else b.len, tailBytes := b.tailBytes
      dst := q.src, src := q.dst, legSrc := BitVec.ofNat 8 p, tgt := q.dst
      hops := 0, wp0 := 0xFF, wp1 := 0xFF, wp2 := 0xFF, mcast := 0, byteEn := 0, rsv := 0 }

/-- Its DATA flits: a DRS with a status other than OK carries zeros (R39). -/
def responseData (h : Header) (l : List (BitVec 512)) : List (BitVec 512) :=
  if h.mcls == 3 && h.status != 0 then zeroData h else fitData h l

/-- A result whose lines would cross a 256 B boundary is malformed (R120). -/
def crosses256 (h : Header) : Bool := h.mcls == 3 && 4 < h.addr.toNat % 256 / 64 + h.len.toNat + 1

/-- The response of a receipt's request becomes ready; a malformed one is logged, and a built PROTOCOL_ERR takes its
place (R64, R123). -/
def sendResponse (p : Nat) (src : ReadySrc) (served : Bool) (q : Header) (sub : Submission) (s : State) : State :=
  let h := responseHeader p q sub.hdr
  let s := markAnswered p q.src.toNat q.tag.toNat s
  if malformedNi h || (served && crosses256 h) then pushBuilt p src q stProtocol (onlyIf served (badResult p) (errNi eNiRefused p h s))
  else pushReady p src h (responseData h sub.data) s

/-- An endpoint submits a RESPONSE, which finds its receipt by (DST, TAG) (TEI_RESPONSE, R242, R276). -/
def execTeiResponse (p : Port) (sub : Submission) (s : State) : Out :=
  let p := p.val
  if !isLive p then .next s
  else if !niPowered s p then .next s
  else
    let r := submitCheck p (rspAvail s p) true (sub.kind == 1 && responseKind p sub.hdr) sub s
    if !r.2 then .next r.1
    else
      let s := r.1
      let src := sub.hdr.dst.toNat
      let tag := sub.hdr.tag.toNat
      match openReceipt (ni s p) src tag with
      | none => .next (noReceipt p src tag sub.hdr s)
      | some q =>
        match servedEntry (ni s p) src tag with
        | none => .next (sendResponse p (.receipt src tag) false q.hdr sub s)
        | some (t, e) =>
          if resultStray e then .next (answerStray p s)
          else
            let s := modEntry p t (fun e => { e with resulted := true }) s
            .next (sendResponse p (.served t) true e.hdr sub s)

/-! ## Engine results -/

/-- A RELAY or FETCH whose receipt has no served entry is a malformed result (R276). -/
def notServed (p : Nat) (q : Header) (s : State) : State :=
  let s := markAnswered p q.src.toNat q.tag.toNat (badResult p s)
  pushAnswer p (.receipt q.src.toNat q.tag.toNat) q stProtocol s

/-- The next destination of a leg, with R87; or the counters and the log of what forbids it. -/
def placeLeg (p : Nat) (h : Header) (dst : Option Nat) (s : State) : Option Header × State :=
  match dst with
  | none => (none, flag (pgNi p) Ni.txnErrGroupEmpty s)
  | some d =>
    let h := { h with dst := BitVec.ofNat 8 d }
    if rankOk p d then (some h, s) else (none, errNi eRank p h (flag (pgNi p) Ni.txnErrRankRefused s))

/-- The next leg of a served request (R57, R116, R275). LEN, TAIL_BYTES, BYTE_EN and STATUS are the engine's, which R116 takes
out of R57 by name: "every other field follows R57" (DEDUCED, log entry 120). -/
def relayHeader (p : Nat) (q b : Header) : Header :=
  tailOf
    { q with
      leg := q.leg + 1, legSrc := BitVec.ofNat 8 p, hops := 0
      len := b.len, tailBytes := b.tailBytes, byteEn := b.byteEn, status := b.status, rsv := 0 }

/-- The answer that the NI gives its own endpoint for a refused leg (R64). -/
def answerEngine (p : Nat) (kind : Nat) (answered : Bool) (h : Header) (s : State) : State :=
  toFifo p { hdr := h, data := zeroData h, kind := kind, answered := answered } s

/-- A RELAY for served entry `t` (R116, R123). -/
def relayResult (p t : Nat) (e : Entry) (sub : Submission) (s : State) : State :=
  let h := relayHeader p e.hdr sub.hdr
  if malformedNi h then
    let s := answerServed p t stProtocol (errNi eNiRefused p h (badResult p s))
    answerEngine p 1 false (builtAnswer h stProtocol) s
  else
    match placeLeg p h (legDst s e.hdr (e.hdr.leg.toNat + 1)) s with
    | (none, s) => answerServed p t stDecodeErr s
    | (some h, s) =>
      let s := modEntry p t (fun e => { e with resulted := true }) s
      pushReady p (.relay t) h (fitData h sub.data) (markAnswered p e.hdr.src.toNat e.hdr.tag.toNat s)

/-- The fetch leg of served entry `t` (R117). -/
def fetchHeader (p t : Nat) (q b : Header) : Header :=
  let rest := (waypointsOf q).drop (q.leg.toNat + 1)
  let wp (i : Nat) : BitVec 8 := BitVec.ofNat 8 ((rest[i]?).getD 0xFF)
  { q with
    mcls := 0, src := BitVec.ofNat 8 p, legSrc := BitVec.ofNat 8 p, leg := 0, hops := 0
    wp0 := wp 0, wp1 := wp 1, wp2 := wp 2, mcast := 0
    tag := BitVec.ofNat 11 t, mid := ownMid p 0, ord := 0, status := 0
    len := b.len, opc := b.opc, tailBytes := 0, byteEn := 0, rsv := 0 }

/-- R64 or R87 refuses a fetch leg, or its group is empty: the NI answers the served request, and the engine receives the
fetch response as already answered (R118, R123). -/
def fetchRefused (p t status : Nat) (e : Entry) (h : Header) (s : State) : State :=
  let s := noteLateAnswer p e.hdr (answerServed p t status s)
  answerEngine p 2 true { builtAnswer h status with src := e.hdr.src, tag := e.hdr.tag } s

/-- A FETCH for served entry `t` (R116, R117). -/
def fetchResult (p t : Nat) (e : Entry) (sub : Submission) (s : State) : State :=
  if e.hdr.mcls != 0 || ndrOnly e.hdr.opc then answerServed p t stProtocol (badResult p s)
  else
    let h := fetchHeader p t e.hdr sub.hdr
    if malformedNi h then fetchRefused p t stProtocol e h (errNi eNiRefused p h (badResult p s))
    else
      match placeLeg p h (legDst s h 0) s with
      | (none, s) => fetchRefused p t stDecodeErr e h s
      | (some h, s) => pushReady p (.fetch t) h [] (modEntry p t (fun e => { e with fetch := some h }) s)

/-- An engine submits a result, which finds its receipt by (SRC, TAG) of the served request (R276). -/
def engineResult (p kind : Nat) (sub : Submission) (f : Nat → Entry → State → State) (s : State) : State :=
  let r := submitCheck p (rspAvail s p) false (sub.kind == BitVec.ofNat 3 kind && isEngine p) sub s
  if !r.2 then r.1
  else
    let s := r.1
    let src := sub.hdr.src.toNat
    let tag := sub.hdr.tag.toNat
    match openReceipt (ni s p) src tag with
    | none => noReceipt p src tag sub.hdr s
    | some q =>
      match servedEntry (ni s p) src tag with
      | none => notServed p q.hdr s
      | some (t, e) => if resultStray e then answerStray p s else f t e s

/-- An engine returns a RELAY (TEI_RELAY, R116). -/
def execTeiRelay (p : Port) (sub : Submission) (s : State) : Out :=
  let p := p.val
  if !isLive p then .next s
  else if !niPowered s p then .next s
  else .next (engineResult p 2 sub (fun t e => relayResult p t e sub) s)

/-- An engine returns a FETCH (TEI_FETCH, R117). -/
def execTeiFetch (p : Port) (sub : Submission) (s : State) : Out :=
  let p := p.val
  if !isLive p then .next s
  else if !niPowered s p then .next s
  else .next (engineResult p 3 sub (fun t e => fetchResult p t e sub) s)

/-! ## LEGACY_TIMEOUT (R257, R239) -/

/-- A legacy closure of an old-generation access marks the swap of its generation (R239). -/
def noteLegacy (e : Entry) (s : State) : State :=
  match e.verdict with
  | some v =>
    if v.allow && genInUse s v.gen then { s with unsureGen := s.unsureGen ||| (1#2 <<< v.gen.toNat) } else s
  | none => s

/-- The legacy timer of an OPEN entry expires (LEGACY_TIMEOUT, R257). The response to a BIS comes as one final BIR, for the
hosts still pending, from the port of the lowest of them. -/
def execLegacyTimeout (p : Port) (tag : BitVec 11) (s : State) : Out :=
  let p := p.val
  let t := tag.toNat
  match entry s p t with
  | none => .next s
  | some e =>
    if !fbit s (pgNi p) Ni.legacyCfgLegacyEn || e.st != .opened || e.role != .leg0 || e.age < e.legTo then .next s
    else
      let q := match (firstHost e.mask).map hostPort with
        | some k => { e.hdr with dst := BitVec.ofNat 8 k }
        | none => e.hdr
      let s := modEntry p t (fun e => { e with legacy := true }) (closeEntry p t (noteLegacy e s))
      let s := satAdd (pgNi p) Ni.faultCntLegacyTimeouts 1 s
      let s := flag pgFg Fg.faultEvtLegacyTimeout s
      .next (refuseToEp p { e with hdr := q } t stLegacy s)

/-! ## SAD_WRITE (R124) -/

/-- A chain that is not packed or holds a reserved waypoint. -/
def chainBad (c : Nat) : Bool :=
  let w0 : BitVec 8 := BitVec.ofNat 8 c
  let w1 : BitVec 8 := BitVec.ofNat 8 (c / 2 ^ 8)
  let w2 : BitVec 8 := BitVec.ofNat 8 (c / 2 ^ 16)
  wpReserved w0 || wpReserved w1 || wpReserved w2 || (w0 == 0xFF && w1 != 0xFF) || (w1 == 0xFF && w2 != 0xFF)

/-- A reserved value in SAD_W0, and in SAD_W1. -/
def sadW0Bad (w : Nat) : Bool :=
  let kind := w / 2 % 4
  let ways := w / 8 % 8
  2 ≤ kind || ways == 7 || w / 64 % 4 == 3 || (kind == 0 && 64 < w / 256 % 256 + 2 ^ ways)
    || chainBad (w / 2 ^ 16) || chainBad (w / 2 ^ 40)
def sadW1Bad (w : Nat) : Bool := w / 2 ^ 26 % 2 ^ 26 < w % 2 ^ 26

/-- A write of a SAD word (SAD_WRITE, R124): a reserved value leaves the word and sets PAGE_ERR; the staged copy takes
any other (R103). Ports without a decoder ignore it (R5). -/
def execSadWrite (p : Port) (i : Fin 64) (word1 : Bool) (value : Word) (s : State) : Out :=
  let p := p.val
  let i := i.val
  let w := value.toNat
  let pg := pgNi p
  if !hasSad p then .next s
  else if (if word1 then sadW1Bad w else sadW0Bad w) then
    .next (errReserved pg ((if word1 then 0x408 else 0x400) + 16 * i) s)
  else if word1 then
    .next (sset pg Ni.sadW1Limit (w / 2 ^ 26) (sset pg Ni.sadW1Base w s i) i)
  else
    .next (sset pg Ni.sadW0WrChain (w / 2 ^ 40) (sset pg Ni.sadW0RdChain (w / 2 ^ 16)
      (sset pg Ni.sadW0Tgt (w / 2 ^ 8) (sset pg Ni.sadW0Gran (w / 2 ^ 6) (sset pg Ni.sadW0Ways (w / 2 ^ 3)
        (sset pg Ni.sadW0Kind (w / 2) (sset pg Ni.sadW0Valid w s i) i) i) i) i) i) i)

end Sys2Proof.Machine
end

