-- ==== Sys2Proof/Machine/Pages.lean ====
section
/-! DEFINITION. Register pages (spec/15 R357 to R363, spec/05 R371): commits, quiesce, GLOBAL_COMMIT, interrupt flags, and
what a register write does in each field. -/

namespace Sys2Proof.Machine

/-! ## Commits (R360, R362) -/

/-- The staged copies of an NI page take force and STAGED clears, the shutter list apart: it becomes pending, unless one is, and
takes over at once when the active copy allows it (R198). -/
def commitShl (p : Nat) (s : State) : State :=
  let pg := pgNi p
  let shl (e : Nat × Nat) : Bool := keyPage e.1 == pg && isShlKey e.1
  let list := s.staged.filter shl
  let s := fset pg Hdr.pageStatStaged 0 (mergeStaged pg { s with staged := s.staged.filter (fun e => !shl e) })
  let s := { s with staged := list.foldl (fun t e => tins t e.1 e.2) s.staged }
  let s := if (ni s p).shlPend then s else modNi p (fun n => { n with shlPend := true, shlAt := s.mtime }) s
  onlyIf (listMoves s p) (takeOver p) s

/-- What a commit brings to a page of each kind beside its fields. -/
def commitPage (page : Nat) (s : State) : State :=
  let sched := (fget s pgStrip Ts.tsBaseBase, fget s pgStrip Ts.tsPeriodPeriodUs)
  let s := match kindOf page with
    | some .ni => if isLive (unitOf page) then commitShl (unitOf page) s else fset page Hdr.pageStatStaged 0 s
    | some .time => commitDelay (mergeStaged page s)
    | some .strip =>
      let s := mergeStaged page s
      rearmStrip ((fget s pgStrip Ts.tsBaseBase, fget s pgStrip Ts.tsPeriodPeriodUs) != sched) s
    | some .art => staleAll (setBankBad 17 false (mergeStaged page s))
    | _ => mergeStaged page s
  wrapAdd page Hdr.pageStatCommits 1 (onlyIf (kindOf page != some .ni) (fset page Hdr.pageStatStaged 0) s)

/-- t3 of a GLOBAL_COMMIT has included the page in this cycle (R362). -/
def gcHas (s : State) (page : Nat) : Bool := s.time.gcDone.any (fun l => l.any (fun r => r.page == page))

/-- A COMMIT of this cycle makes the commit at t3 its own: the page leaving the GLOBAL_COMMIT takes nothing back. -/
def ownCommit (page : Nat) (t : TimeUnit) : TimeUnit :=
  { t with commits := t.commits ++ [page]
           gcDone := t.gcDone.map (fun l => l.map (fun r => if r.page = page then { r with own := false } else r)) }

/-- Software commits a page. In the cycle of a GLOBAL_COMMIT's t3 that included it there is one commit (R362). -/
def softCommit (page : Nat) (s : State) : State :=
  let done := gcHas s page
  let s := modTime (ownCommit page) s
  if done then s else commitPage page s

/-- PAGE_CTRL.COMMIT (COMMIT, R360). An unassigned page has no register (R356). -/
def execCommit (page : PageNo) (s : State) : Out :=
  if (kindOf page.val).isNone then .next s else .next (softCommit page.val s)

/-- The NI of a page has a pending list. -/
def pendingAt (s : State) (page : Nat) : Bool := kindOf page == some .ni && (ni s (unitOf page)).shlPend

/-- A value that a commit's cycle has written stays staged: of a list that the commit has made pending, behind it. -/
def stageWritten (page k v : Nat) (s : State) : State :=
  if pendingAt s page && isShlKey k then
    modNi (unitOf page) (fun n => { n with shlWrote := tins n.shlWrote k v }) s
  else fset page Hdr.pageStatStaged 1 (stageKey k v s)

/-- A page commits at t3: its staged copies as they stood before this cycle's writes, which stay staged (R362). -/
def gcCommit (page : Nat) (s : State) : State :=
  let mine (e : Nat × Nat) : Bool := keyPage e.1 == page && !(pendingAt s page && isShlKey e.1)
  let was := s.time.stagedAt.filter mine
  let now := s.staged.filter mine
  let stood (k : Nat) : Nat := tget (resetAt k) s.regs k
  let wrote := ((was ++ now).map (·.1)).eraseDups.filter (fun k => tget (stood k) was k != tget (stood k) now k)
  let s := commitPage page { s with staged := was.foldl (fun t e => tins t e.1 e.2) (s.staged.filter (fun e => !mine e)) }
  let stays := s.stagedNow.contains page
  onlyIf stays (fset page Hdr.pageStatStaged 1) (forEach wrote (fun k => stageWritten page k (tget (stood k) now k)) s)

/-- What the verdict caches of HOST NIs hold as t3 flushes them, with the verdicts on their way, stands by until the cycle
ends: the ART control page may still leave the commit (R222, R362). -/
def keepCaches (was : State) (s : State) : State :=
  let held (p : Nat) : Option (List CacheEnt × List VerdictMsg) :=
    let n := ni was p
    if n.cache.isEmpty && n.verdicts.isEmpty then none else some (n.cache, n.verdicts)
  forEach ((List.range 16).map hostPort) (fun p => modNi p (fun n => { n with cacheWas := held p })) s

/-- The flush of a verdict cache is taken back: what it held returns, and what has been installed since stands before it. A
verdict on its way installs its entry again, one that has returned meanwhile has installed it. -/
def restoreCache (p : Nat) (s : State) : State :=
  match (ni s p).cacheWas with
  | none => s
  | some (cache, flying) =>
    let n := ni s p
    let same (m x : VerdictMsg) : Bool := x.tag == m.tag && x.v == m.v
    let again (m : VerdictMsg) : VerdictMsg :=
      if m.install.isSome then m else { m with install := (flying.find? (same m)).bind (·.install) }
    let returned := (flying.filter (fun m => !n.verdicts.any (same m))).filterMap (·.install)
    let s := modNi p (fun n => { n with cacheWas := none, cache := cache, verdicts := n.verdicts.map again }) s
    onlyIf (cacheOn s p) (forEach (returned ++ n.cache.reverse) (cacheTouch p)) s

/-- The fields of a page, beside its staged copies, that a commit changes. -/
def commitFields (page : Nat) : List Fld :=
  Hdr.pageStatCommits :: Hdr.pageStatStaged :: match kindOf page with
    | some .ni => [Ni.shlEvtTakeover, Ni.shlCountTakeovers]
    | some .art => [Art.artValAuxInvalidBanks]
    | _ => []

/-- What t3 finds of a page. -/
def gcFound (page : Nat) (own : Bool) (s : State) : GcRec where
  page := page
  own := own
  was := (((s.time.stagedAt.filter (fun e => keyPage e.1 == page && !(pendingAt s page && isShlKey e.1))).map (·.1)
    ++ (commitFields page).map (fkey page · 0)).map (fun k => (k, tget (resetAt k) s.regs k)))
  pend := (ni s (unitOf page)).shlPend
  pendAt := (ni s (unitOf page)).shlAt
  delayChg := s.time.delayChg
  delayNow := s.time.delayNow
  stripAt := s.time.stripAt

/-- A joined page commits at t3, and leaves; a COMMIT in the same cycle has been that commit (R362). -/
def gcPage (page : Nat) (s : State) : State :=
  let own := !s.time.commits.contains page
  let r := gcFound page own s
  let flushes := own && kindOf page == some .art
  let t := onlyIf flushes (keepCaches s) (onlyIf own (gcCommit page) s)
  fset page Hdr.pageStatGcJoined 0 (modTime (fun x => { x with gcDone := x.gcDone.map (· ++ [r]) }) t)

/-- PAGE_CTRL.GC_JOIN: in the cycle of t3 the page still takes part (R362). -/
def joinGc (page : Nat) (s : State) : State :=
  if s.time.gcDone.isSome then onlyIf (!gcHas s page) (gcPage page) s
  else fset page Hdr.pageStatGcJoined 1 s

/-- The staged copy of a key as software sees it: what it wrote behind a pending list, the copy, or the value in force. -/
def stagedSeen (page : Nat) (s : State) (k : Nat) : Nat :=
  let c := tget (tget (resetAt k) s.regs k) s.staged k
  if pendingAt s page then tget c (ni s (unitOf page)).shlWrote k else c

/-- Takes back t3's commit of a page: its fields are as t3 found them, and its staged copies what they would be (R362, log
entry 107). -/
def undoCommit (r : GcRec) (s : State) : State :=
  let page := r.page
  let behind := if r.pend then [] else (ni s (unitOf page)).shlWrote
  let seen := (((r.was ++ behind).map (·.1)).eraseDups).map (fun k => (k, stagedSeen page s k))
  let regs := r.was.foldl (fun t e => tput (resetAt e.1) t e.1 e.2) s.regs
  let s := match kindOf page with
    | some .ni => modNi (unitOf page) (fun n => { n with
        shlPend := r.pend, shlAt := r.pendAt, shlWrote := if r.pend then n.shlWrote else [] }) s
    | some .time => modTime (fun x => { x with delayChg := r.delayChg, delayNow := r.delayNow }) s
    | some .strip => modTime (fun x => { x with stripAt := r.stripAt }) s
    | some .art => forEach ((List.range 16).map hostPort) restoreCache s
    | _ => s
  let wrote := s.stagedNow.contains page
  onlyIf wrote (fset page Hdr.pageStatStaged 1) <| forEach (seen.filter (fun e => !((commitFields page).map (fkey page · 0)).contains e.1))
    (fun e => stageWritten page e.1 e.2) { s with regs := regs }

/-- PAGE_CTRL.GC_LEAVE. In the cycle of t3 the page takes no part: membership is taken after the write (R362). -/
def leaveGc (page : Nat) (s : State) : State :=
  let l := (s.time.gcDone.getD []).filter (fun r => r.page == page && r.own)
  let s := forEach l undoCommit s
  fset page Hdr.pageStatGcJoined 0
    (modTime (fun x => { x with gcDone := x.gcDone.map (fun l => l.filter (fun r => r.page != page)) }) s)

/-- Every staged copy takes the value in force; a pending shutter list stays (R198, R360). -/
def abortPage (page : Nat) (s : State) : State :=
  let keep (e : Nat × Nat) : Bool :=
    kindOf page == some .ni && (ni s (unitOf page)).shlPend && keyPage e.1 == page && isShlKey e.1
  let s := onlyIf (pendingAt s page) (modNi (unitOf page) (fun n => { n with shlWrote := [] })) s
  fset page Hdr.pageStatStaged 0 { s with
    staged := s.staged.filter (fun e => keyPage e.1 != page || keep e), stagedNow := s.stagedNow.filter (· != page) }

/-- PAGE_CTRL.ABORT (ABORT, R360). -/
def execAbort (page : PageNo) (s : State) : Out :=
  if (kindOf page.val).isNone then .next s else .next (abortPage page.val s)

/-! ## Quiesce (R359) -/

/-- The condition under which QUIESCED sets. -/
def quiesceMet (s : State) (page : Nat) : Bool :=
  let p := unitOf page
  match kindOf page with
  | some .smx => s.smx.bridge.all (fun b => b.master == s.smx.quiescer)
  | some .strip => !windowOpen s
  | some .rsv => s.rsvRun.isNone && s.rsvWait.isEmpty
  | some .router => drainCount s false == 0 && drainCount s true == 0
  | some .ni => nstate s p == 2 || configLost s p || ((entriesOf (ni s p)).isEmpty && (ni s p).receipts.isEmpty)
  | _ => true

/-- QUIESCED sets when the condition first holds. -/
def noteQuiesced (page : Nat) (s : State) : State :=
  if fbit s page Hdr.pageCtrlQuiesce && !fbit s page Hdr.pageStatQuiesced && quiesceMet s page then
    fset page Hdr.pageStatQuiesced 1 s
  else s

/-- A write of QUIESCE that changes it: the effects of the page kind begin, or end (R359, R210). -/
def setQuiesce (page : Nat) (on : Bool) (master : Nat) (s : State) : State :=
  if fbit s page Hdr.pageCtrlQuiesce == on then s
  else
    let s := fsetB page Hdr.pageCtrlQuiesce on s
    if on then
      let s := match kindOf page with
        | some .time => quiesceTime s
        | some .smx => { s with smx := { s.smx with quiescer := master } }
        | _ => s
      noteQuiesced page s
    else
      let s := fset page Hdr.pageStatQuiesced 0 s
      if kindOf page == some .rsv && s.rsvCfgChg then queueRecheck 6 { s with rsvCfgChg := false } else s

/-- A write of PAGE_CTRL.QUIESCE (QUIESCE, R359). -/
def execQuiesce (page : PageNo) (on : Bool) (master : Fin 5) (s : State) : Out :=
  if (kindOf page.val).isNone then .next s else .next (setQuiesce page.val on master.val s)

/-- The condition holds (QUIESCED, R359). -/
def execQuiesced (page : PageNo) (s : State) : Out :=
  if (kindOf page.val).isNone then .next s else .next (noteQuiesced page.val s)

/-! ## GLOBAL_COMMIT (R361, R362, R371) -/

/-- PAGE_CTRL.GC_JOIN and GC_LEAVE (GC_JOIN, GC_LEAVE, R361). -/
def execGcJoin (page : PageNo) (s : State) : Out :=
  if (kindOf page.val).isNone then .next s else .next (joinGc page.val s)
def execGcLeave (page : PageNo) (s : State) : Out :=
  if (kindOf page.val).isNone then .next s else .next (leaveGc page.val s)

/-- The pages with GC_JOINED = 1, ascending. -/
def joinedPages (s : State) : List Nat :=
  (s.regs.filter (fun e => e.1 == fkey (keyPage e.1) Hdr.pageStatGcJoined 0 && e.2 != 0)).map (fun e => keyPage e.1)

def refuseGc (cause : Nat) (s : State) : State := irqHold pgFg 25 (fset pgFg Fg.gcStatRefuseCause cause s)

/-- GC_CTRL.ARM: the first cause in its order, else the commit is armed at GC_TIME. -/
def armGc (s : State) : State :=
  let t := fget s pgFg Fg.gcTimeTime
  if t < s.mtime.toNat + 1024 then refuseGc 1 s
  else if s.time.gcAt.isSome then refuseGc 2 s
  else if (joinedPages s).isEmpty then refuseGc 3 s
  else markArm srcGc t (modTime (fun x => { x with gcAt := some t }) s)

def disarmGc (s : State) : State :=
  modTime (fun x => { x with gcAt := none, late := x.late.filter (· != srcGc) }) s

/-- Writes of GC_CTRL with ARM, DISARM, and both (GC_ARM, GC_DISARM, GC_REARM, R361, R371). -/
def execGcArm (s : State) : Out := .next (armGc s)
def execGcDisarm (s : State) : Out := .next (disarmGc s)
def execGcRearm (s : State) : Out := .next (armGc (disarmGc s))

/-- The GLOBAL_COMMIT comparator fires: t3 of R361. -/
def execGlobalCommit (s : State) : Out :=
  match s.time.gcAt with
  | none => .next s
  | some t =>
    if s.mtime.toNat < t then .next s
    else
      let f := firing s srcGc t 0
      let s := logFiring srcGc f s
      let s := forEach (joinedPages s) gcPage (modTime (fun x => { x with gcDone := some [] }) s)
      let s := wrapAdd pgFg Fg.gcStatGcCount 1 (modTime (fun x => { x with gcAt := none }) s)
      let s := onlyIf f.late (irqHold pgFg 27) (irqHold pgFg 24 s)
      .next (onlyIf f.unsync (irqHold pgFg 26) s)

/-! ## Interrupt flags (R363) -/

/-- The mask of the bits that a page kind names in IRQ_STAT, IRQ_EN and IRQ_SET. -/
def irqNamed (kd : Kind) : Nat :=
  ((irqSources kd).map (·.1) ++ irqHeld kd).foldl (fun a b => a ||| 2 ^ b) 0

/-- IRQ_SET: each flag is set exactly as its event would, with no other effect. -/
def irqSet (page v : Nat) (s : State) : State :=
  let on := domainOn s page
  let s := forEach ((pageSources s page).filter (fun e => v.testBit e.1)) (fun e s => flagBit page e.2.1 e.2.2 s) s
  match kindOf page with
  | none => s
  | some kd => forEach ((irqHeld kd).filter (fun b => v.testBit b && (on || b == 63))) (irqHold page) s

/-- A write of IRQ_SET (IRQ_SET, R363). -/
def execIrqSet (page : PageNo) (value : Word) (s : State) : Out :=
  if (kindOf page.val).isNone then .next s else .next (irqSet page.val value.toNat s)

/-- VALID of SMX_ERR_INFO clears with the last of the three error flags. -/
def smxValid (s : State) : State :=
  if fbit s pgSmx Smx.smxEvtDecodeErr || fbit s pgSmx Smx.smxEvtTargetErr || fbit s pgSmx Smx.smxEvtBridgeErr then s
  else fset pgSmx Smx.smxErrInfoValid 0 s

/-- A write of IRQ_STAT clears the flags, in the header and at their sources. -/
def irqClear (page v : Nat) (s : State) : State :=
  let s := forEach ((pageSources s page).filter (fun e => v.testBit e.1)) (fun e s => unflagBit page e.2.1 e.2.2 s) s
  let held := fget s page Hdr.irqStatStat
  onlyIf (page == pgSmx) smxValid (fset page Hdr.irqStatStat (held - (held &&& v)) s)

/-! ## Register writes (R358, R5, R6) -/

/-- One field of a write, by its class. An S field that is not quiesced keeps its value. -/
def writeField (page off : Nat) (v : Nat) (e : Fld × Nat) (s : State) : State :=
  let (f, i) := e
  let x := v / 2 ^ f.lo % 2 ^ f.w
  let bad := x < f.min || f.max < x
  let s := if bad && (f.cls == .s || f.cls == .g || f.cls == .l) then errReserved page off s else s
  match f.cls with
  | .ro | .wo | .w1s => s
  | .w1c => if statusOn s page then fset page f (fget s page f i - (fget s page f i &&& x)) s i else s
  | .l => if bad then s else fset page f x s i
  | .g =>
    if f.lk && lcLocked s then pageErr page Hdr.pageErrLkWrite off s
    else if bad then s
    else sset page f x s i
  | .s =>
    if fbit s page Hdr.pageStatQuiesced then (if bad then s else fset page f x s i)
    else if x = fget s page f i then s
    else pageErr page Hdr.pageErrStaticWrite off s

/-- Every writable field of a register, each under its own class. A value that a Reservation Table entry's table calls
"reserved (BAD_ENTRY)" is stored and fails at ADMIT (R206), with no RESERVED_ENC of R6 (DESIGN CHOICE, log entry 119). -/
def plainWrite (page off v : Nat) (s : State) : State :=
  forEach (fieldsAt s page off) (writeField page off v) s

/-- ARM and DISARM in one register (R371). -/
def armWrite (v : Nat) (arm disarm : State → State) (s : State) : State :=
  onlyIf (v.testBit 0) arm (onlyIf (v.testBit 1) disarm s)

/-- PAGE_CTRL (R357, R360, R361): COMMIT and ABORT together act as ABORT, GC_JOIN and GC_LEAVE as GC_LEAVE. Membership comes
before the commit: a COMMIT beside GC_LEAVE stands. -/
def writeCtrl (page v master : Nat) (s : State) : State :=
  let s := if v.testBit 4 then leaveGc page s else onlyIf (v.testBit 3) (joinGc page) s
  let s := if v.testBit 1 then abortPage page s else onlyIf (v.testBit 0) (softCommit page) s
  setQuiesce page (v.testBit 2) master s

/-- The common header (R357). -/
def writeHeader (page off v master : Nat) (kd : Kind) (s : State) : State :=
  match off with
  | 0x10 => writeCtrl page v master s
  | 0x20 =>
    let clear (f : Fld) (s : State) : State := onlyIf (v.testBit f.lo) (fset page f 0) s
    clear Hdr.pageErrStaticWrite (clear Hdr.pageErrReservedEnc (clear Hdr.pageErrLkWrite (clear Hdr.pageErrStateWrite s)))
  | 0x28 => irqClear page v s
  | 0x30 => fset page Hdr.irqEnEn (v &&& irqNamed kd) s
  | 0x38 => irqSet page v s
  | _ => s

/-- GROUP_CFG (R6, R123): TIER with members above 15 is a reserved combination that leaves the whole word. -/
def writeGroup (off v : Nat) (s : State) : State :=
  let g := (off - 0x800) / 8
  let type := if Fg.groupCfgType.max < v / 2 ^ 32 % 8 then sget s pgFg Fg.groupCfgType g else v / 2 ^ 32 % 8
  let s := onlyIf (Fg.groupCfgType.max < v / 2 ^ 32 % 8) (errReserved pgFg off) s
  if type = 3 ∧ 2 ^ 16 ≤ v % 2 ^ 32 then errReserved pgFg off s
  else sset pgFg Fg.groupCfgType type (sset pgFg Fg.groupCfgMembers v s g) g

/-- PWR_CMD (R290 to R304). -/
def writePwrCmd (v : Nat) (s : State) : State :=
  let p : Port := ⟨v / 2 ^ 8 % 256, Nat.mod_lt _ (by decide)⟩
  match v % 16 with
  | 0 => s
  | 1 => nextOr (execSetLevel ⟨v / 2 ^ 4 % 4, Nat.mod_lt _ (by decide)⟩ s) s
  | 2 => nextOr (execNiSleep p s) s
  | 3 => nextOr (execNiWake p s) s
  | 4 => nextOr (execFabSleep s) s
  | 5 => nextOr (execFabWake s) s
  | _ => errReserved pgPower Pwr.pwrCmdCmd.off s

/-- ART_CMD (R232). -/
def writeArtCmd (v : Word) (s : State) : State :=
  if v.getLsbD 0 then artCommand .validate v s
  else if v.getLsbD 1 then artCommand .copy v s
  else if v.getLsbD 2 then artCommand .clear v s
  else s

/-- ARTW_W0 to ARTW_W2 fill the holding buffer; a reserved CCLS or ORD keeps its bits there (R231). -/
def writeArtw (off : Nat) (v : Word) (s : State) : State :=
  let h := s.artHold
  let field (f : Fld) (old new : Nat) : Nat :=
    let x := new / 2 ^ f.lo % 2 ^ f.w
    (if f.max < x then old / 2 ^ f.lo % 2 ^ f.w else x) * 2 ^ f.lo
  let bad (f : Fld) : Bool := f.max < v.toNat / 2 ^ f.lo % 2 ^ f.w
  let l := Artw.fields.filter (fun f => f.off == off)
  let w (old : Word) : Word := BitVec.ofNat 64 ((l.map (fun f => field f old.toNat v.toNat)).sum)
  let s := onlyIf (l.any bad) (errReserved pgArtw off) s
  { s with artHold :=
      if off = 0x48 then { h with w0 := w h.w0 } else if off = 0x50 then { h with w1 := w h.w1 } else { h with w2 := v } }

/-- RSV_CFG: a change made while quiesced is re-checked at the release (R210). -/
def writeRsvCfg (v : Nat) (s : State) : State :=
  let t := plainWrite pgRsv 0x40 v s
  let same (f : Fld) : Bool := fget s pgRsv f == fget t pgRsv f
  if same Rsv.rsvCfgALevel && same Rsv.rsvCfgMemGuar && same Rsv.rsvCfgNcacheGuar then t else { t with rsvCfgChg := true }

/-- TS_PTR: SKIPS counts skips of the index at NEXT. -/
def writePtr (v : Nat) (s : State) : State :=
  let t := plainWrite pgStrip 0x58 v s
  if fget t pgStrip Ts.tsPtrNext = fget s pgStrip Ts.tsPtrNext then t else fset pgStrip Ts.tsStatSkips 0 t

/-- VC_CTRL: VC_EN under its class, 0 leaving the cache empty (R228), and FLUSH. -/
def writeVcCtrl (p : Nat) (v : Nat) (s : State) : State :=
  let s := plainWrite (pgNi p) 0x1c8 v s
  let off := !fbit s (pgNi p) Ni.vcCtrlVcEn
  onlyIf (v.testBit 0 || off) (fun s => staleVerdicts p (modNi p (fun n => { n with cache := [] }) s)) s

/-- ISO_CTRL: ISOLATE, or READMIT with NEW_ACK; both act as ISOLATE alone (R245, R253). -/
def writeIsoCtrl (p : Port) (v : Nat) (s : State) : State :=
  if v.testBit 0 then nextOr (execIsolate p s) s
  else onlyIf (v.testBit 1) (fun s => nextOr (execReadmit p (v.testBit 2) s) s) s

/-- TIMERk_CTRL (R143, R371). -/
def writeTimer (k : Nat) (v : Word) (s : State) : State :=
  armWrite v.toNat (timerArm k) (timerDisarm k) (timerFields k v s)

/-- FQ_CMD (R184, R192). -/
def writeFqCmd (h : HostId) (v : Nat) (s : State) : State :=
  let s := onlyIf (v.testBit 0) (fun s => nextOr (execReload h s) s) s
  let s := onlyIf (v.testBit 1) (fun s => nextOr (execClrMax h s) s) s
  onlyIf (v.testBit 2) (fun s => nextOr (execClrAllMax h s) s) s

/-- LDG_CMD (R335): READOUT, then POP when one write sets both (DESIGN CHOICE, log entry 148). -/
def writeLedgerCmd (v : Nat) (s : State) : State :=
  let s := onlyIf (v.testBit 0) (fun s => nextOr (execReadout s) s) s
  onlyIf (v.testBit 1) (fun s => nextOr (execPop s) s) s

/-- A write to the list of an NI page in the cycle of the t3 that made it pending: the list stands as it was, and what is
written stays staged behind it (R362, log entry 107). -/
def writeBehind (p off v : Nat) (s : State) : State :=
  let shl (e : Nat × Nat) : Bool := keyPage e.1 == pgNi p && isShlKey e.1
  let list := s.staged.filter shl
  let t := plainWrite (pgNi p) off v (forEach (ni s p).shlWrote (fun e => stageKey e.1 e.2) s)
  let listed (k : Nat) : Nat := tget (tget (resetAt k) s.regs k) list k
  let after (k : Nat) : Nat := tget (tget (resetAt k) s.regs k) t.staged k
  let keys := (((t.staged.filter shl) ++ list).map (·.1)).eraseDups.filter (fun k => after k != listed k)
  modNi p (fun n => { n with shlWrote := keys.map (fun k => (k, after k)) })
    { t with staged := list.foldl (fun l e => tins l e.1 e.2) (t.staged.filter (fun e => !shl e)) }

/-- t3 of this cycle has made the list of an NI pending. -/
def pendedNow (s : State) (p : Nat) : Bool :=
  s.time.gcDone.any (fun l => l.any (fun r => r.page == pgNi p && !r.pend))

/-- The registers of an NI page that have a rule of their own. -/
def writeNi (p off : Nat) (v : Word) (s : State) : State :=
  let pt : Port := ⟨p % 256, Nat.mod_lt _ (by decide)⟩
  if off = 0x1c8 then writeVcCtrl p v.toNat s
  else if off = 0x200 then writeIsoCtrl pt v.toNat s
  else if 0x400 ≤ off ∧ off < 0x800 then
    nextOr (execSadWrite pt ⟨(off - 0x400) / 16 % 64, Nat.mod_lt _ (by decide)⟩ (off % 16 == 8) v s) s
  else if (off = 0x100 ∨ off = 0x108 ∨ (0x800 ≤ off ∧ off < 0xC00)) ∧ (ni s p).shlPend then
    if pendedNow s p then writeBehind p off v.toNat s else flag (pgNi p) Ni.shlEvtStageBusy s
  else plainWrite (pgNi p) off v.toNat s

/-- The registers of a flow-queue window that have a rule of their own. -/
def writeFqw (h off : Nat) (v : Word) (s : State) : State :=
  let ho : HostId := ⟨h % 16, Nat.mod_lt _ (by decide)⟩
  match off with
  | 0x70 => nextOr (execClsW1 ho v s) s
  | 0x88 => beforeTest h 0x88 v (plainWrite (pgFqw h) 0x88 v.toNat) s
  | 0x90 => nextOr (execFqRate ho v s) s
  | 0x98 => nextOr (execFqDepth ho v s) s
  | 0xa0 => nextOr (execFqQuota ho v s) s
  | 0xa8 => writeFqCmd ho v.toNat s
  | 0xd0 => readEffect (pgFqw h) 0xd0 s
  | _ => plainWrite (pgFqw h) off v.toNat s

/-- The writes that followed an admission test act at the next edge, in their order, each on the queue that FQ_SEL selected
(R185). -/
def writeLate (h : Nat) (s : State) : State :=
  let w := pgFqw h
  let sel := selQ s w
  let l := (ni s (hostPort h)).lateWrites
  let s := modNi (hostPort h) (fun n => { n with lateWrites := [] }) s
  fset w Fqw.fqSelIndex sel
    (forEach l (fun e s => writeFqw h e.2.1 e.2.2 (fset w Fqw.fqSelIndex e.1 s)) s)

/-- The registers of the Time Unit page that have a rule of their own. -/
def writeTime (off : Nat) (v : Word) (s : State) : State :=
  match off with
  | 0x60 => nextOr (execMtimeSet v s) s
  | 0x70 => nextOr (execSwFreq v s) s
  | 0x78 => nextOr (execSwPhase v s) s
  | 0x108 => writeTimer 0 v s
  | 0x118 => writeTimer 1 v s
  | 0x128 => writeTimer 2 v s
  | 0x138 => writeTimer 3 v s
  | _ => plainWrite pgTime off v.toNat s

/-- The registers of the ART control page that have a rule of their own. -/
def writeArt (off : Nat) (v : Word) (s : State) : State :=
  if off = 0x40 then armWrite v.toNat armSwap disarmSwap s
  else if off = 0x68 then writeArtCmd v s
  else if off = 0x80 then nextOr (execArtCount v s) s
  else if 0x208 ≤ off ∧ off < 0x300 ∧ off % 16 = 8 then
    nextOr (execDmW1 ⟨(off - 0x208) / 16 % 16, Nat.mod_lt _ (by decide)⟩ v s) s
  else plainWrite pgArt off v.toNat s

end Sys2Proof.Machine
end

