-- ==== Sys2Proof/Machine/Smx.lean ====
section
/-! DEFINITION. The Service Matrix (spec/15 R346 to R355): register writes by page, the address map, arbitration and order,
what each target does with an access, the SMX bridge, and the Safelight port (spec/14 R345). -/

namespace Sys2Proof.Machine

/-! ## Register writes by page -/

/-- BOOT_DONE takes effect (R354). -/
def bootDone (s : State) : State :=
  if fbit s pgSmx Smx.smxBootBootDone then s
  else flag pgSmx Smx.smxEvtBootEnd (fset pgSmx Smx.smxBootBootDone 1 s)

/-- A write of BOOT_DONE (BOOT_DONE, R354). -/
def execBootDone (s : State) : Out := .next (bootDone s)

/-- HP_CFG: a change of PWR_WARN_FILTER_US acts from the next fall of pwr_warn_n on (R265). -/
def writeHpCfg (v : Nat) (s : State) : State :=
  let t := plainWrite pgFg 0x300 v s
  let v := fget t pgFg Fg.hpCfgPwrWarnFilterUs
  if v = fget s pgFg Fg.hpCfgPwrWarnFilterUs then t
  else { t with slots := { t.slots with filters := (s.us, v) :: t.slots.filters } }

/-- The registers of the Fabric Global page that have a rule of their own. -/
def writeFg (off : Nat) (v : Word) (s : State) : State :=
  if off = 0x80 then armWrite v.toNat armGc disarmGc s
  else if off = 0x100 then armWrite v.toNat armFlip disarmFlip s
  else if off = 0x300 then writeHpCfg v.toNat s
  else if 0x800 ≤ off ∧ off < 0x800 + 8 * 127 then writeGroup off v.toNat s
  else plainWrite pgFg off v.toNat s

/-- Those of the SMX page: BOOT_DONE, and SMX_EVT with VALID. -/
def writeSmx (off : Nat) (v : Word) (s : State) : State :=
  if off = 0x48 then onlyIf (v.getLsbD 0) bootDone s
  else if off = 0x50 then smxValid (plainWrite pgSmx off v.toNat s)
  else plainWrite pgSmx off v.toNat s

/-- Those of the Power page. -/
def writePower (off : Nat) (v : Word) (s : State) : State :=
  if off = 0x40 then writePwrCmd v.toNat s
  else if off = 0x88 then nextOr (execSleepOk v s) s
  else if off = 0x98 then onlyIf (v.getLsbD 0) (fun s => nextOr (execConfigValid s) s) s
  else plainWrite pgPower off v.toNat s

/-- Those of the Test Strip page. -/
def writeStrip (off : Nat) (v : Word) (s : State) : State :=
  if off = 0x58 then writePtr v.toNat s
  else if off = 0x90 then onlyIf (v.getLsbD 0) (fun s => nextOr (execBurn s) s) s
  else plainWrite pgStrip off v.toNat s

/-- Those of the Life Cycle & Security page: LC_CMD, the transition before the nonce, and RMA_TOKEN. -/
def writeLc (off : Nat) (v : Word) (s : State) : State :=
  if off = 0x48 then
    let s := onlyIf (v.getLsbD 4) (fun s => nextOr (execLcRequest v s) s) s
    onlyIf (v.getLsbD 5) (fun s => nextOr (execNonceGen s) s) s
  else if 0x80 ≤ off ∧ off < 0xe0 then modLc (fun l => { l with token := tput 0 l.token ((off - 0x80) / 8) v }) s
  else plainWrite pgLc off v.toNat s

/-- Those of the Reservation Table page. -/
def writeRsv (off : Nat) (v : Word) (s : State) : State :=
  if off = 0x40 then writeRsvCfg v.toNat s
  else if off = 0x60 then
    if v.getLsbD 0 then nextOr (execRsvAdmit v s) s else onlyIf (v.getLsbD 1) (fun s => nextOr (execRsvRelease v s) s) s
  else plainWrite pgRsv off v.toNat s

/-- Those of the check-plane page: CLR_MAX clears every WAIT_MAX. -/
def writeCp (off : Nat) (v : Word) (s : State) : State :=
  if off = 0xc0 then
    onlyIf (v.getLsbD 0) (fun s => forEach (List.range 8) (fun i s => fset pgCp Cp.cpTreeWaitMax 0 s i) s) s
  else plainWrite pgCp off v.toNat s

/-- Those of the ART window page. -/
def writeArtWin (off : Nat) (v : Word) (s : State) : State :=
  if off = 0x48 ∨ off = 0x50 ∨ off = 0x58 then writeArtw off v s
  else if off = 0x60 then nextOr (execArtwW3 v s) s
  else plainWrite pgArtw off v.toNat s

/-- A register write by an SMX master: every writable field in one cycle, each under its own class (R350, R358); a
reserved offset ignores it (R5). -/
def regWrite (page off : Nat) (v : Word) (master : Nat) (s : State) : State :=
  match kindOf page with
  | none => s
  | some kd =>
    if off < 0x40 then writeHeader page off v.toNat master kd s
    else if !pageHas s page off then s
    else
      match kd with
      | .fg => writeFg off v s
      | .time => writeTime off v s
      | .smx => writeSmx off v s
      | .power => writePower off v s
      | .strip => writeStrip off v s
      | .lc => writeLc off v s
      | .ledger => onlyIf (off == 0x48) (writeLedgerCmd v.toNat) (plainWrite page off v.toNat s)
      | .art => writeArt off v s
      | .artw => writeArtWin off v s
      | .rsv => writeRsv off v s
      | .cp => writeCp off v s
      | .router =>
        if off = 0x50 then nextOr (execRtData ⟨unitOf page % 64, Nat.mod_lt _ (by decide)⟩ v s) s
        else plainWrite page off v.toNat s
      | .ni => writeNi (unitOf page) off v s
      | .fqw => writeFqw (unitOf page) off v s

/-- A register write of the management CPU's primary port (REGISTER_WRITE, R358). An offset that is not a multiple of 8
reaches no register, and none is reached while the fabric is held in reset (R325). -/
def execRegisterWrite (page : PageNo) (off : BitVec 12) (value : Word) (s : State) : Out :=
  if (kindOf page.val).isNone || s.strip.deadUntilReset then .next s
  else if off.toNat % 8 ≠ 0 then .next s
  else .next (regWrite page.val off.toNat value 0 s)

/-! ## The address map (R347, R353, R355) -/

def remap (s : State) : Bool := fbit s pgSmx Smx.smxCfgRemap

/-- The target code of an address, and the place within the target: a byte of the boot ROM or the working SRAM, an offset
into the configuration window, or the address itself at the bridge. -/
def smxTarget (s : State) (addr : Word) : Nat × Nat :=
  let a := addr.toNat
  if a < 0x10000 then (if remap s then tgSram else tgRom, a)
  else if a < 0x40000 then (if remap s then (tgSram, a) else (tgDefault, a))
  else if 0x10000000 ≤ a ∧ a < 0x10040000 then
    let o := a - 0x10000000
    if remap s then (if o < 0x10000 then (tgRom, o) else (tgDefault, o)) else (tgSram, o)
  else if 0x40000000 ≤ a ∧ a < 0x44000000 then
    let o := a - 0x40000000
    match kindOf (o / 4096) with
    | none => (tgDefault, o)
    | some .time => (tgTime, o)
    | some .ledger => (tgLedger, o)
    | some .artw => (tgArtw, o)
    | some _ => (tgPages, o)
  else if a / 2 ^ 60 = 8 then (tgBridge, a)
  else (tgDefault, a)

/-- The target whose arbiter serves an access: the default target completes one on a path that is not connected (R348). -/
def smxArbiter (s : State) (a : SmxAccess) : Nat :=
  let t := (smxTarget s a.addr).1
  if connected a.master.val t then t else tgDefault

/-- The size rule of R350; the boot ROM and the working SRAM take any strobes. -/
def sizeOk (t : Nat) (a : SmxAccess) : Bool :=
  t == tgRom || t == tgSram || (a.addr.toNat % 8 == 0 && a.strobes == 0xFF)

/-- The registers that the Safelight port may not read in PRODUCTION (R345): RMA_TOKEN and the LDG_REC window. -/
def secretRead (t o : Nat) : Bool :=
  (t == tgPages && 0x5080 ≤ o && o < 0x50e0) || (t == tgLedger && 0x6400 ≤ o && o < 0x6ea0)

/-- The life-cycle state refuses a Safelight access (R345). -/
def slRefuses (s : State) (a : SmxAccess) (t o : Nat) : Bool :=
  a.master == 2 && lcLocked s && (a.write || secretRead t o)

/-- CAUSE of the error response that an access gets before a target acts on it; none when its target takes it. -/
def smxCause (s : State) (a : SmxAccess) : Option Nat :=
  let (t, o) := smxTarget s a.addr
  if a.master == 4 && fbit s pgSmx Smx.smxBootBootDone then some ceBootLock
  else if slRefuses s a t o then some ceState
  else if t = tgDefault then some ceDecode
  else if !connected a.master.val t then some ceNotConnected
  else if t = tgRom ∧ a.write then some ceReadOnly
  else if !sizeOk t a then some ceSize
  else if t = tgSram ∧ !a.write ∧ a.ecc then some ceEcc
  else none

/-- The counts of R345: an access allowed in DEVELOP, an access refused by state. -/
def countSafelight (a : SmxAccess) (cause : Option Nat) (s : State) : State :=
  if a.master != 2 then s
  else if cause = some ceState then
    modLc (fun l => { l with slRefused := true })
      (flag pgLc Lc.lcEvtSafelightRefused (satAdd pgLc Lc.slCountSmxRefused 1 s))
  else
    modLc (fun l => { l with slRefused := false })
      (onlyIf (s.fuses.lc == lcDevelop) (satAdd pgLc Lc.slCountSmxAccesses 1) s)

/-- A register with a configuration field, outside the common header. -/
def holdsConfig (s : State) (page off : Nat) : Bool := 0x40 ≤ off && (fieldsAt s page off).any (fun e => isConfig e.1)

/-- A read of a configuration register of port `p`'s NI returns its image: the NI is off, or under test (R192, R300, R318). -/
def readsImage (s : State) (p : Nat) : Bool := isLive p && (!niPowered s p || (ni s p).underTest)

/-- The spine unit that a read of a register takes its word from, a bank on the left or a port's image section on the right
(R20, R305): the entry that ARTW_SEL or RSV_SEL selects, the ART control state, a router's registers and route-table words
while the router itself is not read, and what is read of an image (DEDUCED, log entry 127). -/
def spineUnit (s : State) (page off : Nat) : Option (Nat ⊕ Nat) :=
  match kindOf page with
  | some .artw =>
    if 0x48 ≤ off ∧ off ≤ 0x60 then
      some (.inl (8 * fget s pgArtw Artw.artwSelSet + fget s pgArtw Artw.artwSelEntry / 16384))
    else none
  | some .rsv => if off = 0x50 ∨ off = 0x58 ∨ 0x70 ≤ off ∧ off ≤ 0x88 then some (.inl 16) else none
  | some .art => if holdsConfig s page off then some (.inl 17) else none
  | some .router =>
    let r := unitOf page % 64
    if fabOn s && !(router s r).underTest then none
    else if off = 0x50 then some (.inl (18 + rowOf r))
    else if off = Rtr.rtrCfgAdaptEn.off ∨ off = Rtr.linkCfgReplayTo.off then some (.inl 17)
    else none
  | some .ni => if readsImage s (unitOf page) && holdsConfig s page off then some (.inr (unitOf page)) else none
  | some .fqw =>
    let p := hostPort (unitOf page)
    if readsImage s p && holdsConfig s page off then some (.inr p) else none
  | _ => none

/-- What a failed unit of the spine brings (R306). -/
def failUnit : Nat ⊕ Nat → State → State
  | .inl b => failBank b
  | .inr p => loseImage p

/-- A read of a spine word that SECDED cannot correct: its unit fails, and the word is open (R305, log entry 127). -/
def spineRead (b : Nat ⊕ Nat) (m : Nat) (addr : Word) (s : State) : State :=
  let (d, s) := draw (failUnit b s)
  smxComplete m addr false (Config.badWord d) false s

/-- A target other than the bridge acts on an access and completes it (R350). -/
def smxTake (a : SmxAccess) (s : State) : State :=
  let (t, o) := smxTarget s a.addr
  let m := a.master.val
  let done (w : Word) (s : State) : State := smxComplete m a.addr a.write w false s
  if t = tgRom then done (Config.bootRom (o / 8)) s
  else if t = tgSram then
    if a.write then done 0 (sramWrite (o / 8 * 8) a.data a.strobes s) else done (sramWord s (o / 8 * 8)) s
  else if a.write then done 0 (regWrite (o / 4096) (o % 4096) a.data m s)
  else
    let t := readEffect (o / 4096) (o % 4096) s
    match (spineUnit s (o / 4096) (o % 4096)).filter (fun _ => a.ecc) with
    | some b => spineRead b m a.addr t
    | none => done (regWord s (o / 4096) (o % 4096)) t

/-! ## The bridge (R355) -/

/-- Destination port of a bridge address. -/
def bridgePort (addr : Word) : Nat := addr.toNat / 2 ^ 52 % 256

/-- A service port's NI can take a request from the unit behind it. -/
def servicePortTakes (s : State) (p : Nat) : Bool :=
  niOn s p && !isolated s p && 0 < reqAvail s p && (freeTag s p).isSome

/-- The bridge acts on an access now: it answers an address of a tied-off port and every access after a failed F3 wake
(R304); otherwise port 110 must have room. In F3 and while it wakes an access waits. -/
def bridgeActs (s : State) (a : SmxAccess) : Bool :=
  if fstate s = 2 then fbit s pgPower Pwr.pwrStatFabWakeFailed
  else if fstate s = 3 then false
  else !isLive (bridgePort a.addr) || servicePortTakes s portBridge

/-- What waits at the bridge starts the F3 wake, and is a demand at NI 110 (R300, R304, R355). -/
def bridgeDemand (s : State) : State :=
  let s := onlyIf (fstate s == 2 && !fbit s pgPower Pwr.pwrStatFabWakeFailed) startF3Wake s
  onlyIf (!niOn s portBridge || (ni s portBridge).entry.isSome)
    (fun s => nextOr (execEpWakeReq ⟨portBridge, by decide⟩ s) s) s

/-- The request of a service access (R345, R355): MGT to SVC and HOST ports, REQ MemRd and RWD MemWrPtl to any other. -/
def accessRequest (mgt : Bool) (port : Nat) (addr : Nat) (write : Bool) (data : Word) (ord : Nat) : Submission :=
  let lane := if mgt then 0 else addr / 8 % 8
  { hdr := { (default : Header) with
      mcls := if mgt then 6 else if write then 1 else 0
      opc := if mgt then (if write then 1 else 0) else if write then BitVec.ofNat 8 opMemWrPtl else BitVec.ofNat 8 opMemRd
      tgt := BitVec.ofNat 8 port, wp0 := 0xFF, wp1 := 0xFF, wp2 := 0xFF
      ord := BitVec.ofNat 2 ord
      addr := BitVec.ofNat 52 (if mgt then addr / 8 * 8 else addr / 64 * 64)
      byteEn := if write then BitVec.ofNat 64 (0xFF * 2 ^ (8 * lane)) else 0 }
    kind := 0, etag := 0, ldid := 0, ndrExp := false
    data := if write then [BitVec.ofNat 512 (data.toNat * 2 ^ (64 * lane))] else []
    framed := true }

/-- A service access enters the NI of its port with a MID of its own, and CHECK begins. -/
def issueAccess (p tag mid : Nat) (sub : Submission) (e : Entry → Entry) (s : State) : State :=
  let h := { leg0Header s p tag sub with mid := BitVec.ofNat 12 mid }
  let s := wakeN1 p s
  let x : Entry := e { st := .check, hdr := h, data := fitData h sub.data, t0ns := nowNs s }
  checkRequest p tag h 0 (takeEntry p tag x s)

/-- A bridge access joins its master's completion buffer. -/
def pushBridge (b : BridgeAcc) (s : State) : State := { s with smx := { s.smx with bridge := s.smx.bridge ++ [b] } }

/-- The bridge answers an access itself, with cause and STATUS, in its master's order. -/
def bridgeRefuse (a : SmxAccess) (cause status : Nat) (s : State) : State :=
  let m := a.master.val
  drainBridge m (pushBridge { master := m, addr := a.addr, write := a.write, tag := 0, result := some (0, some (cause, status)) } s)

/-- The bridge acts on an access. -/
def bridgeTake (a : SmxAccess) (s : State) : State :=
  let q := bridgePort a.addr
  let m := a.master.val
  if fstate s = 2 then bridgeRefuse a ceState 0 s
  else if !isLive q then bridgeRefuse a ceBridge stDecodeErr s
  else
    match freeTag s portBridge with
    | none => s
    | some tag =>
      let mgt := portType q == .svc || portType q == .host
      let sub := accessRequest mgt q (a.addr.toNat % 2 ^ 52) a.write a.data 2
      issueAccess portBridge tag (masterMid m) sub (fun e => { e with smx := true })
        (pushBridge { master := m, addr := a.addr, write := a.write, tag := tag } s)

/-! ## Arbitration and order (R346, R351, R352, R354, R359) -/

/-- Accesses of a master that are outstanding. -/
def accessesOf (s : State) (m : Fin 5) : Nat :=
  (s.smx.waiting.filter (fun a => a.master == m)).length + (s.smx.bridge.filter (fun b => b.master == m.val)).length

/-- The same master has an earlier access outstanding at a different target. -/
def orderHeld (s : State) (a : SmxAccess) : Bool :=
  let t := smxArbiter s a
  s.smx.waiting.any (fun b => b.master == a.master && smxArbiter s b != t)
    || (t != tgBridge && s.smx.bridge.any (fun b => b.master == a.master.val))

/-- The arbiters grant a master: before BOOT_DONE only BOOT, and SAFELIGHT unless the part is locked (R354); while the SMX
page is quiesced only the master that quiesced it (R359). -/
def masterGranted (s : State) (m : Fin 5) : Bool :=
  (fbit s pgSmx Smx.smxBootBootDone || m == 4 || (m == 2 && !lcLocked s))
    && (!fbit s pgSmx Hdr.pageCtrlQuiesce || m.val == s.smx.quiescer)

/-- The first waiting access of a master. -/
def headAccess (s : State) (m : Fin 5) : Option SmxAccess := s.smx.waiting.find? (fun a => a.master == m)

/-- The access that a master presents: no earlier access at another target is outstanding. -/
def presented (s : State) (m : Fin 5) : Option SmxAccess :=
  (headAccess s m).filter (fun a =>
    masterGranted s m && (smxArbiter s a == tgBridge || s.smx.bridge.all (fun b => b.master != m.val)))

/-- Its target can act on it. -/
def grantable (s : State) (a : SmxAccess) : Bool :=
  smxArbiter s a != tgBridge || (smxCause s a).isSome || bridgeActs s a

/-- The master that a target's arbiter grants in this cycle: round robin in ascending index. -/
def winnerAt (s : State) (t : Nat) : Option SmxAccess :=
  let first := tget 0 s.smx.rr t
  (List.range 5).findSome? (fun k =>
    (presented s ⟨(first + k) % 5, Nat.mod_lt _ (by decide)⟩).filter (fun a =>
      smxArbiter s a == t && grantable s a))

/-- Removes the first access of a master. -/
def dropAccess (m : Fin 5) : List SmxAccess → List SmxAccess
  | [] => []
  | a :: l => if a.master = m then l else a :: dropAccess m l

/-- A granted access takes effect; an error response at the bridge keeps its place in the master's order (R352). -/
def grantAccess (t : Nat) (a : SmxAccess) (s : State) : State :=
  let s := { s with smx := { s.smx with
    waiting := dropAccess a.master s.smx.waiting, rr := tput 0 s.smx.rr t ((a.master.val + 1) % 5) } }
  let cause := smxCause s a
  let s := countSafelight a cause s
  match cause with
  | some c =>
    if t = tgBridge then bridgeRefuse a c 0 s else smxError a.master.val a.addr a.write (smxTarget s a.addr).1 c 0 s
  | none => if t = tgBridge then bridgeTake a s else smxTake a s

/-- Some master presents an access that waits at the bridge. -/
def bridgeWaits (s : State) : Bool :=
  (List.finRange 5).any (fun m => (presented s m).any (fun a => !grantable s a))

/-- One cycle of the matrix: each target grants one access, and what waits at the bridge is a demand. -/
def smxCycle (s : State) : State :=
  if s.strip.deadUntilReset || s.smx.waiting.isEmpty then s
  else
    let l := (List.range 8).filterMap (fun t => (winnerAt s t).map (fun a => (t, a)))
    let s := l.foldl (fun s e => grantAccess e.1 e.2 s) s
    onlyIf (bridgeWaits s) bridgeDemand s

/-- A master issues an access. Each holds up to four outstanding and issues no fifth (R346). -/
def issueSmx (a : SmxAccess) (s : State) : State :=
  if s.strip.deadUntilReset || 4 ≤ accessesOf s a.master then s
  else
    let s := onlyIf (orderHeld s a) (wrapAdd pgSmx Smx.smxCountOrderHolds 1) s
    smxCycle { s with smx := { s.smx with waiting := s.smx.waiting ++ [a] } }

/-- A master's access is decoded, arbitrated and completed (SMX_ACCESS, R351). -/
def execSmxAccess (a : SmxAccess) (s : State) : Out := .next (issueSmx a s)

/-- A master's access to the bridge (SMX_BRIDGE, R355). -/
def execSmxBridge (a : SmxAccess) (s : State) : Out :=
  if (smxTarget s a.addr).1 = tgBridge then .next (issueSmx a s) else .next s

/-! ## F3 wake failure -/

/-- A master's bridge accesses that wait in front of its others complete with cause STATE (R355). -/
def failBridge (m : Fin 5) (s : State) : State :=
  let mine := s.smx.waiting.filter (fun a => a.master == m)
  let out := mine.takeWhile (fun a => smxArbiter s a == tgBridge && (smxCause s a).isNone)
  if !masterGranted s m then s
  else
    out.foldl (fun s a =>
      bridgeRefuse a ceState 0 (countSafelight a none
        { s with smx := { s.smx with waiting := dropAccess m s.smx.waiting } })) s

/-- Power-good does not arrive within WAKE_TO_US (FAB_WAKE_FAILED, R304). -/
def execFabWakeFailed (s : State) : Out :=
  if s.strip.deadUntilReset || fstate s != 3 || s.power.supply || s.us - s.power.wakeUs < s.power.wakeTo then .next s
  else
    let s := fset pgPower Pwr.pwrStatFabWakeFailed 1 (fset pgPower Pwr.pwrStatFstate 2 s)
    .next (forEach (List.finRange 5) failBridge (flag pgPower Pwr.pwrEvtWakeFailed s))

/-! ## The Safelight port (R345) -/

/-- A fabric-memory access enters the NI of port 18; it waits while that NI cannot take it. -/
def slIssue (addr data : Word) (write : Bool) (s : State) : State :=
  match (if servicePortTakes s portSafelight then freeTag s portSafelight else none) with
  | none => modLc (fun l => { l with slWait := some (addr, data, write) }) s
  | some tag =>
    let a : BitVec 52 := addr.extractLsb' 0 52
    let sub := accessRequest false (Config.slTarget a).toNat a.toNat write data (Config.slOrd a).val
    issueAccess portSafelight tag (masterMid 2) sub (fun e => { e with sl := some addr })
      (modLc (fun l => { l with slWait := none }) s)

/-- The access that waits at port 18 tries again; it is a demand at an NI that sleeps (R300). -/
def slRetry (s : State) : State :=
  match s.lc.slWait with
  | none => s
  | some (addr, data, write) =>
    let s := onlyIf (!niOn s portSafelight || (ni s portSafelight).entry.isSome)
      (fun s => nextOr (execEpWakeReq ⟨portSafelight, by decide⟩ s) s) s
    slIssue addr data write s

/-- An update of SL_CTRL with start = 1 issues the access that SL_ADDR and SL_DATA describe. -/
def slStart (write : Bool) (s : State) : State :=
  let s := modLc (fun l => { l with slDone := false, slStatus := 0, slRefused := false }) s
  let (addr, data) := (s.lc.slAddr, s.lc.slData)
  if addr.getLsbD 63 then
    issueSmx { master := 2, addr := (addr.extractLsb' 0 52).zeroExtend 64, write := write, data := data
               strobes := 0xFF, ecc := false } s
  else slRetry (modLc (fun l => { l with slWait := some (addr, data, write) }) s)

/-- Next state of the TAP controller (IEEE 1149.1). -/
def tapNext (t : Tap) (tms : Bool) : Tap :=
  match t with
  | .reset => if tms then .reset else .idle
  | .idle => if tms then .selectDr else .idle
  | .selectDr => if tms then .selectIr else .captureDr
  | .captureDr => if tms then .exit1Dr else .shiftDr
  | .shiftDr => if tms then .exit1Dr else .shiftDr
  | .exit1Dr => if tms then .updateDr else .pauseDr
  | .pauseDr => if tms then .exit2Dr else .pauseDr
  | .exit2Dr => if tms then .updateDr else .shiftDr
  | .updateDr => if tms then .selectDr else .idle
  | .selectIr => if tms then .reset else .captureIr
  | .captureIr => if tms then .exit1Ir else .shiftIr
  | .shiftIr => if tms then .exit1Ir else .shiftIr
  | .exit1Ir => if tms then .updateIr else .pauseIr
  | .pauseIr => if tms then .exit2Ir else .pauseIr
  | .exit2Ir => if tms then .updateIr else .shiftIr
  | .updateIr => if tms then .selectDr else .idle

/-- Bits of the data register that an instruction selects (R345). -/
def drBits (ir : Nat) : Nat := match ir with | 0 => 64 | 1 => 64 | 2 => 8 | 3 => 8 | _ => 1

/-- What Capture-DR loads. What SL_CTRL and the bits of SL_STATUS without a field capture is free (log entry 93). -/
def drCapture (s : State) : Word :=
  let l := s.lc
  match l.slIr with
  | 0 => l.slAddr
  | 1 => l.slData
  | 2 => (Config.slCapture s.free).zeroExtend 64
  | 3 => BitVec.ofNat 64 (l.slDone.toNat + 2 * (l.slStatus % 16) + 32 * l.slRefused.toNat
      + 64 * ((Config.slCapture s.free).toNat / 64))
  | _ => 0

/-- A shift by one: the bit at tdi enters a register of `n` bits at its top. -/
def shiftIn (n : Nat) (r : Word) (tdi : Bool) : Word :=
  (r >>> 1) ||| (if tdi then BitVec.ofNat 64 (2 ^ (n - 1)) else 0)

/-- What the rising edge of a TAP clock does in the state in which it comes. -/
def tapRise (tdi : Bool) (s : State) : State :=
  let l := s.lc
  match l.tap with
  | .captureIr => modLc (fun l => { l with irShift := BitVec.ofNat 64 (1 + 4 * Config.irCapture.toNat) }) s
  | .shiftIr => modLc (fun l => { l with irShift := shiftIn 4 l.irShift tdi }) s
  | .captureDr => modLc (fun l => { l with drShift := drCapture s }) (draw s).2
  | .shiftDr => modLc (fun l => { l with drShift := shiftIn (drBits l.slIr) l.drShift tdi }) s
  | _ => s

/-- What the falling edge does in the state then reached: updates, and the bit at tdo, which only a shift state drives.
Values 0x4 to 0xE select BYPASS. -/
def tapFall (s : State) : State :=
  let s := modLc (fun l => { l with
    tdo := match l.tap with
      | .shiftIr => some (l.irShift.getLsbD 0)
      | .shiftDr => some (l.drShift.getLsbD 0)
      | _ => none }) s
  match s.lc.tap with
  | .reset => modLc (fun l => { l with slIr := 0xF }) s
  | .updateIr => modLc (fun l => { l with slIr := if l.irShift.toNat < 4 then l.irShift.toNat else 0xF }) s
  | .updateDr =>
    match s.lc.slIr with
    | 0 => modLc (fun l => { l with slAddr := l.drShift }) s
    | 1 => modLc (fun l => { l with slData := l.drShift }) s
    | 2 => onlyIf (s.lc.drShift.getLsbD 0) (slStart (s.lc.drShift.getLsbD 1)) s
    | _ => s
  | _ => s

/-- One TAP clock, with the levels of tms and tdi at its rising edge. -/
def tapClock (s : State) (c : Bool × Bool) : State :=
  tapFall (modLc (fun l => { l with tap := tapNext l.tap c.1 }) (tapRise c.2 s))

/-- The levels of tms and tdi at each of `n` clocks. -/
def tapLevels (n tms tdi : Nat) : List (Bool × Bool) := (List.range n).map (fun k => (tms.testBit k, tdi.testBit k))

/-- Clocks of the Safelight TAP, one after the other (SL_CTRL, R345). In the reset that follows a scan it stands still. -/
def execSlCtrl (n tms tdi : Nat) (s : State) : Out :=
  if s.strip.deadUntilReset then .next s else .next ((tapLevels n tms tdi).foldl tapClock s)

end Sys2Proof.Machine
end

