-- ==== Sys2Proof/Machine/BringUp.lean ====
section
/-! DEFINITION. Bring-up (spec/16 R364, R365; spec/14 R333, R337, R339): AON power-on reset, the boot sequencer, and the fall
of test_mode (spec/13 R325). -/

namespace Sys2Proof.Machine

/-- The key that the ledger loads at AON power-on reset (R339): that of the last used slot in PRODUCTION, when its digest
matches. -/
def bootKey (f : Fuses) : Option Nat :=
  if f.lc == lcProduction && !f.ledgerAbsent && !f.wiped then f.slots.getLast?.filter (fun d => Config.keyIntact d)
  else none

/-- Each LK field takes its fused value in PRODUCTION and in an INVALID state (R364); its staged copy does with it. -/
def loadLk (s : State) : State :=
  if lcLocked s then
    forEach lkFields (fun e s => fset pgArt e.1 (tget 0 s.fuses.lk (fkey pgArt e.1 e.2)) s e.2) s
  else s

/-- The machine while reset is held: fuses, pins, the queue of commands and the counter of free values stay. -/
def heldInReset (s : State) : State :=
  { State.reset with
    pending := s.pending, free := s.free, pins := s.pins, fuses := s.fuses, ledger := {} }

/-- The hot-plug inputs at AON power-on reset (R262, R265): a group that is present is stable; the MEM NIs of an absent
one are isolated with cause ABSENT, and swept, since they hold nothing (log entry 106). -/
def resetSlots (s : State) : State :=
  let s := fset pgFg Fg.hpStateStable s.pins.present.toNat (fset pgFg Fg.hpStateFuse s.pins.fuse.toNat s)
  let absent (p : Nat) (s : State) : State :=
    let s := fset (pgNi p) Ni.isoStatCause (2 ^ cAbsent) (fset (pgNi p) Ni.isoStatSwept 1 s)
    modNi p (fun n => { n with diverted := true }) (fset (pgNi p) Ni.isoStatIsolated 1 s)
  forEach ((List.range 32).filter (fun c => !s.pins.present.getLsbD c)) (fun c s => forEach (slotPorts c) absent s) s

/-- Step B0 of R365: fuses load, and the ledger files its BOOT record. READABLE and RECORD_READY reset to 0: an unsigned
record is readable from the first cycle on (DEDUCED, log entry 117). -/
def aonReset (s : State) : State :=
  let (d, t) := draw (heldInReset s)
  let t := { t with fuses := { t.fuses with bootCount := min (t.fuses.bootCount + 1) 8191 } }
  let t := loadLk { resetSlots t with ledger := { nonce := d, key := bootKey t.fuses } }
  let t := onlyIf (!lcValid t) (flag pgLc Lc.lcEvtLcInvalid) t
  if ledgerGone t then t else enqueue (bootRecord t) t

/-- AON power-on reset (AON_RESET, R365): B0, and the boot sequencer quiesces the SMX. -/
def execAonReset (s : State) : Out := .next (setQuiesce pgSmx true 4 (aonReset s))

/-- The boot sequencer has copied the loader and read it back: REMAP, the end of the quiesce, and BOOT_DONE (BOOT_COPY_DONE,
B1 to B3 of R365). -/
def execBootCopyDone (readBackOk : Bool) (s : State) : Out :=
  if fbit s pgSmx Smx.smxBootBootDone || s.strip.deadUntilReset then .next s
  else
    let s := { s with
      mem := s.mem.filter (fun c => 65536 ≤ c.1)
      smx := { s.smx with romCopied := true, copyBad := !readBackOk } }
    let s := onlyIf readBackOk (fset pgSmx Smx.smxCfgRemap 1) s
    .next (bootDone (setQuiesce pgSmx false 4 s))

/-- The fabric in reset until the next chip reset (R325). -/
def deadReset (s : State) : State := { heldInReset s with strip := { deadUntilReset := true } }

/-- test_mode falls (TEST_MODE_FALL, R325): after a clearing or a scan the fabric stays in reset. -/
def execTestModeFall (s : State) : Out :=
  let s := { s with pins := { s.pins with testMode := false } }
  if fbit s pgStrip Ts.tsScanClearing || fbit s pgStrip Ts.tsScanScanAllowed then
    .next (deadReset s)
  else .next s

end Sys2Proof.Machine
end

