-- ==== Sys2Proof/Machine/PortRead.lean ====
section
/-! DEFINITION. The target-only service ports: TIME (spec/05 R152), POWER (spec/12 R310) and LEDGER readout (spec/14 R336).
Their unit takes the packet at the front of a receive VC and answers it. -/

namespace Sys2Proof.Machine

/-- The port's unit sends a response; a malformed one is discarded and logged (R64). -/
def portAnswer (p : Nat) (h : Header) (data : List (BitVec 512)) (s : State) : State :=
  if malformedNi h then errNi eNiRefused p h s else pushReady p .built h data s

/-- MGT_CPL with PROTOCOL_ERR, whatever the request. -/
def portCpl (p : Nat) (h : Header) (s : State) : State :=
  portAnswer p { builtAnswer h stProtocol with mcls := 6, opc := BitVec.ofNat 8 mgtCpl } [] s

/-- What R19 does with a packet for a tied-off port, done by the unit of the port. -/
def portTiedOff (p : Nat) (h : Header) (s : State) : State :=
  let s := satAdd (pgRouter (p / 4)) Rtr.rtrErrCntTiedOff 1 (errNi eTiedOff p h s)
  if isAnswered h then pushAnswer p .built h stDecodeErr s else s

/-- An MGT_MSG is discarded and logged. -/
def portDiscard (p : Nat) (h : Header) (s : State) : State := errNi eSvcDiscard p h s

/-- Words at consecutive places of one DATA flit, the first in bytes 0 to 7. -/
def flitOf (l : List Word) : BitVec 512 := l.foldr (fun w d => d <<< (64 : Nat) ||| w.zeroExtend 512) 0

/-- The packet at the front of a receive VC that the unit takes, once complete: not while the NI is off, isolated or
quiesced, or its TEI down. -/
def portFront (s : State) (p v : Nat) : Option Header :=
  let l := (vcBuf s (niRxChan p) v).slots
  match packetsOf l with
  | (h, _, _, _) :: _ =>
    if niOn s p && delivers s p && !niQuiesced s p && endsTail (frontPacket l).1 then some h else none
  | [] => none

/-- A service port takes a packet: one of MGT requests acts as `mgt` says, an MGT_MSG is discarded, and the others are
handled as R19 gives; an MGT_CPL or MGT_CPLD, which the rules of the ports do not name, is one of them (DESIGN CHOICE, log
entry 138). -/
def portTake (p v : Nat) (mgt : Header → State → State) (s : State) : State :=
  match portFront s p v with
  | none => s
  | some h =>
    let s := consumePacket (niRxChan p) v 0 (wakeN1 p s)
    if h.mcls == 6 && (h.opc == 0 || h.opc == 1) then mgt h s
    else if h.mcls == 6 && h.opc == 2 then portDiscard p h s
    else portTiedOff p h s

/-- LEN = 0 at ADDR 0, the one read that TIME and POWER answer. -/
def readsZero (h : Header) : Bool := h.opc == 0 && h.len == 0 && h.addr == 0

/-- The TIME port (R152). -/
def timeAnswer (h : Header) (s : State) : State :=
  if readsZero h then portAnswer portTime (builtAnswer h stOk) [flitOf [regWord s pgTime 0x58, regWord s pgTime 0x50]] s
  else portCpl portTime h s

/-- The POWER port (R310). -/
def powerAnswer (h : Header) (s : State) : State :=
  if readsZero h then
    portAnswer portPower (builtAnswer h stOk)
      [flitOf ([0x50, 0x68, 0xa0, 0xa8, 0xb0, 0xb8].map (regWord s pgPower) ++ [s.mtime])] s
  else pushAnswer portPower .built h stProtocol s

/-- The bytes of the oldest readable record as a number, byte 0 lowest; zero when none is readable. -/
def readableBytes (s : State) : Nat :=
  match oldestRecord s with
  | some r => recBytes s r
  | none => 0

/-- The LEDGER readout port (R336). -/
def ledgerAnswer (h : Header) (s : State) : State :=
  if h.opc == 0 then
    portAnswer portLedger (builtAnswer h stOk)
      ((List.range (h.len.toNat + 1)).map (fun i => BitVec.ofNat 512 (readableBytes s / 2 ^ (8 * (h.addr.toNat + 64 * i))))) s
  else portCpl portLedger h s

/-- The TIME port answers a packet of a VC (TIME_PORT_READ, R152). -/
def execTimePortRead (vc : Vc) (s : State) : Out := .next (portTake portTime vc.val timeAnswer s)

/-- The POWER port answers a packet of a VC (POWER_PORT_READ, R310). -/
def execPowerPortRead (vc : Vc) (s : State) : Out := .next (portTake portPower vc.val powerAnswer s)

/-- The LEDGER readout port answers a packet of a VC (LEDGER_PORT_READ, R336); with the ledger fused out it handles every
packet as R19 does (R340). -/
def execLedgerPortRead (vc : Vc) (s : State) : Out :=
  if ledgerGone s then
    match portFront s portLedger vc.val with
    | none => .next s
    | some h => .next (portTiedOff portLedger h (consumePacket (niRxChan portLedger) vc.val 0 (wakeN1 portLedger s)))
  else .next (portTake portLedger vc.val ledgerAnswer s)

end Sys2Proof.Machine
end

