-- ==== Sys2Proof/Machine/Dispatch.lean ====
section
/-! DEFINITION. What each command does: one arm for each constructor of Instr, each one call of its meaning. -/

namespace Sys2Proof.Machine

/-- The effect of a command on everything but the queue. -/
def exec (i : Instr) (s : State) : Host.Outcome State Fault Refusal :=
  match i with
  | .aonReset => Sys2Proof.Machine.execAonReset s
  | .bootCopyDone readBackOk => Sys2Proof.Machine.execBootCopyDone readBackOk s
  | .bootDone => Sys2Proof.Machine.execBootDone s
  | .flitReceive ch err => Sys2Proof.Machine.execFlitReceive ch err s
  | .replay ch => Sys2Proof.Machine.execReplay ch s
  | .replayTo ch => Sys2Proof.Machine.execReplayTo ch s
  | .retrainDone ch replayOk => Sys2Proof.Machine.execRetrainDone ch replayOk s
  | .trainDone ch => Sys2Proof.Machine.execTrainDone ch s
  | .headArrive r inp vc => Sys2Proof.Machine.execHeadArrive r inp vc s
  | .buildStoreConsume r inp vc => Sys2Proof.Machine.execBuildStoreConsume r inp vc s
  | .flitGrant ch => Sys2Proof.Machine.execFlitGrant ch s
  | .starveLimit ch inp vc => Sys2Proof.Machine.execStarveLimit ch inp vc s
  | .absorb r inp vc => Sys2Proof.Machine.execAbsorb r inp vc s
  | .flipArm => Sys2Proof.Machine.execFlipArm s
  | .flipDisarm => Sys2Proof.Machine.execFlipDisarm s
  | .flipRearm => Sys2Proof.Machine.execFlipRearm s
  | .routeFlip => Sys2Proof.Machine.execRouteFlip s
  | .drainSample => Sys2Proof.Machine.execDrainSample s
  | .drainStall => Sys2Proof.Machine.execDrainStall s
  | .rtData r value => Sys2Proof.Machine.execRtData r value s
  | .teiRequest p sub => Sys2Proof.Machine.execTeiRequest p sub s
  | .artLookup engine bad17 badBank => Sys2Proof.Machine.execArtLookup engine s bad17 badBank
  | .verdictReturn p => Sys2Proof.Machine.execVerdictReturn p s
  | .admission p => Sys2Proof.Machine.execAdmission p s
  | .niInject p => Sys2Proof.Machine.execNiInject p s
  | .responseArrive p vc => Sys2Proof.Machine.execResponseArrive p vc s
  | .teiDeliver p => Sys2Proof.Machine.execTeiDeliver p s
  | .deliveryCredit p vc => Sys2Proof.Machine.execDeliveryCredit p vc s
  | .waypointAccept p vc => Sys2Proof.Machine.execWaypointAccept p vc s
  | .teiResponse p sub => Sys2Proof.Machine.execTeiResponse p sub s
  | .teiRelay p sub => Sys2Proof.Machine.execTeiRelay p sub s
  | .teiFetch p sub => Sys2Proof.Machine.execTeiFetch p sub s
  | .legacyTimeout p tag => Sys2Proof.Machine.execLegacyTimeout p tag s
  | .sadWrite p k word1 value => Sys2Proof.Machine.execSadWrite p k word1 value s
  | .clsW1 h value => Sys2Proof.Machine.execClsW1 h value s
  | .dmW1 k value => Sys2Proof.Machine.execDmW1 k value s
  | .tbRefLoss edges => Sys2Proof.Machine.execTbRefLoss s edges
  | .acquire lockUs => Sys2Proof.Machine.execAcquire s lockUs
  | .tbFrame cells => Sys2Proof.Machine.execTbFrame cells s
  | .codeLoss => Sys2Proof.Machine.execCodeLoss s
  | .acqFail => Sys2Proof.Machine.execAcqFail s
  | .align => Sys2Proof.Machine.execAlign s
  | .delayChange => Sys2Proof.Machine.execDelayChange s
  | .stepAnnounced => Sys2Proof.Machine.execStepAnnounced s
  | .slewStep => Sys2Proof.Machine.execSlewStep s
  | .swFreq value => Sys2Proof.Machine.execSwFreq value s
  | .swPhase value => Sys2Proof.Machine.execSwPhase value s
  | .swWdogExpired => Sys2Proof.Machine.execSwWdogExpired s
  | .mtimeSet value => Sys2Proof.Machine.execMtimeSet value s
  | .holdoverLong => Sys2Proof.Machine.execHoldoverLong s
  | .tbSnap => Sys2Proof.Machine.execTbSnap s
  | .timerArm k value => Sys2Proof.Machine.execTimerArm k value s
  | .timerDisarm k value => Sys2Proof.Machine.execTimerDisarm k value s
  | .timerRearm k value => Sys2Proof.Machine.execTimerRearm k value s
  | .timerFire k => Sys2Proof.Machine.execTimerFire k s
  | .evtLogPop => Sys2Proof.Machine.execEvtLogPop s
  | .timePortRead vc => Sys2Proof.Machine.execTimePortRead vc s
  | .refillTick => Sys2Proof.Machine.execRefillTick s
  | .fqRate h value => Sys2Proof.Machine.execFqRate h value s
  | .fqDepth h value => Sys2Proof.Machine.execFqDepth h value s
  | .reload h => Sys2Proof.Machine.execReload h s
  | .clrMax h => Sys2Proof.Machine.execClrMax h s
  | .clrAllMax h => Sys2Proof.Machine.execClrAllMax h s
  | .fqQuota h value => Sys2Proof.Machine.execFqQuota h value s
  | .telemetrySample h => Sys2Proof.Machine.execTelemetrySample h s
  | .gateEdge p => Sys2Proof.Machine.execGateEdge p s
  | .gateLead p => Sys2Proof.Machine.execGateLead p s
  | .takeover p => Sys2Proof.Machine.execTakeover p s
  | .rsvAdmit value => Sys2Proof.Machine.execRsvAdmit value s
  | .rsvRelease value => Sys2Proof.Machine.execRsvRelease value s
  | .rsvCmdDone bad16 rows => Sys2Proof.Machine.execRsvCmdDone s bad16 rows
  | .recheck bad16 rows => Sys2Proof.Machine.execRecheck s bad16 rows
  | .loadHeldClear k => Sys2Proof.Machine.execLoadHeldClear k s
  | .derateAccept p value => Sys2Proof.Machine.execDerateAccept p value s
  | .artwW3 value => Sys2Proof.Machine.execArtwW3 value s
  | .artCount value => Sys2Proof.Machine.execArtCount value s
  | .validate value => Sys2Proof.Machine.execValidate value s
  | .copy value => Sys2Proof.Machine.execCopy value s
  | .clear value => Sys2Proof.Machine.execClear value s
  | .cmdDone bad => Sys2Proof.Machine.execCmdDone s bad
  | .swapArm => Sys2Proof.Machine.execSwapArm s
  | .swapDisarm => Sys2Proof.Machine.execSwapDisarm s
  | .swapRearm => Sys2Proof.Machine.execSwapRearm s
  | .artSwap => Sys2Proof.Machine.execArtSwap s
  | .artDrainSample => Sys2Proof.Machine.execArtDrainSample s
  | .artDrainStall => Sys2Proof.Machine.execArtDrainStall s
  | .flush p => Sys2Proof.Machine.execFlush p s
  | .faultRecordPop => Sys2Proof.Machine.execFaultRecordPop s
  | .wdogAccept p vc => Sys2Proof.Machine.execWdogAccept p vc s
  | .wdogResp p => Sys2Proof.Machine.execWdogResp p s
  | .isolate p => Sys2Proof.Machine.execIsolate p s
  | .swept p => Sys2Proof.Machine.execSwept p s
  | .fenceGraceEnd p => Sys2Proof.Machine.execFenceGraceEnd p s
  | .readmit p newAck => Sys2Proof.Machine.execReadmit p newAck s
  | .readmitReturn p => Sys2Proof.Machine.execReadmitReturn p s
  | .removal c => Sys2Proof.Machine.execRemoval c s
  | .fence c lowUs => Sys2Proof.Machine.execFence c s lowUs
  | .warnGlitches c lowUs => Sys2Proof.Machine.execWarnGlitches c s lowUs
  | .fuseTrip c => Sys2Proof.Machine.execFuseTrip c s
  | .slotInsert c => Sys2Proof.Machine.execSlotInsert c s
  | .holdoff c => Sys2Proof.Machine.execHoldoff c s
  | .errLogPop => Sys2Proof.Machine.execErrLogPop s
  | .epReset p => Sys2Proof.Machine.execEpReset p s
  | .epReadyFall p => Sys2Proof.Machine.execEpReadyFall p s
  | .teiResetRelease p rstN ready => Sys2Proof.Machine.execTeiResetRelease p s rstN ready
  | .teiUp p => Sys2Proof.Machine.execTeiUp p s
  | .pwrAck p nak => Sys2Proof.Machine.execPwrAck p s nak
  | .pwrNak p reason => Sys2Proof.Machine.execPwrNak p reason s
  | .epWakeReq p => Sys2Proof.Machine.execEpWakeReq p s
  | .setLevel level => Sys2Proof.Machine.execSetLevel level s
  | .levelRecheckDone => Sys2Proof.Machine.execLevelRecheckDone s
  | .powerGood => Sys2Proof.Machine.execPowerGood s
  | .flowHold => Sys2Proof.Machine.execFlowHold s
  | .pllRelock => Sys2Proof.Machine.execPllRelock s
  | .levelRetrain => Sys2Proof.Machine.execLevelRetrain s
  | .rampDownDone => Sys2Proof.Machine.execRampDownDone s
  | .levelFailed => Sys2Proof.Machine.execLevelFailed s
  | .n1Entry p => Sys2Proof.Machine.execN1Entry p s
  | .sleepOk value => Sys2Proof.Machine.execSleepOk value s
  | .niSleep p => Sys2Proof.Machine.execNiSleep p s
  | .niDrained p => Sys2Proof.Machine.execNiDrained p s
  | .ackTimeout p => Sys2Proof.Machine.execAckTimeout p s
  | .drainTimeout p => Sys2Proof.Machine.execDrainTimeout p s
  | .flushAck p => Sys2Proof.Machine.execFlushAck p s
  | .flushTimeout p => Sys2Proof.Machine.execFlushTimeout p s
  | .imageCrcStored p ecc => Sys2Proof.Machine.execImageCrcStored p s ecc
  | .n2Entered p => Sys2Proof.Machine.execN2Entered p s
  | .niWake p => Sys2Proof.Machine.execNiWake p s
  | .niSupplyGood p => Sys2Proof.Machine.execNiSupplyGood p s
  | .imageRestore p err ecc => Sys2Proof.Machine.execImageRestore p err s ecc
  | .wakeLinkUp p => Sys2Proof.Machine.execWakeLinkUp p s
  | .wakeTimeout p => Sys2Proof.Machine.execWakeTimeout p s
  | .configValid => Sys2Proof.Machine.execConfigValid s
  | .fabSleep => Sys2Proof.Machine.execFabSleep s
  | .f3NoReturn => Sys2Proof.Machine.execF3NoReturn s
  | .f3Entered ecc => Sys2Proof.Machine.execF3Entered s ecc
  | .fabWake => Sys2Proof.Machine.execFabWake s
  | .f3PowerGood err ecc => Sys2Proof.Machine.execF3PowerGood err s ecc
  | .f3WakeDone => Sys2Proof.Machine.execF3WakeDone s
  | .fabWakeFailed => Sys2Proof.Machine.execFabWakeFailed s
  | .powerPortRead vc => Sys2Proof.Machine.execPowerPortRead vc s
  | .stripWindow => Sys2Proof.Machine.execStripWindow s
  | .windowClose => Sys2Proof.Machine.execWindowClose s
  | .slicePrepare => Sys2Proof.Machine.execSlicePrepare s
  | .sliceTest tsIdle => Sys2Proof.Machine.execSliceTest s tsIdle
  | .quietTimeout tsIdle => Sys2Proof.Machine.execQuietTimeout s tsIdle
  | .testEnd m => Sys2Proof.Machine.execTestEnd m s
  | .sliceDone bad => Sys2Proof.Machine.execSliceDone s bad
  | .burn => Sys2Proof.Machine.execBurn s
  | .fuseDone => Sys2Proof.Machine.execFuseDone s
  | .testMode scanEn scanIn => Sys2Proof.Machine.execTestMode s scanEn scanIn
  | .zeroiseWait acks => Sys2Proof.Machine.execZeroiseWait s acks
  | .scanAllowed acks => Sys2Proof.Machine.execScanAllowed s acks
  | .ledgerEpoch => Sys2Proof.Machine.execLedgerEpoch s
  | .epochClose => Sys2Proof.Machine.execEpochClose s
  | .readout => Sys2Proof.Machine.execReadout s
  | .pop => Sys2Proof.Machine.execPop s
  | .recordReady => Sys2Proof.Machine.execRecordReady s
  | .ledgerPortRead vc => Sys2Proof.Machine.execLedgerPortRead vc s
  | .lcRequest value => Sys2Proof.Machine.execLcRequest value s
  | .nonceGen => Sys2Proof.Machine.execNonceGen s
  | .productionDone => Sys2Proof.Machine.execProductionDone s
  | .rmaDone acks => Sys2Proof.Machine.execRmaDone s acks
  | .slCtrl n tms tdi => Sys2Proof.Machine.execSlCtrl n tms tdi s
  | .smxAccess a => Sys2Proof.Machine.execSmxAccess a s
  | .smxBridge a => Sys2Proof.Machine.execSmxBridge a s
  | .commit page => Sys2Proof.Machine.execCommit page s
  | .abort page => Sys2Proof.Machine.execAbort page s
  | .quiesce page on master => Sys2Proof.Machine.execQuiesce page on master s
  | .quiesced page => Sys2Proof.Machine.execQuiesced page s
  | .gcJoin page => Sys2Proof.Machine.execGcJoin page s
  | .gcLeave page => Sys2Proof.Machine.execGcLeave page s
  | .gcArm => Sys2Proof.Machine.execGcArm s
  | .gcDisarm => Sys2Proof.Machine.execGcDisarm s
  | .gcRearm => Sys2Proof.Machine.execGcRearm s
  | .globalCommit => Sys2Proof.Machine.execGlobalCommit s
  | .irqSet page value => Sys2Proof.Machine.execIrqSet page value s
  | .registerWrite page off value => Sys2Proof.Machine.execRegisterWrite page off value s
  | .pwrWarnNRise c => Sys2Proof.Machine.execPwrWarnNRise c s
  | .fuseTrippedFall c => Sys2Proof.Machine.execFuseTrippedFall c s
  | .testModeFall => Sys2Proof.Machine.execTestModeFall s
  | .tsLogPop => Sys2Proof.Machine.execTsLogPop s
  | .microsecondTick => Sys2Proof.Machine.execMicrosecondTick s

end Sys2Proof.Machine
end

