-- ==== Sys2Proof/Machine/Idle.lean ====
section
/-! DEFINITION. One FCLK cycle: what step does on an empty queue (log entry 1). The commands before it act in this cycle; here
the counts of the cycle are taken, the links carry what they owe, MTIME advances, and what waits tries again. -/

namespace Sys2Proof.Machine

/-! ## Counts of the cycle (R76, R163, R293) -/

/-- Routers with a channel that arrives at them, or with state of their own. -/
def activeRouters (s : State) : List Nat :=
  (s.chans.filterMap (fun e => match chanEnd e.1 with | .inl _ => none | .inr (r, _) => some r)
    ++ s.routers.map (·.1)).eraseDups

/-- The arbitration of the cycle ends at a router: head flits count it where no output was asked (R163), and packets
handed to a full absorber try again (R247). -/
def endRouter (r : Nat) (s : State) : State :=
  retryHanded r (modRouter r (fun x => { x with ready := none, gave := [], gave14 := false }) (beginCycle r s))

/-- A channel is free for the next cycle; a sender with entries in its replay buffer counts the cycle (R76). -/
def endChan (x : Chan) : Chan :=
  { x with sent := false, noAck := if x.replay.isEmpty then x.noAck else x.noAck + 1 }
def endChans (s : State) : State :=
  { s with chans := (s.chans.map (fun e => (e.1, endChan e.2))).filter (fun e => e.2 != {}) }

/-- An idle cycle of an NI in N0; one with activity, or with something in the TEI FIFO, restarts the count (R293). A cycle of
the bypass clock is none of FCLK, which is stopped (R290). -/
def idleNi (p : Nat) (s : State) : State :=
  if nstate s p == 0 && !onBypass s && fbit s pgPower Pwr.pwrNiCfgN1En p then
    modNi p (fun n => { n with idle := if n.fifo.isEmpty && !n.active then n.idle + 1 else 0 }) s
  else s

/-- The end of a cycle at an NI: its counts, and the hold flags of its admission test (R189). -/
def endNi (p : Nat) (s : State) : State :=
  if !niOn s p then s
  else
    let s := countTei p (countLocal p s)
    modNi p (fun n => { n with active := false }) (idleNi p (modNi p (fun n => { n with admitted := false, counted := false, teiCounted := false }) (holdFlags p s)))

/-! ## Links (R72, R75, R76) -/

/-- An IDLE flit without a credit: not sequenced (R75). -/
def sendAck (c : Nat) (s : State) : State :=
  modChan (revChan c) (fun y => { y with ackNews := false })
    (modChan c (fun x => { x with wire := x.wire ++ [encodeFlit (idleFlit s c)], sent := true }) s)

/-- A channel that carried no flit in this cycle carries what the receiver beside it owes: a credit, an acknowledgement or
a NAK. In the flow hold of R290 no credit starts, and what is still to be acknowledged is (DEDUCED, log entry 121). -/
def sendIdle (c : Nat) (s : State) : State :=
  let rx := chan s (revChan c)
  if (chan s c).sent || !carries s c then s
  else if !rx.owed.isEmpty && canSequence s c then sendFlit c 0 .idle default s
  else if rx.ackNews || rx.nakOn then sendAck c s
  else s

/-! ## Time (R23, R126, R140, R292) -/

/-- Length of one cycle at the rate of the state (R126), in sixths of 1/`rateUnit` tick; on the bypass clock it is 10 ns. -/
def cycleSpan (s : State) : Nat := (if onBypass s then 240 else cycleSixths s) * ((rateUnit : Int) + ratioNow s).toNat

/-- MTIME advances by the ticks of a cycle of length `span`, less those that slewing withholds. -/
def passTime (span : Nat) (s : State) : State :=
  let x := s.sixths + span
  let n := x / (6 * rateUnit)
  let k := min s.time.skip n
  let s := { s with
    cyc := s.cyc + 1, sixths := x % (6 * rateUnit), ticks := s.ticks + n, mtime := s.mtime + BitVec.ofNat 64 (n - k) }
  { s with time := { s.time with skip := s.time.skip - k } }

/-! ## The check plane -/

/-- QUEUED of a row counts every SPCLK cycle, two FCLK cycles, in which a lookup of the row waits at a leaf. -/
def countQueued (s : State) : State :=
  if s.cyc % 2 = 0 then s
  else forEach ((s.lookups.filter (fun e => e.2.waiting.any (·.since.isSome))).map (·.1)) (fun e s => wrapAdd pgCp Cp.cpTreeQueued 1 s e) s

/-! ## The cycle -/

/-- The staged copies stand as the next cycle begins, which has seen no commit (R362). -/
def endCommits (s : State) : State :=
  let s := forEach (s.nis.map (·.1)) (modNi · (fun n => { n with cacheWas := none })) { s with stagedNow := [] }
  modTime (fun x => { x with stagedAt := s.staged, commits := [], gcDone := none }) s

/-- A HEAD held in the shell, or a demand, wakes an NI in N2 once FSTATE is F0 and no entry runs (R297, R300, R303). -/
def wakeDemanded (p : Nat) (s : State) : State :=
  onlyIf (wantsWake s p && fstate s == 0) (startWake p) s

/-- Hosts with writes that followed an admission test. -/
def lateHosts (s : State) : List Nat := (List.range 16).filter (fun h => !(ni s (hostPort h)).lateWrites.isEmpty)

/-- One FCLK cycle. After test_mode has fallen the fabric stays in reset, whatever the cycle's commands did (R325). -/
def idleCycle (s : State) : State :=
  if s.strip.deadUntilReset then deadReset s
  else
    let span := cycleSpan s
    let s := forEach (activeRouters s) endRouter s
    let s := forEach (s.chans.map (·.1)) sendIdle s
    let s := endChans s
    let s := forEach (s.nis.map (·.1)) endNi s
    let s := forEach (s.nis.map (·.1)) wakeDemanded (countQueued s)
    let s := match s.strip.prepared with
      | some p => raiseHold p s
      | none => s
    let s := readyUnsigned (slRetry (smxCycle (passTime span s)))
    endCommits (forEach (lateHosts s) writeLate s)

end Sys2Proof.Machine
end

