-- ==== Sys2Proof/Safety.lean ====
section
/-! DEFINITION. What a safe run keeps: the bounds that the spec sets on the machine's stores, the canonical form of the working
SRAM, and the one-way order of the life cycle. -/

namespace Sys2Proof.Machine

/-- The machine's invariant. -/
structure SysInv (s : State) : Prop where
  /-- The working SRAM is in canonical form (spec/15 R347). -/
  sram : memWf s = true
  /-- The error log holds 64 records (spec/10 R264). -/
  errLog : s.errLog.length ≤ 64
  /-- The event log holds 32 records (spec/05 R145). -/
  evtLog : s.time.log.length ≤ 32
  /-- The fault-record store holds 256 records (spec/09 R229). -/
  faults : s.faults.length ≤ 256
  /-- The test-strip log holds 32 records (spec/13 R321). -/
  stripLog : s.strip.log.length ≤ 32
  /-- The refusal log holds 16 records (spec/12 R308). -/
  refLog : s.power.log.length ≤ 16
  /-- The ledger has two key slots (spec/14 R338). -/
  slots : s.fuses.slots.length ≤ 2
  /-- BOOT_COUNT has 8,191 cells (spec/14 R337). -/
  boots : s.fuses.bootCount ≤ 8191
  /-- Four cells hold the life-cycle state (spec/14 R342). -/
  lcCells : s.fuses.lc ≤ 15
  /-- A running transition raises the life-cycle state (spec/14 R342). -/
  running : ∀ t, s.lc.running = some t → s.fuses.lc < t
  /-- The record queue holds 16 records, and one more BOOT record once the part is in PRODUCTION (spec/14 R333). -/
  queue : s.ledger.queue.length ≤ (if s.fuses.lc < lcProduction then 16 else 17)

/-- A change of the machine that leaves the queue of commands alone, keeps the invariant, and never moves the life cycle
back. -/
def Keeps (s t : State) : Prop :=
  t.pending = s.pending ∧ (SysInv s → SysInv t ∧ s.fuses.lc ≤ t.fuses.lc)

/-- The same of a command's outcome, when it is a next state. -/
structure KeepsO (s : State) (o : Host.Outcome State Fault Refusal) : Prop where
  next : ∀ t, o = .next t → Keeps s t

/-- The parts of the state: its fields, but for the queue of commands. -/
inductive Part where
  | free | cyc | ticks | sixths | us | mtime | pins | regs | staged | stagedNow | chans | routers | rt | rtImg | nis | time
  | art | fence | artHold | artCmd | artWait | artLongAt | lookups | faults | swapUs | swapTick | swapStalled
  | unsure | unsureGen | flipUs | flipTick | flipStalled | swapLim | flipLim | rsvRun | rsvWait | rsvCfgChg | errLog | stableUs
  | slots | power | strip | fuses | ledger | lc | smx | mem | refillAt
  deriving DecidableEq, Repr

/-- A part of the state is the same in both. -/
def Part.same (s t : State) : Part → Prop
  | .free => t.free = s.free
  | .cyc => t.cyc = s.cyc
  | .ticks => t.ticks = s.ticks
  | .sixths => t.sixths = s.sixths
  | .us => t.us = s.us
  | .mtime => t.mtime = s.mtime
  | .pins => t.pins = s.pins
  | .regs => t.regs = s.regs
  | .staged => t.staged = s.staged
  | .stagedNow => t.stagedNow = s.stagedNow
  | .chans => t.chans = s.chans
  | .routers => t.routers = s.routers
  | .rt => t.rt = s.rt
  | .rtImg => t.rtImg = s.rtImg
  | .nis => t.nis = s.nis
  | .time => t.time = s.time
  | .art => t.art = s.art
  | .fence => t.fence = s.fence
  | .artHold => t.artHold = s.artHold
  | .artCmd => t.artCmd = s.artCmd
  | .artWait => t.artWait = s.artWait
  | .artLongAt => t.artLongAt = s.artLongAt
  | .lookups => t.lookups = s.lookups
  | .faults => t.faults = s.faults
  | .swapUs => t.swapUs = s.swapUs
  | .swapTick => t.swapTick = s.swapTick
  | .swapStalled => t.swapStalled = s.swapStalled
  | .unsure => t.unsure = s.unsure
  | .unsureGen => t.unsureGen = s.unsureGen
  | .flipUs => t.flipUs = s.flipUs
  | .flipTick => t.flipTick = s.flipTick
  | .flipStalled => t.flipStalled = s.flipStalled
  | .swapLim => t.swapLim = s.swapLim
  | .flipLim => t.flipLim = s.flipLim
  | .rsvRun => t.rsvRun = s.rsvRun
  | .rsvWait => t.rsvWait = s.rsvWait
  | .rsvCfgChg => t.rsvCfgChg = s.rsvCfgChg
  | .errLog => t.errLog = s.errLog
  | .stableUs => t.stableUs = s.stableUs
  | .slots => t.slots = s.slots
  | .power => t.power = s.power
  | .strip => t.strip = s.strip
  | .fuses => t.fuses = s.fuses
  | .ledger => t.ledger = s.ledger
  | .lc => t.lc = s.lc
  | .smx => t.smx = s.smx
  | .mem => t.mem = s.mem
  | .refillAt => t.refillAt = s.refillAt

/-- The parts that F names are the same in both. -/
structure Same (F : Part → Bool) (s t : State) : Prop where
  same : ∀ p, F p = true → p.same s t

/-- The same of a command's outcome, when it is a next state. -/
structure SameO (F : Part → Bool) (s : State) (o : Host.Outcome State Fault Refusal) : Prop where
  next : ∀ t, o = .next t → Same F s t

/-- Every field of every register reads the same in both, but for the fields whose keys are listed. -/
structure RegsKept (ks : List Nat) (s t : State) : Prop where
  kept : ∀ page f i, fkey page f i ∉ ks → fget t page f i = fget s page f i

/-- The fields that a refused write of a page changes: PAGE_ERR, and the page's IRQ_STAT (spec/15 R358, R363). -/
def pageErrKeys (page : Nat) : List Nat :=
  [Hdr.pageErrStaticWrite, Hdr.pageErrReservedEnc, Hdr.pageErrLkWrite, Hdr.pageErrStateWrite, Hdr.pageErrErrOffset,
    Hdr.irqStatStat].map (fkey page · 0)

/-- The offsets from 0x040 on whose writes have a rule of their own; at any other, each field takes the write by its class
(spec/15 R358). -/
def ownRule (kd : Kind) (off : Nat) : Bool :=
  match kd with
  | .fg => [0x80, 0x100, 0x300].contains off || (0x800 ≤ off && off < 0x800 + 8 * 127)
  | .time => [0x60, 0x70, 0x78, 0x108, 0x118, 0x128, 0x138].contains off
  | .smx => [0x48, 0x50].contains off
  | .power => [0x40, 0x88, 0x98].contains off
  | .strip => [0x58, 0x90].contains off
  | .lc => off == 0x48 || (0x80 ≤ off && off < 0xe0)
  | .ledger => off == 0x48
  | .art => [0x40, 0x68, 0x80].contains off || (0x208 ≤ off && off < 0x300 && off % 16 == 8)
  | .artw => [0x48, 0x50, 0x58, 0x60].contains off
  | .rsv => [0x40, 0x60].contains off
  | .cp => off == 0xc0
  | .router => off == 0x50
  | .ni => [0x100, 0x108, 0x1c8, 0x200].contains off || (0x400 ≤ off && off < 0xC00)
  | .fqw => [0x70, 0x88, 0x90, 0x98, 0xa0, 0xa8, 0xd0].contains off

/-- The fields that a firing of an armed time may change (spec/05 R145): the firing flags and counts of the time unit. -/
def firingKeys : List Nat :=
  [Tu.timeEvtUnsyncFire, Tu.fireCountsUnsyncFires, Tu.timeEvtLateFire, Tu.timeEvtEvtLogOvf, Tu.fireCountsLogDropped].map
    (fkey pgTime · 0)

/-- The fields that a change of the time unit's state writes: STATE, those of HOLDOVER when it is entered,
and LOCK_ACQUIRED (spec/05 R137). -/
def holdoverKeys : List Nat :=
  [Tu.timeStatState, Tu.holdoverStatHoElapsedUs, Tu.holdoverStatHoCount, Tu.timeEvtHoldoverEnter, Tu.timeEvtLockAcquired].map
    (fkey pgTime · 0)

/-- The fields that the result of a reservation command writes (spec/08 R207). -/
def rsvResultKeys : List Nat :=
  [Rsv.rsvResultCode, Rsv.rsvResultCause, Rsv.rsvResultFailCh, Rsv.rsvResultFailTgt, Rsv.rsvResultIndex, Rsv.rsvEvtAdmitDone].map
    (fkey pgRsv · 0)

/-- The fields of PWR_RESULT, which every accepted power command writes (spec/12 R308). -/
def pwrResultKeys : List Nat :=
  [Pwr.pwrResultCode, Pwr.pwrResultReason, Pwr.pwrResultRefuserKind, Pwr.pwrResultRefuserId, Pwr.pwrResultCmd].map
    (fkey pgPower · 0)

/-- The parts that a write of a register may change: what the page's own rules write. -/
def registerParts : List Part :=
  [.free, .mtime, .regs, .staged, .stagedNow, .chans, .routers, .rt, .rtImg, .nis, .time, .art, .artHold,
   .artCmd, .artWait, .artLongAt, .lookups, .faults, .unsure, .rsvRun, .rsvWait, .rsvCfgChg, .errLog, .slots,
   .power, .strip, .fuses, .ledger, .lc, .smx, .refillAt]

/-- The parts that a command may change; it leaves every other part as it was. -/
def writes (c : Instr) : List Part :=
  match c with
  | .aonReset =>
      [.free, .cyc, .ticks, .sixths, .us, .mtime, .regs, .staged, .stagedNow, .chans, .routers, .rt, .rtImg,
       .nis, .time, .art, .fence, .artHold, .artCmd, .artWait, .artLongAt, .lookups, .faults, .swapUs,
       .swapTick, .swapStalled, .unsure, .unsureGen, .flipUs, .flipTick, .flipStalled, .swapLim, .flipLim,
       .rsvRun, .rsvWait, .rsvCfgChg, .errLog, .stableUs, .slots, .power, .strip, .fuses, .ledger, .lc, .smx,
       .mem, .refillAt]
  | .bootCopyDone _ => [.regs, .time, .rsvRun, .rsvWait, .rsvCfgChg, .smx, .mem]
  | .bootDone => [.regs]
  | .flitReceive _ _ => [.regs, .chans, .routers, .nis, .errLog]
  | .replay _ => [.regs, .chans, .nis]
  | .replayTo _ => [.regs, .chans, .nis]
  | .retrainDone _ _ => [.regs, .chans, .routers, .nis, .lookups, .unsure, .rsvRun, .rsvWait, .errLog, .power, .strip]
  | .trainDone _ => [.regs, .chans]
  | .headArrive _ _ _ => [.regs, .chans, .routers, .errLog]
  | .buildStoreConsume _ _ _ => [.regs, .chans, .routers, .errLog]
  | .flitGrant _ => [.regs, .chans, .routers, .nis, .errLog, .power]
  | .starveLimit _ _ _ => [.chans, .routers, .nis]
  | .absorb _ _ _ => [.regs, .chans, .routers, .errLog]
  | .flipArm => [.regs, .time]
  | .flipDisarm => [.regs, .time]
  | .flipRearm => [.regs, .time]
  | .routeFlip => [.regs, .time, .flipUs, .flipTick, .flipStalled]
  | .drainSample => [.regs, .flipLim]
  | .drainStall => [.regs, .flipStalled]
  | .rtData _ _ => [.regs, .rt, .rtImg, .rsvRun, .rsvWait]
  | .teiRequest _ _ => [.free, .regs, .nis, .lookups, .errLog, .ledger, .lc, .smx]
  | .artLookup _ _ _ => [.regs, .staged, .nis, .time, .artCmd, .artWait, .lookups, .faults, .unsure]
  | .verdictReturn _ => [.free, .regs, .nis, .lookups, .errLog, .ledger, .lc, .smx]
  | .admission _ => [.regs, .chans, .nis, .refillAt]
  | .niInject _ => [.regs, .chans, .nis]
  | .responseArrive _ _ => [.free, .regs, .chans, .nis, .errLog, .lc, .smx]
  | .teiDeliver _ => [.regs, .chans, .nis]
  | .deliveryCredit _ _ => [.regs, .nis]
  | .waypointAccept _ _ => [.regs, .chans, .nis]
  | .teiResponse _ _ => [.regs, .nis, .errLog]
  | .teiRelay _ _ => [.free, .regs, .nis, .errLog, .lc, .smx]
  | .teiFetch _ _ => [.free, .regs, .nis, .errLog, .lc, .smx]
  | .legacyTimeout _ _ => [.free, .regs, .nis, .unsureGen, .lc, .smx]
  | .sadWrite _ _ _ _ => [.regs, .staged, .stagedNow]
  | .clsW1 _ _ => [.regs, .staged, .stagedNow]
  | .dmW1 _ _ => [.regs, .staged, .stagedNow]
  | .tbRefLoss _ => [.pins, .regs, .time]
  | .acquire _ => [.pins, .regs, .time]
  | .tbFrame _ => [.regs, .time]
  | .codeLoss => [.regs, .time]
  | .acqFail => [.regs]
  | .align => [.mtime, .regs, .nis, .time]
  | .delayChange => [.mtime, .regs, .nis, .time]
  | .stepAnnounced => [.mtime, .regs, .nis, .time]
  | .slewStep => [.mtime, .regs, .time]
  | .swFreq _ => [.regs, .time]
  | .swPhase _ => [.regs, .time]
  | .swWdogExpired => [.regs, .time]
  | .mtimeSet _ => [.mtime, .regs, .nis, .time]
  | .holdoverLong => [.regs, .time]
  | .tbSnap => [.regs, .time]
  | .timerArm _ _ => [.regs, .time]
  | .timerDisarm _ _ => [.regs, .time]
  | .timerRearm _ _ => [.regs, .time]
  | .timerFire _ => [.regs, .time]
  | .evtLogPop => [.time]
  | .timePortRead _ => [.regs, .chans, .nis, .errLog]
  | .refillTick => [.regs, .refillAt]
  | .fqRate _ _ => [.regs, .nis, .refillAt]
  | .fqDepth _ _ => [.regs, .nis, .refillAt]
  | .reload _ => [.regs, .nis, .refillAt]
  | .clrMax _ => [.regs]
  | .clrAllMax _ => [.regs]
  | .fqQuota _ _ => [.regs, .nis, .refillAt]
  | .telemetrySample _ => [.regs, .nis]
  | .gateEdge _ => [.regs, .nis]
  | .gateLead _ => [.nis]
  | .takeover _ => [.regs, .staged, .nis]
  | .rsvAdmit _ => [.regs, .rsvRun, .rsvWait]
  | .rsvRelease _ => [.regs, .rsvRun, .rsvWait]
  | .rsvCmdDone _ _ => [.regs, .rt, .rtImg, .rsvRun, .rsvWait]
  | .recheck _ _ => [.regs, .rt, .rtImg, .rsvRun, .rsvWait, .power]
  | .loadHeldClear _ => [.regs]
  | .derateAccept _ _ => [.nis, .rsvRun, .rsvWait]
  | .artwW3 _ => [.regs, .art, .artHold]
  | .artCount _ => [.regs]
  | .validate _ => [.regs, .artCmd, .artWait, .artLongAt]
  | .copy _ => [.regs, .artCmd, .artWait, .artLongAt]
  | .clear _ => [.regs, .artCmd, .artWait, .artLongAt]
  | .cmdDone _ => [.regs, .staged, .time, .art, .fence, .artCmd, .artWait, .artLongAt, .faults, .unsure]
  | .swapArm => [.regs, .time]
  | .swapDisarm => [.regs, .time]
  | .swapRearm => [.regs, .time]
  | .artSwap => [.regs, .time, .swapUs, .swapTick, .swapStalled]
  | .artDrainSample => [.regs, .unsure, .unsureGen, .swapLim]
  | .artDrainStall => [.regs, .swapStalled]
  | .flush _ => [.nis]
  | .faultRecordPop => [.faults]
  | .wdogAccept _ _ => [.regs, .chans, .routers, .nis, .lookups, .unsure, .rsvRun, .rsvWait, .errLog, .power, .strip]
  | .wdogResp _ => [.regs, .chans, .routers, .nis, .lookups, .unsure, .rsvRun, .rsvWait, .errLog, .power, .strip]
  | .isolate _ => [.regs, .chans, .routers, .nis, .lookups, .unsure, .rsvRun, .rsvWait, .errLog, .power, .strip]
  | .swept _ => [.regs, .errLog]
  | .fenceGraceEnd _ => [.regs, .nis, .errLog]
  | .readmit _ _ => [.regs, .chans, .nis]
  | .readmitReturn _ => [.regs, .nis]
  | .removal _ =>
      [.pins, .regs, .chans, .routers, .nis, .lookups, .unsure, .rsvRun, .rsvWait, .errLog, .power, .strip]
  | .fence _ _ =>
      [.pins, .regs, .chans, .routers, .nis, .lookups, .unsure, .rsvRun, .rsvWait, .errLog, .slots, .power,
       .strip]
  | .warnGlitches _ _ => [.pins, .regs]
  | .fuseTrip _ =>
      [.pins, .regs, .chans, .routers, .nis, .lookups, .unsure, .rsvRun, .rsvWait, .errLog, .slots, .power,
       .strip]
  | .slotInsert _ => [.pins, .regs, .stableUs]
  | .holdoff _ => [.regs]
  | .errLogPop => [.errLog]
  | .epReset _ => [.regs, .chans, .nis, .lookups, .errLog]
  | .epReadyFall _ => [.regs, .chans, .nis, .lookups, .errLog]
  | .teiResetRelease _ _ _ => [.regs, .chans, .nis]
  | .teiUp _ => [.regs, .staged, .chans, .nis, .lookups, .errLog]
  | .pwrAck _ _ => [.regs, .nis, .power]
  | .pwrNak _ _ => [.regs, .nis, .power]
  | .epWakeReq _ => [.regs, .nis, .power]
  | .setLevel _ => [.regs, .rsvRun, .rsvWait, .power]
  | .levelRecheckDone => [.power]
  | .powerGood => [.power]
  | .flowHold => [.power]
  | .pllRelock => [.regs, .power]
  | .levelRetrain => [.regs, .staged, .chans, .nis, .errLog, .power]
  | .rampDownDone => [.regs, .power]
  | .levelFailed => [.regs, .power]
  | .n1Entry _ => [.regs]
  | .sleepOk _ => [.regs, .nis, .power]
  | .niSleep _ => [.regs, .nis, .power]
  | .niDrained _ => [.nis]
  | .ackTimeout _ => [.regs, .nis, .power]
  | .drainTimeout _ => [.regs, .nis, .power]
  | .flushAck _ => [.nis, .ledger]
  | .flushTimeout _ => [.regs, .nis, .ledger]
  | .imageCrcStored _ _ => [.regs, .staged, .nis, .rsvRun, .rsvWait]
  | .n2Entered _ => [.regs, .chans, .nis]
  | .niWake _ => [.regs, .nis, .power]
  | .niSupplyGood _ => [.regs, .staged, .nis]
  | .imageRestore _ _ _ => [.regs, .staged, .chans, .nis, .rsvRun, .rsvWait]
  | .wakeLinkUp _ => [.regs, .staged, .chans, .nis, .errLog]
  | .wakeTimeout _ => [.regs, .chans, .routers, .nis, .lookups, .unsure, .rsvRun, .rsvWait, .errLog, .power, .strip]
  | .configValid => [.regs, .chans, .nis]
  | .fabSleep => [.regs, .nis, .power]
  | .f3NoReturn => [.nis, .power]
  | .f3Entered _ =>
      [.regs, .staged, .chans, .routers, .rt, .rtImg, .nis, .time, .artCmd, .artWait, .faults, .unsure, .rsvRun,
       .rsvWait, .power]
  | .fabWake => [.regs, .nis, .power]
  | .f3PowerGood _ _ =>
      [.regs, .staged, .chans, .routers, .rt, .rtImg, .nis, .time, .artCmd, .artWait, .faults, .unsure, .rsvRun,
       .rsvWait, .power]
  | .f3WakeDone => [.regs, .nis]
  | .fabWakeFailed => [.free, .regs, .lc, .smx]
  | .powerPortRead _ => [.regs, .chans, .nis, .errLog]
  | .stripWindow => [.regs, .nis, .time, .strip]
  | .windowClose => [.regs, .nis, .strip]
  | .slicePrepare => [.nis, .strip]
  | .sliceTest _ => [.regs, .chans, .routers, .nis, .strip]
  | .quietTimeout _ => [.regs, .nis, .strip]
  | .testEnd _ => [.regs, .strip]
  | .sliceDone _ =>
      [.regs, .staged, .chans, .routers, .rt, .rtImg, .nis, .lookups, .unsure, .rsvRun, .rsvWait, .errLog,
       .power, .strip]
  | .burn => [.regs, .strip]
  | .fuseDone => [.regs, .strip, .fuses]
  | .testMode _ _ => [.pins, .regs, .chans, .nis, .strip, .ledger]
  | .zeroiseWait _ => [.regs, .nis]
  | .scanAllowed _ => [.regs, .nis]
  | .ledgerEpoch => [.regs, .nis, .time, .ledger]
  | .epochClose => [.regs, .nis, .ledger]
  | .readout => [.regs, .ledger]
  | .pop => [.regs, .ledger]
  | .recordReady => [.free, .regs, .ledger]
  | .ledgerPortRead _ => [.regs, .chans, .nis, .errLog]
  | .lcRequest _ => [.free, .regs, .nis, .fuses, .ledger, .lc]
  | .nonceGen => [.free, .lc]
  | .productionDone => [.regs, .staged, .time, .fuses, .ledger, .lc]
  | .rmaDone _ => [.regs, .nis, .power, .fuses, .lc]
  | .slCtrl _ _ _ => .mem :: registerParts
  | .smxAccess _ => .mem :: registerParts
  | .smxBridge _ => .mem :: registerParts
  | .commit _ => [.regs, .staged, .nis, .time]
  | .abort _ => [.regs, .staged, .stagedNow, .nis]
  | .quiesce _ _ _ => [.regs, .time, .rsvRun, .rsvWait, .rsvCfgChg, .smx]
  | .quiesced _ => [.regs]
  | .gcJoin _ => [.regs, .staged, .nis, .time]
  | .gcLeave _ => [.regs, .staged, .nis, .time]
  | .gcArm => [.regs, .time]
  | .gcDisarm => [.time]
  | .gcRearm => [.regs, .time]
  | .globalCommit => [.regs, .staged, .nis, .time]
  | .irqSet _ _ => [.regs]
  | .registerWrite _ _ _ => registerParts
  | .pwrWarnNRise _ => [.pins, .regs, .slots]
  | .fuseTrippedFall _ => [.pins, .regs, .slots]
  | .testModeFall =>
      [.cyc, .ticks, .sixths, .us, .mtime, .pins, .regs, .staged, .stagedNow, .chans, .routers, .rt, .rtImg,
       .nis, .time, .art, .fence, .artHold, .artCmd, .artWait, .artLongAt, .lookups, .faults, .swapUs,
       .swapTick, .swapStalled, .unsure, .unsureGen, .flipUs, .flipTick, .flipStalled, .swapLim, .flipLim,
       .rsvRun, .rsvWait, .rsvCfgChg, .errLog, .stableUs, .slots, .power, .strip, .ledger, .lc, .smx, .mem,
       .refillAt]
  | .tsLogPop => [.strip]
  | .microsecondTick => [.us, .regs, .nis, .time]

end Sys2Proof.Machine
end

