-- ==== Sys2Proof/WellFormed.lean ====
section
/-! DEFINITION. Well-formed commands: those that name units which the part has (spec/01 R10, R11; spec/15 R356, R357). -/

namespace Sys2Proof

open Machine

/-- The page is assigned (R356). -/
def wfPage (page : PageNo) : Bool := (kindOf page.val).isSome

/-- The channel exists (R11). -/
def wfChan (c : ChanId) : Bool := hasChan c.val

/-- The router has the port index (R10). Index 14, the built packets of R372, is no port. -/
def wfIn (r : RouterId) (inp : Nat) : Bool := hasPort r.val inp

/-- The input of an arbitration point: input 14 or a port of the router; at an NI every index means one of its points. -/
def wfPoint (c : ChanId) (inp : Fin 15) : Bool :=
  wfChan c && (1024 ≤ c.val || inp.val == 14 || hasPort (c.val / 16) inp.val)

/-- The command names units that exist. Every command of a row that names none, a port or a host is well formed. -/
def Instr.wf : Instr → Bool
  | .flitReceive ch _ | .replay ch | .replayTo ch | .retrainDone ch _ | .trainDone ch | .flitGrant ch => wfChan ch
  | .headArrive r inp _ | .buildStoreConsume r inp _ => wfIn r inp.val
  | .starveLimit ch inp _ => wfPoint ch inp
  | .absorb r inp _ => inp.val == 14 || wfIn r inp.val
  | .commit page | .abort page | .quiesce page _ _ | .quiesced page | .gcJoin page | .gcLeave page | .irqSet page _ =>
    wfPage page
  | .registerWrite page off _ => wfPage page && off.toNat % 8 == 0
  | .aonReset | .bootCopyDone _ | .bootDone | .flipArm | .flipDisarm | .flipRearm | .routeFlip | .drainSample
  | .drainStall | .rtData _ _ | .teiRequest _ _ | .artLookup _ _ _ | .verdictReturn _ | .admission _ | .niInject _
  | .responseArrive _ _ | .teiDeliver _ | .deliveryCredit _ _ | .waypointAccept _ _ | .teiResponse _ _
  | .teiRelay _ _ | .teiFetch _ _ | .legacyTimeout _ _ | .sadWrite _ _ _ _ | .clsW1 _ _ | .dmW1 _ _ | .tbRefLoss _
  | .acquire _ | .tbFrame _ | .codeLoss | .acqFail | .align | .delayChange | .stepAnnounced | .slewStep | .swFreq _
  | .swPhase _ | .swWdogExpired | .mtimeSet _ | .holdoverLong | .tbSnap | .timerArm _ _ | .timerDisarm _ _
  | .timerRearm _ _ | .timerFire _ | .evtLogPop | .timePortRead _ | .refillTick | .fqRate _ _ | .fqDepth _ _
  | .reload _ | .clrMax _ | .clrAllMax _ | .fqQuota _ _ | .telemetrySample _ | .gateEdge _ | .gateLead _
  | .takeover _ | .rsvAdmit _ | .rsvRelease _ | .rsvCmdDone _ _ | .recheck _ _ | .loadHeldClear _ | .derateAccept _ _
  | .artwW3 _ | .artCount _ | .validate _ | .copy _ | .clear _ | .cmdDone _ | .swapArm | .swapDisarm | .swapRearm
  | .artSwap | .artDrainSample | .artDrainStall | .flush _ | .faultRecordPop | .wdogAccept _ _ | .wdogResp _
  | .isolate _ | .swept _ | .fenceGraceEnd _ | .readmit _ _ | .readmitReturn _ | .removal _ | .fence _ _
  | .warnGlitches _ _ | .fuseTrip _ | .slotInsert _ | .holdoff _ | .errLogPop | .epReset _ | .epReadyFall _
  | .teiResetRelease _ _ _ | .teiUp _ | .pwrAck _ _ | .pwrNak _ _ | .epWakeReq _ | .setLevel _ | .levelRecheckDone
  | .powerGood | .flowHold | .pllRelock | .levelRetrain | .rampDownDone | .levelFailed | .n1Entry _ | .sleepOk _
  | .niSleep _ | .niDrained _ | .ackTimeout _ | .drainTimeout _ | .flushAck _ | .flushTimeout _ | .imageCrcStored _ _
  | .n2Entered _ | .niWake _ | .niSupplyGood _ | .imageRestore _ _ _ | .wakeLinkUp _ | .wakeTimeout _ | .configValid
  | .fabSleep | .f3NoReturn | .f3Entered _ | .fabWake | .f3PowerGood _ _ | .f3WakeDone | .fabWakeFailed
  | .powerPortRead _ | .stripWindow | .windowClose | .slicePrepare | .sliceTest _ | .quietTimeout _ | .testEnd _
  | .sliceDone _ | .burn | .fuseDone | .testMode _ _ | .zeroiseWait _ | .scanAllowed _ | .ledgerEpoch | .epochClose
  | .readout | .pop | .recordReady | .ledgerPortRead _ | .lcRequest _ | .nonceGen | .productionDone | .rmaDone _
  | .slCtrl _ _ _ | .smxAccess _ | .smxBridge _ | .gcArm | .gcDisarm | .gcRearm | .globalCommit | .pwrWarnNRise _
  | .fuseTrippedFall _ | .testModeFall | .tsLogPop | .microsecondTick => true

end Sys2Proof
end

