-- ==== Sys2Proof/Certificates/Slice0/Obligations.lean ====
section
/-! DEFINITION. The statements for the provers, by family of commands. A clause about a value that the model chose names the
entry of the assumption log. -/

open Sys2Proof Sys2Proof.Machine

/-! ## The machine -/

/-- A step runs the command at the front of the queue on the state with the queue's rest. -/
def Obligations.StepRunsFront : Prop :=
  ∀ (c : Instr) (rest : List Instr) (s : State), step { s with pending := c :: rest } = exec c { s with pending := rest }

/-- Every command answers a next state in every state: nothing stops the machine. A command on a channel, a router port or a page
that the part does not have changes nothing (log entry 88: the model's choice). -/
def Obligations.EveryCommandCompletes : Prop :=
  (∀ (c : Instr) (s : State), ∃ t, exec c s = .next t)
  ∧ (∀ (ch : ChanId) (s : State) (ok : Bool) (i : Fin 15) (v : Vc) (c : Instr), hasChan ch.val = false →
      c ∈ [.replay ch, .replayTo ch, .retrainDone ch ok, .trainDone ch, .flitGrant ch, .starveLimit ch i v] → exec c s = .next s)
  ∧ (∀ (ch : ChanId) (s : State) (err : WireFlit), hasChan ch.val = false → (chan s ch.val).wire = [] →
      exec (.flitReceive ch err) s = .next s)
  ∧ (∀ (r : RouterId) (i : PortIdx) (v : Vc) (s : State), hasPort r.val i.val = false →
      exec (.headArrive r i v) s = .next s ∧ exec (.buildStoreConsume r i v) s = .next s)
  ∧ (∀ (r : RouterId) (i : Fin 15) (v : Vc) (s : State), hasPort r.val i.val = false → i.val ≠ 14 →
      exec (.absorb r i v) s = .next s ∧ (∀ ch : ChanId, ch.val / 16 = r.val → ch.val < 1024 → exec (.starveLimit ch i v) s = .next s))
  ∧ (∀ (page : PageNo) (s : State) (on : Bool) (m : Fin 5) (off : BitVec 12) (v : Word) (c : Instr), kindOf page.val = none →
      c ∈ [.commit page, .abort page, .quiesce page on m, .quiesced page, .gcJoin page, .gcLeave page, .irqSet page v,
        .registerWrite page off v] → exec c s = .next s)

/-- The frame of every command: a part of the state that `writes` does not name for the command is left as it was. -/
def Obligations.CommandsChangeOnly : Prop :=
  ∀ (c : Instr) (s t : State) (p : Part), exec c s = .next t → p ∉ writes c → p.same s t

/-- With no command waiting, a step is one FCLK cycle (log entry 1: the model's choice). The queue stays empty, the µs count stands
still, which only its own command moves (log entry 5: the model's choice), and MTIME advances by the whole ticks of the cycle, at
the rate of the Time Unit's state, less those that slewing still withholds (log entries 5 and 91: the model's choice). With no
access of the service matrix waiting the stores that only a command writes stay as they were, the error log with no packet that
waits for an absorber; a ledger record that is not to be signed is readable (log entry 117: the model's reading), and a channel
that carried nothing, with no credit to return, carries the acknowledgement or NAK that its receiver owes in an IDLE flit: one that
carried a flit in the cycle, one out of service and one with nothing to report put nothing on the wires (log entry 22: the model's
choice). After test_mode has fallen the fabric stays in reset (log entry 68: the model's choice). -/
def Obligations.IdleStep : Prop :=
  ∀ s : State, s.pending = [] →
    (s.strip.deadUntilReset = true → ∃ t, step s = .next t ∧ t.pending = [] ∧ t.strip = { deadUntilReset := true }
        ∧ t.regs = [] ∧ t.chans = [] ∧ t.nis = [] ∧ t.mtime = 0 ∧ t.pins = s.pins ∧ t.fuses = s.fuses)
    ∧ (s.strip.deadUntilReset = false → ∃ t, step s = .next t ∧ t.pending = [] ∧ t.cyc = s.cyc + 1 ∧ t.us = s.us
        ∧ (s.smx.waiting = [] → s.lc.slWait = none →
            t.mem = s.mem ∧ t.art = s.art ∧ t.rt = s.rt ∧ t.rtImg = s.rtImg ∧ t.fuses = s.fuses
              ∧ t.lc = s.lc ∧ t.smx = s.smx ∧ t.faults = s.faults ∧ t.pins = s.pins
              ∧ t.ledger = { s.ledger with queue := s.ledger.queue.map (fun r => if r.toSign then r else { r with readable := true }) })
        ∧ (s.smx.waiting = [] → s.lc.slWait = none → (∀ r, (router s r).handed = []) → t.errLog = s.errLog)
        ∧ (∀ x n k, s.smx.waiting = [] → s.lc.slWait = none →
            x = s.sixths + (if onBypass s then 240 else cycleSixths s) * ((rateUnit : Int) + ratioNow s).toNat →
            n = x / (6 * rateUnit) → k = min s.time.skip n →
            t.mtime = s.mtime + BitVec.ofNat 64 (n - k) ∧ t.ticks = s.ticks + n ∧ t.sixths = x % (6 * rateUnit)
              ∧ t.time.skip = s.time.skip - k)
        ∧ (∀ c, s.smx.waiting = [] → s.lc.slWait = none → carries s c = true → (chan s c).sent = false →
            (chan s (revChan c)).owed = [] → ((chan s (revChan c)).ackNews || (chan s (revChan c)).nakOn) = true →
            (chan t c).wire = (chan s c).wire ++ [encodeFlit (idleFlit s c)] ∧ (chan t (revChan c)).ackNews = false)
        ∧ (∀ c, s.smx.waiting = [] → s.lc.slWait = none → (chan s c).st ≠ .train →
            ((chan s c).sent || !carries s c || ((chan s (revChan c)).owed.isEmpty
              && !((chan s (revChan c)).ackNews || (chan s (revChan c)).nakOn))) = true →
            (chan t c).wire = (chan s c).wire))

/-- No command changes the queue of commands that wait. -/
def Obligations.QueueUntouched : Prop :=
  ∀ (c : Instr) (s t : State), exec c s = .next t → t.pending = s.pending

/-- The invariant holds after reset. -/
def Obligations.ResetMeetsInvariant : Prop := SysInv State.reset

/-- Every step keeps the invariant: the stores keep within their sizes, the working SRAM keeps its canonical form, and a
running life-cycle transition leads to a higher state. -/
def Obligations.StepKeepsInvariant : Prop :=
  ∀ (s t : State), SysInv s → step s = .next t → SysInv t

/-- No step lowers the life-cycle state (R342): the states blow cells one way only. -/
def Obligations.LifeCycleOnlyRises : Prop :=
  ∀ (s t : State), SysInv s → step s = .next t → s.fuses.lc ≤ t.fuses.lc

/-! ## Bring-up -/

/-- The machine right after reset: the fabric in F3, every live NI in N2, MTIME 0, the SMX remap clear, nothing listed in the
working SRAM, and every log empty. An AON reset clears MTIME, counts the boot, keeps the pins (log entry 4: the model's choice) and
every fuse but BOOT_COUNT, empties the working SRAM, which then reads 0 (log entry 7: the model's choice), and leaves the fabric in
F3 with the management loader not copied. STABLE and FUSE take the pins, and exactly the MEM NIs of an absent group start isolated,
with cause ABSENT (R262) and SWEPT set (log entry 106: the model's choice). -/
def Obligations.ResetState : Prop :=
  State.reset.mtime = 0
  ∧ fstate State.reset = 2
  ∧ (∀ p : Port, isLive p.val = true → nstate State.reset p.val = 2)
  ∧ fget State.reset pgSmx Smx.smxCfgRemap = 0
  ∧ fbit State.reset pgSmx Smx.smxBootBootDone = false
  ∧ State.reset.mem = [] ∧ State.reset.errLog = [] ∧ State.reset.faults = [] ∧ State.reset.time.log = []
  ∧ State.reset.pending = []
  ∧ (∀ s : State, ∃ t, exec .aonReset s = .next t
    ∧ t.mtime = 0 ∧ t.mem = [] ∧ t.smx.romCopied = false ∧ t.power = State.reset.power
    ∧ t.fuses = { s.fuses with bootCount := min (s.fuses.bootCount + 1) 8191 }
    ∧ t.pins = s.pins ∧ t.pending = s.pending ∧ t.errLog = [] ∧ t.faults = [] ∧ t.chans = []
    ∧ fstate t = 2 ∧ fget t pgFg Fg.hpStateStable = s.pins.present.toNat ∧ fget t pgFg Fg.hpStateFuse = s.pins.fuse.toNat
    ∧ (s.pins.present = BitVec.allOnes 32 → t.nis = [])
    ∧ (∀ (c : SlotGroup) (p : Nat), p ∈ slotPorts c.val →
        isolated t p = !s.pins.present.getLsbD c.val
        ∧ (s.pins.present.getLsbD c.val = false → fget t (pgNi p) Ni.isoStatCause = 2 ^ cAbsent
            ∧ fbit t (pgNi p) Ni.isoStatSwept = true ∧ (ni t p).diverted = true)))

/-- BOOT_COPY_DONE before BOOT_DONE: with a good read-back the first 64 KiB read as the boot ROM and REMAP sets; the rest
of the working SRAM keeps its bytes, and BOOT_DONE sets either way. BOOT_DONE sets BOOT_DONE and BOOT_END. Each acts only before
BOOT_DONE, and otherwise changes nothing (log entry 77: the model's reading). A part that waits for its reset after a scan copies
nothing (log entry 68: the model's choice). -/
def Obligations.BootCopyAndDone : Prop :=
  (∀ (ok : Bool) (s : State), fbit s pgSmx Smx.smxBootBootDone = false → s.strip.deadUntilReset = false →
    ∃ t, exec (.bootCopyDone ok) s = .next t
      ∧ fbit t pgSmx Smx.smxBootBootDone = true
      ∧ (ok = true → fbit t pgSmx Smx.smxCfgRemap = true
          ∧ ∀ a, a < 65536 → sramByte t a = byteOf (Config.bootRom (a / 8)) (a % 8))
      ∧ (∀ a, 65536 ≤ a → sramByte t a = sramByte s a)
      ∧ RegsKept [fkey pgSmx Smx.smxCfgRemap 0, fkey pgSmx Hdr.pageCtrlQuiesce 0, fkey pgSmx Hdr.pageStatQuiesced 0,
          fkey pgSmx Smx.smxBootBootDone 0, fkey pgSmx Smx.smxEvtBootEnd 0] s t)
  ∧ (∀ s : State, fbit s pgSmx Smx.smxBootBootDone = false →
    exec .bootDone s = .next (fset pgSmx Smx.smxEvtBootEnd 1 (fset pgSmx Smx.smxBootBootDone 1 s)))
  ∧ (∀ s : State, fbit s pgSmx Smx.smxBootBootDone = true →
    exec .bootDone s = .next s ∧ ∀ ok, exec (.bootCopyDone ok) s = .next s)
  ∧ (∀ (ok : Bool) (s : State), s.strip.deadUntilReset = true → exec (.bootCopyDone ok) s = .next s)

/-! ## Links -/

/-- A receiver takes the flit at the front of the wires of its channel, or the IDLE flit of a cycle in which the sender has
nothing to send (log entry 22: the model's choice), with the wires that `err` inverts. A channel out of service loses it. One with
an uncorrectable word is dropped and counted, and a NAK is owed; its corrected words count too (log entry 95: the model's choice).
A good idle flit only frees the replay entries that its ACK covers. The expected flit is accepted; one that breaks the framing of
its VC (R36) counts as uncorrectable and is owed a NAK. A flit ahead of the expected one is owed a NAK; one behind it, a duplicate,
has its ACK sent again (log entry 28: the model's reading). Any flit but an idle one, the dropped one too, restarts the idle count
of the NI it reaches (log entry 149: the model's reading). -/
def Obligations.FlitReceived : Prop :=
  ∀ (ch : ChanId) (err w : WireFlit) (rest : List WireFlit) (s u v : State),
    w = (chan s ch.val).wire.headD (encodeFlit (idleFlit s ch.val)) → rest = (chan s ch.val).wire.tail →
    u = onlyIf (!(chan s ch.val).wire.isEmpty) (modChan ch.val (fun x => { x with wire := x.wire.tail })) s →
    v = satAdd (pgRouter (linkOwner ch.val).1) Rtr.linkErrCntCorrected (correctedWords (flipWires w err)) u (linkOwner ch.val).2 →
    (carries s ch.val = false → exec (.flitReceive ch err) s = .next u)
    ∧ (carries s ch.val = true → decodeFlit (flipWires w err) = none →
      ∃ t, exec (.flitReceive ch err) s = .next t
      ∧ chan t ch.val = { chan s ch.val with wire := rest, nakOn := true }
      ∧ fget t (pgRouter (linkOwner ch.val).1) Rtr.linkErrCntUncorrectable (linkOwner ch.val).2
        = min (fget s (pgRouter (linkOwner ch.val).1) Rtr.linkErrCntUncorrectable (linkOwner ch.val).2 + 1)
            (2 ^ Rtr.linkErrCntUncorrectable.w - 1)
      ∧ t.nis = (stirRx ch.val s).nis ∧ (∀ c, c ≠ ch.val → chan t c = chan s c)
      ∧ RegsKept ([Rtr.linkErrCntUncorrectable, Rtr.linkErrCntCorrected].map
          (fkey (pgRouter (linkOwner ch.val).1) · (linkOwner ch.val).2)) s t)
    ∧ (∀ f, carries s ch.val = true → decodeFlit (flipWires w err) = some f → isSequenced f = false →
      exec (.flitReceive ch err) s = .next (takeAck ch.val f v))
    ∧ (∀ f x, carries s ch.val = true → decodeFlit (flipWires w err) = some f → isSequenced f = true →
      x = onlyIf (f.body != .idle) (stirRx ch.val) v → (f.seq == (chan s ch.val).expSeq) = true →
      (framingBad s ch.val f = false → exec (.flitReceive ch err) s = .next (acceptFlit ch.val f (takeAck ch.val f x)))
      ∧ (framingBad s ch.val f = true → ∃ t, exec (.flitReceive ch err) s = .next t
          ∧ chan t ch.val = { chan s ch.val with wire := rest, nakOn := true }
          ∧ fget t (pgRouter (linkOwner ch.val).1) Rtr.linkErrCntUncorrectable (linkOwner ch.val).2
            = min (fget s (pgRouter (linkOwner ch.val).1) Rtr.linkErrCntUncorrectable (linkOwner ch.val).2 + 1)
                (2 ^ Rtr.linkErrCntUncorrectable.w - 1)
          ∧ t.nis = x.nis ∧ (∀ c, c ≠ ch.val → chan t c = chan s c)))
    ∧ (∀ f x, carries s ch.val = true → decodeFlit (flipWires w err) = some f → isSequenced f = true →
      x = onlyIf (f.body != .idle) (stirRx ch.val) v → (f.seq == (chan s ch.val).expSeq) = false →
      (isAhead s ch.val f = true →
        exec (.flitReceive ch err) s = .next (modChan ch.val (fun x => { x with nakOn := true }) (takeAck ch.val f x)))
      ∧ (isAhead s ch.val f = false →
        exec (.flitReceive ch err) s = .next (modChan ch.val (fun x => { x with ackNews := true }) (takeAck ch.val f x))))

/-- A sender that holds a NAK, or whose replay timer has run out, replays, in a flow hold too (log entry 121: the model's
reading), but not on a link out of service. A replay counts in REPLAYS, one for a NAK with an empty replay buffer too (log entry
96: the model's choice). A retraining that succeeds puts both directions of the link back into service and
resends, and REPLAYS counts each direction that has something to resend (log entry 125: the model's reading); one whose replay
fails, as its operand says (log entry 126: the model's choice), puts the link DOWN, with LINK_DOWN and the DOWNS of both routers.
Training brings a channel of the mesh up, and both directions of the link of an NI that has power. Each holds the link-change
interrupt of a router for whose port LINK_STATE changes. -/
def Obligations.ReplayAndTraining : Prop :=
  (∀ (ch : ChanId) (s : State), carries s ch.val = true →
    ((chan s ch.val).naked = true → exec (.replay ch) s = .next (replayChan ch.val s))
    ∧ ((chan s ch.val).replay ≠ [] →
        fget s (pgRouter (txOwner ch.val).1) Rtr.linkCfgReplayTo ≤ (chan s ch.val).noAck →
        exec (.replayTo ch) s = .next (replayChan ch.val s))
    ∧ (fget (replayChan ch.val s) (pgRouter (txOwner ch.val).1) Rtr.linkErrCntReplays (txOwner ch.val).2
        = min (fget s (pgRouter (txOwner ch.val).1) Rtr.linkErrCntReplays (txOwner ch.val).2 + 1)
            (2 ^ Rtr.linkErrCntReplays.w - 1))
    ∧ ((chan s ch.val).runs + 1 < fget s (pgRouter (txOwner ch.val).1) Rtr.linkCfgRetryLimit → ∀ a,
        a = (chan s ch.val).replay.map (fun e => { e.1 with
          ack := some (((chan s (revChan ch.val)).expSeq + 255) % 256), nak := (chan s (revChan ch.val)).nakOn }) →
        (chan (replayChan ch.val s) ch.val).wire = (chan s ch.val).wire ++ a.map encodeFlit
          ∧ (chan (replayChan ch.val s) ch.val).naked = false)
    ∧ ((chan s ch.val).naked = false → exec (.replay ch) s = .next s)
    ∧ ((chan s ch.val).replay = [] → exec (.replayTo ch) s = .next s))
  ∧ (∀ (ch : ChanId) (s : State), carries s ch.val = false →
    exec (.replay ch) s = .next s ∧ exec (.replayTo ch) s = .next s)
  ∧ (∀ (ch : ChanId) (s : State), hasChan ch.val = true → (chan s ch.val).retraining = true → fabOn s = true →
    (∃ t, exec (.retrainDone ch true) s = .next t ∧ (chan t ch.val).retraining = false
      ∧ (chan t ch.val).naked = false ∧ (chan t (revChan ch.val)).retraining = false ∧ (chan t (revChan ch.val)).naked = false
      ∧ (∀ c, c ≠ ch.val → c ≠ revChan ch.val → chan t c = chan s c)
      ∧ (∀ o ∈ [txOwner ch.val, linkOwner ch.val], linkCode t o.1 o.2 ≠ linkCode s o.1 o.2 →
          (fget t (pgRouter o.1) Hdr.irqStatStat).testBit 1 = true)
      ∧ (∀ c ∈ [ch.val, revChan ch.val], txOwner ch.val ≠ txOwner (revChan ch.val) →
          fget t (pgRouter (txOwner c).1) Rtr.linkErrCntReplays (txOwner c).2
            = min (fget s (pgRouter (txOwner c).1) Rtr.linkErrCntReplays (txOwner c).2 + (!(chan s c).replay.isEmpty).toNat)
                (2 ^ Rtr.linkErrCntReplays.w - 1))
      ∧ RegsKept [fkey (pgRouter (txOwner ch.val).1) Hdr.irqStatStat 0, fkey (pgRouter (linkOwner ch.val).1) Hdr.irqStatStat 0,
          fkey (pgRouter (txOwner ch.val).1) Rtr.linkErrCntReplays (txOwner ch.val).2,
          fkey (pgRouter (txOwner (revChan ch.val)).1) Rtr.linkErrCntReplays (txOwner (revChan ch.val)).2] s t)
    ∧ exec (.retrainDone ch false) s = .next (enterDown ch.val s)
    ∧ (∀ a b, chanEnd ch.val = .inr a → chanEnd (revChan ch.val) = .inr b → ch.val < 1024 →
      ∃ t, exec (.retrainDone ch false) s = .next t
        ∧ (chan t ch.val).st = .down ∧ (chan t (revChan ch.val)).st = .down ∧ (chan t ch.val).replay = []
        ∧ fbit t pgFg Fg.faultEvtLinkDown = true ∧ t.rsvRun ≠ none
        ∧ (∀ o ∈ [txOwner ch.val, linkOwner ch.val], (fget t (pgRouter o.1) Hdr.irqStatStat).testBit 1 = true
            ∧ fget t (pgRouter o.1) Rtr.linkErrCntDowns o.2
              = min (fget s (pgRouter o.1) Rtr.linkErrCntDowns o.2 + 1) (2 ^ Rtr.linkErrCntDowns.w - 1))))
  ∧ (∀ (ch : ChanId) (s : State), s.strip.deadUntilReset = false → hasChan ch.val = true → fabOn s = true →
    (chan s ch.val).st = .train → testHolds s ch.val = false →
    (ch.val < 1024 → 4 ≤ ch.val % 16 →
      ∃ t, exec (.trainDone ch) s = .next t ∧ chan t ch.val = { chan s ch.val with st := .up }
        ∧ (∀ c, c ≠ ch.val → chan t c = chan s c)
        ∧ (∀ o ∈ [txOwner ch.val, linkOwner ch.val], linkCode t o.1 o.2 ≠ linkCode s o.1 o.2 →
            (fget t (pgRouter o.1) Hdr.irqStatStat).testBit 1 = true)
        ∧ RegsKept [fkey (pgRouter (txOwner ch.val).1) Hdr.irqStatStat 0, fkey (pgRouter (linkOwner ch.val).1) Hdr.irqStatStat 0] s t)
    ∧ (1024 ≤ ch.val → niPowered s (ch.val - 1024) = true →
      ∃ t, exec (.trainDone ch) s = .next t ∧ chan t ch.val = { chan s ch.val with st := .up }
        ∧ chan t (revChan ch.val) = { chan s (revChan ch.val) with st := .up }
        ∧ (∀ c, c ≠ ch.val → c ≠ revChan ch.val → chan t c = chan s c)
        ∧ (∀ o ∈ [txOwner ch.val, linkOwner ch.val], linkCode t o.1 o.2 ≠ linkCode s o.1 o.2 →
            (fget t (pgRouter o.1) Hdr.irqStatStat).testBit 1 = true)
        ∧ RegsKept [fkey (pgRouter (txOwner ch.val).1) Hdr.irqStatStat 0, fkey (pgRouter (linkOwner ch.val).1) Hdr.irqStatStat 0] s t)
    ∧ (1024 ≤ ch.val → niPowered s (ch.val - 1024) = false → exec (.trainDone ch) s = .next s)
    ∧ (ch.val < 1024 → ch.val % 16 < 4 → exec (.trainDone ch) s = .next s))

/-! ## Routers -/

/-- A HEAD that enters an input register of a router is counted one hop, its deadline is synthesised where R155 asks for it, and it
is routed, or disposed of by a router-built answer once the build store has room; a packet that waits for the store is disposed
of then. A router latches the flits that its inputs offer at its first grant of a cycle (log entry 100: the model's choice); an
arbitration point grants the winner of its arbitration among them, and changes nothing more without a winner. An NI grants the
winner of its own. A disposed packet leaves its buffer, counts in the counter of its cause and as removed from its epoch, unless
the flits behind it are lost, so that it is counted where they were cut off (log entry 137: the model's reading), and has its
answer in the build store, with EPOCH the injecting epoch at the build (log entry 99: the model's choice); a granted HEAD leaves
its buffer and goes onto the output's wires. -/
def Obligations.HeadsAndGrants : Prop :=
  (∀ (r : RouterId) (i : PortIdx) (v : Vc) (s : State), hasPort r.val i.val = true → fabOn s = true →
    (firstUnseen (packetsOf (vcBuf s (inChan r.val i.val) v.val).slots) 0 = none → exec (.headArrive r i v) s = .next s)
    ∧ (∀ k h0 ft, firstUnseen (packetsOf (vcBuf s (inChan r.val i.val) v.val).slots) 0 = some (k, h0, ft) →
      (∀ rt, judgeHead s r.val i.val v.val (synthesise s i.val (hopped h0)) ft = .routed rt →
        exec (.headArrive r i v) s = .next (modVc (inChan r.val i.val) v.val (fun b =>
          { b with slots := setDisp (.routed rt) (setHead (fun _ => synthesise s i.val (hopped h0)) b.slots k) k }) s))
      ∧ (∀ w, judgeHead s r.val i.val v.val (synthesise s i.val (hopped h0)) ft = .build w →
          ∃ t, t = modVc (inChan r.val i.val) v.val (fun b => { b with
              slots := setDisp (.build w) (setHead (fun _ => synthesise s i.val (hopped h0)) b.slots k) k }) s
            ∧ exec (.headArrive r i v) s = .next (if waitsStore t r.val (synthesise s i.val (hopped h0)) then t
                else dispose r.val i.val v.val k w (synthesise s i.val (hopped h0)) t)))
    ∧ (∀ k h w, firstBuild (packetsOf (vcBuf s (inChan r.val i.val) v.val).slots) 0 = some (k, h, w) →
      (waitsStore s r.val h = false →
        exec (.buildStoreConsume r i v) s = .next (dispose r.val i.val v.val k w h s))
      ∧ (waitsStore s r.val h = true → exec (.buildStoreConsume r i v) s = .next s)))
  ∧ (∀ (ch : ChanId) (s u : State), hasChan ch.val = true → u = beginCycle (ch.val / 16) s →
    (ch.val < 1024 → arbitrate u (ch.val / 16) (ch.val % 16) = none → exec (.flitGrant ch) s = .next u)
    ∧ (∀ w, ch.val < 1024 → arbitrate u (ch.val / 16) (ch.val % 16) = some w → w.pos ≠ 14 →
        exec (.flitGrant ch) s = .next (grantIn (ch.val / 16) w (noteGrant (ch.val / 16) w u)))
    ∧ (∀ w, ch.val < 1024 → arbitrate u (ch.val / 16) (ch.val % 16) = some w → w.pos = 14 →
        exec (.flitGrant ch) s = .next (grant14 (ch.val / 16) w (noteGrant (ch.val / 16) w u)))
    ∧ (1024 ≤ ch.val → niWinner s (ch.val - 1024) = none → exec (.flitGrant ch) s = .next s)
    ∧ (∀ w, 1024 ≤ ch.val → niWinner s (ch.val - 1024) = some w →
        exec (.flitGrant ch) s = .next (grantNi (ch.val - 1024) w s)))
  ∧ (∀ (r inp v k : Nat) (w : BuildWhy) (h : Header) (s t : State), t = dispose r inp v k w h s → isAnswered h = false →
    (vcBuf t (inChan r inp) v).slots = dropPacket (vcBuf s (inChan r inp) v).slots k
    ∧ fget t (pgRouter r) (whyCounter w) = min (fget s (pgRouter r) (whyCounter w) + 1) (2 ^ (whyCounter w).w - 1)
    ∧ (cutShort s (inChan r inp) v k = false →
        (router t r).rem1 = (router s r).rem1 + h.epoch.toNat ∧ (router t r).rem0 = (router s r).rem0 + (!h.epoch).toNat)
    ∧ (cutShort s (inChan r inp) v k = true →
        (router t r).rem1 = (router s r).rem1 ∧ (router t r).rem0 = (router s r).rem0))
  ∧ (∀ (r inp v k : Nat) (w : BuildWhy) (h a : Header) (s t : State), t = dispose r inp v k w h s → isAnswered h = true →
    a = { routerAnswer h (whyStatus w) with epoch := injEpoch s } → (routeEntry s r a).valid = true →
    isLive a.dst.toNat = true → (router t r).store = (router s r).store ++ [{ hdr := a, data := dataFlits a, going := none }])
  ∧ (∀ (r : Nat) (w : Cand) (h : Header) (tail : Bool) (d : Disp) (rest : List Slot) (s t : State), t = grantIn r w s →
    (vcBuf s (inChan r w.pos) w.vc).slots = .head h tail d :: rest →
    (vcBuf t (inChan r w.pos) w.vc).slots = rest ∧ (vcBuf t (inChan r w.pos) w.vc).starve = 0
    ∧ (4 ≤ w.out → inChan r w.pos ≠ outChan r w.out → (chan t (outChan r w.out)).sent = true
        ∧ (chan t (outChan r w.out)).wire.length = (chan s (outChan r w.out)).wire.length + 1))

/-- A class B or C head flit whose starvation count has reached STARVE_LIMIT puts its packet into group 2, in a buffer, at an NI and
among the packets that wait at input 14; below the limit nothing changes. A Stop Bath absorber takes the packet at the front of
its input unless it withholds it for want of room for an answer: the packet leaves the buffer, it counts as removed from its
epoch, unless its tail was cut off on the way (log entry 137: the model's reading), and it is answered or discarded with the status
of the isolation. -/
def Obligations.StarvedAndAbsorbed : Prop :=
  (∀ (ch : ChanId) (i : Fin 15) (v : Vc) (s : State) (h : Header),
    hasChan ch.val = true → ch.val < 1024 → i.val ≠ 14 → hasPort (ch.val / 16) i.val = true →
    frontHeader (vcBuf s (inChan (ch.val / 16) i.val) v.val) = some h → isBC h = true →
    (starveLimit s ≤ (vcBuf s (inChan (ch.val / 16) i.val) v.val).starve →
      ∃ t, exec (.starveLimit ch i v) s = .next t
        ∧ vcBuf t (inChan (ch.val / 16) i.val) v.val
          = { vcBuf s (inChan (ch.val / 16) i.val) v.val with starved := true }
        ∧ t.regs = s.regs ∧ t.nis = s.nis)
    ∧ ((vcBuf s (inChan (ch.val / 16) i.val) v.val).starve < starveLimit s →
      exec (.starveLimit ch i v) s = .next s))
  ∧ (∀ (r : RouterId) (i : Fin 15) (v : Vc) (s : State) (h : Header) (tl : Bool) (rt : Route) (l : List Slot) (o : Nat),
    i.val ≠ 14 → hasPort r.val i.val = true →
    (vcBuf s (inChan r.val i.val) v.val).slots = .head h tl (.routed rt) :: l → absorbOut s r.val rt = some o →
    (withholds s r.val o h = false →
      exec (.absorb r i v) s = .next (absorbPacket r.val o (absorbStatus s r.val o) h
        (onlyIf (!cutShort s (inChan r.val i.val) v.val 0) (addRem r.val h.epoch)
          (consumePacket (inChan r.val i.val) v.val 0 s))))
    ∧ (withholds s r.val o h = true → exec (.absorb r i v) s = .next s))
  ∧ (∀ (ch : ChanId) (i : Fin 15) (v : Vc) (s : State), hasChan ch.val = true →
    (1024 ≤ ch.val → i.val = 0 → exec (.starveLimit ch i v) s
        = .next (modNi (ch.val - 1024) (fun n => { n with ready := starveReady (starveLimit s) v.val n.ready }) s))
    ∧ (1024 ≤ ch.val → i.val ≠ 0 → starveLimit s ≤ tget 0 (ni s (ch.val - 1024)).teiStarve v.val →
        exec (.starveLimit ch i v) s = .next (modNi (ch.val - 1024)
          (fun n => { n with teiStarved := v.val :: n.teiStarved.filter (· != v.val) }) s))
    ∧ (ch.val < 1024 → i.val = 14 →
        exec (.starveLimit ch i v) s = .next (modRouter (ch.val / 16) (starveBuilt (starveLimit s) v.val) s)))
  ∧ (∀ (r : RouterId) (i : Fin 15) (v : Vc) (s : State), i.val = 14 →
    (builtToAbsorb s r.val (List.range 15) = none → exec (.absorb r i v) s = .next s)
    ∧ (∀ src b o, builtToAbsorb s r.val (List.range 15) = some (src, b, o) →
      exec (.absorb r i v) s = .next (absorbPacket r.val o (absorbStatus s r.val o) b.hdr
        (addRem r.val b.hdr.epoch (dropBuilt r.val src s)))))

/-! ## Route epochs (R89 to R93) -/

/-- Arming a route flip: refused with the first cause that holds, BANK_BUSY, PAST or ARMED, the flip that is armed standing as it
was, else armed at RT_FLIP_TIME; disarming cancels it; one write of both disarms first. -/
def Obligations.FlipArming : Prop :=
  ∀ s : State,
    (bankIdle s (!injEpoch s) = false →
      exec .flipArm s = .next (fset pgFg Fg.rtEpochStatFlipRefused 1 (fset pgFg Fg.rtEpochStatRefuseCause 1 s)))
    ∧ (bankIdle s (!injEpoch s) = true → fget s pgFg Fg.rtFlipTimeFlipTime < s.mtime.toNat + 1024 →
      exec .flipArm s = .next (fset pgFg Fg.rtEpochStatFlipRefused 1 (fset pgFg Fg.rtEpochStatRefuseCause 2 s)))
    ∧ (bankIdle s (!injEpoch s) = true → s.mtime.toNat + 1024 ≤ fget s pgFg Fg.rtFlipTimeFlipTime →
      s.time.flipAt ≠ none →
      exec .flipArm s = .next (fset pgFg Fg.rtEpochStatFlipRefused 1 (fset pgFg Fg.rtEpochStatRefuseCause 3 s)))
    ∧ (bankIdle s (!injEpoch s) = true → s.mtime.toNat + 1024 ≤ fget s pgFg Fg.rtFlipTimeFlipTime →
      s.time.flipAt = none →
      ∃ t, exec .flipArm s = .next t ∧ t.time.flipAt = some (fget s pgFg Fg.rtFlipTimeFlipTime)
        ∧ fget t pgFg Fg.rtEpochStatArmed = 1 ∧ RegsKept [fkey pgFg Fg.rtEpochStatArmed 0] s t)
    ∧ (∃ t, exec .flipDisarm s = .next t ∧ t.time.flipAt = none ∧ fget t pgFg Fg.rtEpochStatArmed = 0
        ∧ RegsKept [fkey pgFg Fg.rtEpochStatArmed 0] s t
        ∧ exec .flipRearm s = exec .flipArm t ∧ ∃ u, exec .flipArm t = .next u)

/-- At the flip INJ_EPOCH toggles, the old epoch starts draining and FLIP_COUNT advances; before it is due, or while an event
that stands before it in the order of its edge has not fired (R144), nothing happens. A drain
sample writes the residual count and, at zero, ends the draining; it takes RT_DRAIN_LIMIT over, and a drain longer than the limit
of the last sample sets DRAIN_STALL, once for a flip. -/
def Obligations.RouteFlips : Prop :=
  (∀ s : State,
    (due s s.time.flipAt = true → dueBefore s srcFlip = false →
      ∃ t, exec .routeFlip s = .next t ∧ injEpoch t = !injEpoch s
        ∧ fbit t pgFg Fg.rtEpochStatDraining = true ∧ fbit t pgFg Fg.rtEpochStatDrainDone = false
        ∧ fget t pgFg Fg.rtEpochStatFlipCount
          = (fget s pgFg Fg.rtEpochStatFlipCount + 1) % 2 ^ Fg.rtEpochStatFlipCount.w
        ∧ t.time.flipAt = none ∧ t.flipUs = s.us
        ∧ RegsKept (firingKeys ++ [Fg.rtEpochStatArmed, Fg.rtEpochStatInjEpoch, Fg.rtEpochStatDraining, Fg.rtEpochStatDrainDone,
            Fg.rtEpochStatFlipCount, Fg.rtEpochStatFlipHoldover, Hdr.irqStatStat].map (fkey pgFg · 0)) s t)
    ∧ (due s s.time.flipAt = false ∨ dueBefore s srcFlip = true → exec .routeFlip s = .next s))
  ∧ (∀ s : State, fbit s pgFg Fg.rtEpochStatDraining = true →
    (drainCount s (!injEpoch s) = 0 →
      ∃ t, exec .drainSample s = .next t ∧ fbit t pgFg Fg.rtEpochStatDraining = false
        ∧ fbit t pgFg Fg.rtEpochStatDrainDone = true ∧ fget t pgFg Fg.rtDrainCountResidual = 0
        ∧ t.flipLim = fget s pgFg Fg.rtDrainLimitLimitUs
        ∧ RegsKept ([Fg.rtDrainCountResidual, Fg.rtEpochStatDraining, Fg.rtEpochStatDrainDone, Fg.rtDrainCountLastDrainNs,
            Hdr.irqStatStat].map (fkey pgFg · 0)) s t)
    ∧ (drainCount s (!injEpoch s) ≠ 0 →
      exec .drainSample s = .next (fset pgFg Fg.rtDrainCountResidual (drainCount s (!injEpoch s) % 2 ^ 24).toNat
        { s with flipLim := fget s pgFg Fg.rtDrainLimitLimitUs }))
    ∧ (s.flipStalled = false → s.flipLim < s.us - s.flipUs →
      ∃ t, exec .drainStall s = .next t ∧ fbit t pgFg Fg.rtEpochStatDrainStall = true ∧ t.flipStalled = true
        ∧ RegsKept [fkey pgFg Fg.rtEpochStatDrainStall 0] s t)
    ∧ (s.flipStalled = true → exec .drainStall s = .next s))

/-- A write of RT_DATA: to a bank that is not idle it sets BANK_BUSY and writes nothing, in F3 or under test STATE_WRITE instead
(R89); a reserved entry sets PAGE_ERR and writes nothing; otherwise the image takes the value, which it shows in F3 and under test
too, and the entry of a router that runs takes it, and no other entry of any router changes. A mask bit of a port that the router
lacks makes the entry a reserved one (R78; log entry 18: the model's reading). -/
def Obligations.RouteEntryWritten : Prop :=
  ∀ (r : RouterId) (value w : Word) (s : State) (bank port : Nat), w = value &&& BitVec.ofNat 64 (2 ^ 37 - 1) →
    bank = fget s (pgRouter r.val) Rtr.rtIndexBank → port = fget s (pgRouter r.val) Rtr.rtIndexEntry →
    (bankIdle s (bank == 1) = false →
      ∃ t, exec (.rtData r value) s = .next t ∧ t.rt = s.rt ∧ t.rtImg = s.rtImg
        ∧ (rtEntryOk r.val w = false → fbit t (pgRouter r.val) Hdr.pageErrReservedEnc = true)
        ∧ (fabOn s = true → (router s r.val).underTest = false → fbit t (pgRouter r.val) Rtr.rtStatusBankBusy = true)
        ∧ (fabOn s = false ∨ (router s r.val).underTest = true → fbit t (pgRouter r.val) Hdr.pageErrStateWrite = true)
        ∧ RegsKept (fkey (pgRouter r.val) Rtr.rtStatusBankBusy 0 :: fkey (pgRouter r.val) Rtr.rtIndexEntry 0
            :: pageErrKeys (pgRouter r.val)) s t)
    ∧ (bankIdle s (bank == 1) = true → rtEntryOk r.val w = false →
      ∃ t, exec (.rtData r value) s = .next t ∧ t.rt = s.rt ∧ t.rtImg = s.rtImg
        ∧ fbit t (pgRouter r.val) Hdr.pageErrReservedEnc = true
        ∧ RegsKept (fkey (pgRouter r.val) Rtr.rtIndexEntry 0 :: pageErrKeys (pgRouter r.val)) s t)
    ∧ (bankIdle s (bank == 1) = true → rtEntryOk r.val w = true →
      ∃ t, exec (.rtData r value) s = .next t ∧ rtImgWord t r.val bank port = w
        ∧ (fabOn s = true → (router s r.val).underTest = false → rtWord t r.val bank port = w)
        ∧ (fabOn s = false ∨ (router s r.val).underTest = true → t.rt = s.rt)
        ∧ (∀ k, k ≠ rtKey r.val bank port → tfind t.rt k = tfind s.rt k ∧ tfind t.rtImg k = tfind s.rtImg k)
        ∧ RegsKept [fkey (pgRouter r.val) Rtr.rtIndexEntry 0] s t)

/-! ## Transactions -/

/-- An endpoint's REQUEST that passes the submission checks takes the lowest free entry and goes through CHECK; one that is
framed badly is dropped with TEI_ERR.FRAMING and changes nothing else: so from the restart of the TEI in a wake on. A directory
NI refuses a BIS whose MCAST is zero in CHECK: its endpoint gets a BIR with STATUS = PROTOCOL_ERR (R111). -/
def Obligations.RequestTaken : Prop :=
  ∀ (p : Port) (sub : Submission) (s : State), isLive p.val = true → p.val ≠ portBridge → niPowered s p.val = true →
    (sub.framed = false → exec (.teiRequest p sub) s = .next (fset (pgNi p.val) Ni.teiErrFraming 1 s))
    ∧ (∀ tag, sub.framed = true → reqAvail s p.val ≠ 0 → isolated s p.val = false →
        (sub.kind == 0 && requestKind p.val sub.hdr) = true → freeTag (wakeN1 p.val s) p.val = some tag →
        exec (.teiRequest p sub) s = .next (checkRequest p.val tag (leg0Header (wakeN1 p.val s) p.val tag sub)
          (if isHost p.val then sub.ldid else 0).toNat
          (takeEntry p.val tag
            { st := .check, hdr := leg0Header (wakeN1 p.val s) p.val tag sub
              data := fitData (leg0Header (wakeN1 p.val s) p.val tag sub) sub.data, etag := sub.etag
              ldid := if isHost p.val then sub.ldid else 0
              ndrExp := sub.ndrExp, t0ns := nowNs (wakeN1 p.val s) } (wakeN1 p.val s))))
    ∧ (∀ tag, sub.framed = true → reqAvail s p.val ≠ 0 → isolated s p.val = false → portType p.val = .dir →
        sub.kind = 0 → sub.hdr.mcls = 4 → sub.hdr.mcast = 0 → freeTag (wakeN1 p.val s) p.val = some tag →
        ∃ t d, exec (.teiRequest p sub) s = .next t
          ∧ tget [] (ni t p.val).fifo (injectVc d.hdr) = tget [] (ni s p.val).fifo (injectVc d.hdr) ++ [d]
          ∧ d.hdr.mcls = 5 ∧ d.hdr.status = 9 ∧ d.hdr.dst = BitVec.ofNat 8 p.val ∧ d.etag = sub.etag ∧ d.frees = some tag)

/-- The lookup that the check plane of a row grants enters the engine: the engine counts it and a denial, forms the verdict from the
banks, of which those that show an uncorrectable error fail (R21), and sends one verdict message back to the NI. A denial and a
logged grant write their record, in the order of the deciding cycle and of the engines, into a store of 256; with the store full
the drop is counted. The round robin of the leaves and nodes is decided at engine entry (log entry 27: the model's choice). A
report of a denial only writes its record. The row then offers what an NI with fewer than eight lookups and verdicts in flight
still has waiting. The verdict at the front of an NI's queue completes the CHECK of the entry that waits
for it. -/
def Obligations.LookupAndVerdict : Prop :=
  (∀ (e : Fin 8) (bad17 badBank : Bool) (s : State), nodeGrant (checkRow s e.val) e.val 3 1 = none →
    exec (.artLookup e bad17 badBank) s = .next s)
  ∧ (∀ (e : Fin 8) (bad17 badBank : Bool) (s u x : State) (q : Lookup), nodeGrant (checkRow s e.val) e.val 3 1 = some q →
    u = wrapAdd pgCp Cp.cpEngLookups 1 (maxIn pgCp Cp.cpTreeWaitMax ((s.cyc - q.since.getD s.cyc) / 2)
        (setCheckRow e.val (takeGrant q (checkRow s e.val)) s) e.val) e.val →
    x = failRead q bad17 badBank u →
    fget u pgCp Cp.cpEngLookups e.val = (fget s pgCp Cp.cpEngLookups e.val + 1) % 2 ^ Cp.cpEngLookups.w
    ∧ (bad17 = false → badBank = false → x = u)
    ∧ (q.report = none →
      ∃ t m, exec (.artLookup e bad17 badBank) s = .next t
        ∧ checkRow t e.val = { takeGrant q (checkRow s e.val) with
            waiting := offerAll t [] (takeGrant q (checkRow s e.val)).waiting }
        ∧ (∀ r, r ≠ e.val → checkRow t r = checkRow s r)
        ∧ (ni t q.port).verdicts = (ni s q.port).verdicts ++ [m] ∧ m.tag = q.tag ∧ m.v = verdictOf x q
        ∧ (m.v.allow = false →
            fget t pgCp Cp.cpEngDenials e.val = (fget x pgCp Cp.cpEngDenials e.val + 1) % 2 ^ Cp.cpEngDenials.w)
        ∧ (m.v.allow = true → fget t pgCp Cp.cpEngDenials e.val = fget x pgCp Cp.cpEngDenials e.val)
        ∧ (isRecorded m.v = false → t.faults = x.faults)
        ∧ (isRecorded m.v = true → t.faults = (insertRec ⟨BitVec.ofNat 64 q.addr, faultWord q m.v,
              BitVec.ofNat 64 (8 * (x.cyc / 2) + q.port / 32)⟩ x.faults).take 256)
        ∧ (isRecorded m.v = true → x.faults.length < 256 → fbit t pgArt Art.artEvtFault = true)
        ∧ (isRecorded m.v = true → 256 ≤ x.faults.length → fbit t pgArt Art.artEvtFaultOvf = true
            ∧ fget t pgArt Art.artCountersFaultDropped
              = min (fget x pgArt Art.artCountersFaultDropped + 1) (2 ^ Art.artCountersFaultDropped.w - 1))
        ∧ t.art = x.art ∧ t.chans = s.chans ∧ t.mem = s.mem)
    ∧ (∀ v, q.report = some v → exec (.artLookup e bad17 badBank) s = .next (offerRow e.val (recordFault q v u))))
  ∧ (∀ (p : Port) (s : State) (m : VerdictMsg) (rest : List VerdictMsg) (u : State),
    (ni s p.val).verdicts = m :: rest → m.install = none →
    u = offerRow (p.val / 32) (modNi p.val (fun n => { n with verdicts := rest }) s) →
    (∀ e, entry s p.val m.tag = some e → (e.st == .check) = true → e.waitsArt = true →
      exec (.verdictReturn p) s = .next (takeVerdict p.val m.tag m.v u))
    ∧ (entry s p.val m.tag = none → exec (.verdictReturn p) s = .next u))
  ∧ (∀ (p : Port) (s : State), (ni s p.val).verdicts = [] → exec (.verdictReturn p) s = .next s)

/-- The admission test of an NI, which at a host first takes a refill tick that is due (log entry 113: the model's choice), opens
the entry that its pick names, queues its leg 0 and injects it when it wins the local channel; with nothing eligible only the hold
flags are brought up to date. A ready leg or response that wins the local channel is injected: its next flit goes onto the wires.
-/
def Obligations.AdmissionOpens : Prop :=
  ∀ (p : Port) (s x : State), isLive p.val = true → niOn s p.val = true →
    x = holdFlags p.val (if isHost p.val then refillTick s else s) →
    (isHost p.val = false → eligible x p.val = [] → exec (.admission p) s = .next x)
    ∧ (∀ e l, isHost p.val = false → eligible x p.val = e :: l →
        exec (.admission p) s = .next (injectLeg0 p.val e.1 (openEntry p.val e.1 e.2
          (modNi p.val (fun n => { n with admitted := true })
            (countWaits p.val e.1 [] (movePtr p.val e.2.fq .none x))))))
    ∧ (∀ e b, isHost p.val = true → (ni s p.val).admitted = false →
        pickHost x p.val (eligible x p.val) = some (e, b) →
        exec (.admission p) s = .next (injectLeg0 p.val e.1 (openEntry p.val e.1 e.2
          (modNi p.val (fun n => { n with admitted := true })
            (countWaits p.val e.1 (eligible x p.val) (movePtr p.val e.2.fq b x))))))
    ∧ (isHost p.val = true → (ni s p.val).admitted = false → pickHost x p.val (eligible x p.val) = none →
        exec (.admission p) s = .next x)
    ∧ (isHost p.val = true → (ni s p.val).admitted = true → exec (.admission p) s = .next s)
    ∧ (∀ w src, niWinner s p.val = some w → headOfWinner s p.val w = some src → (∀ t, src ≠ .leg0 t) →
        exec (.niInject p) s = .next (grantNi p.val w s))
    ∧ (∀ tag e t, t = openEntry p.val tag e s →
        (entry t p.val tag).map (·.st) = some (if e.hdr.mcls = 4 ∨ e.hdr.mcls = 6 ∧ e.hdr.opc = 2 then .hold else .opened)
        ∧ (ni t p.val).ready.map (·.src)
          = (ni s p.val).ready.map (·.src) ++ (leg0Packets (travelHeader s p.val e)).map (fun _ => .leg0 tag))
    ∧ (∀ w r, (ni s p.val).ready[w.out]? = some r → (r.headSent = true → r.data ≠ []) →
        (chan (grantNi p.val w s) (niChan p.val)).sent = true
        ∧ (chan (grantNi p.val w s) (niChan p.val)).wire.length = (chan s (niChan p.val)).wire.length + 1)

/-- A response whose TAIL has arrived is matched by TAG: with no entry, or one that is not OPEN, it is stray (R99), and so is a
BIR of a host whose bit of the entry's mask is clear; an orphan's is dropped and frees the entry; otherwise the entry takes the
answer, and a served entry the data of its fetch. An answer that is taken closes its entry and waits for delivery with the
endpoint's tag; one with the wrong length is replaced by PROTOCOL_ERR, with LENGTH_MISMATCH (R117). -/
def Obligations.ResponseMatched : Prop :=
  ∀ (p : Port) (v : Vc) (s : State) (h : Header) (b : Bool) (d : Disp) (x : List Slot)
    (l : List (Header × Bool × Disp × List Slot)), isLive p.val = true → niOn s p.val = true → unitPort p.val = false →
    packetsOf (vcBuf s (niRxChan p.val) v.val).slots = (h, b, d, x) :: l → isResponse h = true →
    endsTail (frontPacket (vcBuf s (niRxChan p.val) v.val).slots).1 = true →
    (entry s p.val h.tag.toNat = none →
      exec (.responseArrive p v) s
        = .next (strayResponse p.val h (consumePacket (niRxChan p.val) v.val 0 (wakeN1 p.val s))))
    ∧ (∀ e, entry s p.val h.tag.toNat = some e → (e.st == .opened) = false →
        exec (.responseArrive p v) s
          = .next (strayResponse p.val h (consumePacket (niRxChan p.val) v.val 0 (wakeN1 p.val s))))
    ∧ (∀ e, entry s p.val h.tag.toNat = some e → (e.st == .opened) = true → (e.role == .served) = false → e.orphan = true →
        exec (.responseArrive p v) s
          = .next (freeEntry p.val h.tag.toNat (consumePacket (niRxChan p.val) v.val 0 (wakeN1 p.val s))))
    ∧ (∀ e, entry s p.val h.tag.toNat = some e → (e.st == .opened) = true → (e.role == .served) = false → e.orphan = false →
        teiTakes s p.val = true → e.hdr.mcls ≠ 4 →
        exec (.responseArrive p v) s
          = .next (takeAnswer p.val v.val h.tag.toNat e h (slotData (frontPacket (vcBuf s (niRxChan p.val) v.val).slots).1)
              (consumePacket (niRxChan p.val) v.val 0 (wakeN1 p.val s))))
    ∧ (∀ e, entry s p.val h.tag.toNat = some e → (e.st == .opened) = true → (e.role == .served) = false → e.orphan = false →
        teiTakes s p.val = true → e.hdr.mcls = 4 →
        exec (.responseArrive p v) s
          = .next (takeBir p.val v.val h.tag.toNat e h (consumePacket (niRxChan p.val) v.val 0 (wakeN1 p.val s)))
        ∧ ((birHost h).filter e.mask.getLsbD = none →
            exec (.responseArrive p v) s
              = .next (strayResponse p.val h (consumePacket (niRxChan p.val) v.val 0 (wakeN1 p.val s)))))
    ∧ (∀ e f, entry s p.val h.tag.toNat = some e → (e.st == .opened) = true → (e.role == .served) = true → e.fetch = some f →
        (ni s p.val).ready.any (fun r => !r.headSent && (match r.src with | .fetch t => t == h.tag.toNat | _ => false)) = false →
        teiTakes s p.val = true →
        exec (.responseArrive p v) s
          = .next (takeFetch p.val v.val h.tag.toNat e h (slotData (frontPacket (vcBuf s (niRxChan p.val) v.val).slots).1)
              (consumePacket (niRxChan p.val) v.val 0 (wakeN1 p.val s))))
    ∧ (∀ tag e a data t, entry s p.val tag = some e → e.smx = false → e.sl = none → t = takeAnswer p.val v.val tag e a data s →
        (entry t p.val tag).map (·.st) = some .close
        ∧ ∃ d, tget [] (ni t p.val).fifo v.val = tget [] (ni s p.val).fifo v.val ++ [d] ∧ d.kind = 1 ∧ d.etag = e.etag
          ∧ d.frees = some tag
          ∧ ((e.hdr.mcls == 0 && a.mcls == 3 && (a.len != e.hdr.len || a.tailBytes != 0)) = false → d.hdr = a ∧ d.data = data)
          ∧ ((e.hdr.mcls == 0 && a.mcls == 3 && (a.len != e.hdr.len || a.tailBytes != 0)) = true →
              d.hdr.status = 9 ∧ d.hdr.len = e.hdr.len ∧ fbit t (pgNi p.val) Ni.txnErrLengthMismatch = true))

/-- A delivery credit raises the NI's count of its VC by one and ends the wait for ACCEPT, up to 255; an overflow sets TEI_ERR.CRD_OVF
and keeps the count. The TEI's winner takes one delivery credit of its VC, and its beat goes to the endpoint, with eop on the last
beat, after which the packet is gone and the entry that it closes is free; a delivered request that expects a response opens its
receipt with its first beat. Without a winner nothing moves. -/
def Obligations.CreditsAndBeats : Prop :=
  (∀ (p : Port) (v : Vc) (s : State), isLive p.val = true → teiAble s p.val = true →
    (tget 0 (ni s p.val).dnCrd v.val < 255 →
      ∃ t, exec (.deliveryCredit p v) s = .next t
        ∧ tget 0 (ni t p.val).dnCrd v.val = tget 0 (ni s p.val).dnCrd v.val + 1 ∧ tget 0 (ni t p.val).accWait v.val = 0
        ∧ (∀ w, w ≠ v.val → tget 0 (ni t p.val).dnCrd w = tget 0 (ni s p.val).dnCrd w)
        ∧ (∀ q, q ≠ p.val → ni t q = ni s q) ∧ t.regs = s.regs ∧ t.chans = s.chans)
    ∧ (255 ≤ tget 0 (ni s p.val).dnCrd v.val →
      exec (.deliveryCredit p v) s = .next (fset (pgNi p.val) Ni.teiErrCrdOvf 1 s)))
  ∧ (∀ (p : Port) (s : State), isLive p.val = true →
    (teiWinner s p.val = none → exec (.teiDeliver p) s = .next s)
    ∧ (∀ w d rest, teiWinner s p.val = some w → tget [] (ni s p.val).fifo w.vc = d :: rest → 2 ≤ d.data.length →
        ∃ t, exec (.teiDeliver p) s = .next t
          ∧ tget 0 (ni t p.val).dnCrd w.vc = tget 0 (ni s p.val).dnCrd w.vc - 1
          ∧ tget [] (ni t p.val).fifo w.vc = { d with begun := true, data := d.data.tail } :: rest
          ∧ (ni t p.val).lastBeat.map (·.data) = some d.data.head? ∧ t.regs = s.regs ∧ t.chans = s.chans)
    ∧ (∀ w d rest, teiWinner s p.val = some w → tget [] (ni s p.val).fifo w.vc = d :: rest → d.data.length ≤ 1 →
        ∃ t, exec (.teiDeliver p) s = .next t
          ∧ tget 0 (ni t p.val).dnCrd w.vc = tget 0 (ni s p.val).dnCrd w.vc - 1
          ∧ tget [] (ni t p.val).fifo w.vc = rest
          ∧ (ni t p.val).lastBeat.map (fun b => (b.eop, b.data)) = some (true, d.data.head?)
          ∧ (∀ tag, d.frees = some tag → entry t p.val tag = none) ∧ t.chans = s.chans)
    ∧ (∀ w h disp rest, teiWinner s p.val = some w → tget [] (ni s p.val).fifo w.vc = [] →
        (vcBuf s (niRxChan p.val) w.vc).slots = .head h true disp :: rest →
        ∃ t, exec (.teiDeliver p) s = .next t
          ∧ tget 0 (ni t p.val).dnCrd w.vc = tget 0 (ni s p.val).dnCrd w.vc - 1
          ∧ (vcBuf t (niRxChan p.val) w.vc).slots = rest
          ∧ (ni t p.val).lastBeat.map (fun b => (b.sop, b.eop, b.hdr, b.data)) = some (true, true, h, none)
          ∧ (ni t p.val).receipts = (ni s p.val).receipts ++ (if isAnswered h then [{ hdr := h, age := 0 }] else [])
          ∧ t.regs = s.regs)
    ∧ (∀ w h disp x y rest, teiWinner s p.val = some w → tget [] (ni s p.val).fifo w.vc = [] →
        (vcBuf s (niRxChan p.val) w.vc).slots = .head h false disp :: .data x y :: rest →
        ∃ t, exec (.teiDeliver p) s = .next t
          ∧ tget 0 (ni t p.val).dnCrd w.vc = tget 0 (ni s p.val).dnCrd w.vc - 1
          ∧ (vcBuf t (niRxChan p.val) w.vc).slots = rest
          ∧ (ni t p.val).lastBeat.map (fun b => (b.sop, b.eop, b.hdr, b.data)) = some (true, y, h, some x)
          ∧ (ni t p.val).receipts = (ni s p.val).receipts ++ (if isAnswered h then [{ hdr := h, age := 0 }] else [])
          ∧ t.regs = s.regs))

/-- A waypoint NI with room accepts the HEAD of an incoming leg: it takes the lowest free entry as a served request. -/
def Obligations.WaypointServes : Prop :=
  ∀ (p : Port) (v : Vc) (s : State) (k tag : Nat) (h : Header) (d : Disp), isLive p.val = true → niOn s p.val = true →
    isolated s p.val = false → servedRoom s p.val = true →
    firstUnserved p.val (packetsOf (vcBuf s (niRxChan p.val) v.val).slots) 0 = some (k, h, d) →
    freeTag s p.val = some tag →
    ∃ t, exec (.waypointAccept p v) s = .next t
      ∧ (entry t p.val tag).map (·.hdr) = some h ∧ (entry t p.val tag).map (·.role) = some .served
      ∧ (entry t p.val tag).map (·.st) = some .opened
      ∧ (∀ q, q ≠ p.val → ni t q = ni s q) ∧ (∀ c, c ≠ niRxChan p.val → chan t c = chan s c)
      ∧ RegsKept [fkey pgPower Pwr.pwrNiStatNstate p.val, fkey (pgNi p.val) Ni.txnStatHighWater 0] s t

/-- An endpoint's RESPONSE, RELAY and FETCH results that pass the submission checks, which apply from the restart of the TEI in a
wake on, are matched to the open receipt of their source and tag: without one they are refused as R242 says. The legacy timer of an open entry that has expired closes the entry and
answers it with TIMEOUT_LEGACY, for a BIS in the name of its lowest host that has not answered (log entry 35: the model's
reading); below the limit, or with LEGACY_EN clear, nothing happens. -/
def Obligations.ResultsAndLegacy : Prop :=
  (∀ (p : Port) (sub : Submission) (s : State), isLive p.val = true → niPowered s p.val = true → sub.framed = true →
    rspAvail s p.val ≠ 0 → isolated s p.val = false →
    ((sub.kind == 1 && responseKind p.val sub.hdr) = true →
      openReceipt (ni (wakeN1 p.val s) p.val) sub.hdr.dst.toNat sub.hdr.tag.toNat = none →
      exec (.teiResponse p sub) s = .next (noReceipt p.val sub.hdr.dst.toNat sub.hdr.tag.toNat sub.hdr (wakeN1 p.val s)))
    ∧ (∀ q, (sub.kind == 1 && responseKind p.val sub.hdr) = true →
      openReceipt (ni (wakeN1 p.val s) p.val) sub.hdr.dst.toNat sub.hdr.tag.toNat = some q →
      servedEntry (ni (wakeN1 p.val s) p.val) sub.hdr.dst.toNat sub.hdr.tag.toNat = none →
      exec (.teiResponse p sub) s
        = .next (sendResponse p.val (.receipt sub.hdr.dst.toNat sub.hdr.tag.toNat) false q.hdr sub (wakeN1 p.val s)))
    ∧ (∀ q t e, (sub.kind == 1 && responseKind p.val sub.hdr) = true →
      openReceipt (ni (wakeN1 p.val s) p.val) sub.hdr.dst.toNat sub.hdr.tag.toNat = some q →
      servedEntry (ni (wakeN1 p.val s) p.val) sub.hdr.dst.toNat sub.hdr.tag.toNat = some (t, e) → resultStray e = false →
      exec (.teiResponse p sub) s = .next (sendResponse p.val (.served t) true e.hdr sub
        (modEntry p.val t (fun e => { e with resulted := true }) (wakeN1 p.val s))))
    ∧ (∀ q t e, (sub.kind == 2 && isEngine p.val) = true →
      openReceipt (ni (wakeN1 p.val s) p.val) sub.hdr.src.toNat sub.hdr.tag.toNat = some q →
      servedEntry (ni (wakeN1 p.val s) p.val) sub.hdr.src.toNat sub.hdr.tag.toNat = some (t, e) → resultStray e = false →
      exec (.teiRelay p sub) s = .next (relayResult p.val t e sub (wakeN1 p.val s)))
    ∧ (∀ q t e, (sub.kind == 3 && isEngine p.val) = true →
      openReceipt (ni (wakeN1 p.val s) p.val) sub.hdr.src.toNat sub.hdr.tag.toNat = some q →
      servedEntry (ni (wakeN1 p.val s) p.val) sub.hdr.src.toNat sub.hdr.tag.toNat = some (t, e) → resultStray e = false →
      exec (.teiFetch p sub) s = .next (fetchResult p.val t e sub (wakeN1 p.val s))))
  ∧ (∀ (p : Port) (tag : BitVec 11) (s : State) (e : Entry), entry s p.val tag.toNat = some e → (e.st == .opened) = true →
    (e.role == .leg0) = true →
    (fbit s (pgNi p.val) Ni.legacyCfgLegacyEn = true → e.legTo ≤ e.age →
      exec (.legacyTimeout p tag) s = .next (refuseToEp p.val
        { e with hdr := match (firstHost e.mask).map hostPort with
            | some k => { e.hdr with dst := BitVec.ofNat 8 k }
            | none => e.hdr } tag.toNat stLegacy
        (fset pgFg Fg.faultEvtLegacyTimeout 1
          (satAdd (pgNi p.val) Ni.faultCntLegacyTimeouts 1 (modEntry p.val tag.toNat (fun e => { e with legacy := true })
            (closeEntry p.val tag.toNat (noteLegacy e s)))))))
    ∧ (e.age < e.legTo → exec (.legacyTimeout p tag) s = .next s)
    ∧ (fbit s (pgNi p.val) Ni.legacyCfgLegacyEn = false → exec (.legacyTimeout p tag) s = .next s))

/-! ## Staged words with a rule of their own -/

/-- A write of a SAD word with a reserved value, which for word 1 is LIMIT below BASE, of CLS_W1 with LIMIT below BASE, and of
DM_W1 with END below START keeps the whole word and sets PAGE_ERR.RESERVED_ENC; any other write reaches the staged copies only. -/
def Obligations.StagedWords : Prop :=
  (∀ (p : Port) (k : Fin 64) (value : Word) (s : State), hasSad p.val = true → sadW1Bad value.toNat = false →
    ∃ t, exec (.sadWrite p k true value) s = .next t
      ∧ sget t (pgNi p.val) Ni.sadW1Limit k.val = value.toNat / 2 ^ 26 % 2 ^ Ni.sadW1Limit.w
      ∧ sget t (pgNi p.val) Ni.sadW1Base k.val = value.toNat % 2 ^ Ni.sadW1Base.w
      ∧ RegsKept [fkey (pgNi p.val) Hdr.pageStatStaged 0] s t)
  ∧ (∀ (p : Port) (k : Fin 64) (value : Word) (s : State), hasSad p.val = true → sadW1Bad value.toNat = true →
    ∃ t, exec (.sadWrite p k true value) s = .next t ∧ t.staged = s.staged
      ∧ fbit t (pgNi p.val) Hdr.pageErrReservedEnc = true ∧ RegsKept (pageErrKeys (pgNi p.val)) s t)
  ∧ (∀ (p : Port) (k : Fin 64) (value : Word) (s : State), hasSad p.val = true → sadW0Bad value.toNat = false →
    ∃ t, exec (.sadWrite p k false value) s = .next t
      ∧ (∀ f ∈ [Ni.sadW0Valid, Ni.sadW0Kind, Ni.sadW0Ways, Ni.sadW0Gran, Ni.sadW0Tgt, Ni.sadW0RdChain, Ni.sadW0WrChain],
          sget t (pgNi p.val) f k.val = value.toNat / 2 ^ f.lo % 2 ^ f.w)
      ∧ RegsKept [fkey (pgNi p.val) Hdr.pageStatStaged 0] s t)
  ∧ (∀ (p : Port) (k : Fin 64) (w : Bool) (value : Word) (s : State), hasSad p.val = false →
    exec (.sadWrite p k w value) s = .next s)
  ∧ (∀ (p : Port) (k : Fin 64) (value : Word) (s : State), hasSad p.val = true → sadW0Bad value.toNat = true →
    ∃ t, exec (.sadWrite p k false value) s = .next t ∧ t.staged = s.staged
      ∧ fbit t (pgNi p.val) Hdr.pageErrReservedEnc = true ∧ RegsKept (pageErrKeys (pgNi p.val)) s t)
  ∧ (∀ (h : HostId) (value : Word) (s : State), value.toNat / 2 ^ 26 % 2 ^ 26 < value.toNat % 2 ^ 26 →
    ∃ t, exec (.clsW1 h value) s = .next t ∧ t.staged = s.staged
      ∧ fbit t (pgFqw h.val) Hdr.pageErrReservedEnc = true
      ∧ RegsKept (fkey (pgFqw h.val) Fqw.clsSelIndex 0 :: pageErrKeys (pgFqw h.val)) s t)
  ∧ (∀ (h : HostId) (value : Word) (s : State), value.toNat % 2 ^ 26 ≤ value.toNat / 2 ^ 26 % 2 ^ 26 →
    ∃ t, exec (.clsW1 h value) s = .next t
      ∧ sget t (pgFqw h.val) Fqw.clsW1Base (fget s (pgFqw h.val) Fqw.clsSelIndex) = value.toNat % 2 ^ 26
      ∧ sget t (pgFqw h.val) Fqw.clsW1Limit (fget s (pgFqw h.val) Fqw.clsSelIndex) = value.toNat / 2 ^ 26 % 2 ^ 26
      ∧ RegsKept [fkey (pgFqw h.val) Hdr.pageStatStaged 0, fkey (pgFqw h.val) Fqw.clsSelIndex 0] s t)
  ∧ (∀ (k : Fin 16) (value : Word) (s : State),
    (value.toNat % 2 ^ 46 < sget s pgArt Art.dmW0Start k.val →
      ∃ t, exec (.dmW1 k value) s = .next t ∧ t.staged = s.staged ∧ fbit t pgArt Hdr.pageErrReservedEnc = true
        ∧ RegsKept (pageErrKeys pgArt) s t)
    ∧ (sget s pgArt Art.dmW0Start k.val ≤ value.toNat % 2 ^ 46 →
      ∃ t, exec (.dmW1 k value) s = .next t
        ∧ sget t pgArt Art.dmW1End k.val = value.toNat % 2 ^ 46 % 2 ^ Art.dmW1End.w
        ∧ RegsKept [fkey pgArt Hdr.pageStatStaged 0] s t))

/-! ## Machine time (R133 to R151) -/

/-- Losing tb_ref in SLEW or LOCKED forces HOLDOVER, in ACQUIRE the state it came from, and sets TB_LOSS; MTIME does not step;
TB_REF_PRESENT stays only where the lock was lost with edges arriving. The same HOLDOVER follows CODE_LOSS_LIMIT bad frames and a
QUIESCE of the TIME page in SLEW, LOCKED or SW_DISC; each entry sets HOLDOVER_ENTER and increments HO_COUNT. A QUIESCE in ACQUIRE
returns to the state it came from and counts none (R359), and ACQUIRE without a lock within 50 µs falls back; when the acquisition
detector locks is an operand of ACQUIRE (log entry 103: the model's choice). -/
def Obligations.ReferenceLost : Prop :=
  ∀ s : State,
    (∀ edges, s.pins.tbRef = true → inSlewLocked s = true →
      ∃ t, exec (.tbRefLoss edges) s = .next t ∧ timeState t = tsHoldover ∧ t.pins.tbRef = edges
        ∧ fbit t pgTime Tu.timeEvtTbLoss = true ∧ fget t pgTime Tu.holdoverStatHoElapsedUs = 0 ∧ t.mtime = s.mtime
        ∧ fbit t pgTime Tu.timeEvtHoldoverEnter = true
        ∧ fget t pgTime Tu.holdoverStatHoCount = (fget s pgTime Tu.holdoverStatHoCount + 1) % 2 ^ Tu.holdoverStatHoCount.w
        ∧ RegsKept (fkey pgTime Tu.timeEvtTbLoss 0 :: holdoverKeys) s t)
    ∧ (∀ edges, s.pins.tbRef = true → timeState s = tsAcquire →
      ∃ t, exec (.tbRefLoss edges) s = .next t ∧ timeState t = s.time.origin % 2 ^ Tu.timeStatState.w ∧ t.pins.tbRef = edges
        ∧ fbit t pgTime Tu.timeEvtTbLoss = true
        ∧ RegsKept [fkey pgTime Tu.timeEvtTbLoss 0, fkey pgTime Tu.timeStatState 0] s t)
    ∧ (∀ edges, s.pins.tbRef = false → exec (.tbRefLoss edges) s = .next s)
    ∧ (∀ (page : PageNo) (m : Fin 5), page.val = pgTime → fbit s pgTime Hdr.pageCtrlQuiesce = false →
      (inSlewLocked s = true ∨ timeState s = tsSwDisc →
        ∃ t, exec (.quiesce page true m) s = .next t ∧ timeState t = tsHoldover ∧ t.mtime = s.mtime
          ∧ fbit t pgTime Tu.timeEvtHoldoverEnter = true ∧ fbit t pgTime Hdr.pageStatQuiesced = true
          ∧ fget t pgTime Tu.holdoverStatHoCount = (fget s pgTime Tu.holdoverStatHoCount + 1) % 2 ^ Tu.holdoverStatHoCount.w
          ∧ RegsKept (fkey pgTime Hdr.pageCtrlQuiesce 0 :: fkey pgTime Hdr.pageStatQuiesced 0 :: holdoverKeys) s t)
      ∧ (timeState s = tsAcquire →
        ∃ t, exec (.quiesce page true m) s = .next t ∧ timeState t = s.time.origin % 2 ^ Tu.timeStatState.w
          ∧ t.mtime = s.mtime ∧ fbit t pgTime Hdr.pageStatQuiesced = true
          ∧ RegsKept [fkey pgTime Hdr.pageCtrlQuiesce 0, fkey pgTime Hdr.pageStatQuiesced 0, fkey pgTime Tu.timeStatState 0] s t)
      ∧ (timeState s = tsFreerun ∨ timeState s = tsHoldover →
        ∃ t, exec (.quiesce page true m) s = .next t ∧ timeState t = timeState s
          ∧ RegsKept [fkey pgTime Hdr.pageCtrlQuiesce 0, fkey pgTime Hdr.pageStatQuiesced 0] s t))
    ∧ (inSlewLocked s = true → fget s pgTime Tu.timeCtrlCodeLossLimit ≤ s.time.badRun →
      ∃ t, exec .codeLoss s = .next t ∧ timeState t = tsHoldover ∧ fbit t pgTime Tu.timeEvtCodeLoss = true
        ∧ fbit t pgTime Tu.timeEvtHoldoverEnter = true
        ∧ fget t pgTime Tu.holdoverStatHoCount = (fget s pgTime Tu.holdoverStatHoCount + 1) % 2 ^ Tu.holdoverStatHoCount.w
        ∧ RegsKept (fkey pgTime Tu.timeEvtCodeLoss 0 :: holdoverKeys) s t)
    ∧ (timeState s = tsAcquire → 50 ≤ s.us - s.time.acqUs → lockedInTime s = true → exec .acqFail s = .next s)
    ∧ (timeState s = tsAcquire → 50 ≤ s.us - s.time.acqUs → lockedInTime s = false →
      ∃ t, exec .acqFail s = .next t ∧ timeState t = s.time.origin % 2 ^ Tu.timeStatState.w
        ∧ fbit t pgTime Tu.timeEvtAcqFail = true
        ∧ RegsKept [fkey pgTime Tu.timeEvtAcqFail 0, fkey pgTime Tu.timeStatState 0] s t)

/-- The frame CRC (R133): the polynomial 0x1021 from 0xFFFF, most significant bit first, no reflection and no final XOR, over the 72
bits of FLAGS and EDGE_TIME in order of transmission; it gives 0x29B1 for "123456789". The fields stand in the cells most
significant bit first, a cell being 1 when its second half is high (R130, R131). A frame whose SYNC and cells are right and
whose CRC does not match counts in TB_COUNTERS.CRC; one whose CRC matches never does. -/
def Obligations.TimebaseCrc : Prop :=
  crc16 (([0x31, 0x32, 0x33, 0x34, 0x35, 0x36, 0x37, 0x38, 0x39] : List Nat).flatMap
      (fun c => (List.range 8).map (fun i => c.testBit (7 - i)))) 0xFFFF = 0x29B1
  ∧ (∀ b c, c < 65536 → crc16 [b] c = if (c.testBit 15 != b) = true then (2 * c % 65536) ^^^ 0x1021 else 2 * c % 65536)
  ∧ (∀ x y c, crc16 (x ++ y) c = crc16 y (crc16 x c))
  ∧ (∀ f : TbFrame, (frameBits f).length = 72 ∧ (∀ i, i < 8 → (frameBits f)[i]? = some (f.flags.getLsbD (7 - i)))
      ∧ (∀ i, i < 64 → (frameBits f)[8 + i]? = some (f.edge.getLsbD (63 - i))))
  ∧ (∀ (cells : BitVec 200) (f : TbFrame), f = decodeFrame cells →
      (∀ i, i < 8 → f.flags.getLsbD (7 - i) = cells.getLsbD (2 * (4 + i) + 1))
      ∧ (∀ i, i < 64 → f.edge.getLsbD (63 - i) = cells.getLsbD (2 * (12 + i) + 1))
      ∧ (∀ i, i < 16 → f.crc.getLsbD (15 - i) = cells.getLsbD (2 * (76 + i) + 1))
      ∧ (f.sync = true ↔ ∀ i, i < 8 → cells.getLsbD i = decide (i < 4))
      ∧ (f.clean = true ↔ ∀ i, i < 96 → cells.getLsbD (2 * (4 + i)) = !cells.getLsbD (2 * (4 + i) + 1)))
  ∧ (∀ (cells : BitVec 200) (f : TbFrame) (s : State), f = decodeFrame cells →
      srcSoftware s = false → s.pins.tbRef = true → f.sync = true → f.clean = true →
      (crc16 (frameBits f) 0xFFFF ≠ f.crc.toNat →
        ∃ t, exec (.tbFrame cells) s = .next t
          ∧ fget t pgTime Tu.tbCountersCrc = min (fget s pgTime Tu.tbCountersCrc + 1) (2 ^ Tu.tbCountersCrc.w - 1)
          ∧ t.mtime = s.mtime ∧ RegsKept [fkey pgTime Tu.tbCountersCrc 0] s t)
      ∧ (crc16 (frameBits f) 0xFFFF = f.crc.toNat →
        ∃ t, exec (.tbFrame cells) s = .next t ∧ fget t pgTime Tu.tbCountersCrc = fget s pgTime Tu.tbCountersCrc))

/-- ACQUIRE is entered from FREERUN or HOLDOVER, with the timebase as source and the page not quiesced, and stands for the
presence of tb_ref, also where it is not entered (log entry 92: the model's choice), and starts the runs of frames anew (log entry
14: the model's choice); a frame is judged at the edge that it announces (log entry 104: the model's choice); a bad frame counts
in its counter and ends the run of good ones; a good frame in ACQUIRE lengthens it, and one with STEP in SLEW or LOCKED announces
a step. -/
def Obligations.Acquiring : Prop :=
  ∀ s : State,
    ((timeState s == tsFreerun || timeState s == tsHoldover) = true → srcSoftware s = false → timeQuiesced s = false →
      ∀ lockUs, ∃ t, exec (.acquire lockUs) s = .next t ∧ timeState t = tsAcquire ∧ t.pins.tbRef = true
        ∧ t.time.origin = timeState s ∧ t.time.acqLock = lockUs ∧ t.time.goodRun = 0
        ∧ RegsKept [fkey pgTime Tu.timeStatState 0] s t)
    ∧ ((timeState s ≠ tsFreerun ∧ timeState s ≠ tsHoldover) ∨ srcSoftware s = true ∨ timeQuiesced s = true →
      ∀ lockUs, ∃ t, exec (.acquire lockUs) s = .next t ∧ t.pins.tbRef = true ∧ timeState t = timeState s ∧ t.regs = s.regs
        ∧ t.time.goodRun = s.time.goodRun ∧ t.mtime = s.mtime)
    ∧ (∀ cells f cnt, f = decodeFrame cells → srcSoftware s = false → s.pins.tbRef = true → judgeFrame s f = some cnt →
      ∃ t, exec (.tbFrame cells) s = .next t ∧ fget t pgTime cnt = min (fget s pgTime cnt + 1) (2 ^ cnt.w - 1)
        ∧ t.time.badRun = s.time.badRun + 1 ∧ t.time.goodRun = 0
        ∧ RegsKept [fkey pgTime cnt 0] s t)
    ∧ (∀ cells f, f = decodeFrame cells → srcSoftware s = false → s.pins.tbRef = true → judgeFrame s f = none →
      f.flags.getLsbD 1 = false →
      timeState s = tsAcquire →
      ∃ t, exec (.tbFrame cells) s = .next t ∧ t.time.goodRun = s.time.goodRun + 1 ∧ t.time.badRun = 0
        ∧ t.time.alignAt = some f.edge
        ∧ RegsKept ([Tu.timeStatFlagsLast, Tu.lastFrameEdgeTime, Tu.timeEvtUpstreamHoldover].map (fkey pgTime · 0)) s t)
    ∧ (∀ cells f, f = decodeFrame cells → srcSoftware s = false → s.pins.tbRef = true → judgeFrame s f = none →
      f.flags.getLsbD 1 = true →
      inSlewLocked s = true →
      ∃ t, exec (.tbFrame cells) s = .next t ∧ t.time.stepAt = some f.edge ∧ t.time.badRun = 0 ∧ t.mtime = s.mtime
        ∧ RegsKept ([Tu.timeStatFlagsLast, Tu.lastFrameEdgeTime, Tu.timeEvtUpstreamHoldover].map (fkey pgTime · 0)) s t)

/-- MTIME steps and slews: the first alignment from FREERUN and an announced step put MTIME at the announced edge plus the delay,
for the step the delay in force now where a changed one waits for the same edge (log entry 122: the model's choice), enter LOCKED, set STEPPED and record the change in LAST_STEP; an alignment from HOLDOVER acts by the row of R139 that its offset
meets; each cancels what a slew still had to remove, a tick not yet withheld with it; a slew adds or withholds one tick and is due
again SLEW_PERIOD later; a delay change within SLEW_LIMIT, or one backward where STEP_BACK_EN is 0, only adds to the offset that a
slew has still to remove, any other steps MTIME by itself and leaves that offset (log entry 15: the model's reading), and with no
offset left LOCKED follows; MTIME_SET in FREERUN or HOLDOVER with the page quiesced steps MTIME to the value and enters FREERUN,
and is refused with PAGE_ERR otherwise. -/
def Obligations.TimeAdjusted : Prop :=
  ∀ s : State,
    (∀ e, s.time.alignAt = some e → timeState s = tsAcquire → detectorLocked s = true →
      fget s pgTime Tu.timeCtrlAcqFrames ≤ s.time.goodRun → s.time.origin = tsFreerun →
      ∃ t, exec .align s = .next t ∧ t.mtime = e + BitVec.ofInt 64 (delayTicks s) ∧ t.time.offset = 0
        ∧ timeState t = tsLocked ∧ fbit t pgTime Tu.timeEvtStepped = true ∧ fbit t pgTime Tu.timeEvtLockAcquired = true
        ∧ t.time.skip = 0 ∧ fget t pgTime Tu.lastStepDelta = (t.mtime - s.mtime).toNat)
    ∧ (∀ (e : Word) (o : Int), s.time.alignAt = some e → timeState s = tsAcquire → detectorLocked s = true →
      fget s pgTime Tu.timeCtrlAcqFrames ≤ s.time.goodRun → s.time.origin = tsHoldover →
      o = ((e + BitVec.ofInt 64 (delayTicks s)).toNat : Int) - s.mtime.toNat →
      (o = 0 →
        ∃ t, exec .align s = .next t ∧ t.mtime = s.mtime ∧ t.time.offset = 0 ∧ t.time.skip = 0 ∧ timeState t = tsLocked
          ∧ fbit t pgTime Tu.timeEvtLockAcquired = true ∧ RegsKept holdoverKeys s t)
      ∧ (o ≠ 0 → (-(fget s pgTime Tu.timeCtrlSlewLimit : Int) ≤ o ∧ o ≤ fget s pgTime Tu.timeCtrlSlewLimit)
            ∨ (o < 0 ∧ fbit s pgTime Tu.timeCtrlStepBackEn = false) →
        ∃ t, exec .align s = .next t ∧ t.mtime = s.mtime ∧ t.time.offset = o ∧ t.time.skip = 0 ∧ timeState t = tsSlew
          ∧ RegsKept holdoverKeys s t)
      ∧ ((fget s pgTime Tu.timeCtrlSlewLimit : Int) < o
            ∨ (o < -(fget s pgTime Tu.timeCtrlSlewLimit : Int) ∧ fbit s pgTime Tu.timeCtrlStepBackEn = true) →
        ∃ t, exec .align s = .next t ∧ t.mtime = e + BitVec.ofInt 64 (delayTicks s) ∧ t.time.offset = 0 ∧ t.time.skip = 0
          ∧ timeState t = tsLocked ∧ fbit t pgTime Tu.timeEvtStepped = true ∧ fbit t pgTime Tu.timeEvtLockAcquired = true
          ∧ fget t pgTime Tu.lastStepDelta = (t.mtime - s.mtime).toNat))
    ∧ (s.time.alignAt = none ∨ timeState s ≠ tsAcquire ∨ detectorLocked s = false
        ∨ s.time.goodRun < fget s pgTime Tu.timeCtrlAcqFrames → exec .align s = .next s)
    ∧ (∀ e, s.time.stepAt = some e → inSlewLocked s = true →
      ∃ t, exec .stepAnnounced s = .next t ∧ t.mtime = e + BitVec.ofInt 64 s.time.delayNow ∧ t.time.offset = 0
        ∧ timeState t = tsLocked ∧ fbit t pgTime Tu.timeEvtStepped = true ∧ fbit t pgTime Tu.timeEvtStepAnnounced = true
        ∧ t.time.skip = 0 ∧ fget t pgTime Tu.lastStepDelta = (t.mtime - s.mtime).toNat)
    ∧ (0 < s.time.offset → s.time.slewAt ≤ s.mtime →
      ∃ t, exec .slewStep s = .next t ∧ t.mtime = s.mtime + 1 ∧ t.time.offset = s.time.offset - 1
        ∧ t.time.slewAt = s.time.slewAt + BitVec.ofNat 64 (fget s pgTime Tu.timeCtrlSlewPeriod)
        ∧ (s.time.offset = 1 → timeState s = tsSlew → timeState t = tsLocked)
        ∧ RegsKept holdoverKeys s t)
    ∧ (s.time.offset < 0 → s.time.slewAt ≤ s.mtime →
      ∃ t, exec .slewStep s = .next t ∧ t.mtime = s.mtime ∧ t.time.skip = s.time.skip + 1
        ∧ t.time.slewAt = s.time.slewAt + BitVec.ofNat 64 (fget s pgTime Tu.timeCtrlSlewPeriod)
        ∧ t.time.offset = s.time.offset + 1 ∧ RegsKept holdoverKeys s t)
    ∧ (s.time.offset = 0 ∨ s.mtime < s.time.slewAt → exec .slewStep s = .next s)
    ∧ (∀ o, s.time.delayChg = some o → inSlewLocked s = true → o ≠ 0 →
      -(fget s pgTime Tu.timeCtrlSlewLimit : Int) ≤ o → o ≤ fget s pgTime Tu.timeCtrlSlewLimit →
      ∃ t, exec .delayChange s = .next t ∧ t.mtime = s.mtime ∧ t.time.delayNow = s.time.delayNow + o
        ∧ t.time.delayChg = none ∧ t.time.offset = s.time.offset + o
        ∧ timeState t = (if s.time.offset + o = 0 then tsLocked else tsSlew) ∧ RegsKept holdoverKeys s t)
    ∧ (∀ o, s.time.delayChg = some o → inSlewLocked s = true →
      o < -(fget s pgTime Tu.timeCtrlSlewLimit : Int) → fbit s pgTime Tu.timeCtrlStepBackEn = false →
      ∃ t, exec .delayChange s = .next t ∧ t.mtime = s.mtime ∧ t.time.delayNow = s.time.delayNow + o
        ∧ t.time.delayChg = none ∧ t.time.offset = s.time.offset + o
        ∧ timeState t = (if s.time.offset + o = 0 then tsLocked else tsSlew) ∧ RegsKept holdoverKeys s t)
    ∧ (∀ o, s.time.delayChg = some o → inSlewLocked s = true →
      (fget s pgTime Tu.timeCtrlSlewLimit : Int) < o
        ∨ (o < -(fget s pgTime Tu.timeCtrlSlewLimit : Int) ∧ fbit s pgTime Tu.timeCtrlStepBackEn = true) →
      ∃ t, exec .delayChange s = .next t ∧ t.mtime = s.mtime + BitVec.ofInt 64 o ∧ t.time.delayNow = s.time.delayNow + o
        ∧ t.time.delayChg = none ∧ t.time.offset = s.time.offset ∧ timeState t = (if s.time.offset = 0 then tsLocked else tsSlew)
        ∧ fbit t pgTime Tu.timeEvtStepped = true ∧ fget t pgTime Tu.lastStepDelta = (t.mtime - s.mtime).toNat)
    ∧ (∀ v, fbit s pgTime Hdr.pageStatQuiesced = true → (timeState s = tsFreerun ∨ timeState s = tsHoldover) →
      ∃ t, exec (.mtimeSet v) s = .next t ∧ t.mtime = v ∧ t.time.offset = 0 ∧ t.time.skip = 0 ∧ timeState t = tsFreerun
        ∧ fbit t pgTime Tu.timeEvtStepped = true ∧ fget t pgTime Tu.lastStepDelta = (v - s.mtime).toNat)
    ∧ (∀ v : Word, fbit s pgTime Hdr.pageStatQuiesced = true → timeState s ≠ tsFreerun → timeState s ≠ tsHoldover →
      ∃ t, exec (.mtimeSet v) s = .next t ∧ t.mtime = s.mtime ∧ fbit t pgTime Hdr.pageErrStateWrite = true
        ∧ RegsKept (pageErrKeys pgTime) s t)
    ∧ (∀ v : Word, fbit s pgTime Hdr.pageStatQuiesced = false → v.toNat ≠ fget s pgTime Tu.mtimeSetValue →
      ∃ t, exec (.mtimeSet v) s = .next t ∧ t.mtime = s.mtime ∧ fbit t pgTime Hdr.pageErrStaticWrite = true
        ∧ RegsKept (pageErrKeys pgTime) s t)

/-- The software clock: with SRC = SOFTWARE, SW_FREQ within ±500 ppm takes effect and one beyond is a reserved encoding, which
leaves the time and its state as they were (log entry 19: the model's choice); SW_PHASE adds to the offset; with the timebase as source both set PAGE_ERR.STATE_WRITE; a silent SW_WDOG_MS ends SW_DISC in HOLDOVER.
HOLDOVER_LONG sets once HO_ELAPSED_US has reached HO_ALARM_MS. A rise of tb_snap latches MTIME and sets SNAP_NEW, unless one
within the last µs did. -/
def Obligations.SoftwareClockAndSnap : Prop :=
  (∀ (s : State) (v : Word),
    (srcSoftware s = true → -(500 * 65536) ≤ (v.extractLsb' 0 32).toInt → (v.extractLsb' 0 32).toInt ≤ 500 * 65536 →
      ∃ t, exec (.swFreq v) s = .next t
        ∧ fget t pgTime Tu.swFreqFreqAdj = (v.extractLsb' 0 32).toNat % 2 ^ Tu.swFreqFreqAdj.w
        ∧ RegsKept (fkey pgTime Tu.swFreqFreqAdj 0 :: holdoverKeys) s t
        ∧ ((timeState s == tsFreerun || timeState s == tsHoldover) = true → timeState t = tsSwDisc))
    ∧ (srcSoftware s = true → (v.extractLsb' 0 32).toInt < -(500 * 65536) ∨ 500 * 65536 < (v.extractLsb' 0 32).toInt →
      ∃ t, exec (.swFreq v) s = .next t ∧ fbit t pgTime Hdr.pageErrReservedEnc = true ∧ t.time = s.time
        ∧ RegsKept (pageErrKeys pgTime) s t)
    ∧ (srcSoftware s = false →
      ∃ t, exec (.swFreq v) s = .next t ∧ fbit t pgTime Hdr.pageErrStateWrite = true ∧ t.time = s.time
        ∧ RegsKept (pageErrKeys pgTime) s t)
    ∧ (srcSoftware s = true →
      ∃ t, exec (.swPhase v) s = .next t ∧ t.time.offset = s.time.offset + (v.extractLsb' 0 32).toInt ∧ t.mtime = s.mtime
        ∧ t.time.swUs = s.us ∧ t.regs = s.regs)
    ∧ (srcSoftware s = false →
      ∃ t, exec (.swPhase v) s = .next t ∧ fbit t pgTime Hdr.pageErrStateWrite = true ∧ t.time = s.time
        ∧ RegsKept (pageErrKeys pgTime) s t)
    ∧ (timeState s = tsSwDisc → fget s pgTime Tu.timeLimitsSwWdogMs * 1000 ≤ s.us - s.time.swUs →
      ∃ t, exec .swWdogExpired s = .next t ∧ timeState t = tsHoldover
        ∧ fbit t pgTime Tu.timeEvtSwWdogExpired = true
        ∧ RegsKept (fkey pgTime Tu.timeEvtSwWdogExpired 0 :: holdoverKeys) s t))
  ∧ (∀ s : State,
    (s.time.holdover = true → s.time.holdLong = false →
      fget s pgTime Tu.timeLimitsHoAlarmMs * 1000 ≤ fget s pgTime Tu.holdoverStatHoElapsedUs →
      ∃ t, exec .holdoverLong s = .next t ∧ fbit t pgTime Tu.timeEvtHoldoverLong = true ∧ t.time.holdLong = true
        ∧ RegsKept [fkey pgTime Tu.timeEvtHoldoverLong 0] s t)
    ∧ (s.time.holdLong = true → exec .holdoverLong s = .next s)
    ∧ (s.time.snapAt = none ∨ (∃ a, s.time.snapAt = some a ∧ 4000 ≤ s.mtime - a) →
      ∃ t, exec .tbSnap s = .next t ∧ fget t pgTime Tu.snapSnapTime = s.mtime.toNat
        ∧ fbit t pgTime Tu.timeEvtSnapNew = true ∧ t.time.snapAt = some s.mtime
        ∧ RegsKept [fkey pgTime Tu.snapSnapTime 0, fkey pgTime Tu.timeEvtSnapNew 0] s t)
    ∧ (∀ a, s.time.snapAt = some a → s.mtime - a < 4000 → exec .tbSnap s = .next s))

/-- A software timer: a write of ARM with a legal period arms it at TARGET, DISARM disarms it, and one write of both disarms
first; a periodic ARM with PERIOD below 4,000 is a reserved encoding, which leaves both fields as they were (R6); at its time, and
after the events that stand before it in the order of its edge (R144), it sets its TIME_EVT bit and is disarmed, or armed a whole
number of periods later, TARGET keeping the written value (log entry 139: the model's choice). The event log gives up its oldest
record. -/
def Obligations.TimersFire : Prop :=
  ∀ (k : Fin 4) (s : State),
    (∀ v : Word, (v.getLsbD 3 = false ∨ 4000 ≤ (v.extractLsb' 8 32).toNat) →
      ∃ t, exec (.timerArm k v) s = .next t
        ∧ tget none t.time.timers k.val
          = some (fget s pgTime Tu.timerTimeTarget k.val, if v.getLsbD 3 then (v.extractLsb' 8 32).toNat else 0)
        ∧ fbit t pgTime Tu.timerCtrlArmed k.val = true
        ∧ RegsKept ([Tu.timerCtrlPeriod, Tu.timerCtrlPeriodic, Tu.timerCtrlArmed].map (fkey pgTime · k.val)) s t)
    ∧ (∀ v : Word, v.getLsbD 3 = true → (v.extractLsb' 8 32).toNat < 4000 →
      ∃ t, exec (.timerArm k v) s = .next t ∧ fbit t pgTime Hdr.pageErrReservedEnc = true
        ∧ tget none t.time.timers k.val
          = some (fget s pgTime Tu.timerTimeTarget k.val,
              if fbit s pgTime Tu.timerCtrlPeriodic k.val then fget s pgTime Tu.timerCtrlPeriod k.val else 0)
        ∧ RegsKept (fkey pgTime Tu.timerCtrlArmed k.val :: pageErrKeys pgTime) s t)
    ∧ (∀ v : Word, ∃ t, exec (.timerDisarm k v) s = .next t ∧ tget none t.time.timers k.val = none
        ∧ fbit t pgTime Tu.timerCtrlArmed k.val = false)
    ∧ (∀ v : Word, ∃ u, exec (.timerDisarm k v) s = .next u ∧ exec (.timerRearm k v) s = .next (timerArm k.val u))
    ∧ (∀ at' per, tget none s.time.timers k.val = some (at', per) → s.mtime.toNat < at' ∨ dueBefore s (srcTimer k.val) = true →
      exec (.timerFire k) s = .next s)
    ∧ (tget none s.time.timers k.val = none → exec (.timerFire k) s = .next s)
    ∧ (∀ at', tget none s.time.timers k.val = some (at', 0) → at' ≤ s.mtime.toNat → dueBefore s (srcTimer k.val) = false →
      ∃ t, exec (.timerFire k) s = .next t ∧ tget none t.time.timers k.val = none
        ∧ fbit t pgTime Tu.timerCtrlArmed k.val = false ∧ (fget t pgTime Tu.timeEvtTimer).testBit k.val = true
        ∧ RegsKept (firingKeys ++ [fkey pgTime Tu.timeEvtTimer 0, fkey pgTime Tu.timerCtrlArmed k.val]) s t)
    ∧ (∀ at' per, tget none s.time.timers k.val = some (at', per) → per ≠ 0 → at' ≤ s.mtime.toNat →
      dueBefore s (srcTimer k.val) = false →
      ∃ t, exec (.timerFire k) s = .next t
        ∧ tget none t.time.timers k.val = some (at' + (s.mtime.toNat - at') / per * per + per, per)
        ∧ (fget t pgTime Tu.timeEvtTimer).testBit k.val = true
        ∧ RegsKept (firingKeys ++ [fkey pgTime Tu.timeEvtTimer 0]) s t)
    ∧ (∃ t, exec .evtLogPop s = .next t ∧ t.time.log = s.time.log.tail ∧ t.regs = s.regs
        ∧ t.time.timers = s.time.timers)

/-- A service port takes the request at the front of its receive buffer: a management read or write is answered by the unit (an
answer that R64 calls malformed is not sent but recorded as NI_REFUSED), a message is discarded and recorded, and any other
class, and a management completion (log entry 138: the model's reading), is refused as at a tied-off port, as is everything at the ledger's port once the ledger is fused out; with nothing there nothing
happens. -/
def Obligations.ServicePorts : Prop :=
  ∀ (v : Vc) (s : State),
    (∀ h x, portFront s portTime v.val = some h → x = consumePacket (niRxChan portTime) v.val 0 (wakeN1 portTime s) →
      ((h.mcls == 6 && (h.opc == 0 || h.opc == 1)) = true → exec (.timePortRead v) s = .next (timeAnswer h x))
      ∧ ((h.mcls == 6 && h.opc == 2) = true → exec (.timePortRead v) s = .next (errNi eSvcDiscard portTime h x))
      ∧ ((h.mcls == 6 && (h.opc == 0 || h.opc == 1 || h.opc == 2)) = false →
        exec (.timePortRead v) s = .next (portTiedOff portTime h x)))
    ∧ (portFront s portTime v.val = none → exec (.timePortRead v) s = .next s)
    ∧ (∀ h x, portFront s portPower v.val = some h → x = consumePacket (niRxChan portPower) v.val 0 (wakeN1 portPower s) →
      ((h.mcls == 6 && (h.opc == 0 || h.opc == 1)) = true → exec (.powerPortRead v) s = .next (powerAnswer h x))
      ∧ ((h.mcls == 6 && h.opc == 2) = true → exec (.powerPortRead v) s = .next (errNi eSvcDiscard portPower h x))
      ∧ ((h.mcls == 6 && (h.opc == 0 || h.opc == 1 || h.opc == 2)) = false →
        exec (.powerPortRead v) s = .next (portTiedOff portPower h x)))
    ∧ (portFront s portPower v.val = none → exec (.powerPortRead v) s = .next s)
    ∧ (∀ h x, portFront s portLedger v.val = some h → x = consumePacket (niRxChan portLedger) v.val 0 (wakeN1 portLedger s) →
      (ledgerGone s = false → (h.mcls == 6 && (h.opc == 0 || h.opc == 1)) = true →
        exec (.ledgerPortRead v) s = .next (ledgerAnswer h x))
      ∧ (ledgerGone s = false → (h.mcls == 6 && h.opc == 2) = true →
        exec (.ledgerPortRead v) s = .next (errNi eSvcDiscard portLedger h x))
      ∧ (ledgerGone s = true ∨ (h.mcls == 6 && (h.opc == 0 || h.opc == 1 || h.opc == 2)) = false →
        exec (.ledgerPortRead v) s = .next (portTiedOff portLedger h x)))
    ∧ (portFront s portLedger v.val = none → exec (.ledgerPortRead v) s = .next s)
    ∧ (∀ (p : Port) (h : Header) (data : List (BitVec 512)) (t : State), t = portAnswer p.val h data s →
      (malformedNi h = false → t.regs = s.regs ∧ t.errLog = s.errLog
        ∧ (ni t p.val).ready = (ni s p.val).ready ++ [{ hdr := h, data := data, vc := injectVc h, src := .built }])
      ∧ (malformedNi h = true → t.nis = s.nis ∧ (s.errLog.length < 64 → t.errLog.length = s.errLog.length + 1)))
    ∧ (∀ (h : Header) (x : State), (readsZero h = true →
        timeAnswer h x = portAnswer portTime (builtAnswer h stOk) [flitOf [regWord x pgTime 0x58, regWord x pgTime 0x50]] x)
      ∧ (builtAnswer h stOk).dst = h.src ∧ (builtAnswer h stOk).src = h.dst ∧ (builtAnswer h stOk).status = BitVec.ofNat 4 stOk)
    ∧ (∀ (p : Port) (h : Header) (t : State), t = portTiedOff p.val h s →
      fget t (pgRouter (p.val / 4)) Rtr.rtrErrCntTiedOff
          = min (fget s (pgRouter (p.val / 4)) Rtr.rtrErrCntTiedOff + 1) (2 ^ Rtr.rtrErrCntTiedOff.w - 1)
        ∧ (isAnswered h = false → t.nis = s.nis)
        ∧ (s.errLog.length < 64 → t.errLog.length = s.errLog.length + 1))

/-! ## Flow queues and telemetry (R181 to R192) -/

/-- A refill tick that MTIME has reached runs once for a value of MTIME [63:8], and a second in the same period changes nothing.
It adds RATE × 64 and the remainder, in thousandths of a byte, to TOKENS, up to DEPTH, where the remainder is dropped (R181).
FQ_RATE, FQ_DEPTH and FQ_CMD.RELOAD take a tick that is due first; after an admission in the same cycle they are held to the
cycle's end, with the queue they select (log entry 113: the model's choice). FQ_RATE changes the rate only. FQ_DEPTH and
FQ_CMD.RELOAD reset the selected shaper at an NI that is on and not under test, with FRAC 0: with RELOAD_MODE 0 TOKENS takes
DEPTH, and a debt is forgiven, which DEBT_FORGIVEN counts and tells; with RELOAD_MODE 1 TOKENS takes min(TOKENS, 0). At an NI that
is off (R192, log entry 89) or under test (R318) FQ_CMD.RELOAD changes no shaper and FQ_DEPTH writes its fields only. -/
def Obligations.Shapers : Prop :=
  (∀ s : State,
    (s.mtime.toNat / 256 ≠ s.refillAt →
      ∃ t, exec .refillTick s = .next t ∧ t.refillAt = s.mtime.toNat / 256 ∧ t.nis = s.nis ∧ t.mtime = s.mtime
        ∧ exec .refillTick t = .next t
        ∧ (∀ (h : HostId) (q x : Nat) (n : Int) (r : State), q < 4096 → hostOn s h.val = true →
            r = workingRegs s (hostPort h.val) →
            x = fget r (pgFqw h.val) Fqw.fqRateRate q * 64 + fget s (pgFqw h.val) Fqw.fqTokensFrac q →
            n = min (tokens s (pgFqw h.val) q + (x / 1000 : Nat)) (fget r (pgFqw h.val) Fqw.fqDepthDepth q : Int) →
            tokens t (pgFqw h.val) q = n
            ∧ fget t (pgFqw h.val) Fqw.fqTokensFrac q
              = (if n = (fget r (pgFqw h.val) Fqw.fqDepthDepth q : Int) then 0 else x % 1000)))
    ∧ (s.mtime.toNat / 256 = s.refillAt → exec .refillTick s = .next s)
    ∧ (∀ (h : HostId) (v : Word) (u : State), (hostOn s h.val && (ni s (hostPort h.val)).admitted) = false → u = refillTick s →
      ∃ t, exec (.fqRate h v) s = .next t
        ∧ fget t (pgFqw h.val) Fqw.fqRateRate (fget s (pgFqw h.val) Fqw.fqSelIndex) = v.toNat % 2 ^ Fqw.fqRateRate.w
        ∧ RegsKept [fkey (pgFqw h.val) Fqw.fqRateRate (fget s (pgFqw h.val) Fqw.fqSelIndex)] u t))
  ∧ (∀ (h : HostId) (s u : State), shaperOn s h.val = true → (ni s (hostPort h.val)).admitted = false → u = refillTick s →
    (fget s (pgFqw h.val) Fqw.fqDepthReloadMode (selQ s (pgFqw h.val)) = 0 →
      ∃ t, exec (.reload h) s = .next t
        ∧ tokens t (pgFqw h.val) (selQ s (pgFqw h.val)) = fget s (pgFqw h.val) Fqw.fqDepthDepth (selQ s (pgFqw h.val))
        ∧ fget t (pgFqw h.val) Fqw.fqTokensFrac (selQ s (pgFqw h.val)) = 0
        ∧ (tokens u (pgFqw h.val) (selQ s (pgFqw h.val)) < 0 → fbit t (pgFqw h.val) Fqw.fqwEvtDebtForgiven = true
            ∧ fget t (pgFqw h.val) Fqw.fqStatDebtForgiven (selQ s (pgFqw h.val))
              = min (fget s (pgFqw h.val) Fqw.fqStatDebtForgiven (selQ s (pgFqw h.val)) + 1) (2 ^ Fqw.fqStatDebtForgiven.w - 1))
        ∧ (0 ≤ tokens u (pgFqw h.val) (selQ s (pgFqw h.val)) →
            RegsKept [fkey (pgFqw h.val) Fqw.fqTokensFrac (selQ s (pgFqw h.val)),
              fkey (pgFqw h.val) Fqw.fqTokensTokens (selQ s (pgFqw h.val))] u t)
        ∧ RegsKept [fkey (pgFqw h.val) Fqw.fqTokensFrac (selQ s (pgFqw h.val)),
            fkey (pgFqw h.val) Fqw.fqTokensTokens (selQ s (pgFqw h.val)), fkey (pgFqw h.val) Fqw.fqwEvtDebtForgiven 0,
            fkey (pgFqw h.val) Fqw.fqStatDebtForgiven (selQ s (pgFqw h.val))] u t)
    ∧ (fget s (pgFqw h.val) Fqw.fqDepthReloadMode (selQ s (pgFqw h.val)) ≠ 0 →
      ∃ t, exec (.reload h) s = .next t
        ∧ tokens t (pgFqw h.val) (selQ s (pgFqw h.val)) = min (tokens u (pgFqw h.val) (selQ s (pgFqw h.val))) 0
        ∧ fget t (pgFqw h.val) Fqw.fqTokensFrac (selQ s (pgFqw h.val)) = 0
        ∧ RegsKept [fkey (pgFqw h.val) Fqw.fqTokensFrac (selQ s (pgFqw h.val)),
            fkey (pgFqw h.val) Fqw.fqTokensTokens (selQ s (pgFqw h.val))] u t)
    ∧ (∀ v : Word, v.toNat / 2 ^ 20 % 2 ^ Fqw.fqDepthReloadMode.w = 0 →
      ∃ t, exec (.fqDepth h v) s = .next t
        ∧ fget t (pgFqw h.val) Fqw.fqDepthDepth (selQ s (pgFqw h.val)) = v.toNat % 2 ^ Fqw.fqDepthDepth.w
        ∧ fget t (pgFqw h.val) Fqw.fqDepthReloadMode (selQ s (pgFqw h.val)) = 0
        ∧ tokens t (pgFqw h.val) (selQ s (pgFqw h.val)) = (v.toNat % 2 ^ Fqw.fqDepthDepth.w : Nat)
        ∧ fget t (pgFqw h.val) Fqw.fqTokensFrac (selQ s (pgFqw h.val)) = 0
        ∧ (tokens u (pgFqw h.val) (selQ s (pgFqw h.val)) < 0 → fbit t (pgFqw h.val) Fqw.fqwEvtDebtForgiven = true
            ∧ fget t (pgFqw h.val) Fqw.fqStatDebtForgiven (selQ s (pgFqw h.val))
              = min (fget s (pgFqw h.val) Fqw.fqStatDebtForgiven (selQ s (pgFqw h.val)) + 1) (2 ^ Fqw.fqStatDebtForgiven.w - 1))
        ∧ (0 ≤ tokens u (pgFqw h.val) (selQ s (pgFqw h.val)) →
            fget t (pgFqw h.val) Fqw.fqStatDebtForgiven (selQ s (pgFqw h.val))
              = fget s (pgFqw h.val) Fqw.fqStatDebtForgiven (selQ s (pgFqw h.val))))
    ∧ (∀ v : Word, v.toNat / 2 ^ 20 % 2 ^ Fqw.fqDepthReloadMode.w ≠ 0 →
      ∃ t, exec (.fqDepth h v) s = .next t
        ∧ fget t (pgFqw h.val) Fqw.fqDepthDepth (selQ s (pgFqw h.val)) = v.toNat % 2 ^ Fqw.fqDepthDepth.w
        ∧ fget t (pgFqw h.val) Fqw.fqDepthReloadMode (selQ s (pgFqw h.val)) = v.toNat / 2 ^ 20 % 2 ^ Fqw.fqDepthReloadMode.w
        ∧ tokens t (pgFqw h.val) (selQ s (pgFqw h.val)) = min (tokens u (pgFqw h.val) (selQ s (pgFqw h.val))) 0
        ∧ fget t (pgFqw h.val) Fqw.fqTokensFrac (selQ s (pgFqw h.val)) = 0
        ∧ RegsKept [fkey (pgFqw h.val) Fqw.fqDepthDepth (selQ s (pgFqw h.val)),
            fkey (pgFqw h.val) Fqw.fqDepthReloadMode (selQ s (pgFqw h.val)),
            fkey (pgFqw h.val) Fqw.fqTokensFrac (selQ s (pgFqw h.val)),
            fkey (pgFqw h.val) Fqw.fqTokensTokens (selQ s (pgFqw h.val))] u t))
  ∧ (∀ (h : HostId) (s : State), shaperOn s h.val = false →
    (hostOn s h.val && (ni s (hostPort h.val)).admitted) = false →
    exec (.reload h) s = .next (refillTick s)
    ∧ (∀ v, ∃ t, exec (.fqDepth h v) s = .next t
        ∧ fget t (pgFqw h.val) Fqw.fqDepthDepth (selQ s (pgFqw h.val)) = v.toNat % 2 ^ Fqw.fqDepthDepth.w
        ∧ RegsKept [fkey (pgFqw h.val) Fqw.fqDepthDepth (selQ s (pgFqw h.val)),
            fkey (pgFqw h.val) Fqw.fqDepthReloadMode (selQ s (pgFqw h.val))] (refillTick s) t))
  ∧ (∀ (h : HostId) (s : State) (v : Word), hostOn s h.val = true → (ni s (hostPort h.val)).admitted = true →
    (∃ t, exec (.fqRate h v) s = .next t ∧ t.regs = s.regs ∧ (∀ q, q ≠ hostPort h.val → ni t q = ni s q)
        ∧ (ni t (hostPort h.val)).lateWrites
          = (ni s (hostPort h.val)).lateWrites ++ [(selQ s (pgFqw h.val), Fqw.fqRateRate.off, v)])
    ∧ (∃ t, exec (.fqDepth h v) s = .next t ∧ t.regs = s.regs
        ∧ (ni t (hostPort h.val)).lateWrites
          = (ni s (hostPort h.val)).lateWrites ++ [(selQ s (pgFqw h.val), Fqw.fqDepthDepth.off, v)])
    ∧ (∃ t, exec (.reload h) s = .next t ∧ t.regs = s.regs
        ∧ (ni t (hostPort h.val)).lateWrites = (ni s (hostPort h.val)).lateWrites ++ [(selQ s (pgFqw h.val), 0xa8, 1)]))

/-- The other commands of a host's flow queues: CLR_MAX sets DEPTH_MAX of the selected queue to what it holds then and clears its
DELAY_MAX_NS, CLR_ALL_MAX those of every queue; FQ_QUOTA above 2,048 is refused with PAGE_ERR and changes no quota, and takes
effect otherwise, after a refill tick that is due, or at the end of a cycle that has admitted a request (log entry 113: the
model's choice); at an NI that is off (R192; CLR_ALL_MAX with CLR_MAX by log entry 89: the model's choice) or under test the
clears do nothing; a telemetry sample records DEPTH_SMP and WAIT_SMP_NS of every queue and the time, advances SMP_SEQ and sets
SAMPLE_TAKEN, once for a period; WAIT_SMP_NS is 0 where MTIME has been stepped back behind the wait's start (log entry 131: the
model's choice). -/
def Obligations.FlowQueueCommands : Prop :=
  ∀ (h : HostId) (s : State),
    (shaperOn s h.val = true →
      ∃ t, exec (.clrMax h) s = .next t
        ∧ fget t (pgFqw h.val) Fqw.fqSampleDepthMax (selQ s (pgFqw h.val))
          = heldOf s (hostPort h.val) (selQ s (pgFqw h.val)) % 2 ^ Fqw.fqSampleDepthMax.w
        ∧ fget t (pgFqw h.val) Fqw.fqDelayDelayMaxNs (selQ s (pgFqw h.val)) = 0
        ∧ RegsKept [fkey (pgFqw h.val) Fqw.fqSampleDepthMax (selQ s (pgFqw h.val)),
            fkey (pgFqw h.val) Fqw.fqDelayDelayMaxNs (selQ s (pgFqw h.val))] s t)
    ∧ (shaperOn s h.val = true →
      ∃ t, exec (.clrAllMax h) s = .next t
        ∧ (∀ q, q < 4096 → fget t (pgFqw h.val) Fqw.fqDelayDelayMaxNs q = 0
            ∧ (fget s (pgFqw h.val) Fqw.fqSampleDepthMax q ≠ 0 → fget t (pgFqw h.val) Fqw.fqSampleDepthMax q
              = heldOf s (hostPort h.val) q % 2 ^ Fqw.fqSampleDepthMax.w)) ∧ t.nis = s.nis)
    ∧ (shaperOn s h.val = false → exec (.clrMax h) s = .next s ∧ exec (.clrAllMax h) s = .next s)
    ∧ (∀ v : Word, (hostOn s h.val && (ni s (hostPort h.val)).admitted) = true →
      ∃ t, exec (.fqQuota h v) s = .next t ∧ t.regs = s.regs ∧ (∀ q, q ≠ hostPort h.val → ni t q = ni s q)
        ∧ (ni t (hostPort h.val)).lateWrites
          = (ni s (hostPort h.val)).lateWrites ++ [(selQ s (pgFqw h.val), Fqw.fqQuotaQuota.off, v)])
    ∧ (∀ v : Word, (hostOn s h.val && (ni s (hostPort h.val)).admitted) = false → 2048 < v.toNat % 2 ^ 12 →
      ∃ t, exec (.fqQuota h v) s = .next t ∧ fbit t (pgFqw h.val) Hdr.pageErrReservedEnc = true
        ∧ RegsKept (pageErrKeys (pgFqw h.val)) (refillTick s) t)
    ∧ (∀ v : Word, (hostOn s h.val && (ni s (hostPort h.val)).admitted) = false → v.toNat % 2 ^ 12 ≤ 2048 →
      ∃ t, exec (.fqQuota h v) s = .next t
        ∧ fget t (pgFqw h.val) Fqw.fqQuotaQuota (selQ s (pgFqw h.val)) = v.toNat % 2 ^ 12
        ∧ RegsKept [fkey (pgFqw h.val) Fqw.fqQuotaQuota (selQ s (pgFqw h.val)), fkey (pgFqw h.val) Fqw.fqwEvtQuotaCut 0,
            fkey (pgFqw h.val) Fqw.fqStatOverQuota (selQ s (pgFqw h.val))] (refillTick s) t)
    ∧ (hostOn s h.val = true → (ni s (hostPort h.val)).underTest = false →
      ((ni s (hostPort h.val)).smpAt == samplePeriod s (pgFqw h.val)) = false →
      ∃ t, exec (.telemetrySample h) s = .next t ∧ fget t (pgFqw h.val) Fqw.smpTimeTime = s.mtime.toNat
        ∧ (ni t (hostPort h.val)).smpAt = samplePeriod s (pgFqw h.val) ∧ t.mtime = s.mtime ∧ t.chans = s.chans
        ∧ fget t (pgFqw h.val) Fqw.fqwStatSmpSeq
          = (fget s (pgFqw h.val) Fqw.fqwStatSmpSeq + 1) % 2 ^ Fqw.fqwStatSmpSeq.w
        ∧ fbit t (pgFqw h.val) Fqw.fqwEvtSampleTaken = true
        ∧ (synced s = false → fbit t (pgFqw h.val) Fqw.fqwEvtSampleUnsync = true)
        ∧ (∀ q, q ∈ busyQueues s (hostPort h.val) → q < 4096 →
            fget t (pgFqw h.val) Fqw.fqSampleDepthSmp q = heldOf s (hostPort h.val) q % 2 ^ Fqw.fqSampleDepthSmp.w
            ∧ (∀ e, oldest (waitingOf s (hostPort h.val) q) = some e →
                fget t (pgFqw h.val) Fqw.fqSampleWaitSmpNs q = min (nowNs s - e.2.t0ns) (2 ^ 32 - 1)))
        ∧ (∀ q, q ∉ busyQueues s (hostPort h.val) → q < 4096 →
            fget t (pgFqw h.val) Fqw.fqSampleDepthSmp q = 0 ∧ fget t (pgFqw h.val) Fqw.fqSampleWaitSmpNs q = 0))
    ∧ (hostOn s h.val = true → ((ni s (hostPort h.val)).smpAt == samplePeriod s (pgFqw h.val)) = true →
      exec (.telemetrySample h) s = .next s)

/-! ## Shutter lists (R193 to R202) -/

/-- A gate edge brings the exported gates of an NI to those in force and withdraws gate_lead; with ep_ready low the outputs hold
(log entry 105: the model's choice). gate_lead rises LEAD_NS before a change. A pending list becomes active at its boundary, the
active copy taking every staged value of the list, and TAKEOVER and TAKEOVERS tell; a value written behind the pending list stays
staged (log entry 107: the model's reading). While the NI is under test no list is taken over (R318). -/
def Obligations.ShutterLists : Prop :=
  ∀ (p : Port) (s : State), isLive p.val = true →
    ((ni s p.val).gateNow ≠ gateNowNow s p.val →
      ∃ t, exec (.gateEdge p) s = .next t ∧ (ni t p.val).gateNow = gateNowNow s p.val
        ∧ (ni t p.val).gateNext = gateNextNow s p.val ∧ (ni t p.val).gateValid = gateValidNow s p.val
        ∧ (ni t p.val).gateLead = false
        ∧ ((ni s p.val).epReady = true → (ni t p.val).gateOut
            = { now := gateNowNow s p.val, next := gateNextNow s p.val, lead := false, valid := gateValidNow s p.val })
        ∧ ((ni s p.val).epReady = false → (ni t p.val).gateOut = (ni s p.val).gateOut)
        ∧ (∀ q, q ≠ p.val → ni t q = ni s q)
        ∧ RegsKept [fkey (pgNi p.val) Ni.shlEvtUnsyncEdge 0, fkey (pgNi p.val) Ni.shlCountUnsyncEdges 0] s t)
    ∧ ((ni s p.val).gateNow = gateNowNow s p.val → (ni s p.val).gateNext = gateNextNow s p.val →
      (ni s p.val).gateValid = gateValidNow s p.val → (ni s p.val).gateLead = false → exec (.gateEdge p) s = .next s)
    ∧ (∀ d g, (ni s p.val).gateValid = true → gateValidNow s p.val = true → (ni s p.val).gateNow = gateNowNow s p.val →
      nextWhere s p.val (· != gateNowNow s p.val) = some (d, g) →
      (d ≤ (ni s p.val).leadNs * 4 →
        ∃ t, exec (.gateLead p) s = .next t ∧ (ni t p.val).gateLead = true ∧ (∀ q, q ≠ p.val → ni t q = ni s q)
          ∧ t.regs = s.regs)
      ∧ ((ni s p.val).leadNs * 4 < d → exec (.gateLead p) s = .next s))
    ∧ (evaluated s p.val = true → (ni s p.val).underTest = false → (ni s p.val).shlPend = true → takeoverAt s p.val ≤ s.mtime.toNat →
      ∃ t, exec (.takeover p) s = .next t ∧ (ni t p.val).shlPend = false
        ∧ fbit t (pgNi p.val) Ni.shlEvtTakeover = true ∧ (∀ q, q ≠ p.val → ni t q = ni s q)
        ∧ ((ni s p.val).shlWrote = [] →
            t.staged = s.staged.filter (fun e => !(keyPage e.1 == pgNi p.val && isShlKey e.1)))
        ∧ (∀ k v, (ni s p.val).shlWrote = [(k, v)] → keyPage k = pgNi p.val → isShlKey k = true →
            tget (tget (resetAt k) t.regs k) t.staged k = v ∧ (ni t p.val).shlWrote = []
            ∧ fget t (pgNi p.val) Hdr.pageStatStaged = 1)
        ∧ fget t (pgNi p.val) Ni.shlCountTakeovers
          = (fget s (pgNi p.val) Ni.shlCountTakeovers + 1) % 2 ^ Ni.shlCountTakeovers.w
        ∧ ((s.staged.map (·.1)).Nodup → ∀ e ∈ s.staged, keyPage e.1 = pgNi p.val → isShlKey e.1 = true →
            tget (resetAt e.1) t.regs e.1 = e.2)
        ∧ (∀ k, isShlKey k = true → k ∉ s.staged.map (·.1) → tget (resetAt k) t.regs k = tget (resetAt k) s.regs k))
    ∧ (s.mtime.toNat < takeoverAt s p.val ∨ (ni s p.val).shlPend = false ∨ (ni s p.val).underTest = true →
      exec (.takeover p) s = .next s)

/-! ## Reservations (R206 to R212) -/

/-- RSV_CMD queues the job of the selected reservation behind the one that runs; both ADMIT and RELEASE in one write set
PAGE_ERR, and while QUIESCE of the page is set the command ends at once with result 7. -/
def Obligations.ReservationCommands : Prop :=
  ∀ (v : Word) (s : State),
    ((v.getLsbD 0 && v.getLsbD 1) = true →
      ∃ t, exec (.rsvAdmit v) s = .next t ∧ t.rsvRun = s.rsvRun ∧ t.rsvWait = s.rsvWait
        ∧ fbit t pgRsv Hdr.pageErrReservedEnc = true ∧ RegsKept (pageErrKeys pgRsv) s t
        ∧ exec (.rsvRelease v) s = .next t)
    ∧ ((v.getLsbD 0 && v.getLsbD 1) = false → fbit s pgRsv Hdr.pageCtrlQuiesce = false → s.rsvRun = none →
      exec (.rsvAdmit v) s = .next { s with rsvRun := some (.reserve (fget s pgRsv Rsv.rsvSelIndex)) }
      ∧ exec (.rsvRelease v) s = .next { s with rsvRun := some (.release (fget s pgRsv Rsv.rsvSelIndex)) })
    ∧ (∀ j, (v.getLsbD 0 && v.getLsbD 1) = false → fbit s pgRsv Hdr.pageCtrlQuiesce = false → s.rsvRun = some j →
      exec (.rsvAdmit v) s
        = .next { s with rsvWait := s.rsvWait ++ [.reserve (fget s pgRsv Rsv.rsvSelIndex)] }
      ∧ exec (.rsvRelease v) s
        = .next { s with rsvWait := s.rsvWait ++ [.release (fget s pgRsv Rsv.rsvSelIndex)] })
    ∧ ((v.getLsbD 0 && v.getLsbD 1) = false → fbit s pgRsv Hdr.pageCtrlQuiesce = true →
      exec (.rsvAdmit v) s = .next (rsvResult (fget s pgRsv Rsv.rsvSelIndex) (7, 0, 0, 0) s)
      ∧ exec (.rsvRelease v) s = .next (rsvResult (fget s pgRsv Rsv.rsvSelIndex) (7, 0, 0, 0) s))

/-- The job that runs ends: an ADMIT that passes makes the reservation ADMITTED, its requested copy the one in force and its load
no longer held, a RELEASE makes it FREE and holds its load, each with ADMIT_DONE; a re-check sets RECHECK_DONE and demotes only
what was ADMITTED, a reservation whose path is broken with cause 5 and one that alone violates a channel or target with the
re-check's own cause, at level TARGET for the cause LEVEL (log entry 128: the model's reading): DEMOTED, LOAD_HELD, DEMOTE_CAUSE,
DEMOTIONS and the event; the next job starts. A job that reads bank 16 and finds an error there leaves every reservation FREE; a
route table that an ADMIT or a re-check reads and finds with an error has failed first, so that its entries are at their reset
values (log entry 127: the model's choice). A held load clears when the last class A transaction of its reservation has closed. -/
def Obligations.ReservationJobs : Prop :=
  ∀ s : State,
    (∀ (k : Fin 4096) rows u, s.rsvRun = some (.reserve k.val) → u = readRoutes rows (.reserve k.val) s → (admitTest u k.val).1 = 1 →
      ∃ t, exec (.rsvCmdDone false rows) s = .next t ∧ rsvAdmitted t k.val = true ∧ rsvInForce t k.val = rsvRequested s k.val
        ∧ rsvHeld t k.val = false ∧ fbit t pgRsv Rsv.rsvEvtAdmitDone = true
        ∧ fget t pgRsv Rsv.rsvResultCode = 1 ∧ t.rsvRun = u.rsvWait.head? ∧ t.nis = s.nis)
    ∧ (∀ (k : Fin 4096) rows u, s.rsvRun = some (.reserve k.val) → u = readRoutes rows (.reserve k.val) s →
      (admitTest u k.val).1 ≠ 1 →
      ∃ t, exec (.rsvCmdDone false rows) s = .next t
        ∧ rsvState t k.val = rsvState s k.val ∧ rsvInForce t k.val = rsvInForce s k.val
        ∧ fget t pgRsv Rsv.rsvResultCode = (admitTest u k.val).1 % 2 ^ Rsv.rsvResultCode.w
        ∧ fbit t pgRsv Rsv.rsvEvtAdmitDone = true ∧ t.rsvRun = u.rsvWait.head? ∧ RegsKept rsvResultKeys u t)
    ∧ (∀ j row (rows : BitVec 8), s.rsvRun = some j → row ∈ rowsRead s j → rows.getLsbD row = true → row < 8 →
      (∀ r b d, r < 64 → b < 2 → d < 256 → rowOf r = row → rtImgWord (readRoutes rows j s) r b d = galonWord r d)
      ∧ ∃ t, exec (match j with | .recheck _ => .recheck false rows | _ => .rsvCmdDone false rows) s = .next t
        ∧ (fget t pgPower Pwr.retFailBanks).testBit (18 + row) = true ∧ fbit t pgPower Pwr.pwrEvtRetentionFail = true
        ∧ t.rtImg = (readRoutes rows j s).rtImg ∧ t.rt = (readRoutes rows j s).rt)
    ∧ (∀ (k : Fin 4096) rows, s.rsvRun = some (.release k.val) →
      ∃ t, exec (.rsvCmdDone false rows) s = .next t ∧ rsvState t k.val = 0 ∧ fget t pgRsv Rsv.rsvResultCode = 6
        ∧ (rsvAdmitted s k.val = true → rsvHeld t k.val = true) ∧ fbit t pgRsv Rsv.rsvEvtAdmitDone = true
        ∧ t.rsvRun = s.rsvWait.head?
        ∧ RegsKept (fkey pgRsv Rsv.rsvStatState k.val :: fkey pgRsv Rsv.rsvStatLoadHeld k.val :: rsvResultKeys) s t)
    ∧ (∀ c rows u, s.rsvRun = some (.recheck c) → u = readRoutes rows (.recheck c) s →
      ∃ t, exec (.recheck false rows) s = .next t ∧ fbit t pgRsv Rsv.rsvEvtRecheckDone = true ∧ t.rsvRun = u.rsvWait.head?
        ∧ t.nis = s.nis
        ∧ (∀ k : Fin 4096,
            (rsvState t k.val = rsvState s k.val ∧ rsvHeld t k.val = rsvHeld s k.val
              ∧ fget t pgRsv Rsv.rsvStatDemoteCause k.val = fget s pgRsv Rsv.rsvStatDemoteCause k.val)
            ∨ (rsvAdmitted s k.val = true ∧ rsvState t k.val = 2 ∧ rsvHeld t k.val = true
              ∧ fbit t pgRsv Rsv.rsvEvtDemoted = true
              ∧ (fget t pgRsv Rsv.rsvStatDemoteCause k.val = c % 2 ^ Rsv.rsvStatDemoteCause.w
                ∨ fget t pgRsv Rsv.rsvStatDemoteCause k.val = 5)))
        ∧ (∀ k : Fin 4096, rsvAdmitted s k.val = true → (loadOf u k.val (rsvInForce s k.val)).routed = false →
            rsvState t k.val = 2 ∧ rsvHeld t k.val = true ∧ fget t pgRsv Rsv.rsvStatDemoteCause k.val = 5)
        ∧ (∀ (k : Fin 4096) (l : RsvLoad), admittedList s = [k.val] → l = loadOf u k.val (rsvInForce s k.val) → l.routed = true →
            (∀ j : Fin 4096, rsvHeld s j.val = true → rsvAdmitted s j.val = true) →
            (∃ ch, (ch ∈ l.req ∨ ch ∈ l.rsp) ∧ linkBad (recheckAt c u) [l] ch = true)
              ∨ (∃ tg, tg ∈ l.tgts ∧ targetBad (recheckAt c u) [l] tg = true) →
            rsvState t k.val = 2 ∧ rsvHeld t k.val = true ∧ fbit t pgRsv Rsv.rsvEvtDemoted = true
            ∧ fget t pgRsv Rsv.rsvStatDemoteCause k.val = c % 2 ^ Rsv.rsvStatDemoteCause.w
            ∧ fget t pgRsv Rsv.rsvSummaryDemotions
              = min (fget s pgRsv Rsv.rsvSummaryDemotions + 1) (2 ^ Rsv.rsvSummaryDemotions.w - 1)))
    ∧ (∀ j rows, s.rsvRun = some j →
      ∃ t, exec (match j with | .recheck _ => .recheck true rows | _ => .rsvCmdDone true rows) s = .next t
        ∧ (∀ k : Fin 4096, rsvState t k.val = 0 ∧ rsvHeld t k.val = false)
        ∧ (fget t pgPower Pwr.retFailBanks).testBit 16 = true ∧ fbit t pgPower Pwr.pwrEvtRetentionFail = true
        ∧ (rows = 0 → t.rsvRun = s.rsvWait.head?))
    ∧ (∀ k : Fin 4096, rsvHeld s k.val = true → rsvAdmitted s k.val = false → hasClassA s k.val = false →
      exec (.loadHeldClear k) s = .next (fset pgRsv Rsv.rsvStatLoadHeld 0 s k.val))
    ∧ (∀ k : Fin 4096, rsvHeld s k.val = false ∨ rsvAdmitted s k.val = true ∨ hasClassA s k.val = true →
      exec (.loadHeldClear k) s = .next s)
    ∧ (∀ (p : Port) (v : BitVec 3), isLive p.val = true → isTarget p.val = true → nstate s p.val ≠ 2 →
      ∃ t, exec (.derateAccept p v) s = .next t ∧ (ni t p.val).derate = v.toNat
        ∧ ((ni s p.val).derate < v.toNat → t.rsvRun ≠ none) ∧ t.regs = s.regs ∧ t.chans = s.chans)

/-! ## The access rule table (R213 to R240) -/

/-- ARTW_W3 writes the four words of the selected entry of the idle inactive set and makes the set not valid, and no other
entry changes; on any other set, or while the set is not idle, it sets SET_BUSY and writes nothing. -/
def Obligations.RuleEntryWritten : Prop :=
  ∀ (v : Word) (s : State),
    ((fget s pgArtw Artw.artwSelSet = activeSet s ∨ setIdle s = false) →
      ∃ t, exec (.artwW3 v) s = .next t ∧ t.art = s.art ∧ fbit t pgArt Art.artEvtSetBusy = true
        ∧ RegsKept [fkey pgArt Art.artEvtSetBusy 0, fkey pgArtw Artw.artwSelEntry 0] s t)
    ∧ (fget s pgArtw Artw.artwSelSet ≠ activeSet s → setIdle s = true →
      ∃ t, exec (.artwW3 v) s = .next t
        ∧ tget {} t.art (artKey (fget s pgArtw Artw.artwSelSet) (fget s pgArtw Artw.artwSelEntry))
          = { s.artHold with w3 := v }
        ∧ (∀ k, k ≠ artKey (fget s pgArtw Artw.artwSelSet) (fget s pgArtw Artw.artwSelEntry) →
            tget {} t.art k = tget {} s.art k)
        ∧ fget t pgArt Art.artValStatus = 0
        ∧ RegsKept [fkey pgArt Art.artValStatus 0, fkey pgArtw Artw.artwSelEntry 0] s t)

/-- An ART command with two bits set sets PAGE_ERR; one command runs at a time and the others wait their turn; COPY and
CLEAR are ignored with SET_BUSY while a set drains or a swap is armed. -/
def Obligations.RuleCommands : Prop :=
  ∀ (v : Word) (s : State),
    (1 < (maskBits v.toNat 3).length →
      ∃ t, exec (.validate v) s = .next t ∧ t.artCmd = s.artCmd ∧ t.art = s.art ∧ t.artWait = s.artWait
        ∧ fbit t pgArt Hdr.pageErrReservedEnc = true ∧ RegsKept (pageErrKeys pgArt) s t)
    ∧ ((maskBits v.toNat 3).length ≤ 1 → s.artCmd = none →
      ∃ t, exec (.validate v) s = .next t ∧ t.artCmd = some .validate ∧ fget t pgArt Art.artValStatus = 3
        ∧ fbit t pgArt Art.artStatCmdBusy = true ∧ t.art = s.art
        ∧ RegsKept [fkey pgArt Art.artStatCmdBusy 0, fkey pgArt Art.artValStatus 0] s t)
    ∧ ((maskBits v.toNat 3).length ≤ 1 → s.artCmd = none → fbit s pgArt Art.artStatDraining = false →
      s.time.swapAt = none →
      (∃ t, exec (.copy v) s = .next t ∧ t.artCmd = some .copy ∧ fbit t pgArt Art.artStatCmdBusy = true ∧ t.art = s.art
          ∧ RegsKept [fkey pgArt Art.artStatCmdBusy 0] s t)
      ∧ (∃ t, exec (.clear v) s = .next t ∧ t.artCmd = some .clear ∧ fbit t pgArt Art.artStatCmdBusy = true
          ∧ t.art = s.art ∧ RegsKept [fkey pgArt Art.artStatCmdBusy 0] s t))
    ∧ ((maskBits v.toNat 3).length ≤ 1 → fbit s pgArt Art.artStatDraining = true ∨ s.time.swapAt ≠ none →
      exec (.copy v) s = .next (fset pgArt Art.artEvtSetBusy 1 s)
      ∧ exec (.clear v) s = .next (fset pgArt Art.artEvtSetBusy 1 s))
    ∧ (∀ c, (maskBits v.toNat 3).length ≤ 1 → s.artCmd = some c →
      exec (.validate v) s = .next { s with artWait := s.artWait ++ [.validate] }
      ∧ (fbit s pgArt Art.artStatDraining = false → s.time.swapAt = none →
        exec (.copy v) s = .next { s with artWait := s.artWait ++ [.copy] }
        ∧ exec (.clear v) s = .next { s with artWait := s.artWait ++ [.clear] }))

/-- A CLEAR that ends leaves the inactive set with no entry and not valid, a COPY that ends gives it the entries of the active
set, and neither changes the active set; a VALIDATE that ends reports in STATUS, ERR_CAUSE and ERR_INDEX the first error of the
entries in their order (R233), or OK without one; CMD_DONE sets. A bank of the table that the command reads and finds with an
error fails (R305): in the model before the result is formed, which then reports it, and with bank 17 too the command has ended
(log entry 127: the model's choice). Without an error of the entries a missing LOCK entry is reported, in PRODUCTION only (log entry
133: the model's choice). ART_COUNT of the idle set that is not active takes effect. -/
def Obligations.RuleCommandsEnd : Prop :=
  ∀ s : State,
    (s.artCmd = some .clear → s.artWait = [] →
      ∃ t, exec .cmdDone s = .next t ∧ t.artCmd = none ∧ fget t pgArt Art.artValStatus = 0
        ∧ (∀ k, k / 131072 = inactiveSet s → tget {} t.art k = {})
        ∧ (∀ k, k / 131072 ≠ inactiveSet s → tget {} t.art k = tget {} s.art k)
        ∧ fbit t pgArt Art.artEvtCmdDone = true ∧ t.nis = s.nis ∧ t.faults = s.faults)
    ∧ (s.artCmd = some .copy → s.artWait = [] →
      ∃ t, exec .cmdDone s = .next t ∧ t.artCmd = none ∧ fget t pgArt Art.artValStatus = 0
        ∧ (∀ i, i < 131072 → tget {} t.art (artKey (inactiveSet s) i) = tget {} s.art (artKey (activeSet s) i)
            ∧ tget {} t.art (artKey (activeSet s) i) = tget {} s.art (artKey (activeSet s) i))
        ∧ fbit t pgArt Art.artEvtCmdDone = true ∧ t.nis = s.nis)
    ∧ (∀ bad u, s.artCmd = some .validate → s.artWait = [] → bad.getLsbD 17 = false → u = failBanks bad (readBanks s .validate) s →
      ∃ t, exec (.cmdDone bad) s = .next t ∧ t.artCmd = none ∧ t.art = s.art ∧ fbit t pgArt Art.artEvtCmdDone = true
        ∧ t.nis = s.nis
        ∧ (firstError u (inactiveSet s) (artCount s (inactiveSet s)) 0 0 = none → lockMissing s = none →
            fget t pgArt Art.artValStatus = 1 ∧ fget t pgArt Art.artValErrCause = 0 ∧ fget t pgArt Art.artValErrIndex = 0)
        ∧ (∀ c i, firstError u (inactiveSet s) (artCount s (inactiveSet s)) 0 0 = some (c, i) →
            fget t pgArt Art.artValStatus = 2 ∧ fget t pgArt Art.artValErrCause = c % 2 ^ Art.artValErrCause.w
            ∧ fget t pgArt Art.artValErrIndex = i % 2 ^ Art.artValErrIndex.w)
        ∧ (∀ i, firstError u (inactiveSet s) (artCount s (inactiveSet s)) 0 0 = none → lockMissing s = some i →
            fget t pgArt Art.artValStatus = 2 ∧ fget t pgArt Art.artValErrCause = 4
            ∧ fget t pgArt Art.artValErrIndex = i % 2 ^ Art.artValErrIndex.w))
    ∧ (∀ (bad : BitVec 18) (c : ArtCmd) (b : Nat), s.artCmd = some c → s.artWait = [] → b ∈ readBanks s c → bad.getLsbD b = true →
      ∃ t, exec (.cmdDone bad) s = .next t ∧ t.artCmd = none ∧ (fget t pgPower Pwr.retFailBanks).testBit b = true
        ∧ fbit t pgPower Pwr.pwrEvtRetentionFail = true ∧ (b < 16 → bankBad t b = true))
    ∧ (∀ (v : Word) (n a : Nat), setIdle s = true →
      (n, a) = (if activeSet s = 0 then (v.toNat / 2 ^ 32 % 2 ^ 18, v.toNat % 2 ^ 18)
        else (v.toNat % 2 ^ 18, v.toNat / 2 ^ 32 % 2 ^ 18)) →
      a = artCount s (activeSet s) → n ≤ 131072 → n ≠ artCount s (inactiveSet s) →
      ∃ t, exec (.artCount v) s = .next t ∧ artCount t (inactiveSet s) = n
        ∧ artCount t (activeSet s) = a ∧ fget t pgArt Art.artValStatus = 0 ∧ t.art = s.art)

/-- A rule-set swap: refused with the first cause that holds, armed at ART_SWAP_TIME, cancelled by DISARM; at its time the
active set changes, the old one drains and the set swapped in is no longer the one validated; with no valid set it is refused
with cause 4. -/
def Obligations.RuleSetSwaps : Prop :=
  ∀ s : State,
    (fbit s pgArt Art.artStatDraining = true →
      exec .swapArm s = .next (fset pgArt Art.artEvtSwapRefused 1 (fset pgArt Art.artStatRefuseCause 1 s)))
    ∧ (fbit s pgArt Art.artStatDraining = false → fget s pgArt Art.artSwapTimeSwapTime < s.mtime.toNat + 1024 →
      exec .swapArm s = .next (fset pgArt Art.artEvtSwapRefused 1 (fset pgArt Art.artStatRefuseCause 2 s)))
    ∧ (fbit s pgArt Art.artStatDraining = false → s.mtime.toNat + 1024 ≤ fget s pgArt Art.artSwapTimeSwapTime →
      s.time.swapAt ≠ none →
      exec .swapArm s = .next (fset pgArt Art.artEvtSwapRefused 1 (fset pgArt Art.artStatRefuseCause 3 s)))
    ∧ (fbit s pgArt Art.artStatDraining = false → s.mtime.toNat + 1024 ≤ fget s pgArt Art.artSwapTimeSwapTime →
      s.time.swapAt = none → s.artCmd ≠ none ∨ valStatus s ≠ 1 →
      exec .swapArm s = .next (fset pgArt Art.artEvtSwapRefused 1 (fset pgArt Art.artStatRefuseCause 4 s)))
    ∧ (fbit s pgArt Art.artStatDraining = false → s.mtime.toNat + 1024 ≤ fget s pgArt Art.artSwapTimeSwapTime →
      s.time.swapAt = none → s.artCmd = none → valStatus s = 1 →
      ∃ t, exec .swapArm s = .next t ∧ t.time.swapAt = some (fget s pgArt Art.artSwapTimeSwapTime)
        ∧ fbit t pgArt Art.artStatArmed = true ∧ RegsKept [fkey pgArt Art.artStatArmed 0] s t)
    ∧ (∃ t, exec .swapDisarm s = .next t ∧ t.time.swapAt = none ∧ fbit t pgArt Art.artStatArmed = false
        ∧ RegsKept [fkey pgArt Art.artStatArmed 0] s t ∧ exec .swapRearm s = exec .swapArm t
        ∧ ∃ u, exec .swapArm t = .next u)
    ∧ (due s s.time.swapAt = true → due s s.time.gcAt = false → valStatus s = 1 →
      ∃ t, exec .artSwap s = .next t ∧ activeSet t = inactiveSet s ∧ fbit t pgArt Art.artStatDraining = true
        ∧ fget t pgArt Art.artValStatus = 0 ∧ t.time.swapAt = none ∧ fbit t pgArt Art.artEvtSwapped = true
        ∧ RegsKept (firingKeys ++ [Art.artStatArmed, Art.artStatActiveSet, Art.artStatDraining, Art.artStatSwapDone,
            Art.artEvtSwapped, Art.artStatSwapCount, Art.artEvtSwapHoldover, Art.artValStatus].map (fkey pgArt · 0)) s t)
    ∧ (due s s.time.swapAt = true → due s s.time.gcAt = false → valStatus s ≠ 1 →
      ∃ t, exec .artSwap s = .next t ∧ activeSet t = activeSet s ∧ fget t pgArt Art.artStatRefuseCause = 4
        ∧ fbit t pgArt Art.artEvtSwapRefused = true ∧ t.time.swapAt = none
        ∧ RegsKept (firingKeys ++ [Art.artStatArmed, Art.artEvtSwapRefused, Art.artStatRefuseCause].map (fkey pgArt · 0)) s t)

/-- The drain of an old rule set ends with the first sample that finds no verdict of it held; a sample that counts takes
ART_DRAIN_LIMIT over, and a drain longer than the limit of the last such sample sets DRAIN_STALL, once for a swap. FLUSH empties the verdict cache of a host NI; the fault-record store gives up
its oldest record. -/
def Obligations.RuleSetDrains : Prop :=
  ∀ s : State,
    (fbit s pgArt Art.artStatDraining = true → verdictFlying s (!artGen s) = false →
      ((niPorts s).map (fun p => residArt s p (!artGen s))).sum = 0 →
      ∃ t, exec .artDrainSample s = .next t ∧ fbit t pgArt Art.artStatDraining = false
        ∧ fbit t pgArt Art.artStatSwapDone = true ∧ fbit t pgArt Art.artEvtDrained = true ∧ t.unsure = false
        ∧ t.swapLim = fget s pgArt Art.artDrainLimitLimitUs
        ∧ RegsKept ([Art.artDrainResidual, Art.artStatDraining, Art.artStatSwapDone, Art.artEvtDrained, Art.artDrainLastDrainNs,
            Art.artEvtSwapUnsure].map (fkey pgArt · 0)) s t)
    ∧ (fbit s pgArt Art.artStatDraining = true → verdictFlying s (!artGen s) = false →
      ((niPorts s).map (fun p => residArt s p (!artGen s))).sum ≠ 0 →
      exec .artDrainSample s = .next { fset pgArt Art.artDrainResidual
        ((niPorts s).map (fun p => residArt s p (!artGen s))).sum s with swapLim := fget s pgArt Art.artDrainLimitLimitUs })
    ∧ (fbit s pgArt Art.artStatDraining = true → verdictFlying s (!artGen s) = true →
      exec .artDrainSample s = .next s)
    ∧ (fbit s pgArt Art.artStatDraining = true → s.swapStalled = false →
      s.swapLim < s.us - s.swapUs →
      ∃ t, exec .artDrainStall s = .next t ∧ fbit t pgArt Art.artEvtDrainStall = true ∧ t.swapStalled = true
        ∧ RegsKept [fkey pgArt Art.artEvtDrainStall 0] s t)
    ∧ (s.swapStalled = true → exec .artDrainStall s = .next s)
    ∧ (∀ p : Port, isHost p.val = true →
      ∃ t, exec (.flush p) s = .next t ∧ (ni t p.val).cache = [] ∧ (∀ q, q ≠ p.val → ni t q = ni s q)
        ∧ t.regs = s.regs ∧ t.art = s.art ∧ t.lookups = s.lookups)
    ∧ exec .faultRecordPop s = .next { s with faults := s.faults.tail }

/-! ## Watchdogs and isolation (R241 to R258) -/

/-- A watchdog that is on, has not tripped and has reached its limit trips: its TRIP bit sets and the trip is taken, for ACCEPT
by the wait of one VC, for RESPONSE by the age of a receipt; below the limit, which is the one that the last µs tick found (R265),
nothing happens. With ACTION 0 a trip only reports; with ACTION 1 it isolates the NI with its cause. -/
def Obligations.WatchdogsTrip : Prop :=
  ∀ (p : Port) (s : State), isLive p.val = true → wdogOff s p.val = false →
    (∀ v : Vc, (ni s p.val).accTripped = false → (ni s p.val).accLim ≠ 0 →
      (ni s p.val).accLim ≤ tget 0 (ni s p.val).accWait v.val →
      exec (.wdogAccept p v) s = .next (trip p.val 1 cWdogAccept (fset (pgNi p.val) Ni.wdogStatTripAccept 1
        (modNi p.val (fun n => { n with accTripped := true }) s))))
    ∧ (∀ v : Vc, tget 0 (ni s p.val).accWait v.val < (ni s p.val).accLim →
      exec (.wdogAccept p v) s = .next s)
    ∧ ((ni s p.val).respTripped = false → respOver s p.val = true →
      exec (.wdogResp p) s = .next (trip p.val 2 cWdogResp (fset (pgNi p.val) Ni.wdogStatTripResp 1
        (modNi p.val (fun n => { n with respTripped := true }) s))))
    ∧ (respOver s p.val = false → exec (.wdogResp p) s = .next s)
    ∧ (respOver s p.val = true ↔ (ni s p.val).respLim ≠ 0 ∧ ∃ r ∈ (ni s p.val).receipts, (ni s p.val).respLim ≤ r.age)
    ∧ (∀ (kind cause : Nat) (t : State), t = trip p.val kind cause s →
      (s.errLog.length < 64 → t.errLog.length = s.errLog.length + 1)
      ∧ (fbit s (pgNi p.val) Ni.wdogCfgAction = false → t.nis = s.nis ∧ fbit t pgFg Fg.faultEvtWdogReport = true
        ∧ RegsKept ([Fg.faultEvtWdogReport, Fg.faultEvtErrLogged, Fg.faultEvtErrLogOvf, Fg.errLogStatDropped].map (fkey pgFg · 0)) s t)
      ∧ (fbit s (pgNi p.val) Ni.wdogCfgAction = true → (ni s p.val).underTest = false → cause < 8 →
        isolated t p.val = true ∧ (fget t (pgNi p.val) Ni.isoStatCause).testBit cause = true))

/-- Isolation by software: ISOLATED sets with the cause, SWEPT clears and the router diverts what is to come; at an NI already
isolated only the cause is added, and at one under test it waits for the slice to end (R319); SWEPT sets, with its record and the
ISOLATION event, once nothing is held and no flow hold stands (R369); the grace of a fence ends after FENCE_GRACE_US. -/
def Obligations.IsolationBySoftware : Prop :=
  ∀ (p : Port) (s : State), isLive p.val = true →
    ((ni s p.val).underTest = false → isolated s p.val = true → (ni s p.val).entry = none → (ni s p.val).grace = false →
      exec (.isolate p) s = .next (modNi p.val (fun n => { n with readmitting := false })
        (fset (pgNi p.val) Ni.isoStatCause (fget s (pgNi p.val) Ni.isoStatCause ||| 2 ^ cSoftware) s)))
    ∧ ((ni s p.val).underTest = false → isolated s p.val = false →
      ∃ t, exec (.isolate p) s = .next t ∧ t = isolateNow p.val (2 ^ cSoftware) s ∧ isolated t p.val = true
        ∧ fget t (pgNi p.val) Ni.isoStatCause = fget s (pgNi p.val) Ni.isoStatCause ||| 2 ^ cSoftware
        ∧ fbit t (pgNi p.val) Ni.isoStatSwept = false ∧ fbit t (pgNi p.val) Ni.isoStatFenced = false
        ∧ (ni t p.val).diverted = true ∧ (ni t p.val).grace = false ∧ t.mtime = s.mtime)
    ∧ ((ni s p.val).underTest = true →
      ∃ t, exec (.isolate p) s = .next t ∧ isolated t p.val = isolated s p.val
        ∧ (ni t p.val).deferred = (ni s p.val).deferred ||| 2 ^ cSoftware ∧ fget t pgStrip Ts.tsStatPhase = 3
        ∧ RegsKept [fkey pgStrip Ts.tsStatPhase 0] s t)
    ∧ (isolated s p.val = true → fbit s (pgNi p.val) Ni.isoStatSwept = false → (ni s p.val).grace = false →
      nothingHeld s p.val = true → flowHold s = false → s.errLog.length < 64 →
      ∃ t, exec (.swept p) s = .next t ∧ fbit t (pgNi p.val) Ni.isoStatSwept = true
        ∧ fbit t pgFg Fg.faultEvtIsolation = true ∧ t.errLog.length = s.errLog.length + 1
        ∧ RegsKept [fkey (pgNi p.val) Ni.isoStatSwept 0, fkey (pgNi p.val) Ni.isoStatFenced 0, fkey pgFg Fg.faultEvtErrLogged 0,
            fkey pgFg Fg.faultEvtIsolation 0] s t)
    ∧ (flowHold s = true → exec (.swept p) s = .next s)
    ∧ ((ni s p.val).grace = true → (ni s p.val).graceTo ≤ s.us - (ni s p.val).graceUs →
      ∃ t, exec (.fenceGraceEnd p) s = .next t ∧ t = endGrace p.val s ∧ (ni t p.val).grace = false
        ∧ isolated t p.val = isolated s p.val
        ∧ ((ni s p.val).receipts = [] → t.regs = s.regs ∧ t.chans = s.chans ∧ ∀ q, q ≠ p.val → ni t q = ni s q))
    ∧ ((ni s p.val).grace = true → s.us - (ni s p.val).graceUs < (ni s p.val).graceTo → exec (.fenceGraceEnd p) s = .next s)
    ∧ ((ni s p.val).grace = false → exec (.fenceGraceEnd p) s = .next s)

/-- Re-admission: refused with the first reason that holds, which ISO_STAT records; otherwise it starts: CAUSE and the trips clear,
NEW of an MEM NI's group clears, and the TEI restarts; at its return, whenever that comes while it runs (log entry 82: the model's
reading), ISOLATED and SWEPT clear and the router output is the NI's again. -/
def Obligations.Readmission : Prop :=
  ∀ (p : Port) (s : State), isLive p.val = true →
    (∀ b, isolated s p.val = false →
      exec (.readmit p b) s
        = .next (fset pgFg Fg.faultEvtReadmitRefused 1 (fset (pgNi p.val) Ni.isoStatRefuse 1 s)))
    ∧ (∀ b, readmitRefusal s p.val b ≠ 0 →
      exec (.readmit p b) s = .next (fset pgFg Fg.faultEvtReadmitRefused 1
        (fset (pgNi p.val) Ni.isoStatRefuse (readmitRefusal s p.val b) s)))
    ∧ (∀ b, readmitRefusal s p.val b = 0 →
      ∃ t, exec (.readmit p b) s = .next t ∧ t = readmitNow p.val s ∧ (ni t p.val).readmitting = true
        ∧ isolated t p.val = isolated s p.val ∧ fget t (pgNi p.val) Ni.isoStatCause = 0
        ∧ fbit t (pgNi p.val) Ni.wdogStatTripAccept = false ∧ fbit t (pgNi p.val) Ni.wdogStatTripResp = false
        ∧ (portType p.val = .mem → (fget t pgFg Fg.hpGroupNew).testBit (slotOf p.val) = false)
        ∧ teiState t p.val = 0 ∧ (ni t p.val).teiRstN = false
        ∧ (configLost s p.val = false → fget t (pgNi p.val) Ni.teiErrRestarts
            = min (fget s (pgNi p.val) Ni.teiErrRestarts + 1) (2 ^ Ni.teiErrRestarts.w - 1)))
    ∧ ((ni s p.val).readmitting = true → isolated s p.val = true →
      ∃ t, exec (.readmitReturn p) s = .next t ∧ isolated t p.val = false
        ∧ fbit t (pgNi p.val) Ni.isoStatSwept = false ∧ (ni t p.val).diverted = false
        ∧ (ni t p.val).readmitting = false ∧ (∀ q, q ≠ p.val → ni t q = ni s q)
        ∧ RegsKept [fkey (pgNi p.val) Ni.isoStatSwept 0, fkey (pgNi p.val) Ni.isoStatIsolated 0] s t)

/-! ## Hot-plug (R259 to R264) -/

/-- A removal takes the group's presence away, makes it NEW, and isolates both its MEM NIs with cause ABSENT (R245, or R319 where
one is under test); a power warning of the PWR_WARN_FILTER_US in force when it began fences them and an e-fuse trip isolates them,
each counted, with CHANGED set for the group. A shorter warning only shows on the pin, and is counted as a glitch when it ends. An
insertion restarts the HOLDOFF count and clears STABLE, which sets once the count has run out; the end of a warning and of a trip
clears the filtered bit and notes the change. The error log gives up its oldest record. -/
def Obligations.SlotGroups : Prop :=
  (∀ (c : SlotGroup) (s : State),
    (s.pins.present.getLsbD c.val = true →
      ∃ u, exec (.removal c) s = .next (forEach (slotPorts c.val)
          (fun p x => onlyIf (!lostTarget s p) (queueRecheck 3) (isolate p cAbsent x)) u)
        ∧ u.pins.present = s.pins.present &&& ~~~(1#32 <<< c.val)
        ∧ fbit u pgFg Fg.faultEvtHpChange = true
        ∧ fget u pgFg Fg.hpCountRemovals = min (fget s pgFg Fg.hpCountRemovals + 1) (2 ^ Fg.hpCountRemovals.w - 1)
        ∧ (fget u pgFg Fg.hpGroupNew).testBit c.val = true ∧ (fget u pgFg Fg.hpGroupChanged).testBit c.val = true
        ∧ (fget u pgFg Fg.hpStateStable).testBit c.val = false
        ∧ RegsKept ([Fg.hpGroupNew, Fg.hpStateStable, Fg.hpCountRemovals, Fg.faultEvtHpChange, Fg.hpGroupChanged].map
            (fkey pgFg · 0)) s u ∧ u.nis = s.nis ∧ u.chans = s.chans)
    ∧ (s.pins.present.getLsbD c.val = false → exec (.removal c) s = .next s)
    ∧ (∀ lowUs, slotWarned s c.val = false → warnFilter s lowUs ≤ lowUs →
      ∃ u, exec (.fence c lowUs) s = .next (forEach (slotPorts c.val) (fun p s => isolate p cPwrWarn s) u)
        ∧ slotWarned u c.val = true ∧ fbit u pgFg Fg.faultEvtFence = true ∧ fbit u pgFg Fg.faultEvtHpChange = true
        ∧ fget u pgFg Fg.hpCountFences = min (fget s pgFg Fg.hpCountFences + 1) (2 ^ Fg.hpCountFences.w - 1)
        ∧ (fget u pgFg Fg.hpGroupChanged).testBit c.val = true
        ∧ RegsKept ([Fg.hpCountFences, Fg.faultEvtFence, Fg.faultEvtHpChange, Fg.hpGroupChanged].map (fkey pgFg · 0)) s u
        ∧ u.nis = s.nis ∧ u.chans = s.chans)
    ∧ (∀ lowUs, slotWarned s c.val = false → lowUs < warnFilter s lowUs →
      ∃ t, exec (.fence c lowUs) s = .next t ∧ t.pins.warn = s.pins.warn ||| 1#32 <<< c.val ∧ t.slots = s.slots
        ∧ t.regs = s.regs ∧ t.nis = s.nis ∧ t.chans = s.chans)
    ∧ (∀ lowUs, slotWarned s c.val = true → exec (.fence c lowUs) s = .next s)
    ∧ (s.slots.tripped.getLsbD c.val = false →
      ∃ u, exec (.fuseTrip c) s = .next (forEach (slotPorts c.val) (fun p s =>
          if (ni s p).wake.isSome then failWake p (2 ^ cFuseTrip) s else isolate p cFuseTrip s) u)
        ∧ u.slots.tripped.getLsbD c.val = true ∧ u.pins.fuse = s.pins.fuse ||| 1#32 <<< c.val ∧ fbit u pgFg Fg.faultEvtFuseTrip = true
        ∧ fget u pgFg Fg.hpCountTrips = min (fget s pgFg Fg.hpCountTrips + 1) (2 ^ Fg.hpCountTrips.w - 1)
        ∧ (fget u pgFg Fg.hpStateFuse).testBit c.val = true ∧ (fget u pgFg Fg.hpGroupChanged).testBit c.val = true
        ∧ RegsKept ([Fg.hpStateFuse, Fg.hpCountTrips, Fg.faultEvtFuseTrip, Fg.faultEvtHpChange, Fg.hpGroupChanged].map
            (fkey pgFg · 0)) s u
        ∧ u.nis = s.nis ∧ u.chans = s.chans)
    ∧ (s.slots.tripped.getLsbD c.val = true → exec (.fuseTrip c) s = .next s))
  ∧ (∀ (c : SlotGroup) (s : State),
    (∃ t, exec (.slotInsert c) s = .next t ∧ t.pins.present = s.pins.present ||| 1#32 <<< c.val
      ∧ (fget t pgFg Fg.hpStateStable).testBit c.val = false
      ∧ tget 0 t.stableUs c.val = s.us + fget s pgFg Fg.hpCfgHoldoffMs * 1000
      ∧ RegsKept ([Fg.hpStateStable, Fg.faultEvtHpChange, Fg.hpGroupChanged].map (fkey pgFg · 0)) s t)
    ∧ (s.pins.present.getLsbD c.val = true → tget 0 s.stableUs c.val ≤ s.us →
      ∃ t, exec (.holdoff c) s = .next t ∧ (fget t pgFg Fg.hpStateStable).testBit c.val = true
        ∧ RegsKept [fkey pgFg Fg.hpStateStable 0] s t)
    ∧ (s.us < tget 0 s.stableUs c.val → exec (.holdoff c) s = .next s)
    ∧ (∀ lowUs, slotWarned s c.val = false → lowUs < warnFilter s lowUs →
      ∃ t, exec (.warnGlitches c lowUs) s = .next t
        ∧ fget t pgFg Fg.hpCountWarnGlitches = min (fget s pgFg Fg.hpCountWarnGlitches + 1) (2 ^ Fg.hpCountWarnGlitches.w - 1)
        ∧ t.slots = s.slots ∧ RegsKept [fkey pgFg Fg.hpCountWarnGlitches 0] s t)
    ∧ (slotWarned s c.val = true →
      ∃ t, exec (.pwrWarnNRise c) s = .next t ∧ slotWarned t c.val = false
        ∧ fbit t pgFg Fg.faultEvtHpChange = true ∧ RegsKept ([Fg.faultEvtHpChange, Fg.hpGroupChanged].map (fkey pgFg · 0)) s t)
    ∧ ((fget s pgFg Fg.hpStateFuse).testBit c.val = true →
      ∃ t, exec (.fuseTrippedFall c) s = .next t ∧ (fget t pgFg Fg.hpStateFuse).testBit c.val = false
        ∧ t.slots.tripped.getLsbD c.val = false
        ∧ fbit t pgFg Fg.faultEvtHpChange = true
        ∧ RegsKept ([Fg.hpStateFuse, Fg.faultEvtHpChange, Fg.hpGroupChanged].map (fkey pgFg · 0)) s t)
    ∧ exec .errLogPop s = .next { s with errLog := s.errLog.tail })

/-! ## The endpoint boundary (R265 to R283) -/

/-- An endpoint reset, or a fall of ep_ready while the TEI is up, resets the endpoint side; the release with both ep_rst_n and
ep_ready high grants the submission credits and makes the TEI INIT, and any other only shows on the pins, as a rise does once the
TEI has left RESET; the TEI comes UP with its minimum credits, or at the first µs tick after s2 without them (R269, log entry 40:
the model's choice of the tick), with CRD_SHORT and the VCs that lack them. -/
def Obligations.EndpointResets : Prop :=
  ∀ (p : Port) (s : State), isLive p.val = true →
    (niPowered s p.val = true → teiState s p.val ≠ 0 →
      ∃ t, exec (.epReset p) s = .next t ∧ t = endpointReset p.val (modNi p.val (fun n => { n with epRstN := false }) s)
        ∧ teiState t p.val = 0 ∧ fbit t (pgNi p.val) Ni.teiErrEpReset = true ∧ (ni t p.val).teiRstN = false
        ∧ (ni t p.val).epRstN = false ∧ (ni t p.val).waitUp = true ∧ isolated t p.val = isolated s p.val)
    ∧ (niPowered s p.val = false ∨ teiState s p.val = 0 →
      ∃ t, exec (.epReset p) s = .next t ∧ (ni t p.val).epRstN = false ∧ t.regs = s.regs ∧ t.chans = s.chans
        ∧ ∀ q, q ≠ p.val → ni t q = ni s q)
    ∧ ((ni s p.val).teiWake = true → teiState s p.val = 2 →
      ∃ t, exec (.epReadyFall p) s = .next t ∧ teiState t p.val = 0 ∧ fbit t (pgNi p.val) Ni.teiErrEpReset = true
        ∧ (ni t p.val).teiRstN = false ∧ (ni t p.val).epReady = false ∧ (ni t p.val).waitUp = true)
    ∧ ((ni s p.val).teiWake = false ∨ teiState s p.val ≠ 2 →
      ∃ t, exec (.epReadyFall p) s = .next t ∧ (ni t p.val).epReady = false ∧ t.regs = s.regs ∧ t.chans = s.chans
        ∧ ∀ q, q ≠ p.val → ni t q = ni s q)
    ∧ (niPowered s p.val = true → (ni s p.val).wake = none → teiState s p.val = 0 → configLost s p.val = false →
      ∃ t, exec (.teiResetRelease p true true) s = .next t ∧ teiState t p.val = 1 ∧ (ni t p.val).teiRstN = true
        ∧ (ni t p.val).epRstN = true ∧ (ni t p.val).epReady = true
        ∧ (ni t p.val).reqLim = fget s (pgNi p.val) Ni.teiCfgReqCredits
        ∧ (ni t p.val).rspLim = fget s (pgNi p.val) Ni.teiCfgRspCredits
        ∧ (∀ q, q ≠ p.val → ni t q = ni s q)
        ∧ RegsKept ([Ni.teiStatState, Ni.dlAuxLateDoubt, Ni.dlAuxMaxLateNs, Ni.dlLateLateA, Ni.dlLateLateB].map (fkey (pgNi p.val) · 0)) s t)
    ∧ (∀ rstN ready, (rstN && ready) = false ∨ niPowered s p.val = false ∨ configLost s p.val = true → teiState s p.val = 0 →
      ∃ t, exec (.teiResetRelease p rstN ready) s = .next t ∧ teiState t p.val = 0 ∧ (ni t p.val).epRstN = rstN
        ∧ (ni t p.val).epReady = ready ∧ (∀ q, q ≠ p.val → ni t q = ni s q) ∧ t.regs = s.regs)
    ∧ (∀ rstN ready, teiState s p.val ≠ 0 →
      ∃ t, exec (.teiResetRelease p rstN ready) s = .next t ∧ (ni t p.val).epRstN = (rstN || (ni s p.val).epRstN)
        ∧ (ni t p.val).epReady = (ready || (ni s p.val).epReady) ∧ (∀ q, q ≠ p.val → ni t q = ni s q) ∧ t.regs = s.regs)
    ∧ (niPowered s p.val = true → teiState s p.val = 1 → (ni s p.val).wake = none → (ni s p.val).epReady = true →
      (shortVcs s p.val = [] →
        ∃ t, exec (.teiUp p) s = .next t ∧ teiState t p.val = 2
          ∧ fget t (pgNi p.val) Ni.teiStatCrdShortVc = 0 ∧ (ni t p.val).waitUp = false
          ∧ RegsKept ([Ni.teiStatState, Ni.teiStatCrdShortVc, Ni.dlAuxLateDoubt, Ni.dlAuxMaxLateNs, Ni.dlLateLateA,
              Ni.dlLateLateB].map (fkey (pgNi p.val) · 0)) s t)
      ∧ (shortVcs s p.val ≠ [] → 1 ≤ s.us - (ni s p.val).initUs →
        ∃ t, exec (.teiUp p) s = .next t ∧ teiState t p.val = 2 ∧ (ni t p.val).waitUp = false
          ∧ fget t (pgNi p.val) Ni.teiStatCrdShortVc
            = ((shortVcs s p.val).map (fun v => 2 ^ v)).sum % 2 ^ Ni.teiStatCrdShortVc.w
          ∧ fbit t (pgNi p.val) Ni.teiErrCrdShort = true
          ∧ RegsKept ([Ni.teiStatState, Ni.teiStatCrdShortVc, Ni.teiErrCrdShort, Ni.dlAuxLateDoubt, Ni.dlAuxMaxLateNs,
              Ni.dlLateLateA, Ni.dlLateLateB].map (fkey (pgNi p.val) · 0)) s t)
      ∧ (shortVcs s p.val ≠ [] → s.us = (ni s p.val).initUs → exec (.teiUp p) s = .next s))

/-- pwr_ack moves a waiting entry to E2, or is kept while the NI is paused (R319), pwr_nak aborts it with EP_NAK, which ends the entry
and counts and tells it; both together are PROTOCOL, and so is a pwr_nak after the
pwr_ack (log entry 114: the model's choice); a rise of ep_wake_req wakes an NI in N2, and one that comes late in an entry is kept
as a demand. -/
def Obligations.EndpointPower : Prop :=
  ∀ (p : Port) (s : State), isLive p.val = true →
    ((ni s p.val).pwrReq = true → (ni s p.val).entry = some .e1 →
      (paused s p.val = false → exec (.pwrAck p false) s
        = .next (modNi p.val (fun n => { n with entry := some .e2, stepUs := s.us, pwrAck := false }) s))
      ∧ (paused s p.val = true → exec (.pwrAck p false) s = .next (modNi p.val (fun n => { n with pwrAck := true }) s))
      ∧ exec (.pwrAck p true) s = .next (abortEntry p.val rsEpNak epProtocol 2 p.val s)
      ∧ (∀ r, exec (.pwrNak p r) s
        = .next (abortEntry p.val rsEpNak (if (ni s p.val).pwrAck then epProtocol else r.toNat) 2 p.val s))
      ∧ ((ni s p.val).inF3 = false → ∀ r, ∃ t, exec (.pwrNak p r) s = .next t ∧ (ni t p.val).entry = none
        ∧ (ni t p.val).pwrReq = false ∧ nstate t p.val ≠ 1 ∧ fbit t pgPower Pwr.pwrEvtEntryAborted = true
        ∧ fget t pgPower Pwr.pwrCountAborted = min (fget s pgPower Pwr.pwrCountAborted + 1) (2 ^ Pwr.pwrCountAborted.w - 1)
        ∧ RegsKept [fkey pgPower Pwr.pwrNiStatNstate p.val, fkey pgPower Pwr.pwrNiStatEntering p.val,
            fkey pgPower Pwr.pwrEvtEntryAborted 0, fkey pgPower Pwr.pwrCountAborted 0] s t))
    ∧ ((ni s p.val).pwrReq = true → (ni s p.val).entry = some .e2 →
      ∀ r, exec (.pwrNak p r) s = .next (abortEntry p.val rsEpNak epProtocol 2 p.val s))
    ∧ ((ni s p.val).pwrReq = false → ∀ nak r, exec (.pwrAck p nak) s = .next s ∧ exec (.pwrNak p r) s = .next s)
    ∧ ((ni s p.val).entry = none → nstate s p.val = 2 → isolated s p.val = false → fstate s = 0 →
      (ni s p.val).wake = none →
      ∃ t, exec (.epWakeReq p) s = .next t ∧ (ni t p.val).wake = some .w0 ∧ (ni t p.val).teiWake = true
        ∧ (∀ q, q ≠ p.val → ni t q = ni s q) ∧ RegsKept [fkey pgPower Pwr.pwrNiStatWaking p.val] s t)
    ∧ ((ni s p.val).entry = some .e5 → isolated s p.val = false →
      exec (.epWakeReq p) s = .next (modNi p.val (fun n => { n with demand := true }) s))

/-! ## Performance levels (R290, R291) -/

/-- SET_LEVEL is refused as BUSY while a transition runs, or a test window is open or its slice still runs; at the level in force
it is accepted and changes nothing else; out of F3 a faster level starts with the ramp of VDD_FAB, a slower one with the re-check
of the reservations, where it is slower than the level that admission counts on, and in F3 the level is in force at once. The
steps of a transition follow each other: power-good and a done re-check lead to the flow hold, an empty fabric to the stop of
FCLK, the relock to the retraining, and the retraining puts the new level in force; the end of the ramp down ends it with
LEVEL_DONE and a missing power-good with LEVEL_FAILED. -/
def Obligations.Levels : Prop :=
  (∀ (l : Fin 4) (s : State),
    (∀ u, levelRefuser s = some u → exec (.setLevel l) s = .next (pwrRefuse 1 0 rsBusy ukUnit u s))
    ∧ (levelRefuser s = none → l.val = level (pwrAccept 1 s) → exec (.setLevel l) s = .next (pwrAccept 1 s))
    ∧ (levelRefuser s = none → l.val ≠ level s →
      ∃ t, exec (.setLevel l) s = .next t ∧ fget t pgPower Pwr.pwrStatTarget = l.val ∧ fbit t pgPower Pwr.pwrStatTrans = true
        ∧ (fstate s = 2 → t.power.trans = some .l5 ∧ t.power.inF3 = true ∧ level t = l.val)
        ∧ (fstate s ≠ 2 → level t = level s)
        ∧ (fstate s ≠ 2 → l.val < level s → t.power.trans = some .l2 ∧ t.power.rampUs = s.us)
        ∧ (fstate s ≠ 2 → max (fget s pgRsv Rsv.rsvCfgALevel) (level s) < l.val →
            t.power.trans = some .l1 ∧ t.power.waitRecheck = true ∧ t.rsvRun ≠ none)
        ∧ (fstate s ≠ 2 → level s < l.val → l.val ≤ fget s pgRsv Rsv.rsvCfgALevel → t.power.trans = some .l3)
        ∧ RegsKept (pwrResultKeys ++ [Pwr.pwrStatTarget, Pwr.pwrStatTrans, Pwr.pwrStatLevel].map (fkey pgPower · 0)) s t))
  ∧ (∀ s : State,
    (s.power.trans = some .l2 → ∃ t, exec .powerGood s = .next t ∧ t.power.trans = some .l3 ∧ t.regs = s.regs ∧ t.nis = s.nis)
    ∧ (s.power.trans = some .l1 → s.power.waitRecheck = false →
      ∃ t, exec .levelRecheckDone s = .next t ∧ t.power.trans = some .l3 ∧ t.regs = s.regs ∧ t.nis = s.nis)
    ∧ (s.power.trans = some .l3 → channelsEmpty s = true →
      ∃ t, exec .flowHold s = .next t ∧ t.power.trans = some .l5 ∧ t.regs = s.regs ∧ t.nis = s.nis)
    ∧ (s.power.trans = some .l5 → s.power.inF3 = false →
      ∃ t, exec .pllRelock s = .next t ∧ t.power.trans = some .l6 ∧ t.regs = s.regs ∧ t.nis = s.nis)
    ∧ (s.power.trans = some .l5 → s.power.inF3 = true → exec .pllRelock s = .next (endTrans Pwr.pwrEvtLevelDone s))
    ∧ (s.power.trans = some .l6 →
      ∃ u, exec .levelRetrain s = .next (resumeAll u) ∧ level u = levelTarget s ∧ u.nis = s.nis
        ∧ (levelTarget s ≤ level s → u.power.trans = none ∧ fbit u pgPower Pwr.pwrEvtLevelDone = true))
    ∧ (s.power.trans = some .l8 →
      ∃ t, exec .rampDownDone s = .next t ∧ t.power.trans = none ∧ fbit t pgPower Pwr.pwrEvtLevelDone = true
        ∧ RegsKept [fkey pgPower Pwr.pwrStatTrans 0, fkey pgPower Pwr.pwrEvtLevelDone 0] s t)
    ∧ (s.power.trans = some .l2 → s.power.rampTo ≤ s.us - s.power.rampUs →
      ∃ t, exec .levelFailed s = .next t ∧ t.power.trans = none ∧ fbit t pgPower Pwr.pwrEvtLevelFailed = true
        ∧ RegsKept [fkey pgPower Pwr.pwrStatTrans 0, fkey pgPower Pwr.pwrEvtLevelFailed 0] s t))

/-- A port that the population table ties off (R19) has no NI: none of the commands listed here does anything (log entry 8: the
model's choice); NI_SLEEP and NI_WAKE are refused there with reason STATE (R295, R300). An NI without a SAD takes no SAD word, and
a port that is no host has no cache to flush; a TEI_REQUEST at the bridge's port, whose endpoint is the fabric's own, changes
nothing (log entry 47: the model's choice). -/
def Obligations.TiedOffPorts : Prop :=
  (∀ (p : Port) (s : State) (sub : Submission) (v : Vc) (b : Bool) (b2 : Bool)
    (reason : BitVec 4) (lvl : BitVec 3) (l : List (Nat × Word)) (c : Instr),
    isLive p.val = false →
    c ∈ [.teiRequest p sub, .admission p, .niInject p, .responseArrive p v, .teiDeliver p, .deliveryCredit p v,
      .waypointAccept p v, .teiResponse p sub, .teiRelay p sub, .teiFetch p sub, .gateEdge p, .takeover p, .derateAccept p lvl,
      .wdogAccept p v, .wdogResp p, .isolate p, .readmit p b, .readmitReturn p, .epReset p, .epReadyFall p,
      .teiResetRelease p b b2, .teiUp p, .pwrAck p b, .pwrNak p reason, .epWakeReq p, .n1Entry p, .niDrained p, .ackTimeout p,
      .drainTimeout p, .flushAck p, .flushTimeout p, .imageCrcStored p b, .n2Entered p, .niSupplyGood p, .imageRestore p l b,
      .wakeLinkUp p, .wakeTimeout p] →
    exec c s = .next s)
  ∧ (∀ (p : Port) (s : State) (c : Instr), isLive p.val = false → ni s p.val = {} → isolated s p.val = false →
    (c ∈ [.verdictReturn p, .gateLead p, .swept p, .fenceGraceEnd p] ∨ ∃ tag, c = .legacyTimeout p tag) → exec c s = .next s)
  ∧ (∀ (p : Port) (s : State), isLive p.val = false →
    (∃ t, exec (.niSleep p) s = .next t ∧ fget t pgPower Pwr.pwrResultCode = 2 ∧ fget t pgPower Pwr.pwrResultReason = rsState
        ∧ fget t pgPower Pwr.pwrResultCmd = 2 ∧ fbit t pgPower Pwr.pwrEvtCmdRefused = true
        ∧ RegsKept (pwrResultKeys ++ [fkey pgPower Pwr.pwrEvtCmdRefused 0, fkey pgPower Pwr.pwrCountRefused 0]) s t ∧ t.nis = s.nis)
    ∧ ∃ t, exec (.niWake p) s = .next t ∧ fget t pgPower Pwr.pwrResultCode = 2 ∧ fget t pgPower Pwr.pwrResultReason = rsState
        ∧ fget t pgPower Pwr.pwrResultCmd = 3 ∧ fbit t pgPower Pwr.pwrEvtCmdRefused = true
        ∧ RegsKept (pwrResultKeys ++ [fkey pgPower Pwr.pwrEvtCmdRefused 0, fkey pgPower Pwr.pwrCountRefused 0]) s t ∧ t.nis = s.nis)
  ∧ (∀ (p : Port) (k : Fin 64) (word1 : Bool) (value : Word) (s : State), hasSad p.val = false →
    exec (.sadWrite p k word1 value) s = .next s)
  ∧ (∀ (p : Port) (s : State), isHost p.val = false → exec (.flush p) s = .next s)
  ∧ (∀ (p : Port) (sub : Submission) (s : State), p.val = portBridge → exec (.teiRequest p sub) s = .next s)

/-! ## Sleep and wake (R293 to R309) -/

/-- The entry of an NI into N2, step by step: N1 after its idle time; NI_SLEEP is refused or starts E1 with pwr_req; an NI that is
empty passes E2; an endpoint or a drain that takes too long aborts it; SLEEP_OK is the NI's policy. At its end an acknowledged
flush goes to the totals of the open epoch, one that goes unacknowledged for 4 µs is a gap; then the wake-hold, the stored CRC and
the opened supply switch, which makes NSTATE N2 and sets ENTRY_DONE; a demand that still wakes the NI, or an order to wake it, then
starts the wake. An uncorrectable error found as the CRC is stored loses the configuration (log entry 127: the model's choice). An
isolated NI, and one whose configuration is lost, goes to E3 at once, or, in a pause, once it ends. ACK_TO_US, DRAIN_TO_US and the 4 µs count µs ticks (log entry 40:
the model's choice), and ACK_TO_US no longer runs once a pwr_ack waits for the end of a pause (log entry 136: the model's choice). -/
def Obligations.SleepSteps : Prop :=
  ((∀ (p : Port) (s : State), isLive p.val = true →
    (nstate s p.val = 0 → fbit s pgPower Pwr.pwrNiCfgN1En p.val = true → (ni s p.val).fifo = [] →
      fget s pgPower Pwr.pwrNiCfgN1Idle p.val ≤ (ni s p.val).idle →
      exec (.n1Entry p) s = .next (fset pgPower Pwr.pwrNiStatNstate 1 s p.val))
    ∧ (∀ r k i, sleepRefusal s p.val = some (r, k, i) → exec (.niSleep p) s = .next (pwrRefuse 2 p.val r k i s))
    ∧ (sleepRefusal s p.val = none → isolated s p.val = false → configLost s p.val = false →
      ∃ t, exec (.niSleep p) s = .next t ∧ (ni t p.val).entry = some .e1 ∧ (ni t p.val).pwrReq = true
        ∧ fbit t pgPower Pwr.pwrNiStatEntering p.val = true ∧ (∀ q, q ≠ p.val → ni t q = ni s q)
        ∧ RegsKept (fkey pgPower Pwr.pwrNiStatEntering p.val :: pwrResultKeys) s t)
    ∧ ((ni s p.val).entry = some .e2 → drained s p.val = true → paused s p.val = false →
      ∃ t, exec (.niDrained p) s = .next t ∧ t = goE3 p.val s ∧ t.regs = s.regs ∧ (∀ q, q ≠ p.val → ni t q = ni s q)
        ∧ (ledgerGone s = false → tableSize p.val ≠ 0 → (ni t p.val).entry = some .e3 ∧ (ni t p.val).acc = []
          ∧ (ni t p.val).slotFlush = some (addSummary ((ni s p.val).slotFlush.getD []) (ni s p.val).acc))
        ∧ (ledgerGone s = true ∨ tableSize p.val = 0 →
          (ni t p.val).entry = if (ni s p.val).inF3 then some .e4 else some .e5))
    ∧ ((ni s p.val).entry = some .e1 → (ni s p.val).pwrAck = false → (ni s p.val).ackTo ≤ s.us - (ni s p.val).stepUs →
      exec (.ackTimeout p) s = .next (abortEntry p.val rsAckTimeout 0 ukPort p.val s))
    ∧ ((ni s p.val).entry = some .e2 → skipsDrain s p.val = false → (ni s p.val).drainTo ≤ s.us - (ni s p.val).stepUs →
      exec (.drainTimeout p) s = .next (abortEntry p.val rsDrainTimeout 0 ukPort p.val s))
    ∧ (skipsDrain s p.val = true → exec (.drainTimeout p) s = .next s)
    ∧ (∀ x, sleepRefusal s p.val = none → skipsDrain s p.val = true →
      x = modNi p.val (fun n => { n with
          entry := some .e1, inF3 := false, stepUs := s.us, ackTo := fget s pgPower Pwr.pwrCfgAckToUs
          drainTo := fget s pgPower Pwr.pwrCfgDrainToUs }) (fset pgPower Pwr.pwrNiStatEntering 1 (pwrAccept 2 s) p.val) →
      (paused s p.val = false → exec (.niSleep p) s = .next (goE3 p.val x))
      ∧ (paused s p.val = true → exec (.niSleep p) s = .next (modNi p.val (fun n => { n with entry := some .e2 }) x)
        ∧ exec (.niDrained p) (modNi p.val (fun n => { n with entry := some .e2 }) x)
          = .next (modNi p.val (fun n => { n with entry := some .e2 }) x)))
    ∧ ((ni s p.val).pwrAck = true → exec (.ackTimeout p) s = .next s)
    ∧ ((ni s p.val).entry = some .e2 → s.us - (ni s p.val).stepUs < (ni s p.val).drainTo → exec (.drainTimeout p) s = .next s))
  ∧ (∀ (v : Word) (s : State), isLive (fget s pgPower Pwr.pwrNiSelPort) = true → v.getLsbD 0 = false →
      8 ≤ v.toNat / 2 ^ 8 % 2 ^ 8 → (ni s (fget s pgPower Pwr.pwrNiSelPort)).entry = none →
      nstate s (fget s pgPower Pwr.pwrNiSelPort) ≠ 2 →
      ∃ t, exec (.sleepOk v) s = .next t
        ∧ fbit t pgPower Pwr.pwrNiCfgSleepOk (fget s pgPower Pwr.pwrNiSelPort) = false
        ∧ fbit t pgPower Pwr.pwrNiCfgN1En (fget s pgPower Pwr.pwrNiSelPort) = v.getLsbD 1
        ∧ fget t pgPower Pwr.pwrNiCfgN1Idle (fget s pgPower Pwr.pwrNiSelPort) = v.toNat / 2 ^ 8 % 2 ^ 8 ∧ t.nis = s.nis
        ∧ RegsKept ([Pwr.pwrNiCfgSleepOk, Pwr.pwrNiCfgN1En, Pwr.pwrNiCfgN1Idle].map
            (fkey pgPower · (fget s pgPower Pwr.pwrNiSelPort))) s t)
  ∧ (∀ (v : Word) (s : State), isLive (fget s pgPower Pwr.pwrNiSelPort) = true → v.getLsbD 0 = true →
      8 ≤ v.toNat / 2 ^ 8 % 2 ^ 8 → pinnedBy s (fget s pgPower Pwr.pwrNiSelPort) = none →
      ∃ t, exec (.sleepOk v) s = .next t
        ∧ fbit t pgPower Pwr.pwrNiCfgSleepOk (fget s pgPower Pwr.pwrNiSelPort) = true
        ∧ fbit t pgPower Pwr.pwrNiCfgN1En (fget s pgPower Pwr.pwrNiSelPort) = v.getLsbD 1
        ∧ fget t pgPower Pwr.pwrNiCfgN1Idle (fget s pgPower Pwr.pwrNiSelPort) = v.toNat / 2 ^ 8 % 2 ^ 8
        ∧ (∀ q, q ≠ fget s pgPower Pwr.pwrNiSelPort → ni t q = ni s q)))
  ∧ (∀ (p : Port) (s : State), isLive p.val = true → paused s p.val = false →
    (∀ f, (ni s p.val).slotFlush = some f → (ni s p.val).entry = some .e3 →
      ∃ t, exec (.flushAck p) s = .next t ∧ (ni t p.val).slotFlush = none
        ∧ (ni t p.val).entry = (if (ni s p.val).inF3 then some .e4 else some .e5)
        ∧ t.ledger = (addFlush f s).ledger ∧ t.regs = s.regs ∧ t.chans = s.chans)
    ∧ (∀ f, (ni s p.val).slotFlush = some f → (ni s p.val).entry = some .e3 → 4 ≤ s.us - (ni s p.val).flushUs →
      ∃ t, exec (.flushTimeout p) s = .next t ∧ (ni t p.val).slotFlush = none
        ∧ (ni t p.val).entry = (if (ni s p.val).inF3 then some .e4 else some .e5)
        ∧ t.ledger.gaps = min (s.ledger.gaps + 1) max32 ∧ t.ledger.totals = s.ledger.totals
        ∧ fbit t pgLedger Ldg.ldgEvtGap = true ∧ t.chans = s.chans)
    ∧ (∀ ecc, (ni s p.val).entry = some .e5 →
      exec (.imageCrcStored p ecc) s
        = .next (onlyIf ecc (loseConfig p.val) (modNi p.val (fun n => { n with entry := some .e6, crcStored := true }) s)))
    ∧ ((ni s p.val).entry = some .e6 →
      ∃ t, exec (.n2Entered p) s = .next t ∧ nstate t p.val = 2 ∧ fbit t pgPower Pwr.pwrEvtEntryDone = true
        ∧ (ni t p.val).entry = none ∧ teiState t p.val = 0 ∧ t.mem = s.mem
        ∧ (wantsWake s p.val = false → (ni t p.val).wake = (ni s p.val).wake)
        ∧ (wantsWake s p.val = true → fstate s = 0 → (ni s p.val).wake = none → (ni t p.val).wake = some .w0
          ∧ fbit t pgPower Pwr.pwrNiStatWaking p.val = true)))

/-- The wake of an NI: NI_WAKE in F0 starts W0 and is refused at a port that is not live; the supply, the image, the link and the
timeout each take their step; an image whose CRC-32 or ECC fails loses the configuration (R305; how its words are laid out under
the CRC is the model's choice, log 87), and one that passes, or has no stored CRC to check, is restored as it was stored, whatever
undetected error is given (log entry 116: the model's choice); CONFIG_VALID ends CONFIG_LOST. -/
def Obligations.WakeSteps : Prop :=
  (∀ (p : Port) (s : State),
    (isLive p.val = true → fstate s = 0 → nstate s p.val = 2 → (ni s p.val).entry = none → (ni s p.val).wake = none →
      ∃ t, exec (.niWake p) s = .next t ∧ (ni t p.val).wake = some .w0 ∧ (ni t p.val).teiWake = true
        ∧ fbit t pgPower Pwr.pwrNiStatWaking p.val = true ∧ (∀ q, q ≠ p.val → ni t q = ni s q)
        ∧ RegsKept (fkey pgPower Pwr.pwrNiStatWaking p.val :: pwrResultKeys) s t)
    ∧ (isLive p.val = false → exec (.niWake p) s = .next (pwrRefuse 3 p.val rsState ukUnit 0 s))
    ∧ (isLive p.val = true → (ni s p.val).wake = some .w0 → paused s p.val = false →
      exec (.niSupplyGood p) s = .next (powerOnRegs p.val (modNi p.val (fun n => { n with wake := some .w1 }) s)))
    ∧ (∀ err ecc, isLive p.val = true → (ni s p.val).wake = some .w1 → paused s p.val = false →
      (ni s p.val).crcStored = false ∨ unitFails 2048 err ecc = false →
      exec (.imageRestore p err ecc) s = .next (teiRestart p.val (modNi p.val (fun n => { n with wake := some .w2 }) s)))
    ∧ (∀ err ecc, isLive p.val = true → (ni s p.val).wake = some .w1 → paused s p.val = false →
      (ni s p.val).crcStored = true → unitFails 2048 err ecc = true →
      exec (.imageRestore p err ecc) s
        = .next (teiRestart p.val (loseConfig p.val (modNi p.val (fun n => { n with wake := some .w2 }) s))))
    ∧ (isLive p.val = true → (ni s p.val).wake = some .w2 → localUp s p.val = true → paused s p.val = false →
      exec (.wakeLinkUp p) s = .next (finishWake p.val (modNi p.val (fun n => { n with wake := some .w3 }) s)))
    ∧ (∀ w, isLive p.val = true → (ni s p.val).wake = some w → (ni s p.val).wakeTo ≤ s.us - (ni s p.val).wakeUs →
      ∃ t, exec (.wakeTimeout p) s = .next t ∧ t = failWake p.val 0 s ∧ fbit t pgPower Pwr.pwrEvtWakeFailed = true
        ∧ ((ni s p.val).underTest = false → isolated t p.val = true)))
  ∧ (∀ s : State, isLive (fget s pgPower Pwr.pwrNiSelPort) = true →
      configLost s (fget s pgPower Pwr.pwrNiSelPort) = true → niPowered s (fget s pgPower Pwr.pwrNiSelPort) = false →
      ∃ t, exec .configValid s = .next t ∧ configLost t (fget s pgPower Pwr.pwrNiSelPort) = false
        ∧ (ni t (fget s pgPower Pwr.pwrNiSelPort)).crcStored = true ∧ t.chans = s.chans)

/-- The fabric's sleep: FAB_SLEEP is refused, or every awake NI starts its entry; the point of no return; F3 empties the fabric, a
demand that was held starting the wake at once, and a bank that shows an uncorrectable error as its CRC is stored fails (R305;
when, log entry 127: the model's choice); FAB_WAKE starts the wake, power-good loads the routers from their images and names each bank whose CRC-32 or ECC fails, and the
wake ends in F0, whatever the NIs' own wakes do (log entry 81: the model's reading), or, without power-good, in F3 again; after an
honoured test_mode has fallen neither acts (R325). A bank with no stored CRC is loaded unchecked, and one that passes as it was
stored, whatever undetected error is given (log entry 116: the model's choice). -/
def Obligations.FabricSleep : Prop :=
  ∀ s : State,
    (∀ r k i, fabSleepRefusal s = some (r, k, i) → exec .fabSleep s = .next (pwrRefuse 4 0 r k i s))
    ∧ (fabSleepRefusal s = none →
      ∃ u, exec .fabSleep s = .next (forEach (livePorts.filter (fun p => nstate u p != 2)) (startEntry true) u)
        ∧ fstate u = 1 ∧ u.power.noReturn = false ∧ u.nis = s.nis ∧ u.chans = s.chans)
    ∧ (fstate s = 1 → s.power.noReturn = false → drainCount s false = 0 → drainCount s true = 0 →
      livePorts.all (fun p => nstate s p == 2 || (ni s p).entry == some .e4) = true →
      ∃ t, exec .f3NoReturn s = .next t ∧ t.power.noReturn = true ∧ t.regs = s.regs ∧ t.chans = s.chans)
    ∧ (∀ ecc : BitVec 26, fstate s = 1 → s.power.noReturn = true →
      livePorts.all (fun p => nstate s p == 2 && (ni s p).entry.isNone) = true →
      ∃ t, exec (.f3Entered ecc) s = .next t ∧ t.chans = [] ∧ t.routers = [] ∧ t.power.supply = false
        ∧ fbit t pgPower Pwr.pwrEvtEntryDone = true ∧ t.mem = s.mem ∧ (ecc = 0 → t.rtImg = s.rtImg)
        ∧ t.power.crcStored = true
        ∧ (s.power.wakeHeld = false → (∀ p ∈ livePorts, (ni s p).demand = false) → fstate t = 2)
        ∧ (s.power.wakeHeld = true → s.lc.running ≠ some lcRma → fstate t = 3)
        ∧ (∀ b, b < 26 → ecc.getLsbD b = true →
            (fget t pgPower Pwr.retFailBanks).testBit b = true ∧ fbit t pgPower Pwr.pwrEvtRetentionFail = true))
    ∧ (s.strip.deadUntilReset = true → exec .fabWake s = .next s ∧ exec .fabWakeFailed s = .next s)
    ∧ (s.strip.deadUntilReset = false → fstate s = 2 → s.lc.running ≠ some lcRma →
      ∃ t, exec .fabWake s = .next t ∧ fstate t = 3 ∧ t.power.supply = false ∧ t.power.wakeUs = s.us
        ∧ RegsKept (fkey pgPower Pwr.pwrStatFstate 0 :: fkey pgPower Pwr.pwrStatFabWakeFailed 0 :: pwrResultKeys) s t)
    ∧ (s.strip.deadUntilReset = false → fstate s = 1 → s.power.noReturn = false →
      exec .fabWake s = .next (abortF3 rsDemand 0 ukUnit 0 (pwrAccept 5 s)))
    ∧ (s.strip.deadUntilReset = false → fstate s = 1 → s.power.noReturn = true →
      exec .fabWake s = .next (modPower (fun w => { w with wakeHeld := true }) (pwrAccept 5 s)))
    ∧ (s.strip.deadUntilReset = false → fstate s = 0 → exec .fabWake s = .next (pwrAccept 5 s))
    ∧ (∀ err ecc, fstate s = 3 → s.power.supply = false →
      (s.power.everWoke && s.power.crcStored) = false ∨ (∀ b, b < 26 → bankFails err ecc b = false) →
      ∃ t, exec (.f3PowerGood err ecc) s = .next t ∧ t.power.supply = true ∧ t.power.everWoke = true ∧ t.rt = s.rtImg
        ∧ t.rtImg = s.rtImg ∧ t.chans = [] ∧ t.routers = [] ∧ t.mem = s.mem)
    ∧ (∀ err ecc b, fstate s = 3 → s.power.supply = false → s.power.everWoke = true → s.power.crcStored = true → b < 26 →
      bankFails err ecc b = true →
      ∃ t, exec (.f3PowerGood err ecc) s = .next t ∧ t.power.supply = true
        ∧ (fget t pgPower Pwr.retFailBanks).testBit b = true ∧ fbit t pgPower Pwr.pwrEvtRetentionFail = true)
    ∧ (fstate s = 3 → s.power.supply = true →
      ∃ t, exec .f3WakeDone s = .next t ∧ fstate t = 0 ∧ fbit t pgPower Pwr.pwrEvtWakeDone = true ∧ t.chans = s.chans)
    ∧ (s.strip.deadUntilReset = false → fstate s = 3 → s.power.supply = false → s.power.wakeTo ≤ s.us - s.power.wakeUs →
      exec .fabWakeFailed s = .next (forEach (List.finRange 5) failBridge (fset pgPower Pwr.pwrEvtWakeFailed 1
        (fset pgPower Pwr.pwrStatFabWakeFailed 1 (fset pgPower Pwr.pwrStatFstate 2 s)))))

/-! ## Test strips (R311 to R325) -/

/-- A window opens at its time, once no source of a lower number is due at the same edge, and the schedule goes on by one period;
it is passed over while one is open or a slice runs (log entry 52: the model's reading) and under an honoured test_mode. It closes
30 µs of MTIME later, or 40 µs after it opened should MTIME be stepped back (R311), with the hold ended, or, over a slice that
still runs, with OVERRUN, set at the close (log entry 57: the model's reading), and the hold kept. An NI slice raises its hold
IDLE_US before; the test of a quiet unit starts; one that never gets quiet is skipped; a test that ends leaves its verdict, and
its repairs, for the restore. An error found in the bank that the restore reads fails the bank (R305): an NI then has lost its
configuration at once (log entry 127: the model's choice). A slice that ends counts in TS_COUNT.RUN, an aborted one too (log entry
54: the model's choice). -/
def Obligations.StripWindows : Prop :=
  ∀ s : State,
    (∀ a, s.time.stripAt = some a → a ≤ s.mtime.toNat → dueBefore s srcStrip = false →
      (s.pins.testMode && honoursTest s) = false → windowOpen s = false → s.strip.running = false →
      ∃ u, exec .stripWindow s = .next (openWindow (firing s srcStrip a (stripPeriod s)) u)
        ∧ u.time.stripAt = some ((firing s srcStrip a (stripPeriod s)).target + stripPeriod s)
        ∧ u.strip = s.strip ∧ u.nis = s.nis ∧ u.chans = s.chans ∧ RegsKept firingKeys s u
        ∧ windowOpen (openWindow (firing s srcStrip a (stripPeriod s)) u) = true)
    ∧ (∀ a, s.time.stripAt = some a → a ≤ s.mtime.toNat → dueBefore s srcStrip = false →
      (s.pins.testMode && honoursTest s) = true ∨ windowOpen s = true ∨ s.strip.running = true →
      ∃ t, exec .stripWindow s = .next t ∧ windowOpen t = windowOpen s ∧ t.strip.winT = s.strip.winT
        ∧ t.strip.running = s.strip.running
        ∧ t.time.stripAt = some ((firing s srcStrip a (stripPeriod s)).target + stripPeriod s) ∧ t.chans = s.chans)
    ∧ (∀ a, s.time.stripAt = some a → s.mtime.toNat < a ∨ dueBefore s srcStrip = true → exec .stripWindow s = .next s)
    ∧ (windowOpen s = false ∨ (s.mtime.toNat < s.strip.winT.toNat + 120000 ∧ s.us - s.strip.openUs < 40) →
      exec .windowClose s = .next s)
    ∧ (windowOpen s = true → s.strip.winT.toNat + 120000 ≤ s.mtime.toNat ∨ 40 ≤ s.us - s.strip.openUs → s.strip.running = false →
      ∃ t, exec .windowClose s = .next t ∧ windowOpen t = false ∧ t.strip.holdAll = false ∧ t.strip.holdPort = none
        ∧ t.chans = s.chans)
    ∧ (windowOpen s = true → s.strip.winT.toNat + 120000 ≤ s.mtime.toNat ∨ 40 ≤ s.us - s.strip.openUs → s.strip.running = true →
      stripPhase s ≠ 1 →
      ∃ t, exec .windowClose s = .next t ∧ windowOpen t = false ∧ fbit t pgStrip Ts.tsEvtOverrun = true
        ∧ t.strip = { s.strip with overrun := true } ∧ t.nis = s.nis ∧ t.chans = s.chans)
    ∧ (∀ a p, s.time.stripAt = some a → (chosenSlice s).bind (fun i => niOfSlice (sliceAt i)) = some p →
      s.mtime.toNat < a → a ≤ s.mtime.toNat + fget s pgStrip Ts.tsCfgIdleUs * 4000 → niPowered s p = true →
      sliceCause s (.ni p 0) = none → s.strip.prepared = none →
      exec .slicePrepare s = .next (raiseHold p (modNi p (fun n => { n with tsPrep := true })
        (modStrip (fun x => { x with prepared := some p }) s))))
    ∧ (∀ b, stripPhase s = 1 → s.us - s.strip.quietUs ≤ s.strip.quietTo →
      unmet (noteIdle b s) (stripUnit s) = none →
      exec (.sliceTest b) s = .next (forEach (testedLinks (stripUnit s)) trainLink (markTest (stripUnit s) true
        (clearUnit (stripUnit s) (saveStatus (stripUnit s) (setPhase 2
          (modStrip (fun t => { t with found := none }) (noteIdle b s))))))))
    ∧ (∀ b c, stripPhase s = 1 → s.strip.quietTo ≤ s.us - s.strip.quietUs → unmet (noteIdle b s) (stripUnit s) = some c →
      exec (.quietTimeout b) s = .next (skipSlice (stripIndex s) c (noteIdle b s)))
    ∧ (∀ m, stripPhase s = 2 →
      ∃ t, exec (.testEnd m) s = .next t ∧ stripPhase t = 3 ∧ t.strip.found = some (judgeSlice s (stripUnit s) m)
        ∧ t.nis = s.nis ∧ t.chans = s.chans
        ∧ ((judgeSlice s (stripUnit s) m).1 ≠ 2 → t.strip.soft = s.strip.soft ∧ t.strip.unfused = s.strip.unfused)
        ∧ (∀ l, (judgeSlice s (stripUnit s) m).1 = 2 → softRepairs s m = some l →
          t.strip.soft = s.strip.soft ++ l ∧ t.strip.unfused = s.strip.unfused ++ l))
    ∧ (∀ bad r d m, s.strip.found = some (r, d, m) → stripPhase s = 3 →
      (testedLinks (stripUnit s)).all (linkBack s) = true ∨ (∃ c, stripUnit s = .link c ∧ r = 5) →
      ∃ x, exec (.sliceDone bad) s = .next (resumeAll x)
        ∧ (∀ p k, stripUnit s = .ni p k → p < 256 → bad = true → configLost x p = true
            ∧ (fget x pgPower Pwr.retFailBanks).testBit (26 + p / 32) = true ∧ fbit x pgPower Pwr.pwrEvtRetentionFail = true)
        ∧ (∀ n k, stripUnit s = .router n k → n < 64 → bad = true →
            (fget x pgPower Pwr.retFailBanks).testBit (18 + rowOf n) = true ∧ fbit x pgPower Pwr.pwrEvtRetentionFail = true)
        ∧ (stripUnit s = .timebase → x.strip.running = false ∧ x.strip.found = none ∧ stripPhase x = 0
            ∧ fbit x pgStrip Ts.tsEvtSliceDone = true ∧ fget x pgStrip Ts.tsCountRun
              = min (fget s pgStrip Ts.tsCountRun + 1) (2 ^ Ts.tsCountRun.w - 1) ∧ x.chans = s.chans ∧ x.errLog = s.errLog))
    ∧ (∀ bad, s.strip.found = none → exec (.sliceDone bad) s = .next s)

/-- BURN hands the repairs that fit to the fuses and is refused otherwise, those in hand counted (log 55, the model's choice); a
fusing that ends adds them to the fused ones. An honoured test_mode clears the secrets as one effect (log 56, the model's choice),
and the scan is allowed once every powered endpoint with a zeroise line has acknowledged; ZEROISE_WAIT says after 1 ms that one has
not. After test_mode falls the part stays in reset (R325) with its fuses and pins kept, and BURN does nothing (log 68, the
model's choice). -/
def Obligations.StripFusesAndScan : Prop :=
  ∀ s : State,
    (s.strip.deadUntilReset = false →
      windowOpen s = true ∨ s.strip.unfused = [] ∨ fuseLeft s < s.strip.unfused.length + (s.strip.fusing.getD []).length →
      exec .burn s = .next (fset pgStrip Ts.tsEvtFuseRefused 1 s))
    ∧ (s.strip.deadUntilReset = true → exec .burn s = .next s)
    ∧ (s.strip.deadUntilReset = false → windowOpen s = false → s.strip.unfused ≠ [] →
      s.strip.unfused.length + (s.strip.fusing.getD []).length ≤ fuseLeft s →
      exec .burn s
        = .next (modStrip (fun t => { t with unfused := [], fusing := some (s.strip.fusing.getD [] ++ s.strip.unfused) }) s))
    ∧ (∀ l, s.strip.fusing = some l →
      ∃ t, exec .fuseDone s = .next t ∧ t.fuses.repairs = s.fuses.repairs ++ l ∧ t.strip.fusing = none
        ∧ t.fuses.fuseLeft = s.fuses.fuseLeft.map (· - l.length) ∧ t.fuses.lc = s.fuses.lc ∧ t.fuses.slots = s.fuses.slots
        ∧ fbit t pgStrip Ts.tsEvtFuseDone = true ∧ t.nis = s.nis)
    ∧ (∀ en x, s.strip.deadUntilReset = false → honoursTest s = true → fbit s pgStrip Ts.tsScanClearing = false → fbit s pgStrip Ts.tsScanScanAllowed = false →
      ∃ t, exec (.testMode en x) s = .next t ∧ t.pins = { s.pins with testMode := true, scanEn := en, scanIn := x }
        ∧ fbit t pgStrip Ts.tsScanClearing = true ∧ fbit t pgStrip Ts.tsEvtClearDone = true
        ∧ t.ledger.key = none ∧ t.strip.clearUs = s.us ∧ t.fuses = s.fuses
        ∧ RegsKept [fkey pgStrip Ts.tsScanClearing 0, fkey pgStrip Ts.tsEvtClearDone 0] s t)
    ∧ (∀ en x, honoursTest s = false ∨ s.strip.deadUntilReset = true →
      exec (.testMode en x) s = .next { s with pins := { s.pins with testMode := true, scanEn := en, scanIn := x } })
    ∧ (∀ acks, fbit s pgStrip Ts.tsScanClearing = true → acksPending (noteAcks acks s) ≠ 0 → 1000 ≤ s.us - s.strip.clearUs →
      exec (.zeroiseWait acks) s = .next (fset pgStrip Ts.tsEvtZeroiseWait 1 (noteAcks acks s)))
    ∧ (∀ acks, fbit s pgStrip Ts.tsScanClearing = true → acksPending (noteAcks acks s) = 0 →
      ∃ t, exec (.scanAllowed acks) s = .next t ∧ fbit t pgStrip Ts.tsScanScanAllowed = true
        ∧ fbit t pgStrip Ts.tsScanClearing = false ∧ t.nis = (noteAcks acks s).nis ∧ t.fuses = s.fuses)
    ∧ (∀ acks, acksPending (noteAcks acks s) ≠ 0 → exec (.scanAllowed acks) s = .next (noteAcks acks s))
    ∧ (∀ i : Fin 32, (ni s (cryptPort i.val)).zeroise = true →
      ∃ t, exec (.zeroiseWait (BitVec.twoPow 32 i.val)) s = .next t ∧ (ni t (cryptPort i.val)).zeroAck = true)
    ∧ (fbit s pgStrip Ts.tsScanScanAllowed = true →
      ∃ t, exec .testModeFall s = .next t ∧ t.strip.deadUntilReset = true ∧ t.fuses = s.fuses
        ∧ t.pins = { s.pins with testMode := false } ∧ t.mem = [] ∧ t.chans = [])
    ∧ (∃ t, exec .tsLogPop s = .next t ∧ t.strip.log = s.strip.log.tail ∧ t.regs = s.regs ∧ t.nis = s.nis
        ∧ t.strip.unfused = s.strip.unfused)

/-! ## The proof ledger and the life cycle (R326 to R345) -/

/-- The ledger: an epoch fires at its time, once no source of a lower number is due at the same edge, and closes with the summaries
of that epoch added to the totals as a whole; READOUT files a TOTALS record, readable at once where R334 has it unsigned, or is
refused, with the places full or a transition running; LDG_REC shows the oldest readable record, which POP takes; a record that is
ready becomes readable, signed with the key in force, and unsigned where the ledger signs nothing (that it goes out unsigned when
the key has gone while it waited is the model's choice, log 86). A record filed unsigned at reset is readable for the first
command on the queue (log 117, the model's choice). -/
def Obligations.LedgerWorks : Prop :=
  ∀ s : State,
    (400000 * s.time.ledgerK ≤ s.mtime.toNat → dueBefore s srcLedger = false → ledgerGone s = false →
      ∃ t, exec .ledgerEpoch s = .next t
        ∧ t.ledger.firedK = (firing s srcLedger (400000 * s.time.ledgerK) 400000).target / 400000
        ∧ t.time.ledgerK = t.ledger.firedK + 1 ∧ t.ledger.totals = s.ledger.totals ∧ t.mtime = s.mtime)
    ∧ (s.mtime.toNat < 400000 * s.time.ledgerK ∨ dueBefore s srcLedger = true → exec .ledgerEpoch s = .next s)
    ∧ (ledgerGone s = false → fget s pgLedger Ldg.ldgEpochClosed < closingEpoch s →
      ∃ t, exec .epochClose s = .next t
        ∧ fget t pgLedger Ldg.ldgEpochClosed = closingEpoch s % 2 ^ Ldg.ldgEpochClosed.w
        ∧ t.ledger.totals = (((epochSlots s).filter (fun e => e.2.1 == closingEpoch s)).map (fun e => e.2.2)
            ++ (s.ledger.openEpoch.filter (fun e => e.1 ≤ closingEpoch s)).map (·.2)).foldl addSummary s.ledger.totals
        ∧ t.ledger.openEpoch = s.ledger.openEpoch.filter (fun e => closingEpoch s < e.1)
        ∧ t.ledger.queue = s.ledger.queue ∧ t.mtime = s.mtime)
    ∧ (ledgerGone s = false → queueFull s = true →
      exec .readout s = .next (fset pgLedger Ldg.ldgEvtReadoutRefused 1 s))
    ∧ (ledgerGone s = false → fbit s pgLc Lc.lcStatBusy = true →
      exec .readout s = .next (fset pgLedger Ldg.ldgEvtReadoutRefused 1 s))
    ∧ (ledgerGone s = false → queueFull s = false → fbit s pgLc Lc.lcStatBusy = false →
      ∃ t r, exec .readout s = .next t
        ∧ t.ledger.queue = s.ledger.queue.map (fun x => if x.toSign then x else { x with readable := true }) ++ [r] ∧ r.type = 2 ∧ r.body = totalsBody s
        ∧ r.bodyLen = 2560 ∧ r.signedBy = none ∧ r.readable = !signs s
        ∧ (signs s = false → fbit t pgLedger Ldg.ldgEvtRecordReady = true)
        ∧ t.ledger.seq = s.ledger.seq + 1 ∧ t.ledger.totals = s.ledger.totals ∧ t.fuses = s.fuses)
    ∧ (ledgerGone s = false →
      ∃ t, exec .pop s = .next t
        ∧ t.ledger.queue
          = (s.ledger.queue.map (fun x => if x.toSign then x else { x with readable := true })).eraseP (·.readable)
        ∧ t.ledger.totals = s.ledger.totals ∧ t.fuses = s.fuses ∧ RegsKept [fkey pgLedger Ldg.ldgEvtRecordReady 0] s t)
    ∧ (∀ r i, ledgerGone s = false → s.ledger.queue.find? (·.readable) = some r →
      fieldRead s pgLedger Ldg.ldgRecRecord i = recBytes s r / 2 ^ (64 * i) % 2 ^ 64)
    ∧ (∀ r l, ledgerGone s = false → s.ledger.queue = r :: l → r.readable = true → l.all (fun x => x.toSign || x.readable) = true →
      exec .pop s = .next (modLedger (fun x => { x with queue := l }) s))
    ∧ (∀ i, ledgerGone s = false → s.ledger.queue.all (fun r => r.toSign && !r.readable) = true →
      exec .pop s = .next s ∧ fieldRead s pgLedger Ldg.ldgRecRecord i = 0)
    ∧ (s.ledger.queue.all (·.readable) = false →
      ∃ t, exec .recordReady s = .next t
        ∧ t.ledger.queue = readyFirst (if signs s then s.ledger.key.map (fun k => (k, s.free)) else none) s.ledger.queue
        ∧ fbit t pgLedger Ldg.ldgEvtRecordReady = true ∧ t.fuses = s.fuses)
    ∧ (∀ r l g, r.readable = false →
      readyFirst g (r :: l) = { r with readable := true, signedBy := if r.toSign then g else none } :: l)

/-- The life cycle: a request without its confirmation, or for a state that the present one does not lead to, is refused with code
6, and one while another runs with code 2 (that REQUEST is the row itself, whatever bit 4 of the word holds, is log 75, the
model's reading); DEVELOP is immediate; PRODUCTION, from MANUFACTURE too, is refused with code 2 while a test window is open and with code
3 once both key slots are used; it takes a key slot, unless the ledger is fused out, and runs; RMA needs F3 and a token that
verifies over the device, the state and the nonce (their byte order is log 86, the model's choice), which serves one attempt; an
attempt without a nonce counts none (log 147, the model's choice). An accepted RMA raises zeroise, clears the secrets and waits for
every acknowledgement that is due (R325). The transitions end with their state, the fuses and the secrets as R343 and R344 say;
KEY_VALID holds from the end of the transition to PRODUCTION on (log 76, the model's reading). A part in reset after a scan takes no
request (log 68, the model's choice). -/
def Obligations.LifeCycle : Prop :=
  (∀ (v : Word) (s : State), s.strip.deadUntilReset = true → exec (.lcRequest v) s = .next s)
  ∧ ∀ (v : Word) (s : State), s.strip.deadUntilReset = false →
    ((v.toNat / 2 ^ 16 % 2 ^ 16 ≠ 0x5A3C ∨ lcPermits s (v.toNat % 16) = false) →
      exec (.lcRequest v) s = .next (lcRefuse 6 s))
    ∧ (v.toNat / 2 ^ 16 % 2 ^ 16 = 0x5A3C → lcPermits s (v.toNat % 16) = true → s.lc.running.isSome = true →
      exec (.lcRequest v) s = .next (lcRefuse 2 s))
    ∧ (v.toNat / 2 ^ 16 % 2 ^ 16 = 0x5A3C → s.fuses.lc = lcManufacture → v.toNat % 16 = lcDevelop → s.lc.running = none →
      ∃ t, exec (.lcRequest v) s = .next t ∧ t.fuses.lc = lcDevelop ∧ fbit t pgLc Lc.lcEvtTransitionDone = true
        ∧ t.fuses.slots = s.fuses.slots ∧ t.ledger = s.ledger ∧ t.nis = s.nis)
    ∧ (v.toNat / 2 ^ 16 % 2 ^ 16 = 0x5A3C → s.fuses.lc = lcDevelop ∨ s.fuses.lc = lcManufacture → v.toNat % 16 = lcProduction →
      s.lc.running = none → windowOpen s = false → ledgerGone s = true ∨ s.fuses.slots.length < 2 →
      ∃ t, exec (.lcRequest v) s = .next t ∧ t.lc.running = some lcProduction ∧ fbit t pgLc Lc.lcStatBusy = true
        ∧ t.fuses.slots = (if ledgerGone s then s.fuses.slots else s.fuses.slots ++ [s.free])
        ∧ t.fuses.lc = s.fuses.lc ∧ t.nis = s.nis ∧ RegsKept [fkey pgLc Lc.lcStatBusy 0] s t)
    ∧ (v.toNat / 2 ^ 16 % 2 ^ 16 = 0x5A3C → lcPermits s lcProduction = true → v.toNat % 16 = lcProduction → s.lc.running = none →
      (windowOpen s = true → exec (.lcRequest v) s = .next (lcRefuse 2 s))
      ∧ (windowOpen s = false → ledgerGone s = false → 2 ≤ s.fuses.slots.length →
        exec (.lcRequest v) s = .next (lcRefuse 3 s)))
    ∧ (v.toNat / 2 ^ 16 % 2 ^ 16 = 0x5A3C → s.fuses.lc < lcRma → v.toNat % 16 = lcRma → s.lc.running = none →
      (fstate s ≠ 2 → exec (.lcRequest v) s = .next (lcRefuse 4 s))
      ∧ (fstate s = 2 → s.lc.nonce = none → exec (.lcRequest v) s = .next (lcRefuse 5 s))
      ∧ (∀ d, fstate s = 2 → s.lc.nonce = some d →
        ∃ t, exec (.lcRequest v) s = .next t ∧ t.lc.nonce = none ∧ t.fuses = s.fuses
          ∧ t.lc.running = (if tokenGood s d then some lcRma else none)
          ∧ (tokenGood s d = false → fget t pgLc Lc.lcResultCode = 5
            ∧ fget t pgLc Lc.lcStatTokenFails = min (fget s pgLc Lc.lcStatTokenFails + 1) (2 ^ Lc.lcStatTokenFails.w - 1)
            ∧ fbit t pgLc Lc.lcEvtTokenFail = true ∧ fbit t pgLc Lc.lcEvtTransitionRefused = true)
          ∧ (tokenGood s d = true → fbit t pgLc Lc.lcStatBusy = true ∧ t.ledger.key = none
            ∧ (∀ i < 32, (ni t (cryptPort i)).zeroise = true)
            ∧ (∀ p ∈ livePorts, (ni t p).held = [] ∧ (ni t p).cache = []) ∧ RegsKept [fkey pgLc Lc.lcStatBusy 0] s t)))
    ∧ (∀ d, tokenGood s d = ecdsaVerify Config.rmaKey
        (sha384 25 (Config.deviceId.toNat + s.fuses.lc % 256 * 2 ^ 64 + (Config.rmaNonce d).toNat * 2 ^ 72))
        (rmaToken s / 2 ^ 384) (rmaToken s % 2 ^ 384))
    ∧ (fget s pgLc Lc.lcStatTokenFails < 8 →
      ∃ t, exec .nonceGen s = .next t ∧ t.lc.nonce = some s.free ∧ t.free = s.free + 1 ∧ t.fuses = s.fuses
        ∧ t.regs = s.regs ∧ t.nis = s.nis)
    ∧ (8 ≤ fget s pgLc Lc.lcStatTokenFails → exec .nonceGen s = .next s)
    ∧ (s.lc.running = some lcProduction →
      ∃ t, exec .productionDone s = .next t ∧ t.fuses.lc = lcProduction ∧ t.lc.running = none ∧ t.fuses.lkFused = true
        ∧ fget t pgArt Art.artValStatus 0 = 0 ∧ t.nis = s.nis
        ∧ (ledgerGone s = false → t.ledger.key = s.fuses.slots.getLast?
          ∧ t.ledger.queue.length = s.ledger.queue.length + 1)
        ∧ (ledgerGone s = true → t.ledger = s.ledger))
    ∧ (∀ acks, s.lc.running = some lcRma → acksPending (noteAcks acks s) = 0 →
      ∃ t, exec (.rmaDone acks) s = .next t ∧ t.fuses.lc = lcRma ∧ t.fuses.wiped = true ∧ t.lc.running = none
        ∧ fbit t pgLc Lc.lcStatBusy = false ∧ t.ledger = s.ledger ∧ t.mem = s.mem ∧ t.nis = (noteAcks acks s).nis)
    ∧ (∀ acks, s.lc.running = some lcRma → acksPending (noteAcks acks s) ≠ 0 →
      exec (.rmaDone acks) s = .next (noteAcks acks s))
    ∧ (s.lc.running ≠ some lcRma → ∀ acks, exec (.rmaDone acks) s = .next s)

/-! ## The service matrix (R346 to R355) -/

/-- An access of a master with room, counted where an order holds it, takes part in the next cycle of the matrix; a master with
four accesses outstanding does not get a fifth; a bridge row is an access that decodes to the bridge, and no other. What the
working SRAM takes writes the strobed bytes of its word and no other byte, and a read leaves every byte. The Safelight TAP takes
its clocks one by one (its state diagram is that of IEEE 1149.1, log 93): a shift of the selected register, the instruction loaded
at Update-IR, the registers loaded at Update-DR, and an access issued by an update of SL_CTRL with start = 1. The order of service
and the width of a word are the model's readings (logs 70 and 72), and an access to the fabric's memory waits as log 74 reads it. A part that R325 holds in reset after a
scan neither serves the matrix nor clocks the Safelight TAP (log 68: the model's reading). REMAP is written only while the SMX page is quiesced, and selects the decode of every later access (R353). -/
def Obligations.ServiceMatrix : Prop :=
  ∀ (a : SmxAccess) (s : State),
    (s.strip.deadUntilReset = false → accessesOf s a.master < 4 → orderHeld s a = false →
      exec (.smxAccess a) s = .next (smxCycle { s with smx := { s.smx with waiting := s.smx.waiting ++ [a] } }))
    ∧ (s.strip.deadUntilReset = false → accessesOf s a.master < 4 → orderHeld s a = true →
      exec (.smxAccess a) s = .next (smxCycle { wrapAdd pgSmx Smx.smxCountOrderHolds 1 s with
        smx := { s.smx with waiting := s.smx.waiting ++ [a] } }))
    ∧ (4 ≤ accessesOf s a.master → exec (.smxAccess a) s = .next s)
    ∧ ((smxTarget s a.addr).1 ≠ tgBridge → exec (.smxBridge a) s = .next s)
    ∧ ((smxTarget s a.addr).1 = tgBridge → exec (.smxBridge a) s = exec (.smxAccess a) s
      ∧ ∃ t, exec (.smxBridge a) s = .next t)
    ∧ (∀ o x, smxTarget s a.addr = (tgSram, o) → a.write = true →
      sramByte (smxTake a s) x
        = if o / 8 * 8 ≤ x ∧ x < o / 8 * 8 + 8 ∧ a.strobes.getLsbD (x - o / 8 * 8) = true
          then byteOf a.data (x - o / 8 * 8) else sramByte s x)
    ∧ (∀ o x, smxTarget s a.addr = (tgSram, o) → a.write = false → sramByte (smxTake a s) x = sramByte s x)
    ∧ (s.strip.deadUntilReset = false →
      (∀ n tms tdi : Nat, exec (.slCtrl n tms tdi) s = .next ((tapLevels n tms tdi).foldl tapClock s))
      ∧ (∀ m d : Bool, tapNext s.lc.tap m ≠ .updateDr →
        ∃ t, exec (.slCtrl 1 m.toNat d.toNat) s = .next t ∧ t.lc.tap = tapNext s.lc.tap m ∧ t.regs = s.regs ∧ t.nis = s.nis)
      ∧ (∀ d : Bool, s.lc.tap = .shiftDr →
        ∃ t, exec (.slCtrl 1 0 d.toNat) s = .next t ∧ t.lc.drShift = shiftIn (drBits s.lc.slIr) s.lc.drShift d
          ∧ t.lc.tdo = some (t.lc.drShift.getLsbD 0))
      ∧ (∀ d : Bool, s.lc.tap = .exit1Ir →
        ∃ t, exec (.slCtrl 1 1 d.toNat) s = .next t
          ∧ t.lc.slIr = (if s.lc.irShift.toNat < 4 then s.lc.irShift.toNat else 0xF))
      ∧ (∀ d : Bool, s.lc.tap = .exit1Dr →
        (s.lc.slIr = 0 → ∃ t, exec (.slCtrl 1 1 d.toNat) s = .next t ∧ t.lc.slAddr = s.lc.drShift ∧ t.lc.slData = s.lc.slData
          ∧ t.regs = s.regs)
        ∧ (s.lc.slIr = 1 → ∃ t, exec (.slCtrl 1 1 d.toNat) s = .next t ∧ t.lc.slData = s.lc.drShift
          ∧ t.lc.slAddr = s.lc.slAddr ∧ t.regs = s.regs)
        ∧ (s.lc.slIr = 2 → s.lc.drShift.getLsbD 0 = false → ∃ t, exec (.slCtrl 1 1 d.toNat) s = .next t
          ∧ t.lc.slWait = s.lc.slWait ∧ t.lc.slDone = s.lc.slDone ∧ t.regs = s.regs)
        ∧ (s.lc.slIr = 2 → s.lc.drShift.getLsbD 0 = true → s.lc.slAddr.getLsbD 63 = false →
          ∃ u, exec (.slCtrl 1 1 d.toNat) s = .next (slRetry u)
            ∧ u.lc.slWait = some (s.lc.slAddr, s.lc.slData, s.lc.drShift.getLsbD 1)
            ∧ u.lc.slDone = false ∧ u.nis = s.nis ∧ u.regs = s.regs)
        ∧ (s.lc.slIr = 2 → s.lc.drShift.getLsbD 0 = true → s.lc.slAddr.getLsbD 63 = true →
          ∃ u, exec (.slCtrl 1 1 d.toNat) s = .next (issueSmx
            { master := 2, addr := (s.lc.slAddr.extractLsb' 0 52).zeroExtend 64, write := s.lc.drShift.getLsbD 1
              data := s.lc.slData, strobes := 0xFF, ecc := false } u)
            ∧ u.lc.slDone = false ∧ u.nis = s.nis ∧ u.regs = s.regs)))
    ∧ (∀ n tms tdi, s.strip.deadUntilReset = true → exec (.slCtrl n tms tdi) s = .next s)
    ∧ (∀ v : Word, s.strip.deadUntilReset = false → fbit s pgSmx Hdr.pageStatQuiesced = true →
      ∃ t, exec (.registerWrite 2 0x40 v) s = .next t ∧ remap t = v.getLsbD 0 ∧ t.mem = s.mem)
    ∧ (∀ v : Word, s.strip.deadUntilReset = true ∨ fbit s pgSmx Hdr.pageStatQuiesced = false →
      ∃ t, exec (.registerWrite 2 0x40 v) s = .next t ∧ remap t = remap s ∧ t.mem = s.mem)
    ∧ (∀ x : Word, x.toNat < 0x10000 → smxTarget s x = (if remap s then tgSram else tgRom, x.toNat))
    ∧ (∀ x : Word, 0x10000 ≤ x.toNat → x.toNat < 0x40000 → smxTarget s x = (if remap s then tgSram else tgDefault, x.toNat))
    ∧ (∀ x : Word, 0x10000000 ≤ x.toNat → x.toNat < 0x10010000 →
      smxTarget s x = (if remap s then tgRom else tgSram, x.toNat - 0x10000000))
    ∧ (∀ x : Word, 0x10010000 ≤ x.toNat → x.toNat < 0x10040000 →
      smxTarget s x = (if remap s then tgDefault else tgSram, x.toNat - 0x10000000))

/-! ## Pages (R356 to R364) -/

/-- COMMIT and ABORT leave the page with no staged copy and STAGED clear, COMMIT counting, with nothing staged too, and merging
every staged value of the page (at an NI the shutter list may stay pending), once in a cycle in which a GLOBAL_COMMIT has
committed the page; QUIESCE takes the value written, and QUIESCED sets once the page kind's condition holds; GC_JOIN and GC_LEAVE
set and clear the mark (a join that meets t3 commits the page, and a page that leaves then takes the commit back, log 107, the
model's reading of R362). A register write reaches the page's own rules, and where the page has none for the offset, each field
takes it by its class (R358), a reserved encoding leaving the field as it was (R6); a G field reads as it was written before the
commit too. A part in reset after a scan takes no write (log 68: the model's reading). -/
def Obligations.PageControl : Prop :=
  (∀ (page : PageNo) (s : State) (kd : Kind), kindOf page.val = some kd →
    (gcHas s page.val = true →
      ∃ t, exec (.commit page) s = .next t ∧ t.regs = s.regs ∧ t.staged = s.staged ∧ t.nis = s.nis
        ∧ t.time.commits = s.time.commits ++ [page.val])
    ∧ (gcHas s page.val = false → kd ≠ .ni →
      ∃ t, exec (.commit page) s = .next t ∧ (∀ e ∈ t.staged, keyPage e.1 ≠ page.val)
        ∧ fbit t page.val Hdr.pageStatStaged = false ∧ t.time.commits = s.time.commits ++ [page.val]
        ∧ t.mem = s.mem ∧ t.fuses = s.fuses)
    ∧ (gcHas s page.val = false → kd ∉ [.ni, .time, .strip, .art] → (s.staged.map (·.1)).Nodup →
      (∀ e ∈ s.staged, e.1 ≠ fkey page.val Hdr.pageStatStaged 0 ∧ e.1 ≠ fkey page.val Hdr.pageStatCommits 0) →
      ∃ t, exec (.commit page) s = .next t
        ∧ t.staged = s.staged.filter (fun e => keyPage e.1 != page.val)
        ∧ fget t page.val Hdr.pageStatCommits = (fget s page.val Hdr.pageStatCommits + 1) % 2 ^ Hdr.pageStatCommits.w
        ∧ (∀ e ∈ s.staged, keyPage e.1 = page.val → tget (resetAt e.1) t.regs e.1 = e.2)
        ∧ (∀ k, k ∉ (s.staged.filter (fun e => keyPage e.1 == page.val)).map (·.1) →
            k ≠ fkey page.val Hdr.pageStatStaged 0 → k ≠ fkey page.val Hdr.pageStatCommits 0 →
            tget (resetAt k) t.regs k = tget (resetAt k) s.regs k)
        ∧ t.nis = s.nis ∧ t.art = s.art ∧ t.mem = s.mem)
    ∧ (gcHas s page.val = false → kd = .ni → isLive (unitOf page.val) = true → (ni s (unitOf page.val)).shlWrote = [] →
      ∃ t, exec (.commit page) s = .next t ∧ (∀ e ∈ t.staged, keyPage e.1 = page.val → isShlKey e.1 = true)
        ∧ fbit t page.val Hdr.pageStatStaged = false ∧ (∀ q, q ≠ unitOf page.val → ni t q = ni s q))
    ∧ (kd ≠ .ni →
      ∃ t, exec (.abort page) s = .next t ∧ (∀ e ∈ t.staged, keyPage e.1 ≠ page.val)
        ∧ fbit t page.val Hdr.pageStatStaged = false ∧ RegsKept [fkey page.val Hdr.pageStatStaged 0] s t)
    ∧ (∀ (on : Bool) (m : Fin 5),
      ∃ t, exec (.quiesce page on m) s = .next t ∧ fbit t page.val Hdr.pageCtrlQuiesce = on ∧ t.mem = s.mem
        ∧ t.nis = s.nis ∧ t.mtime = s.mtime)
    ∧ (fbit s page.val Hdr.pageCtrlQuiesce = true → fbit s page.val Hdr.pageStatQuiesced = false →
      quiesceMet s page.val = true → exec (.quiesced page) s = .next (fset page.val Hdr.pageStatQuiesced 1 s))
    ∧ (fbit s page.val Hdr.pageCtrlQuiesce = false → exec (.quiesced page) s = .next s)
    ∧ (s.time.gcDone = none → exec (.gcJoin page) s = .next (fset page.val Hdr.pageStatGcJoined 1 s))
    ∧ (∀ l, s.time.gcDone = some l → gcHas s page.val = false →
      ∃ t, exec (.gcJoin page) s = .next t ∧ fbit t page.val Hdr.pageStatGcJoined = false
        ∧ t.time.gcDone.map (·.map (·.page)) = some (l.map (·.page) ++ [page.val]))
    ∧ (gcHas s page.val = true → exec (.gcJoin page) s = .next s)
    ∧ (gcHas s page.val = false →
      ∃ t, exec (.gcLeave page) s = .next t ∧ fbit t page.val Hdr.pageStatGcJoined = false
        ∧ RegsKept [fkey page.val Hdr.pageStatGcJoined 0] s t ∧ t.staged = s.staged ∧ t.nis = s.nis)
    ∧ (∀ r, s.time.gcDone = some [r] → r.page = page.val → r.own = true → kd ≠ .ni → (r.was.map (·.1)).Nodup →
      ∃ t, exec (.gcLeave page) s = .next t ∧ fbit t page.val Hdr.pageStatGcJoined = false ∧ gcHas t page.val = false
        ∧ (∀ e ∈ r.was, e.1 ≠ fkey page.val Hdr.pageStatGcJoined 0 → e.1 ≠ fkey page.val Hdr.pageStatStaged 0 →
            tget (resetAt e.1) t.regs e.1 = e.2))
    ∧ (∀ v, exec (.irqSet page v) s = .next (irqSet page.val v.toNat s))
    ∧ (s.strip.deadUntilReset = true → ∀ off v, exec (.registerWrite page off v) s = .next s)
    ∧ (∀ (off : BitVec 12) (v : Word), s.strip.deadUntilReset = false → off.toNat % 8 = 0 →
      exec (.registerWrite page off v) s = .next (regWrite page.val off.toNat v 0 s)
      ∧ (0x40 ≤ off.toNat → pageHas s page.val off.toNat = false → exec (.registerWrite page off v) s = .next s)
      ∧ (0x40 ≤ off.toNat → pageHas s page.val off.toNat = true → ownRule kd off.toNat = false →
        exec (.registerWrite page off v) s = .next ((fieldsAt s page.val off.toNat).foldl
          (fun t e => writeField page.val off.toNat v.toNat e t) s))))
  ∧ (∀ (page off v i x : Nat) (f : Fld) (s : State), x = v / 2 ^ f.lo % 2 ^ f.w →
    (f.cls ∈ [.ro, .wo, .w1s] → writeField page off v (f, i) s = s)
    ∧ (f.cls = .w1c → statusOn s page = true →
      writeField page off v (f, i) s = fset page f (fget s page f i - (fget s page f i &&& x)) s i)
    ∧ (f.min ≤ x → x ≤ f.max →
      (f.cls = .l → writeField page off v (f, i) s = fset page f x s i)
      ∧ (f.cls = .s → fbit s page Hdr.pageStatQuiesced = true → writeField page off v (f, i) s = fset page f x s i)
      ∧ (f.cls = .s → fbit s page Hdr.pageStatQuiesced = false → x = fget s page f i → writeField page off v (f, i) s = s)
      ∧ (f.cls = .s → fbit s page Hdr.pageStatQuiesced = false → x ≠ fget s page f i →
        fbit (writeField page off v (f, i) s) page Hdr.pageErrStaticWrite = true
        ∧ RegsKept (pageErrKeys page) s (writeField page off v (f, i) s)
        ∧ (writeField page off v (f, i) s).staged = s.staged)
      ∧ (f.cls = .g → (f.lk && lcLocked s) = false → fkey page f i ≠ fkey page Hdr.pageStatStaged 0 →
        sget (writeField page off v (f, i) s) page f i = x ∧ fbit (writeField page off v (f, i) s) page Hdr.pageStatStaged = true
        ∧ fget (writeField page off v (f, i) s) page f i = fget s page f i
        ∧ (kindOf page ≠ some .ni → fieldRead (writeField page off v (f, i) s) page f i = x)
        ∧ RegsKept [fkey page Hdr.pageStatStaged 0] s (writeField page off v (f, i) s)))
    ∧ (f.cls = .g → (f.lk && lcLocked s) = true → f.min ≤ x → x ≤ f.max →
      fbit (writeField page off v (f, i) s) page Hdr.pageErrLkWrite = true
      ∧ RegsKept (pageErrKeys page) s (writeField page off v (f, i) s)
      ∧ (writeField page off v (f, i) s).staged = s.staged)
    ∧ (f.cls ∈ [.s, .g, .l] → x < f.min ∨ f.max < x →
      fbit (writeField page off v (f, i) s) page Hdr.pageErrReservedEnc = true
      ∧ RegsKept (pageErrKeys page) s (writeField page off v (f, i) s)
      ∧ (writeField page off v (f, i) s).staged = s.staged))

/-- A GLOBAL_COMMIT: refused with the first cause that holds, armed at GC_TIME, cancelled by DISARM; at its time every joined page
commits its staged copy, every field of it, each page counting the commit, and leaves; STAGED stays where a write came in the
deciding cycle, whatever its value (log entry 107: the model's reading); GC_COUNT advances, and the comparator is free
again. The µs tick counts one µs and moves neither MTIME nor the fabric, and does nothing once an honoured test_mode has fallen. -/
def Obligations.GlobalCommit : Prop :=
  ∀ s : State,
    (fget s pgFg Fg.gcTimeTime < s.mtime.toNat + 1024 → exec .gcArm s = .next (refuseGc 1 s))
    ∧ (s.mtime.toNat + 1024 ≤ fget s pgFg Fg.gcTimeTime → s.time.gcAt.isSome = true →
      exec .gcArm s = .next (refuseGc 2 s))
    ∧ (s.mtime.toNat + 1024 ≤ fget s pgFg Fg.gcTimeTime → s.time.gcAt = none → joinedPages s = [] →
      exec .gcArm s = .next (refuseGc 3 s))
    ∧ (s.mtime.toNat + 1024 ≤ fget s pgFg Fg.gcTimeTime → s.time.gcAt = none → joinedPages s ≠ [] →
      ∃ t, exec .gcArm s = .next t ∧ t.time.gcAt = some (fget s pgFg Fg.gcTimeTime) ∧ t.regs = s.regs ∧ t.mtime = s.mtime)
    ∧ (∃ t, exec .gcDisarm s = .next t ∧ t.time.gcAt = none ∧ t.regs = s.regs ∧ t.mtime = s.mtime
        ∧ exec .gcRearm s = exec .gcArm t ∧ ∃ u, exec .gcArm t = .next u)
    ∧ (∀ a, s.time.gcAt = some a → a ≤ s.mtime.toNat →
      ∃ t, exec .globalCommit s = .next t ∧ t.time.gcAt = none ∧ t.mtime = s.mtime ∧ t.mem = s.mem
        ∧ (∀ page ∈ joinedPages s, fbit t page Hdr.pageStatGcJoined = false))
    ∧ (∀ a, s.time.gcAt = some a → a ≤ s.mtime.toNat → (joinedPages s).Nodup →
      (∀ page ∈ joinedPages s, s.time.commits.contains page = false
        ∧ ∃ kd, kindOf page = some kd ∧ kd ∉ [.ni, .time, .strip, .art]) →
      s.time.stagedAt = s.staged → (s.staged.map (·.1)).Nodup →
      (∀ e ∈ s.staged, e.1 ∉ [fkey (keyPage e.1) Hdr.pageStatStaged 0, fkey (keyPage e.1) Hdr.pageStatCommits 0,
        fkey (keyPage e.1) Hdr.pageStatGcJoined 0, fkey pgFg Fg.gcStatGcCount 0, fkey pgFg Hdr.irqStatStat 0]) →
      ∃ t, exec .globalCommit s = .next t
        ∧ (∀ e ∈ s.staged, keyPage e.1 ∈ joinedPages s → tget (resetAt e.1) t.regs e.1 = e.2)
        ∧ (∀ e ∈ t.staged, keyPage e.1 ∉ joinedPages s)
        ∧ (∀ page ∈ joinedPages s, fbit t page Hdr.pageStatStaged = s.stagedNow.contains page
            ∧ fget t page Hdr.pageStatCommits = (fget s page Hdr.pageStatCommits + 1) % 2 ^ Hdr.pageStatCommits.w)
        ∧ fget t pgFg Fg.gcStatGcCount = (fget s pgFg Fg.gcStatGcCount + 1) % 2 ^ Fg.gcStatGcCount.w
        ∧ t.time.gcDone.map (·.map (·.page)) = some (joinedPages s))
    ∧ (∀ a, s.time.gcAt = some a → s.mtime.toNat < a → exec .globalCommit s = .next s)
    ∧ (s.strip.deadUntilReset = true → exec .microsecondTick s = .next s)
    ∧ (s.strip.deadUntilReset = false → ∃ t, exec .microsecondTick s = .next t ∧ t.us = s.us + 1 ∧ t.mtime = s.mtime ∧ t.chans = s.chans ∧ t.mem = s.mem
        ∧ t.art = s.art)
end

