-- ==== Sys2Proof/Laws/Frames.lean ====
section
/-! SUPPORT. Which parts of the state each operation of the machine leaves as they were: one lemma for each operation, in the
order of the model's files. -/

namespace Sys2Proof.Machine

/-! ## The relation -/
theorem Same.refl (F : Part → Bool) (s : State) : Same F s s :=
  ⟨by intro p _; cases p <;> rfl⟩

theorem Same.trans {F : Part → Bool} {a b c : State} (h : Same F a b) (k : Same F b c) : Same F a c := by
  refine ⟨fun p hp => ?_⟩
  have h1 := h.same p hp
  have h2 := k.same p hp
  cases p <;> exact Eq.trans h2 h1

theorem Same.cut {F : Part → Bool} {a x : State} {P : Prop} (h : Same F a x) (k : Same F a x → P) : P := k h

theorem same_or {α : Type} {a b c : α} {x : Bool} (e : a = b ∨ x = false) (hp : x = true) (h : b = c) : a = c :=
  e.elim (fun e => e.trans h) (fun e => absurd (hp.symm.trans e) (by decide))

/-- A record update of a state. -/
theorem mk_same {F : Part → Bool} {s0 s : State} {v_free v_cyc v_ticks v_sixths v_us v_mtime v_pins v_regs
    v_staged v_stagedNow v_chans v_routers v_rt v_rtImg v_nis v_time v_art v_fence v_artHold v_artCmd v_artWait
    v_artLongAt v_lookups v_faults v_swapUs v_swapTick v_swapStalled v_unsure v_unsureGen v_flipUs v_flipTick
    v_flipStalled v_swapLim v_flipLim v_rsvRun v_rsvWait v_rsvCfgChg v_errLog v_stableUs v_slots v_power
    v_strip v_fuses v_ledger v_lc v_smx v_mem v_refillAt} (h : Same F s0 s)
    (e_free : v_free = s.free ∨ F .free = false)
    (e_cyc : v_cyc = s.cyc ∨ F .cyc = false)
    (e_ticks : v_ticks = s.ticks ∨ F .ticks = false)
    (e_sixths : v_sixths = s.sixths ∨ F .sixths = false)
    (e_us : v_us = s.us ∨ F .us = false)
    (e_mtime : v_mtime = s.mtime ∨ F .mtime = false)
    (e_pins : v_pins = s.pins ∨ F .pins = false)
    (e_regs : v_regs = s.regs ∨ F .regs = false)
    (e_staged : v_staged = s.staged ∨ F .staged = false)
    (e_stagedNow : v_stagedNow = s.stagedNow ∨ F .stagedNow = false)
    (e_chans : v_chans = s.chans ∨ F .chans = false)
    (e_routers : v_routers = s.routers ∨ F .routers = false)
    (e_rt : v_rt = s.rt ∨ F .rt = false)
    (e_rtImg : v_rtImg = s.rtImg ∨ F .rtImg = false)
    (e_nis : v_nis = s.nis ∨ F .nis = false)
    (e_time : v_time = s.time ∨ F .time = false)
    (e_art : v_art = s.art ∨ F .art = false)
    (e_fence : v_fence = s.fence ∨ F .fence = false)
    (e_artHold : v_artHold = s.artHold ∨ F .artHold = false)
    (e_artCmd : v_artCmd = s.artCmd ∨ F .artCmd = false)
    (e_artWait : v_artWait = s.artWait ∨ F .artWait = false)
    (e_artLongAt : v_artLongAt = s.artLongAt ∨ F .artLongAt = false)
    (e_lookups : v_lookups = s.lookups ∨ F .lookups = false)
    (e_faults : v_faults = s.faults ∨ F .faults = false)
    (e_swapUs : v_swapUs = s.swapUs ∨ F .swapUs = false)
    (e_swapTick : v_swapTick = s.swapTick ∨ F .swapTick = false)
    (e_swapStalled : v_swapStalled = s.swapStalled ∨ F .swapStalled = false)
    (e_unsure : v_unsure = s.unsure ∨ F .unsure = false)
    (e_unsureGen : v_unsureGen = s.unsureGen ∨ F .unsureGen = false)
    (e_flipUs : v_flipUs = s.flipUs ∨ F .flipUs = false)
    (e_flipTick : v_flipTick = s.flipTick ∨ F .flipTick = false)
    (e_flipStalled : v_flipStalled = s.flipStalled ∨ F .flipStalled = false)
    (e_swapLim : v_swapLim = s.swapLim ∨ F .swapLim = false)
    (e_flipLim : v_flipLim = s.flipLim ∨ F .flipLim = false)
    (e_rsvRun : v_rsvRun = s.rsvRun ∨ F .rsvRun = false)
    (e_rsvWait : v_rsvWait = s.rsvWait ∨ F .rsvWait = false)
    (e_rsvCfgChg : v_rsvCfgChg = s.rsvCfgChg ∨ F .rsvCfgChg = false)
    (e_errLog : v_errLog = s.errLog ∨ F .errLog = false)
    (e_stableUs : v_stableUs = s.stableUs ∨ F .stableUs = false)
    (e_slots : v_slots = s.slots ∨ F .slots = false)
    (e_power : v_power = s.power ∨ F .power = false)
    (e_strip : v_strip = s.strip ∨ F .strip = false)
    (e_fuses : v_fuses = s.fuses ∨ F .fuses = false)
    (e_ledger : v_ledger = s.ledger ∨ F .ledger = false)
    (e_lc : v_lc = s.lc ∨ F .lc = false)
    (e_smx : v_smx = s.smx ∨ F .smx = false)
    (e_mem : v_mem = s.mem ∨ F .mem = false)
    (e_refillAt : v_refillAt = s.refillAt ∨ F .refillAt = false) :
    Same F s0 (State.mk s.pending v_free v_cyc v_ticks v_sixths v_us v_mtime v_pins v_regs v_staged v_stagedNow
    v_chans v_routers v_rt v_rtImg v_nis v_time v_art v_fence v_artHold v_artCmd v_artWait v_artLongAt
    v_lookups v_faults v_swapUs v_swapTick v_swapStalled v_unsure v_unsureGen v_flipUs v_flipTick v_flipStalled
    v_swapLim v_flipLim v_rsvRun v_rsvWait v_rsvCfgChg v_errLog v_stableUs v_slots v_power v_strip v_fuses
    v_ledger v_lc v_smx v_mem v_refillAt) := by
  refine ⟨fun p hp => ?_⟩
  have hs := h.same p hp
  cases p with
  | free => exact same_or e_free hp hs
  | cyc => exact same_or e_cyc hp hs
  | ticks => exact same_or e_ticks hp hs
  | sixths => exact same_or e_sixths hp hs
  | us => exact same_or e_us hp hs
  | mtime => exact same_or e_mtime hp hs
  | pins => exact same_or e_pins hp hs
  | regs => exact same_or e_regs hp hs
  | staged => exact same_or e_staged hp hs
  | stagedNow => exact same_or e_stagedNow hp hs
  | chans => exact same_or e_chans hp hs
  | routers => exact same_or e_routers hp hs
  | rt => exact same_or e_rt hp hs
  | rtImg => exact same_or e_rtImg hp hs
  | nis => exact same_or e_nis hp hs
  | time => exact same_or e_time hp hs
  | art => exact same_or e_art hp hs
  | fence => exact same_or e_fence hp hs
  | artHold => exact same_or e_artHold hp hs
  | artCmd => exact same_or e_artCmd hp hs
  | artWait => exact same_or e_artWait hp hs
  | artLongAt => exact same_or e_artLongAt hp hs
  | lookups => exact same_or e_lookups hp hs
  | faults => exact same_or e_faults hp hs
  | swapUs => exact same_or e_swapUs hp hs
  | swapTick => exact same_or e_swapTick hp hs
  | swapStalled => exact same_or e_swapStalled hp hs
  | unsure => exact same_or e_unsure hp hs
  | unsureGen => exact same_or e_unsureGen hp hs
  | flipUs => exact same_or e_flipUs hp hs
  | flipTick => exact same_or e_flipTick hp hs
  | flipStalled => exact same_or e_flipStalled hp hs
  | swapLim => exact same_or e_swapLim hp hs
  | flipLim => exact same_or e_flipLim hp hs
  | rsvRun => exact same_or e_rsvRun hp hs
  | rsvWait => exact same_or e_rsvWait hp hs
  | rsvCfgChg => exact same_or e_rsvCfgChg hp hs
  | errLog => exact same_or e_errLog hp hs
  | stableUs => exact same_or e_stableUs hp hs
  | slots => exact same_or e_slots hp hs
  | power => exact same_or e_power hp hs
  | strip => exact same_or e_strip hp hs
  | fuses => exact same_or e_fuses hp hs
  | ledger => exact same_or e_ledger hp hs
  | lc => exact same_or e_lc hp hs
  | smx => exact same_or e_smx hp hs
  | mem => exact same_or e_mem hp hs
  | refillAt => exact same_or e_refillAt hp hs

theorem next_same {F : Part → Bool} {s t : State} (h : Same F s t) : SameO F s (.next t) := ⟨by intro u e; cases e; exact h⟩

/-! ## Combinators -/

/-! ## Combinators -/

/-! ## Combinators -/

/-! ## Combinators -/
theorem onlyIf_same {F : Part → Bool} {s0 s : State} {c : Bool} {f : State → State} (h : Same F s0 s)
    (hf : ∀ t, Same F s0 t → Same F s0 (f t)) : Same F s0 (onlyIf c f s) := by
  unfold onlyIf; split
  · exact hf s h
  · exact h

theorem foldl_same {α : Type} {F : Part → Bool} {s0 : State} {f : State → α → State}
    (hf : ∀ t a, Same F s0 t → Same F s0 (f t a)) :
    ∀ {l : List α} {s : State}, Same F s0 s → Same F s0 (l.foldl f s) := by
  intro l
  induction l with
  | nil => intro s h; exact h
  | cons a l ih => intro s h; exact ih (hf s a h)

theorem forEach_same {α : Type} {F : Part → Bool} {s0 s : State} {l : List α} {f : α → State → State}
    (h : Same F s0 s)
    (hf : ∀ a t, Same F s0 t → Same F s0 (f a t)) : Same F s0 (forEach l f s) :=
  foldl_same (fun t a ht => hf a t ht) h

theorem nextOr_same {F : Part → Bool} {s0 s : State} {o : Out} (ho : SameO F s0 o) (h : Same F s0 s) :
    Same F s0 (nextOr o s) := by
  unfold nextOr; split
  · exact ho.next _ rfl
  · exact h

theorem fset_same {F : Part → Bool} {s0 s : State} {a0 a1 a2 a4} (h : Same F s0 s) (qregs : F .regs = false) :
    Same F s0 (fset a0 a1 a2 s a4) := by
  unfold fset
  repeat' first
    | with_reducible assumption
    | (with_reducible apply mk_same; with_reducible assumption; all_goals first | exact Or.inr (by assumption) | exact Or.inl (by with_reducible rfl))

theorem fsetB_same {F : Part → Bool} {s0 s : State} {a0 a1 a2 a4} (h : Same F s0 s) (qregs : F .regs = false) :
    Same F s0 (fsetB a0 a1 a2 s a4) := by
  unfold fsetB
  repeat' first
    | with_reducible assumption
    | with_reducible apply fset_same

theorem sset_same {F : Part → Bool} {s0 s : State} {a0 a1 a2 a4} (h : Same F s0 s) (qregs : F .regs = false)
    (qstaged : F .staged = false) (qstagedNow : F .stagedNow = false) : Same F s0 (sset a0 a1 a2 s a4) := by
  unfold sset
  repeat' first
    | with_reducible assumption
    | (extract_lets +onlyGivenNames x; refine Same.cut (F := F) (a := s0) (x := x) ?_ (fun hx => ?_); (on_goal 1 => (unfold x; clear x)); (on_goal 2 => clear_value x))
    | (extract_lets +onlyGivenNames x)
    | with_reducible apply fset_same
    | with_reducible apply foldl_same
    | (with_reducible apply mk_same; with_reducible assumption; all_goals first | exact Or.inr (by assumption) | exact Or.inl (by with_reducible rfl))

theorem mergeStaged_same {F : Part → Bool} {s0 s : State} {a0} (h : Same F s0 s) (qregs : F .regs = false)
    (qstaged : F .staged = false) : Same F s0 (mergeStaged a0 s) := by
  unfold mergeStaged
  repeat' first
    | with_reducible assumption
    | (with_reducible apply mk_same; with_reducible assumption; all_goals first | exact Or.inr (by assumption) | exact Or.inl (by with_reducible rfl))

theorem dropStaged_same {F : Part → Bool} {s0 s : State} {a0} (h : Same F s0 s) (qstaged : F .staged = false) :
    Same F s0 (dropStaged a0 s) := by
  unfold dropStaged
  repeat' first
    | with_reducible assumption
    | (with_reducible apply mk_same; with_reducible assumption; all_goals first | exact Or.inr (by assumption) | exact Or.inl (by with_reducible rfl))

theorem clearFields_same {F : Part → Bool} {s0 s : State} {a0 a1} (h : Same F s0 s) (qregs : F .regs = false)
    (qstaged : F .staged = false) : Same F s0 (clearFields a0 a1 s) := by
  unfold clearFields
  repeat' first
    | with_reducible assumption
    | (with_reducible apply mk_same; with_reducible assumption; all_goals first | exact Or.inr (by assumption) | exact Or.inl (by with_reducible rfl))

theorem fclear_same {F : Part → Bool} {s0 s : State} {a0 a1 a3} (h : Same F s0 s) (qregs : F .regs = false) :
    Same F s0 (fclear a0 a1 s a3) := by
  unfold fclear
  repeat' first
    | with_reducible assumption
    | (with_reducible apply mk_same; with_reducible assumption; all_goals first | exact Or.inr (by assumption) | exact Or.inl (by with_reducible rfl))

theorem setChan_same {F : Part → Bool} {s0 s : State} {a0 a1} (h : Same F s0 s) (qchans : F .chans = false) :
    Same F s0 (setChan a0 a1 s) := by
  unfold setChan
  repeat' first
    | with_reducible assumption
    | (with_reducible apply mk_same; with_reducible assumption; all_goals first | exact Or.inr (by assumption) | exact Or.inl (by with_reducible rfl))

theorem modChan_same {F : Part → Bool} {s0 s : State} {a0 a1} (h : Same F s0 s) (qchans : F .chans = false) :
    Same F s0 (modChan a0 a1 s) := by
  unfold modChan
  repeat' first
    | with_reducible assumption
    | with_reducible apply setChan_same

theorem setRouter_same {F : Part → Bool} {s0 s : State} {a0 a1} (h : Same F s0 s)
    (qrouters : F .routers = false) : Same F s0 (setRouter a0 a1 s) := by
  unfold setRouter
  repeat' first
    | with_reducible assumption
    | (with_reducible apply mk_same; with_reducible assumption; all_goals first | exact Or.inr (by assumption) | exact Or.inl (by with_reducible rfl))

theorem modRouter_same {F : Part → Bool} {s0 s : State} {a0 a1} (h : Same F s0 s)
    (qrouters : F .routers = false) : Same F s0 (modRouter a0 a1 s) := by
  unfold modRouter
  repeat' first
    | with_reducible assumption
    | with_reducible apply setRouter_same

theorem setNi_same {F : Part → Bool} {s0 s : State} {a0 a1} (h : Same F s0 s) (qnis : F .nis = false) : Same F
    s0 (setNi a0 a1 s) := by
  unfold setNi
  repeat' first
    | with_reducible assumption
    | (with_reducible apply mk_same; with_reducible assumption; all_goals first | exact Or.inr (by assumption) | exact Or.inl (by with_reducible rfl))

theorem modNi_same {F : Part → Bool} {s0 s : State} {a0 a1} (h : Same F s0 s) (qnis : F .nis = false) : Same F
    s0 (modNi a0 a1 s) := by
  unfold modNi
  repeat' first
    | with_reducible assumption
    | with_reducible apply setNi_same

theorem modVc_same {F : Part → Bool} {s0 s : State} {a0 a1 a2} (h : Same F s0 s) (qchans : F .chans = false) :
    Same F s0 (modVc a0 a1 a2 s) := by
  unfold modVc
  repeat' first
    | with_reducible assumption
    | with_reducible apply modChan_same

theorem setEntry_same {F : Part → Bool} {s0 s : State} {a0 a1 a2} (h : Same F s0 s) (qnis : F .nis = false) :
    Same F s0 (setEntry a0 a1 a2 s) := by
  unfold setEntry
  repeat' first
    | with_reducible assumption
    | with_reducible apply modNi_same

theorem modEntry_same {F : Part → Bool} {s0 s : State} {a0 a1 a2} (h : Same F s0 s) (qnis : F .nis = false) :
    Same F s0 (modEntry a0 a1 a2 s) := by
  unfold modEntry
  repeat' first
    | with_reducible assumption
    | with_reducible apply setEntry_same

theorem draw_same {F : Part → Bool} {s0 s : State} (h : Same F s0 s) (qfree : F .free = false) : Same F s0
    (draw s).2 := by
  simp only [draw]; apply mk_same h <;> first | exact Or.inr (by assumption) | exact Or.inl rfl

theorem draw_pair2 {F : Part → Bool} {s0 s t : State} {d : Nat} (h : Same F s0 s) (qfree : F .free = false)
    (e : draw s = (d, t)) : Same F s0 t := by
  have k := draw_same (F := F) h qfree; rw [e] at k; exact k

theorem sramPut_same {F : Part → Bool} {s0 s : State} {a0 a1} (h : Same F s0 s) (qmem : F .mem = false) : Same
    F s0 (sramPut a0 a1 s) := by
  unfold sramPut
  repeat' first
    | with_reducible assumption
    | (with_reducible apply mk_same; with_reducible assumption; all_goals first | exact Or.inr (by assumption) | exact Or.inl (by with_reducible rfl))

theorem sramWrite_same {F : Part → Bool} {s0 s : State} {a0 a1 a2} (h : Same F s0 s) (qmem : F .mem = false) :
    Same F s0 (sramWrite a0 a1 a2 s) := by
  unfold sramWrite
  repeat' first
    | with_reducible assumption
    | with_reducible apply forEach_same
    | with_reducible apply onlyIf_same
    | with_reducible apply sramPut_same
    | intro _ _ _
    | intro _ _

theorem satAdd_same {F : Part → Bool} {s0 s : State} {a0 a1 a2 a4} (h : Same F s0 s) (qregs : F .regs = false)
    : Same F s0 (satAdd a0 a1 a2 s a4) := by
  unfold satAdd
  repeat' first
    | with_reducible assumption
    | with_reducible apply fset_same

theorem wrapAdd_same {F : Part → Bool} {s0 s : State} {a0 a1 a2 a4} (h : Same F s0 s) (qregs : F .regs = false)
    : Same F s0 (wrapAdd a0 a1 a2 s a4) := by
  unfold wrapAdd
  repeat' first
    | with_reducible assumption
    | with_reducible apply fset_same

theorem maxIn_same {F : Part → Bool} {s0 s : State} {a0 a1 a2 a4} (h : Same F s0 s) (qregs : F .regs = false) :
    Same F s0 (maxIn a0 a1 a2 s a4) := by
  unfold maxIn
  repeat' first
    | with_reducible assumption
    | with_reducible apply fset_same

theorem flag_same {F : Part → Bool} {s0 s : State} {a0 a1 a3} (h : Same F s0 s) (qregs : F .regs = false) :
    Same F s0 (flag a0 a1 s a3) := by
  unfold flag
  repeat' first
    | with_reducible assumption
    | with_reducible apply fset_same

theorem flagBit_same {F : Part → Bool} {s0 s : State} {a0 a1 a2} (h : Same F s0 s) (qregs : F .regs = false) :
    Same F s0 (flagBit a0 a1 a2 s) := by
  unfold flagBit
  repeat' first
    | with_reducible assumption
    | with_reducible apply fset_same

theorem unflagBit_same {F : Part → Bool} {s0 s : State} {a0 a1 a2} (h : Same F s0 s) (qregs : F .regs = false)
    : Same F s0 (unflagBit a0 a1 a2 s) := by
  unfold unflagBit
  repeat' first
    | with_reducible assumption
    | with_reducible apply fset_same

theorem irqHold_same {F : Part → Bool} {s0 s : State} {a0 a1} (h : Same F s0 s) (qregs : F .regs = false) :
    Same F s0 (irqHold a0 a1 s) := by
  unfold irqHold
  repeat' first
    | with_reducible assumption
    | with_reducible apply flagBit_same

theorem pageErr_same {F : Part → Bool} {s0 s : State} {a0 a1 a2} (h : Same F s0 s) (qregs : F .regs = false) :
    Same F s0 (pageErr a0 a1 a2 s) := by
  unfold pageErr
  repeat' first
    | with_reducible assumption
    | with_reducible apply irqHold_same
    | with_reducible apply flag_same
    | with_reducible apply onlyIf_same
    | with_reducible apply fset_same
    | intro _ _

theorem errReserved_same {F : Part → Bool} {s0 s : State} {a0 a1} (h : Same F s0 s) (qregs : F .regs = false) :
    Same F s0 (errReserved a0 a1 s) := by
  unfold errReserved
  repeat' first
    | with_reducible assumption
    | with_reducible apply pageErr_same

theorem errState_same {F : Part → Bool} {s0 s : State} {a0 a1} (h : Same F s0 s) (qregs : F .regs = false) :
    Same F s0 (errState a0 a1 s) := by
  unfold errState
  repeat' first
    | with_reducible assumption
    | with_reducible apply pageErr_same

theorem errRecord_same {F : Part → Bool} {s0 s : State} {a0 a1 a2 a3 a4 a5} (h : Same F s0 s)
    (qregs : F .regs = false) (qerrLog : F .errLog = false) : Same F s0 (errRecord a0 a1 a2 a3 a4 a5 s) := by
  unfold errRecord
  repeat' first
    | with_reducible assumption
    | with_reducible apply flag_same
    | with_reducible apply satAdd_same
    | (with_reducible apply mk_same; with_reducible assumption; all_goals first | exact Or.inr (by assumption) | exact Or.inl (by with_reducible rfl))
    | split

theorem errQ0_same {F : Part → Bool} {s0 s : State} {a0 a1 a2 a3 a4} (h : Same F s0 s)
    (qregs : F .regs = false) (qerrLog : F .errLog = false) : Same F s0 (errQ0 a0 a1 a2 a3 a4 s) := by
  unfold errQ0
  repeat' first
    | with_reducible assumption
    | with_reducible apply errRecord_same

theorem errNi_same {F : Part → Bool} {s0 s : State} {a0 a1 a2} (h : Same F s0 s) (qregs : F .regs = false)
    (qerrLog : F .errLog = false) : Same F s0 (errNi a0 a1 a2 s) := by
  unfold errNi
  repeat' first
    | with_reducible assumption
    | with_reducible apply errQ0_same

theorem logFiring_same {F : Part → Bool} {s0 s : State} {a0 a1} (h : Same F s0 s) (qregs : F .regs = false)
    (qtime : F .time = false) : Same F s0 (logFiring a0 a1 s) := by
  unfold logFiring
  repeat' first
    | with_reducible assumption
    | (extract_lets +onlyGivenNames x; refine Same.cut (F := F) (a := s0) (x := x) ?_ (fun hx => ?_); (on_goal 1 => (unfold x; clear x)); (on_goal 2 => clear_value x))
    | (extract_lets +onlyGivenNames x)
    | with_reducible apply onlyIf_same
    | with_reducible apply flag_same
    | with_reducible apply satAdd_same
    | (with_reducible apply mk_same; with_reducible assumption; all_goals first | exact Or.inr (by assumption) | exact Or.inl (by with_reducible rfl))
    | intro _ _
    | split

theorem markArm_same {F : Part → Bool} {s0 s : State} {a0 a1} (h : Same F s0 s) (qtime : F .time = false) :
    Same F s0 (markArm a0 a1 s) := by
  unfold markArm
  repeat' first
    | with_reducible assumption
    | (with_reducible apply mk_same; with_reducible assumption; all_goals first | exact Or.inr (by assumption) | exact Or.inl (by with_reducible rfl))

theorem queueRsv_same {F : Part → Bool} {s0 s : State} {a0} (h : Same F s0 s) (qrsvRun : F .rsvRun = false)
    (qrsvWait : F .rsvWait = false) : Same F s0 (queueRsv a0 s) := by
  unfold queueRsv
  repeat' first
    | with_reducible assumption
    | (with_reducible apply mk_same; with_reducible assumption; all_goals first | exact Or.inr (by assumption) | exact Or.inl (by with_reducible rfl))
    | split

theorem queueRecheck_same {F : Part → Bool} {s0 s : State} {a0} (h : Same F s0 s) (qrsvRun : F .rsvRun = false)
    (qrsvWait : F .rsvWait = false) : Same F s0 (queueRecheck a0 s) := by
  unfold queueRecheck
  repeat' first
    | with_reducible assumption
    | with_reducible apply queueRsv_same

theorem linkChange_same {F : Part → Bool} {s0 s : State} {a0} (h : Same F s0 s) (qregs : F .regs = false) :
    Same F s0 (linkChange a0 s) := by
  unfold linkChange
  repeat' first
    | with_reducible assumption
    | with_reducible apply irqHold_same

theorem noteLink_same {F : Part → Bool} {s0 s : State} {a0 a1} (h : Same F s0 s) (qregs : F .regs = false) :
    Same F s0 (noteLink a0 a1 s) := by
  unfold noteLink
  repeat' first
    | with_reducible assumption
    | with_reducible apply onlyIf_same
    | with_reducible apply linkChange_same
    | intro _ _

theorem sendFlit_same {F : Part → Bool} {s0 s : State} {a0 a1 a2 a3} (h : Same F s0 s)
    (qchans : F .chans = false) : Same F s0 (sendFlit a0 a1 a2 a3 s) := by
  unfold sendFlit
  repeat' first
    | with_reducible assumption
    | with_reducible apply setChan_same
    | with_reducible apply modChan_same

theorem returnCredit_same {F : Part → Bool} {s0 s : State} {a0 a1 a2} (h : Same F s0 s)
    (qchans : F .chans = false) : Same F s0 (returnCredit a0 a1 a2 s) := by
  unfold returnCredit
  repeat' first
    | with_reducible assumption
    | with_reducible apply modChan_same

theorem ackFree_same {F : Part → Bool} {s0 s : State} {a0 a1} (h : Same F s0 s) (qchans : F .chans = false) :
    Same F s0 (ackFree a0 a1 s) := by
  unfold ackFree
  repeat' first
    | with_reducible assumption
    | with_reducible apply modChan_same

theorem resend_same {F : Part → Bool} {s0 s : State} {a0} (h : Same F s0 s) (qchans : F .chans = false)
    (qnis : F .nis = false) : Same F s0 (resend a0 s) := by
  unfold resend
  repeat' first
    | with_reducible assumption
    | (extract_lets +onlyGivenNames x; refine Same.cut (F := F) (a := s0) (x := x) ?_ (fun hx => ?_); (on_goal 1 => (unfold x; clear x)); (on_goal 2 => clear_value x))
    | (extract_lets +onlyGivenNames x)
    | with_reducible apply onlyIf_same
    | with_reducible apply modNi_same
    | with_reducible apply modChan_same
    | with_reducible apply foldl_same
    | (with_reducible apply mk_same; with_reducible assumption; all_goals first | exact Or.inr (by assumption) | exact Or.inl (by with_reducible rfl))
    | intro _ _ _
    | intro _ _

theorem startRetrain_same {F : Part → Bool} {s0 s : State} {a0} (h : Same F s0 s) (qregs : F .regs = false)
    (qchans : F .chans = false) : Same F s0 (startRetrain a0 s) := by
  unfold startRetrain
  repeat' first
    | with_reducible assumption
    | (extract_lets +onlyGivenNames x; refine Same.cut (F := F) (a := s0) (x := x) ?_ (fun hx => ?_); (on_goal 1 => (unfold x; clear x)); (on_goal 2 => clear_value x))
    | with_reducible apply modChan_same
    | with_reducible apply satAdd_same
    | with_reducible apply noteLink_same
    | with_reducible apply onlyIf_same
    | intro _ _

theorem replayChan_same {F : Part → Bool} {s0 s : State} {a0} (h : Same F s0 s) (qregs : F .regs = false)
    (qchans : F .chans = false) (qnis : F .nis = false) : Same F s0 (replayChan a0 s) := by
  unfold replayChan
  repeat' first
    | with_reducible assumption
    | (extract_lets +onlyGivenNames x; refine Same.cut (F := F) (a := s0) (x := x) ?_ (fun hx => ?_); (on_goal 1 => (unfold x; clear x)); (on_goal 2 => clear_value x))
    | (extract_lets +onlyGivenNames x)
    | with_reducible apply satAdd_same
    | with_reducible apply modChan_same
    | with_reducible apply startRetrain_same
    | with_reducible apply resend_same
    | with_reducible apply foldl_same
    | (with_reducible apply mk_same; with_reducible assumption; all_goals first | exact Or.inr (by assumption) | exact Or.inl (by with_reducible rfl))
    | intro _
    | split

theorem refuseFlit_same {F : Part → Bool} {s0 s : State} {a0} (h : Same F s0 s) (qchans : F .chans = false) :
    Same F s0 (refuseFlit a0 s) := by
  unfold refuseFlit
  repeat' first
    | with_reducible assumption
    | with_reducible apply modChan_same

theorem takeAck_same {F : Part → Bool} {s0 s : State} {a0 a1} (h : Same F s0 s) (qchans : F .chans = false) :
    Same F s0 (takeAck a0 a1 s) := by
  unfold takeAck
  repeat' first
    | with_reducible assumption
    | (extract_lets +onlyGivenNames x; refine Same.cut (F := F) (a := s0) (x := x) ?_ (fun hx => ?_); (on_goal 1 => (unfold x; clear x)); (on_goal 2 => clear_value x))
    | with_reducible apply ackFree_same
    | with_reducible apply onlyIf_same
    | with_reducible apply modChan_same
    | intro _ _
    | split

theorem takeCredit_same {F : Part → Bool} {s0 s : State} {a0 a1} (h : Same F s0 s) (qchans : F .chans = false)
    : Same F s0 (takeCredit a0 a1 s) := by
  unfold takeCredit
  repeat' first
    | with_reducible assumption
    | with_reducible apply modChan_same
    | split

theorem takeBody_same {F : Part → Bool} {s0 s : State} {a0 a1} (h : Same F s0 s) (qchans : F .chans = false) :
    Same F s0 (takeBody a0 a1 s) := by
  unfold takeBody
  repeat' first
    | with_reducible assumption
    | with_reducible apply modVc_same
    | with_reducible apply returnCredit_same
    | split

theorem consumePacket_same {F : Part → Bool} {s0 s : State} {a0 a1 a2} (h : Same F s0 s)
    (qchans : F .chans = false) : Same F s0 (consumePacket a0 a1 a2 s) := by
  unfold consumePacket
  repeat' first
    | with_reducible assumption
    | with_reducible apply returnCredit_same
    | with_reducible apply modVc_same

theorem modPower_same {F : Part → Bool} {s0 s : State} {f} (h : Same F s0 s) (qpower : F .power = false) : Same
    F s0 (modPower f s) := by
  unfold modPower; apply mk_same h <;> first | exact Or.inr (by assumption) | exact Or.inl rfl

theorem refRecord_same {F : Part → Bool} {s0 s : State} {a0 a1 a2 a3 a4 a5 a6} (h : Same F s0 s)
    (qregs : F .regs = false) (qpower : F .power = false) : Same F s0 (refRecord a0 a1 a2 a3 a4 a5 a6 s) := by
  unfold refRecord
  repeat' first
    | with_reducible assumption
    | with_reducible apply modPower_same
    | with_reducible apply flag_same
    | with_reducible apply satAdd_same
    | split

theorem dropEntry_same {F : Part → Bool} {s0 s : State} {a0} (h : Same F s0 s) (qregs : F .regs = false)
    (qnis : F .nis = false) : Same F s0 (dropEntry a0 s) := by
  unfold dropEntry
  repeat' first
    | with_reducible assumption
    | with_reducible apply fset_same
    | with_reducible apply modNi_same

theorem abortF3_same {F : Part → Bool} {s0 s : State} {a0 a1 a2 a3} (h : Same F s0 s) (qregs : F .regs = false)
    (qnis : F .nis = false) (qpower : F .power = false) : Same F s0 (abortF3 a0 a1 a2 a3 s) := by
  unfold abortF3
  repeat' first
    | with_reducible assumption
    | (extract_lets +onlyGivenNames x; refine Same.cut (F := F) (a := s0) (x := x) ?_ (fun hx => ?_); (on_goal 1 => (unfold x; clear x)); (on_goal 2 => clear_value x))
    | with_reducible apply forEach_same
    | with_reducible apply onlyIf_same
    | with_reducible apply dropEntry_same
    | with_reducible apply refRecord_same
    | with_reducible apply fset_same
    | intro _ _ _
    | intro _ _

theorem abortEntry_same {F : Part → Bool} {s0 s : State} {a0 a1 a2 a3 a4} (h : Same F s0 s)
    (qregs : F .regs = false) (qnis : F .nis = false) (qpower : F .power = false) : Same F s0
    (abortEntry a0 a1 a2 a3 a4 s) := by
  unfold abortEntry
  repeat' first
    | with_reducible assumption
    | (extract_lets +onlyGivenNames x; refine Same.cut (F := F) (a := s0) (x := x) ?_ (fun hx => ?_); (on_goal 1 => (unfold x; clear x)); (on_goal 2 => clear_value x))
    | with_reducible apply abortF3_same
    | with_reducible apply onlyIf_same
    | with_reducible apply fset_same
    | with_reducible apply refRecord_same
    | with_reducible apply dropEntry_same
    | intro _ _
    | split

theorem headToNi_same {F : Part → Bool} {s0 s : State} {a0 a1} (h : Same F s0 s) (qregs : F .regs = false)
    (qnis : F .nis = false) (qpower : F .power = false) : Same F s0 (headToNi a0 a1 s) := by
  unfold headToNi
  repeat' first
    | with_reducible assumption
    | (extract_lets +onlyGivenNames x; refine Same.cut (F := F) (a := s0) (x := x) ?_ (fun hx => ?_); (on_goal 1 => (unfold x; clear x)); (on_goal 2 => clear_value x))
    | with_reducible apply abortEntry_same
    | with_reducible apply onlyIf_same
    | with_reducible apply fset_same
    | with_reducible apply modNi_same
    | intro _ _

theorem addInj_same {F : Part → Bool} {s0 s : State} {a0 a1} (h : Same F s0 s) (qrouters : F .routers = false)
    : Same F s0 (addInj a0 a1 s) := by
  unfold addInj
  repeat' first
    | with_reducible assumption
    | with_reducible apply modRouter_same

theorem addRem_same {F : Part → Bool} {s0 s : State} {a0 a1} (h : Same F s0 s) (qrouters : F .routers = false)
    : Same F s0 (addRem a0 a1 s) := by
  unfold addRem
  repeat' first
    | with_reducible assumption
    | with_reducible apply modRouter_same

theorem removePacket_same {F : Part → Bool} {s0 s : State} {a0 a1 a2 a3 a4} (h : Same F s0 s)
    (qchans : F .chans = false) (qrouters : F .routers = false) : Same F s0 (removePacket a0 a1 a2 a3 a4 s) := by
  unfold removePacket
  repeat' first
    | with_reducible assumption
    | (extract_lets +onlyGivenNames x)
    | with_reducible apply onlyIf_same
    | with_reducible apply addRem_same
    | with_reducible apply consumePacket_same
    | with_reducible apply foldl_same
    | (with_reducible apply mk_same; with_reducible assumption; all_goals first | exact Or.inr (by assumption) | exact Or.inl (by with_reducible rfl))
    | intro _ _ _
    | intro _ _

theorem logDisposal_same {F : Part → Bool} {s0 s : State} {a0 a1 a2 a3} (h : Same F s0 s)
    (qregs : F .regs = false) (qerrLog : F .errLog = false) : Same F s0 (logDisposal a0 a1 a2 a3 s) := by
  unfold logDisposal
  repeat' first
    | with_reducible assumption
    | with_reducible apply errQ0_same
    | with_reducible apply satAdd_same

theorem fileAnswer_same {F : Part → Bool} {s0 s : State} {a0 a1 a2} (h : Same F s0 s) (qregs : F .regs = false)
    (qrouters : F .routers = false) (qerrLog : F .errLog = false) : Same F s0 (fileAnswer a0 a1 a2 s) := by
  unfold fileAnswer
  repeat' first
    | with_reducible assumption
    | (extract_lets +onlyGivenNames x; refine Same.cut (F := F) (a := s0) (x := x) ?_ (fun hx => ?_); (on_goal 1 => (unfold x; clear x)); (on_goal 2 => clear_value x))
    | (extract_lets +onlyGivenNames x)
    | with_reducible apply addInj_same
    | with_reducible apply addRem_same
    | with_reducible apply logDisposal_same
    | with_reducible apply modRouter_same
    | split

theorem dispose_same {F : Part → Bool} {s0 s : State} {a0 a1 a2 a3 a4 a5} (h : Same F s0 s)
    (qregs : F .regs = false) (qchans : F .chans = false) (qrouters : F .routers = false)
    (qerrLog : F .errLog = false) : Same F s0 (dispose a0 a1 a2 a3 a4 a5 s) := by
  unfold dispose
  repeat' first
    | with_reducible assumption
    | (extract_lets +onlyGivenNames x; refine Same.cut (F := F) (a := s0) (x := x) ?_ (fun hx => ?_); (on_goal 1 => (unfold x; clear x)); (on_goal 2 => clear_value x))
    | (extract_lets +onlyGivenNames x)
    | with_reducible apply logDisposal_same
    | with_reducible apply removePacket_same
    | with_reducible apply fileAnswer_same
    | with_reducible apply foldl_same
    | (with_reducible apply mk_same; with_reducible assumption; all_goals first | exact Or.inr (by assumption) | exact Or.inl (by with_reducible rfl))
    | intro _
    | split

theorem absorbPacket_same {F : Part → Bool} {s0 s : State} {a0 a1 a2 a3} (h : Same F s0 s)
    (qregs : F .regs = false) (qrouters : F .routers = false) (qerrLog : F .errLog = false) : Same F s0
    (absorbPacket a0 a1 a2 a3 s) := by
  unfold absorbPacket
  repeat' first
    | with_reducible assumption
    | with_reducible apply fileAnswer_same
    | with_reducible apply satAdd_same
    | split

theorem absorbHanded_same {F : Part → Bool} {s0 s : State} {a0 a1} (h : Same F s0 s) (qregs : F .regs = false)
    (qrouters : F .routers = false) (qerrLog : F .errLog = false) : Same F s0 (absorbHanded a0 a1 s) := by
  unfold absorbHanded
  repeat' first
    | with_reducible assumption
    | with_reducible apply absorbPacket_same
    | with_reducible apply onlyIf_same
    | with_reducible apply addRem_same
    | intro _ _

theorem hand_same {F : Part → Bool} {s0 s : State} {a0 a1} (h : Same F s0 s) (qregs : F .regs = false)
    (qrouters : F .routers = false) (qerrLog : F .errLog = false) : Same F s0 (hand a0 a1 s) := by
  unfold hand
  repeat' first
    | with_reducible assumption
    | with_reducible apply modRouter_same
    | with_reducible apply absorbHanded_same
    | split

theorem retryHanded_same {F : Part → Bool} {s0 s : State} {a0} (h : Same F s0 s) (qregs : F .regs = false)
    (qrouters : F .routers = false) (qerrLog : F .errLog = false) : Same F s0 (retryHanded a0 s) := by
  unfold retryHanded
  repeat' first
    | with_reducible assumption
    | with_reducible apply forEach_same
    | with_reducible apply hand_same
    | with_reducible apply modRouter_same
    | intro _ _ _

theorem execHeadArrive_same {F : Part → Bool} {s0 s : State} {a0 a1 a2} (h : Same F s0 s)
    (qregs : F .regs = false) (qchans : F .chans = false) (qrouters : F .routers = false)
    (qerrLog : F .errLog = false) : SameO F s0 (execHeadArrive a0 a1 a2 s) := by
  unfold execHeadArrive
  repeat' first
    | with_reducible assumption
    | (extract_lets +onlyGivenNames x; refine Same.cut (F := F) (a := s0) (x := x) ?_ (fun hx => ?_); (on_goal 1 => (unfold x; clear x)); (on_goal 2 => clear_value x))
    | (extract_lets +onlyGivenNames x; clear_value x)
    | with_reducible apply next_same
    | with_reducible apply modVc_same
    | with_reducible apply dispose_same
    | split

theorem execBuildStoreConsume_same {F : Part → Bool} {s0 s : State} {a0 a1 a2} (h : Same F s0 s)
    (qregs : F .regs = false) (qchans : F .chans = false) (qrouters : F .routers = false)
    (qerrLog : F .errLog = false) : SameO F s0 (execBuildStoreConsume a0 a1 a2 s) := by
  unfold execBuildStoreConsume
  repeat' first
    | with_reducible assumption
    | with_reducible apply next_same
    | with_reducible apply dispose_same
    | split

theorem dropBuilt_same {F : Part → Bool} {s0 s : State} {a0 a1} (h : Same F s0 s)
    (qrouters : F .routers = false) : Same F s0 (dropBuilt a0 a1 s) := by
  unfold dropBuilt
  repeat' first
    | with_reducible assumption
    | with_reducible apply modRouter_same

theorem execAbsorb_same {F : Part → Bool} {s0 s : State} {a0 a1 a2} (h : Same F s0 s) (qregs : F .regs = false)
    (qchans : F .chans = false) (qrouters : F .routers = false) (qerrLog : F .errLog = false) : SameO F s0
    (execAbsorb a0 a1 a2 s) := by
  unfold execAbsorb
  repeat' first
    | with_reducible assumption
    | (extract_lets +onlyGivenNames x)
    | with_reducible apply next_same
    | with_reducible apply absorbPacket_same
    | with_reducible apply addRem_same
    | with_reducible apply dropBuilt_same
    | with_reducible apply removePacket_same
    | with_reducible apply foldl_same
    | (with_reducible apply mk_same; with_reducible assumption; all_goals first | exact Or.inr (by assumption) | exact Or.inl (by with_reducible rfl))
    | intro _
    | split

theorem countStarve_same {F : Part → Bool} {s0 s : State} {a0 a1} (h : Same F s0 s) (qchans : F .chans = false)
    (qrouters : F .routers = false) : Same F s0 (countStarve a0 a1 s) := by
  unfold countStarve
  repeat' first
    | with_reducible assumption
    | with_reducible apply modRouter_same
    | with_reducible apply modVc_same
    | split

theorem beginCycle_same {F : Part → Bool} {s0 s : State} {a0} (h : Same F s0 s) (qchans : F .chans = false)
    (qrouters : F .routers = false) : Same F s0 (beginCycle a0 s) := by
  unfold beginCycle
  repeat' first
    | with_reducible assumption
    | with_reducible apply forEach_same
    | with_reducible apply countStarve_same
    | with_reducible apply modRouter_same
    | intro _ _ _
    | split

theorem noteGrant_same {F : Part → Bool} {s0 s : State} {a0 a1} (h : Same F s0 s) (qregs : F .regs = false)
    (qrouters : F .routers = false) : Same F s0 (noteGrant a0 a1 s) := by
  unfold noteGrant
  repeat' first
    | with_reducible assumption
    | (extract_lets +onlyGivenNames x; refine Same.cut (F := F) (a := s0) (x := x) ?_ (fun hx => ?_); (on_goal 1 => (unfold x; clear x)); (on_goal 2 => clear_value x))
    | with_reducible apply modRouter_same
    | with_reducible apply onlyIf_same
    | with_reducible apply wrapAdd_same
    | intro _ _

theorem holdFlit_same {F : Part → Bool} {s0 s : State} {a0 a1 a2 a3} (h : Same F s0 s)
    (qregs : F .regs = false) (qnis : F .nis = false) (qerrLog : F .errLog = false) : Same F s0
    (holdFlit a0 a1 a2 a3 s) := by
  unfold holdFlit
  repeat' first
    | with_reducible assumption
    | with_reducible apply errNi_same
    | with_reducible apply modNi_same
    | split

theorem emit_same {F : Part → Bool} {s0 s : State} {a0 a1 a2 a3 a4 a5} (h : Same F s0 s)
    (qregs : F .regs = false) (qchans : F .chans = false) (qrouters : F .routers = false)
    (qnis : F .nis = false) (qerrLog : F .errLog = false) (qpower : F .power = false) : Same F s0
    (emit a0 a1 a2 a3 a4 a5 s) := by
  unfold emit
  repeat' first
    | with_reducible assumption
    | (extract_lets +onlyGivenNames x; refine Same.cut (F := F) (a := s0) (x := x) ?_ (fun hx => ?_); (on_goal 1 => (unfold x; clear x)); (on_goal 2 => clear_value x))
    | (extract_lets +onlyGivenNames x)
    | with_reducible apply holdFlit_same
    | with_reducible apply headToNi_same
    | with_reducible apply sendFlit_same
    | with_reducible apply addRem_same
    | split

theorem grantIn_same {F : Part → Bool} {s0 s : State} {a0 a1} (h : Same F s0 s) (qregs : F .regs = false)
    (qchans : F .chans = false) (qrouters : F .routers = false) (qnis : F .nis = false)
    (qerrLog : F .errLog = false) (qpower : F .power = false) : Same F s0 (grantIn a0 a1 s) := by
  unfold grantIn
  repeat' first
    | with_reducible assumption
    | (extract_lets +onlyGivenNames x; refine Same.cut (F := F) (a := s0) (x := x) ?_ (fun hx => ?_); (on_goal 1 => (unfold x; clear x)); (on_goal 2 => clear_value x))
    | (extract_lets +onlyGivenNames x)
    | with_reducible apply modVc_same
    | with_reducible apply returnCredit_same
    | with_reducible apply emit_same
    | split

theorem grant14_same {F : Part → Bool} {s0 s : State} {a0 a1} (h : Same F s0 s) (qregs : F .regs = false)
    (qchans : F .chans = false) (qrouters : F .routers = false) (qnis : F .nis = false)
    (qerrLog : F .errLog = false) (qpower : F .power = false) : Same F s0 (grant14 a0 a1 s) := by
  unfold grant14
  repeat' first
    | with_reducible assumption
    | with_reducible apply modRouter_same
    | with_reducible apply emit_same
    | split

theorem grantRouter_same {F : Part → Bool} {s0 s : State} {a0 a1} (h : Same F s0 s) (qregs : F .regs = false)
    (qchans : F .chans = false) (qrouters : F .routers = false) (qnis : F .nis = false)
    (qerrLog : F .errLog = false) (qpower : F .power = false) : Same F s0 (grantRouter a0 a1 s) := by
  unfold grantRouter
  repeat' first
    | with_reducible assumption
    | (extract_lets +onlyGivenNames x; refine Same.cut (F := F) (a := s0) (x := x) ?_ (fun hx => ?_); (on_goal 1 => (unfold x; clear x)); (on_goal 2 => clear_value x))
    | with_reducible apply beginCycle_same
    | with_reducible apply grant14_same
    | with_reducible apply grantIn_same
    | with_reducible apply noteGrant_same
    | split

theorem smxComplete_same {F : Part → Bool} {s0 s : State} {a0 a1 a2 a3 a4} (h : Same F s0 s)
    (qfree : F .free = false) (qlc : F .lc = false) (qsmx : F .smx = false) : Same F s0
    (smxComplete a0 a1 a2 a3 a4 s) := by
  unfold smxComplete
  repeat' first
    | with_reducible assumption
    | (refine draw_pair2 ?_ (by with_reducible assumption) (by with_reducible assumption) )
    | with_reducible apply draw_same
    | with_reducible apply draw_same
    | (with_reducible apply mk_same; with_reducible assumption; all_goals first | exact Or.inr (by assumption) | exact Or.inl (by with_reducible rfl))
    | split
    | dsimp only
    | (with_reducible apply mk_same <;> first | exact Or.inr (by assumption) | exact Or.inl (by with_reducible rfl) | skip)

theorem smxErrRecord_same {F : Part → Bool} {s0 s : State} {a0 a1 a2 a3 a4 a5} (h : Same F s0 s)
    (qregs : F .regs = false) : Same F s0 (smxErrRecord a0 a1 a2 a3 a4 a5 s) := by
  unfold smxErrRecord
  repeat' first
    | with_reducible assumption
    | (extract_lets +onlyGivenNames x; refine Same.cut (F := F) (a := s0) (x := x) ?_ (fun hx => ?_); (on_goal 1 => (unfold x; clear x)); (on_goal 2 => clear_value x))
    | with_reducible apply fset_same
    | with_reducible apply fsetB_same

theorem smxError_same {F : Part → Bool} {s0 s : State} {a0 a1 a2 a3 a4 a5} (h : Same F s0 s)
    (qfree : F .free = false) (qregs : F .regs = false) (qlc : F .lc = false) (qsmx : F .smx = false) : Same F
    s0 (smxError a0 a1 a2 a3 a4 a5 s) := by
  unfold smxError
  repeat' first
    | with_reducible assumption
    | (extract_lets +onlyGivenNames x; refine Same.cut (F := F) (a := s0) (x := x) ?_ (fun hx => ?_); (on_goal 1 => (unfold x; clear x)); (on_goal 2 => clear_value x))
    | with_reducible apply satAdd_same
    | with_reducible apply onlyIf_same
    | with_reducible apply smxErrRecord_same
    | with_reducible apply smxComplete_same
    | with_reducible apply flag_same
    | intro _ _

theorem finishAccess_same {F : Part → Bool} {s0 s : State} {a0} (h : Same F s0 s) (qfree : F .free = false)
    (qregs : F .regs = false) (qlc : F .lc = false) (qsmx : F .smx = false) : Same F s0 (finishAccess a0 s) := by
  unfold finishAccess
  repeat' first
    | with_reducible assumption
    | with_reducible apply smxComplete_same
    | with_reducible apply smxError_same
    | split

theorem drainBridge_same {F : Part → Bool} {s0 s : State} {a0} (h : Same F s0 s) (qfree : F .free = false)
    (qregs : F .regs = false) (qlc : F .lc = false) (qsmx : F .smx = false) : Same F s0 (drainBridge a0 s) := by
  unfold drainBridge
  repeat' first
    | with_reducible assumption
    | with_reducible apply finishAccess_same
    | with_reducible apply foldl_same
    | (with_reducible apply mk_same; with_reducible assumption; all_goals first | exact Or.inr (by assumption) | exact Or.inl (by with_reducible rfl))
    | intro _ _ _

theorem bridgeResult_same {F : Part → Bool} {s0 s : State} {a0 a1 a2} (h : Same F s0 s)
    (qfree : F .free = false) (qregs : F .regs = false) (qlc : F .lc = false) (qsmx : F .smx = false) : Same F
    s0 (bridgeResult a0 a1 a2 s) := by
  unfold bridgeResult
  repeat' first
    | with_reducible assumption
    | with_reducible apply drainBridge_same
    | (with_reducible apply mk_same; with_reducible assumption; all_goals first | exact Or.inr (by assumption) | exact Or.inl (by with_reducible rfl))
    | split

theorem accAdd_same {F : Part → Bool} {s0 s : State} {a0 a1 a2 a3} (h : Same F s0 s) (qnis : F .nis = false) :
    Same F s0 (accAdd a0 a1 a2 a3 s) := by
  unfold accAdd
  repeat' first
    | with_reducible assumption
    | with_reducible apply modNi_same
    | split

theorem takeEntry_same {F : Part → Bool} {s0 s : State} {a0 a1 a2} (h : Same F s0 s) (qregs : F .regs = false)
    (qnis : F .nis = false) : Same F s0 (takeEntry a0 a1 a2 s) := by
  unfold takeEntry
  repeat' first
    | with_reducible assumption
    | (extract_lets +onlyGivenNames x; refine Same.cut (F := F) (a := s0) (x := x) ?_ (fun hx => ?_); (on_goal 1 => (unfold x; clear x)); (on_goal 2 => clear_value x))
    | with_reducible apply setEntry_same
    | with_reducible apply modNi_same
    | with_reducible apply maxIn_same

theorem quotaCheck_same {F : Part → Bool} {s0 s : State} {a0 a1} (h : Same F s0 s) (qregs : F .regs = false) :
    Same F s0 (quotaCheck a0 a1 s) := by
  unfold quotaCheck
  repeat' first
    | with_reducible assumption
    | with_reducible apply onlyIf_same
    | with_reducible apply fset_same
    | intro _ _
    | split

theorem freeEntry_same {F : Part → Bool} {s0 s : State} {a0 a1} (h : Same F s0 s) (qregs : F .regs = false)
    (qnis : F .nis = false) : Same F s0 (freeEntry a0 a1 s) := by
  unfold freeEntry
  repeat' first
    | with_reducible assumption
    | (extract_lets +onlyGivenNames x; refine Same.cut (F := F) (a := s0) (x := x) ?_ (fun hx => ?_); (on_goal 1 => (unfold x; clear x)); (on_goal 2 => clear_value x))
    | with_reducible apply onlyIf_same
    | with_reducible apply accAdd_same
    | with_reducible apply quotaCheck_same
    | with_reducible apply setEntry_same
    | intro _ _
    | split

theorem closeEntry_same {F : Part → Bool} {s0 s : State} {a0 a1} (h : Same F s0 s) (qregs : F .regs = false)
    (qnis : F .nis = false) : Same F s0 (closeEntry a0 a1 s) := by
  unfold closeEntry
  repeat' first
    | with_reducible assumption
    | with_reducible apply quotaCheck_same
    | with_reducible apply setEntry_same
    | split

theorem noteUnsure_same {F : Part → Bool} {s0 s : State} {a0} (h : Same F s0 s) (qunsure : F .unsure = false) :
    Same F s0 (noteUnsure a0 s) := by
  unfold noteUnsure
  repeat' first
    | with_reducible assumption
    | (with_reducible apply mk_same; with_reducible assumption; all_goals first | exact Or.inr (by assumption) | exact Or.inl (by with_reducible rfl))
    | split

theorem pushReady_same {F : Part → Bool} {s0 s : State} {a0 a1 a2 a3} (h : Same F s0 s) (qnis : F .nis = false)
    : Same F s0 (pushReady a0 a1 a2 a3 s) := by
  unfold pushReady
  repeat' first
    | with_reducible assumption
    | with_reducible apply modNi_same

theorem pushBuilt_same {F : Part → Bool} {s0 s : State} {a0 a1 a2 a3} (h : Same F s0 s) (qnis : F .nis = false)
    : Same F s0 (pushBuilt a0 a1 a2 a3 s) := by
  unfold pushBuilt
  repeat' first
    | with_reducible assumption
    | (extract_lets +onlyGivenNames x)
    | with_reducible apply pushReady_same

theorem pushAnswer_same {F : Part → Bool} {s0 s : State} {a0 a1 a2 a3} (h : Same F s0 s)
    (qregs : F .regs = false) (qnis : F .nis = false) (qerrLog : F .errLog = false) : Same F s0
    (pushAnswer a0 a1 a2 a3 s) := by
  unfold pushAnswer
  repeat' first
    | with_reducible assumption
    | (extract_lets +onlyGivenNames x; refine Same.cut (F := F) (a := s0) (x := x) ?_ (fun hx => ?_); (on_goal 1 => (unfold x; clear x)); (on_goal 2 => clear_value x))
    | (extract_lets +onlyGivenNames x)
    | with_reducible apply errNi_same
    | with_reducible apply pushBuilt_same
    | with_reducible apply foldl_same
    | intro _
    | split

theorem freeReceipt_same {F : Part → Bool} {s0 s : State} {a0 a1 a2} (h : Same F s0 s) (qnis : F .nis = false)
    : Same F s0 (freeReceipt a0 a1 a2 s) := by
  unfold freeReceipt
  repeat' first
    | with_reducible assumption
    | with_reducible apply modNi_same

theorem markAnswered_same {F : Part → Bool} {s0 s : State} {a0 a1 a2} (h : Same F s0 s) (qnis : F .nis = false)
    : Same F s0 (markAnswered a0 a1 a2 s) := by
  unfold markAnswered
  repeat' first
    | with_reducible assumption
    | with_reducible apply modNi_same

theorem answerReceipt_same {F : Part → Bool} {s0 s : State} {a0 a1 a2} (h : Same F s0 s)
    (qregs : F .regs = false) (qnis : F .nis = false) (qerrLog : F .errLog = false) : Same F s0
    (answerReceipt a0 a1 a2 s) := by
  unfold answerReceipt
  repeat' first
    | with_reducible assumption
    | (extract_lets +onlyGivenNames x; refine Same.cut (F := F) (a := s0) (x := x) ?_ (fun hx => ?_); (on_goal 1 => (unfold x; clear x)); (on_goal 2 => clear_value x))
    | (extract_lets +onlyGivenNames x)
    | with_reducible apply pushAnswer_same
    | with_reducible apply modNi_same
    | with_reducible apply satAdd_same
    | with_reducible apply markAnswered_same

theorem countLate_same {F : Part → Bool} {s0 s : State} {a0 a1} (h : Same F s0 s) (qregs : F .regs = false) :
    Same F s0 (countLate a0 a1 s) := by
  unfold countLate
  repeat' first
    | with_reducible assumption
    | with_reducible apply satAdd_same
    | with_reducible apply maxIn_same
    | split

theorem judgeFrom_same {F : Part → Bool} {s0 s : State} {a0 a1 a2 a3} (h : Same F s0 s)
    (qregs : F .regs = false) (qchans : F .chans = false) :
    Same F s0 (judgeFrom a0 a1 a2 a3 s) := by
  induction a2 generalizing a3 s with
  | nil => exact h
  | cons x t ih =>
    obtain ⟨g, tl, d, body⟩ := x
    unfold judgeFrom
    extract_lets put whole late
    have hp : ∀ d, Same F s0 (put d s) := fun _ => countLate_same (modVc_same h qchans) qregs
    repeat' first
      | exact h
      | exact ih h
      | exact ih (hp _)
      | split

theorem judgeRx_same {F : Part → Bool} {s0 s : State} {a0} (h : Same F s0 s) (qregs : F .regs = false)
    (qchans : F .chans = false) : Same F s0 (judgeRx a0 s) := by
  unfold judgeRx
  repeat' first
    | with_reducible assumption
    | (extract_lets +onlyGivenNames x)
    | with_reducible apply onlyIf_same
    | with_reducible apply forEach_same
    | with_reducible apply judgeFrom_same
    | with_reducible apply foldl_same
    | intro _ _ _
    | intro _ _

theorem countBytes_same {F : Part → Bool} {s0 s : State} {a0 a1 a2} (h : Same F s0 s) (qnis : F .nis = false) :
    Same F s0 (countBytes a0 a1 a2 s) := by
  unfold countBytes
  repeat' first
    | with_reducible assumption
    | (extract_lets +onlyGivenNames x)
    | with_reducible apply accAdd_same
    | split

theorem completeAccess_same {F : Part → Bool} {s0 s : State} {a0 a1 a2 a3} (h : Same F s0 s)
    (qfree : F .free = false) (qregs : F .regs = false) (qnis : F .nis = false) (qlc : F .lc = false)
    (qsmx : F .smx = false) : Same F s0 (completeAccess a0 a1 a2 a3 s) := by
  unfold completeAccess
  repeat' first
    | with_reducible assumption
    | (extract_lets +onlyGivenNames x; refine Same.cut (F := F) (a := s0) (x := x) ?_ (fun hx => ?_); (on_goal 1 => (unfold x; clear x)); (on_goal 2 => clear_value x))
    | with_reducible apply freeEntry_same
    | with_reducible apply countBytes_same
    | with_reducible apply bridgeResult_same
    | (with_reducible apply mk_same; with_reducible assumption; all_goals first | exact Or.inr (by assumption) | exact Or.inl (by with_reducible rfl))
    | split

theorem wakeN1_same {F : Part → Bool} {s0 s : State} {a0} (h : Same F s0 s) (qregs : F .regs = false)
    (qnis : F .nis = false) : Same F s0 (wakeN1 a0 s) := by
  unfold wakeN1
  repeat' first
    | with_reducible assumption
    | with_reducible apply modNi_same
    | with_reducible apply onlyIf_same
    | with_reducible apply fset_same
    | intro _ _

theorem toFifoAt_same {F : Part → Bool} {s0 s : State} {a0 a1 a2} (h : Same F s0 s) (qfree : F .free = false)
    (qregs : F .regs = false) (qnis : F .nis = false) (qlc : F .lc = false) (qsmx : F .smx = false) : Same F s0
    (toFifoAt a0 a1 a2 s) := by
  unfold toFifoAt
  repeat' first
    | with_reducible assumption
    | (extract_lets +onlyGivenNames x; refine Same.cut (F := F) (a := s0) (x := x) ?_ (fun hx => ?_); (on_goal 1 => (unfold x; clear x)); (on_goal 2 => clear_value x))
    | (extract_lets +onlyGivenNames x)
    | with_reducible apply countLate_same
    | with_reducible apply wakeN1_same
    | with_reducible apply modNi_same
    | with_reducible apply completeAccess_same
    | split

theorem toFifo_same {F : Part → Bool} {s0 s : State} {a0 a1} (h : Same F s0 s) (qfree : F .free = false)
    (qregs : F .regs = false) (qnis : F .nis = false) (qlc : F .lc = false) (qsmx : F .smx = false) : Same F s0
    (toFifo a0 a1 s) := by
  unfold toFifo
  repeat' first
    | with_reducible assumption
    | with_reducible apply toFifoAt_same

theorem refuseToEp_same {F : Part → Bool} {s0 s : State} {a0 a1 a2 a3} (h : Same F s0 s)
    (qfree : F .free = false) (qregs : F .regs = false) (qnis : F .nis = false) (qlc : F .lc = false)
    (qsmx : F .smx = false) : Same F s0 (refuseToEp a0 a1 a2 a3 s) := by
  unfold refuseToEp
  repeat' first
    | with_reducible assumption
    | with_reducible apply toFifo_same

theorem strayResponse_same {F : Part → Bool} {s0 s : State} {a0 a1} (h : Same F s0 s) (qregs : F .regs = false)
    (qerrLog : F .errLog = false) : Same F s0 (strayResponse a0 a1 s) := by
  unfold strayResponse
  repeat' first
    | with_reducible assumption
    | with_reducible apply satAdd_same
    | with_reducible apply errNi_same
    | with_reducible apply onlyIf_same
    | with_reducible apply flag_same
    | intro _ _

theorem workingRegs_same {F : Part → Bool} {s0 s : State} {a1} (h : Same F s0 s) (qregs : F .regs = false) :
    Same F s0 (workingRegs s a1) := by
  unfold workingRegs
  repeat' first
    | with_reducible assumption
    | (extract_lets +onlyGivenNames x)
    | with_reducible apply foldl_same
    | (with_reducible apply mk_same; with_reducible assumption; all_goals first | exact Or.inr (by assumption) | exact Or.inl (by with_reducible rfl))
    | intro _
    | split

theorem exportGates_same {F : Part → Bool} {s0 s : State} {a0} (h : Same F s0 s) (qregs : F .regs = false)
    (qnis : F .nis = false) : Same F s0 (exportGates a0 s) := by
  unfold exportGates
  repeat' first
    | with_reducible assumption
    | (extract_lets +onlyGivenNames x)
    | with_reducible apply workingRegs_same
    | with_reducible apply modNi_same

theorem execGateEdge_same {F : Part → Bool} {s0 s : State} {a0} (h : Same F s0 s) (qregs : F .regs = false)
    (qnis : F .nis = false) : SameO F s0 (execGateEdge a0 s) := by
  unfold execGateEdge
  repeat' first
    | with_reducible assumption
    | (extract_lets +onlyGivenNames x; refine Same.cut (F := F) (a := s0) (x := x) ?_ (fun hx => ?_); (on_goal 1 => (unfold x; clear x)); (on_goal 2 => clear_value x))
    | (extract_lets +onlyGivenNames x)
    | with_reducible apply next_same
    | with_reducible apply onlyIf_same
    | with_reducible apply flag_same
    | with_reducible apply satAdd_same
    | with_reducible apply exportGates_same
    | intro _ _
    | split

theorem execGateLead_same {F : Part → Bool} {s0 s : State} {a0} (h : Same F s0 s) (qnis : F .nis = false) :
    SameO F s0 (execGateLead a0 s) := by
  unfold execGateLead
  repeat' first
    | with_reducible assumption
    | with_reducible apply next_same
    | with_reducible apply onlyIf_same
    | with_reducible apply modNi_same
    | intro _ _

theorem stageKey_same {F : Part → Bool} {s0 s : State} {a0 a1} (h : Same F s0 s) (qstaged : F .staged = false)
    : Same F s0 (stageKey a0 a1 s) := by
  unfold stageKey
  repeat' first
    | with_reducible assumption
    | (extract_lets +onlyGivenNames x)
    | with_reducible apply foldl_same
    | (with_reducible apply mk_same; with_reducible assumption; all_goals first | exact Or.inr (by assumption) | exact Or.inl (by with_reducible rfl))

theorem stageWrote_same {F : Part → Bool} {s0 s : State} {a0} (h : Same F s0 s) (qregs : F .regs = false)
    (qstaged : F .staged = false) (qnis : F .nis = false) : Same F s0 (stageWrote a0 s) := by
  unfold stageWrote
  repeat' first
    | with_reducible assumption
    | (extract_lets +onlyGivenNames x)
    | with_reducible apply forEach_same
    | with_reducible apply stageKey_same
    | with_reducible apply fset_same
    | with_reducible apply modNi_same
    | with_reducible apply foldl_same
    | intro _ _ _
    | intro _
    | split

theorem takeOver_same {F : Part → Bool} {s0 s : State} {a0} (h : Same F s0 s) (qregs : F .regs = false)
    (qstaged : F .staged = false) (qnis : F .nis = false) : Same F s0 (takeOver a0 s) := by
  unfold takeOver
  repeat' first
    | with_reducible assumption
    | (extract_lets +onlyGivenNames x; refine Same.cut (F := F) (a := s0) (x := x) ?_ (fun hx => ?_); (on_goal 1 => (unfold x; clear x)); (on_goal 2 => clear_value x))
    | (extract_lets +onlyGivenNames x)
    | with_reducible apply modNi_same
    | with_reducible apply flag_same
    | with_reducible apply wrapAdd_same
    | with_reducible apply stageWrote_same
    | with_reducible apply foldl_same
    | (with_reducible apply mk_same; with_reducible assumption; all_goals first | exact Or.inr (by assumption) | exact Or.inl (by with_reducible rfl))

theorem execTakeover_same {F : Part → Bool} {s0 s : State} {a0} (h : Same F s0 s) (qregs : F .regs = false)
    (qstaged : F .staged = false) (qnis : F .nis = false) : SameO F s0 (execTakeover a0 s) := by
  unfold execTakeover
  repeat' first
    | with_reducible assumption
    | (extract_lets +onlyGivenNames x)
    | with_reducible apply next_same
    | with_reducible apply takeOver_same
    | split

theorem stepLists_same {F : Part → Bool} {s0 s : State} {a0} (h : Same F s0 s) (qregs : F .regs = false)
    (qnis : F .nis = false) : Same F s0 (stepLists a0 s) := by
  unfold stepLists
  repeat' first
    | with_reducible assumption
    | (extract_lets +onlyGivenNames x; refine Same.cut (F := F) (a := s0) (x := x) ?_ (fun hx => ?_); (on_goal 1 => (unfold x; clear x)); (on_goal 2 => clear_value x))
    | with_reducible apply forEach_same
    | with_reducible apply onlyIf_same
    | with_reducible apply flag_same
    | with_reducible apply modNi_same
    | intro _ _ _
    | intro _ _

theorem modTime_same {F : Part → Bool} {s0 s : State} {f} (h : Same F s0 s) (qtime : F .time = false) : Same F
    s0 (modTime f s) := by
  unfold modTime; apply mk_same h <;> first | exact Or.inr (by assumption) | exact Or.inl rfl

theorem enterState_same {F : Part → Bool} {s0 s : State} {a0} (h : Same F s0 s) (qregs : F .regs = false)
    (qtime : F .time = false) : Same F s0 (enterState a0 s) := by
  unfold enterState
  repeat' first
    | with_reducible assumption
    | with_reducible apply modTime_same
    | with_reducible apply fset_same
    | with_reducible apply onlyIf_same
    | with_reducible apply flag_same
    | intro _ _

theorem enterHoldover_same {F : Part → Bool} {s0 s : State} (h : Same F s0 s) (qregs : F .regs = false)
    (qtime : F .time = false) : Same F s0 (enterHoldover s) := by
  unfold enterHoldover
  repeat' first
    | with_reducible assumption
    | (extract_lets +onlyGivenNames x; refine Same.cut (F := F) (a := s0) (x := x) ?_ (fun hx => ?_); (on_goal 1 => (unfold x; clear x)); (on_goal 2 => clear_value x))
    | with_reducible apply fset_same
    | with_reducible apply wrapAdd_same
    | with_reducible apply flag_same
    | with_reducible apply modTime_same

theorem doStep_same {F : Part → Bool} {s0 s : State} {a0} (h : Same F s0 s) (qmtime : F .mtime = false)
    (qregs : F .regs = false) (qnis : F .nis = false) (qtime : F .time = false) : Same F s0 (doStep a0 s) := by
  unfold doStep
  repeat' first
    | with_reducible assumption
    | with_reducible apply modTime_same
    | with_reducible apply fset_same
    | with_reducible apply flag_same
    | with_reducible apply stepLists_same
    | (with_reducible apply mk_same; with_reducible assumption; all_goals first | exact Or.inr (by assumption) | exact Or.inl (by with_reducible rfl))

theorem setOffset_same {F : Part → Bool} {s0 s : State} {a0} (h : Same F s0 s) (qtime : F .time = false) : Same
    F s0 (setOffset a0 s) := by
  unfold setOffset
  repeat' first
    | with_reducible assumption
    | with_reducible apply modTime_same

theorem cancelSlew_same {F : Part → Bool} {s0 s : State} (h : Same F s0 s) (qtime : F .time = false) : Same F
    s0 (cancelSlew s) := by
  unfold cancelSlew
  repeat' first
    | with_reducible assumption
    | (extract_lets +onlyGivenNames x)
    | with_reducible apply modTime_same
    | with_reducible apply setOffset_same

theorem alignBy_same {F : Part → Bool} {s0 s : State} {a0 a1} (h : Same F s0 s) (qmtime : F .mtime = false)
    (qregs : F .regs = false) (qnis : F .nis = false) (qtime : F .time = false) : Same F s0 (alignBy a0 a1 s) := by
  unfold alignBy
  repeat' first
    | with_reducible assumption
    | (extract_lets +onlyGivenNames x)
    | with_reducible apply enterState_same
    | with_reducible apply setOffset_same
    | with_reducible apply doStep_same
    | split

theorem learnRatio_same {F : Part → Bool} {s0 s : State} (h : Same F s0 s) (qtime : F .time = false) : Same F
    s0 (learnRatio s) := by
  unfold learnRatio
  repeat' first
    | with_reducible assumption
    | with_reducible apply modTime_same
    | split

theorem refPresent_same {F : Part → Bool} {s0 s : State} (h : Same F s0 s) (qpins : F .pins = false)
    (qtime : F .time = false) : Same F s0 (refPresent s) := by
  unfold refPresent
  repeat' first
    | with_reducible assumption
    | (extract_lets +onlyGivenNames x)
    | with_reducible apply modTime_same
    | with_reducible apply foldl_same
    | (with_reducible apply mk_same; with_reducible assumption; all_goals first | exact Or.inr (by assumption) | exact Or.inl (by with_reducible rfl))
    | intro _
    | split

theorem execAcquire_same {F : Part → Bool} {s0 s : State} {a1} (h : Same F s0 s) (qpins : F .pins = false)
    (qregs : F .regs = false) (qtime : F .time = false) : SameO F s0 (execAcquire s a1) := by
  unfold execAcquire
  repeat' first
    | with_reducible assumption
    | (extract_lets +onlyGivenNames x; refine Same.cut (F := F) (a := s0) (x := x) ?_ (fun hx => ?_); (on_goal 1 => (unfold x; clear x)); (on_goal 2 => clear_value x))
    | (extract_lets +onlyGivenNames x)
    | with_reducible apply next_same
    | with_reducible apply refPresent_same
    | with_reducible apply modTime_same
    | with_reducible apply fset_same
    | with_reducible apply foldl_same
    | intro _
    | split

theorem execTbRefLoss_same {F : Part → Bool} {s0 s : State} {a1} (h : Same F s0 s) (qpins : F .pins = false)
    (qregs : F .regs = false) (qtime : F .time = false) : SameO F s0 (execTbRefLoss s a1) := by
  unfold execTbRefLoss
  repeat' first
    | with_reducible assumption
    | (extract_lets +onlyGivenNames x; refine Same.cut (F := F) (a := s0) (x := x) ?_ (fun hx => ?_); (on_goal 1 => (unfold x; clear x)); (on_goal 2 => clear_value x))
    | (extract_lets +onlyGivenNames x)
    | with_reducible apply next_same
    | with_reducible apply flag_same
    | with_reducible apply enterHoldover_same
    | with_reducible apply fset_same
    | with_reducible apply foldl_same
    | (with_reducible apply mk_same; with_reducible assumption; all_goals first | exact Or.inr (by assumption) | exact Or.inl (by with_reducible rfl))
    | intro _
    | split

theorem takeFrame_same {F : Part → Bool} {s0 s : State} {a0} (h : Same F s0 s) (qregs : F .regs = false)
    (qtime : F .time = false) : Same F s0 (takeFrame a0 s) := by
  unfold takeFrame
  repeat' first
    | with_reducible assumption
    | (extract_lets +onlyGivenNames x; refine Same.cut (F := F) (a := s0) (x := x) ?_ (fun hx => ?_); (on_goal 1 => (unfold x; clear x)); (on_goal 2 => clear_value x))
    | (extract_lets +onlyGivenNames x)
    | with_reducible apply modTime_same
    | with_reducible apply satAdd_same
    | with_reducible apply fset_same
    | with_reducible apply onlyIf_same
    | with_reducible apply flag_same
    | intro _ _
    | split

theorem execTbFrame_same {F : Part → Bool} {s0 s : State} {a0} (h : Same F s0 s) (qregs : F .regs = false)
    (qtime : F .time = false) : SameO F s0 (execTbFrame a0 s) := by
  unfold execTbFrame
  repeat' first
    | with_reducible assumption
    | with_reducible apply next_same
    | with_reducible apply modTime_same
    | with_reducible apply takeFrame_same
    | split

theorem execCodeLoss_same {F : Part → Bool} {s0 s : State} (h : Same F s0 s) (qregs : F .regs = false)
    (qtime : F .time = false) : SameO F s0 (execCodeLoss s) := by
  unfold execCodeLoss
  repeat' first
    | with_reducible assumption
    | with_reducible apply next_same
    | with_reducible apply enterHoldover_same
    | with_reducible apply flag_same
    | split

theorem execAcqFail_same {F : Part → Bool} {s0 s : State} (h : Same F s0 s) (qregs : F .regs = false) : SameO F
    s0 (execAcqFail s) := by
  unfold execAcqFail
  repeat' first
    | with_reducible assumption
    | with_reducible apply next_same
    | with_reducible apply flag_same
    | with_reducible apply fset_same
    | split

theorem execAlign_same {F : Part → Bool} {s0 s : State} (h : Same F s0 s) (qmtime : F .mtime = false)
    (qregs : F .regs = false) (qnis : F .nis = false) (qtime : F .time = false) : SameO F s0 (execAlign s) := by
  unfold execAlign
  repeat' first
    | with_reducible assumption
    | (extract_lets +onlyGivenNames x; refine Same.cut (F := F) (a := s0) (x := x) ?_ (fun hx => ?_); (on_goal 1 => (unfold x; clear x)); (on_goal 2 => clear_value x))
    | (extract_lets +onlyGivenNames x)
    | with_reducible apply next_same
    | with_reducible apply cancelSlew_same
    | with_reducible apply modTime_same
    | with_reducible apply enterState_same
    | with_reducible apply doStep_same
    | with_reducible apply alignBy_same
    | with_reducible apply foldl_same
    | intro _
    | split

theorem execDelayChange_same {F : Part → Bool} {s0 s : State} (h : Same F s0 s) (qmtime : F .mtime = false)
    (qregs : F .regs = false) (qnis : F .nis = false) (qtime : F .time = false) : SameO F s0 (execDelayChange s) := by
  unfold execDelayChange
  repeat' first
    | with_reducible assumption
    | with_reducible apply next_same
    | with_reducible apply alignBy_same
    | with_reducible apply modTime_same
    | split

theorem execStepAnnounced_same {F : Part → Bool} {s0 s : State} (h : Same F s0 s) (qmtime : F .mtime = false)
    (qregs : F .regs = false) (qnis : F .nis = false) (qtime : F .time = false) : SameO F s0
    (execStepAnnounced s) := by
  unfold execStepAnnounced
  repeat' first
    | with_reducible assumption
    | (extract_lets +onlyGivenNames x; refine Same.cut (F := F) (a := s0) (x := x) ?_ (fun hx => ?_); (on_goal 1 => (unfold x; clear x)); (on_goal 2 => clear_value x))
    | (extract_lets +onlyGivenNames x)
    | with_reducible apply next_same
    | with_reducible apply cancelSlew_same
    | with_reducible apply modTime_same
    | with_reducible apply flag_same
    | with_reducible apply enterState_same
    | with_reducible apply doStep_same
    | with_reducible apply foldl_same
    | intro _
    | split

theorem execSlewStep_same {F : Part → Bool} {s0 s : State} (h : Same F s0 s) (qmtime : F .mtime = false)
    (qregs : F .regs = false) (qtime : F .time = false) : SameO F s0 (execSlewStep s) := by
  unfold execSlewStep
  repeat' first
    | with_reducible assumption
    | (extract_lets +onlyGivenNames x; refine Same.cut (F := F) (a := s0) (x := x) ?_ (fun hx => ?_); (on_goal 1 => (unfold x; clear x)); (on_goal 2 => clear_value x))
    | (extract_lets +onlyGivenNames x)
    | with_reducible apply next_same
    | with_reducible apply modTime_same
    | with_reducible apply onlyIf_same
    | with_reducible apply enterState_same
    | (with_reducible apply mk_same; with_reducible assumption; all_goals first | exact Or.inr (by assumption) | exact Or.inl (by with_reducible rfl))
    | intro _ _
    | split

theorem execSwFreq_same {F : Part → Bool} {s0 s : State} {a0} (h : Same F s0 s) (qregs : F .regs = false)
    (qtime : F .time = false) : SameO F s0 (execSwFreq a0 s) := by
  unfold execSwFreq
  repeat' first
    | with_reducible assumption
    | (extract_lets +onlyGivenNames x; refine Same.cut (F := F) (a := s0) (x := x) ?_ (fun hx => ?_); (on_goal 1 => (unfold x; clear x)); (on_goal 2 => clear_value x))
    | (extract_lets +onlyGivenNames x)
    | with_reducible apply next_same
    | with_reducible apply errState_same
    | with_reducible apply errReserved_same
    | with_reducible apply modTime_same
    | with_reducible apply fset_same
    | with_reducible apply onlyIf_same
    | with_reducible apply enterState_same
    | intro _ _
    | split

theorem execSwPhase_same {F : Part → Bool} {s0 s : State} {a0} (h : Same F s0 s) (qregs : F .regs = false)
    (qtime : F .time = false) : SameO F s0 (execSwPhase a0 s) := by
  unfold execSwPhase
  repeat' first
    | with_reducible assumption
    | with_reducible apply next_same
    | with_reducible apply errState_same
    | with_reducible apply setOffset_same
    | with_reducible apply modTime_same
    | split

theorem execSwWdogExpired_same {F : Part → Bool} {s0 s : State} (h : Same F s0 s) (qregs : F .regs = false)
    (qtime : F .time = false) : SameO F s0 (execSwWdogExpired s) := by
  unfold execSwWdogExpired
  repeat' first
    | with_reducible assumption
    | with_reducible apply next_same
    | with_reducible apply enterHoldover_same
    | with_reducible apply flag_same
    | split

theorem execMtimeSet_same {F : Part → Bool} {s0 s : State} {a0} (h : Same F s0 s) (qmtime : F .mtime = false)
    (qregs : F .regs = false) (qnis : F .nis = false) (qtime : F .time = false) : SameO F s0 (execMtimeSet a0 s) := by
  unfold execMtimeSet
  repeat' first
    | with_reducible assumption
    | (extract_lets +onlyGivenNames x)
    | with_reducible apply next_same
    | with_reducible apply pageErr_same
    | with_reducible apply enterState_same
    | with_reducible apply doStep_same
    | with_reducible apply cancelSlew_same
    | with_reducible apply fset_same
    | with_reducible apply errState_same
    | with_reducible apply foldl_same
    | intro _
    | split

theorem execHoldoverLong_same {F : Part → Bool} {s0 s : State} (h : Same F s0 s) (qregs : F .regs = false)
    (qtime : F .time = false) : SameO F s0 (execHoldoverLong s) := by
  unfold execHoldoverLong
  repeat' first
    | with_reducible assumption
    | with_reducible apply next_same
    | with_reducible apply modTime_same
    | with_reducible apply flag_same
    | split

theorem execTbSnap_same {F : Part → Bool} {s0 s : State} (h : Same F s0 s) (qregs : F .regs = false)
    (qtime : F .time = false) : SameO F s0 (execTbSnap s) := by
  unfold execTbSnap
  repeat' first
    | with_reducible assumption
    | (extract_lets +onlyGivenNames x)
    | with_reducible apply next_same
    | with_reducible apply modTime_same
    | with_reducible apply flag_same
    | with_reducible apply fset_same
    | split

theorem timerFields_same {F : Part → Bool} {s0 s : State} {a0 a1} (h : Same F s0 s) (qregs : F .regs = false) :
    Same F s0 (timerFields a0 a1 s) := by
  unfold timerFields
  repeat' first
    | with_reducible assumption
    | (extract_lets +onlyGivenNames x)
    | with_reducible apply errReserved_same
    | with_reducible apply fset_same
    | with_reducible apply fsetB_same
    | split

theorem timerDisarm_same {F : Part → Bool} {s0 s : State} {a0} (h : Same F s0 s) (qregs : F .regs = false)
    (qtime : F .time = false) : Same F s0 (timerDisarm a0 s) := by
  unfold timerDisarm
  repeat' first
    | with_reducible assumption
    | with_reducible apply modTime_same
    | with_reducible apply fset_same

theorem timerArm_same {F : Part → Bool} {s0 s : State} {a0} (h : Same F s0 s) (qregs : F .regs = false)
    (qtime : F .time = false) : Same F s0 (timerArm a0 s) := by
  unfold timerArm
  repeat' first
    | with_reducible assumption
    | with_reducible apply modTime_same
    | with_reducible apply markArm_same
    | with_reducible apply fset_same

theorem execTimerArm_same {F : Part → Bool} {s0 s : State} {a0 a1} (h : Same F s0 s) (qregs : F .regs = false)
    (qtime : F .time = false) : SameO F s0 (execTimerArm a0 a1 s) := by
  unfold execTimerArm
  repeat' first
    | with_reducible assumption
    | with_reducible apply next_same
    | with_reducible apply timerArm_same
    | with_reducible apply timerFields_same

theorem execTimerDisarm_same {F : Part → Bool} {s0 s : State} {a0 a1} (h : Same F s0 s)
    (qregs : F .regs = false) (qtime : F .time = false) : SameO F s0 (execTimerDisarm a0 a1 s) := by
  unfold execTimerDisarm
  repeat' first
    | with_reducible assumption
    | with_reducible apply next_same
    | with_reducible apply timerDisarm_same
    | with_reducible apply timerFields_same

theorem execTimerRearm_same {F : Part → Bool} {s0 s : State} {a0 a1} (h : Same F s0 s)
    (qregs : F .regs = false) (qtime : F .time = false) : SameO F s0 (execTimerRearm a0 a1 s) := by
  unfold execTimerRearm
  repeat' first
    | with_reducible assumption
    | with_reducible apply next_same
    | with_reducible apply timerArm_same
    | with_reducible apply timerDisarm_same
    | with_reducible apply timerFields_same

theorem execTimerFire_same {F : Part → Bool} {s0 s : State} {a0} (h : Same F s0 s) (qregs : F .regs = false)
    (qtime : F .time = false) : SameO F s0 (execTimerFire a0 s) := by
  unfold execTimerFire
  repeat' first
    | with_reducible assumption
    | (extract_lets +onlyGivenNames x; refine Same.cut (F := F) (a := s0) (x := x) ?_ (fun hx => ?_); (on_goal 1 => (unfold x; clear x)); (on_goal 2 => clear_value x))
    | (extract_lets +onlyGivenNames x)
    | with_reducible apply next_same
    | with_reducible apply flagBit_same
    | with_reducible apply logFiring_same
    | with_reducible apply timerDisarm_same
    | with_reducible apply modTime_same
    | split

theorem execEvtLogPop_same {F : Part → Bool} {s0 s : State} (h : Same F s0 s) (qtime : F .time = false) : SameO
    F s0 (execEvtLogPop s) := by
  unfold execEvtLogPop
  repeat' first
    | with_reducible assumption
    | with_reducible apply next_same
    | with_reducible apply modTime_same

theorem quiesceTime_same {F : Part → Bool} {s0 s : State} (h : Same F s0 s) (qregs : F .regs = false)
    (qtime : F .time = false) : Same F s0 (quiesceTime s) := by
  unfold quiesceTime
  repeat' first
    | with_reducible assumption
    | with_reducible apply fset_same
    | with_reducible apply enterHoldover_same
    | split

theorem commitDelay_same {F : Part → Bool} {s0 s : State} (h : Same F s0 s) (qtime : F .time = false) : Same F
    s0 (commitDelay s) := by
  unfold commitDelay
  repeat' first
    | with_reducible assumption
    | with_reducible apply modTime_same
    | split

theorem refuseFlip_same {F : Part → Bool} {s0 s : State} {a0} (h : Same F s0 s) (qregs : F .regs = false) :
    Same F s0 (refuseFlip a0 s) := by
  unfold refuseFlip
  repeat' first
    | with_reducible assumption
    | with_reducible apply flag_same
    | with_reducible apply fset_same

theorem armFlip_same {F : Part → Bool} {s0 s : State} (h : Same F s0 s) (qregs : F .regs = false)
    (qtime : F .time = false) : Same F s0 (armFlip s) := by
  unfold armFlip
  repeat' first
    | with_reducible assumption
    | (extract_lets +onlyGivenNames x)
    | with_reducible apply refuseFlip_same
    | with_reducible apply markArm_same
    | with_reducible apply fset_same
    | with_reducible apply modTime_same
    | split

theorem disarmFlip_same {F : Part → Bool} {s0 s : State} (h : Same F s0 s) (qregs : F .regs = false)
    (qtime : F .time = false) : Same F s0 (disarmFlip s) := by
  unfold disarmFlip
  repeat' first
    | with_reducible assumption
    | with_reducible apply fset_same
    | with_reducible apply modTime_same

theorem execFlipArm_same {F : Part → Bool} {s0 s : State} (h : Same F s0 s) (qregs : F .regs = false)
    (qtime : F .time = false) : SameO F s0 (execFlipArm s) := by
  unfold execFlipArm
  repeat' first
    | with_reducible assumption
    | with_reducible apply next_same
    | with_reducible apply armFlip_same

theorem execFlipDisarm_same {F : Part → Bool} {s0 s : State} (h : Same F s0 s) (qregs : F .regs = false)
    (qtime : F .time = false) : SameO F s0 (execFlipDisarm s) := by
  unfold execFlipDisarm
  repeat' first
    | with_reducible assumption
    | with_reducible apply next_same
    | with_reducible apply disarmFlip_same

theorem execFlipRearm_same {F : Part → Bool} {s0 s : State} (h : Same F s0 s) (qregs : F .regs = false)
    (qtime : F .time = false) : SameO F s0 (execFlipRearm s) := by
  unfold execFlipRearm
  repeat' first
    | with_reducible assumption
    | with_reducible apply next_same
    | with_reducible apply armFlip_same
    | with_reducible apply disarmFlip_same

theorem execRouteFlip_same {F : Part → Bool} {s0 s : State} (h : Same F s0 s) (qregs : F .regs = false)
    (qtime : F .time = false) (qflipUs : F .flipUs = false) (qflipTick : F .flipTick = false)
    (qflipStalled : F .flipStalled = false) : SameO F s0 (execRouteFlip s) := by
  unfold execRouteFlip
  repeat' first
    | with_reducible assumption
    | (extract_lets +onlyGivenNames x; refine Same.cut (F := F) (a := s0) (x := x) ?_ (fun hx => ?_); (on_goal 1 => (unfold x; clear x)); (on_goal 2 => clear_value x))
    | (extract_lets +onlyGivenNames x)
    | with_reducible apply next_same
    | with_reducible apply disarmFlip_same
    | with_reducible apply logFiring_same
    | with_reducible apply fsetB_same
    | with_reducible apply fset_same
    | with_reducible apply wrapAdd_same
    | with_reducible apply irqHold_same
    | with_reducible apply onlyIf_same
    | with_reducible apply flag_same
    | (with_reducible apply mk_same; with_reducible assumption; all_goals first | exact Or.inr (by assumption) | exact Or.inl (by with_reducible rfl))
    | intro _ _
    | split

theorem execDrainSample_same {F : Part → Bool} {s0 s : State} (h : Same F s0 s) (qregs : F .regs = false)
    (qflipLim : F .flipLim = false) : SameO F s0 (execDrainSample s) := by
  unfold execDrainSample
  repeat' first
    | with_reducible assumption
    | (extract_lets +onlyGivenNames x; refine Same.cut (F := F) (a := s0) (x := x) ?_ (fun hx => ?_); (on_goal 1 => (unfold x; clear x)); (on_goal 2 => clear_value x))
    | (extract_lets +onlyGivenNames x)
    | with_reducible apply next_same
    | with_reducible apply fset_same
    | with_reducible apply irqHold_same
    | with_reducible apply foldl_same
    | (with_reducible apply mk_same; with_reducible assumption; all_goals first | exact Or.inr (by assumption) | exact Or.inl (by with_reducible rfl))
    | intro _
    | split

theorem execDrainStall_same {F : Part → Bool} {s0 s : State} (h : Same F s0 s) (qregs : F .regs = false)
    (qflipStalled : F .flipStalled = false) : SameO F s0 (execDrainStall s) := by
  unfold execDrainStall
  repeat' first
    | with_reducible assumption
    | (extract_lets +onlyGivenNames x; refine Same.cut (F := F) (a := s0) (x := x) ?_ (fun hx => ?_); (on_goal 1 => (unfold x; clear x)); (on_goal 2 => clear_value x))
    | with_reducible apply next_same
    | with_reducible apply flag_same
    | (with_reducible apply mk_same; with_reducible assumption; all_goals first | exact Or.inr (by assumption) | exact Or.inl (by with_reducible rfl))
    | split

theorem setInForce_same {F : Part → Bool} {s0 s : State} {a0 a1} (h : Same F s0 s) (qregs : F .regs = false) :
    Same F s0 (setInForce a0 a1 s) := by
  unfold setInForce
  repeat' first
    | with_reducible assumption
    | (extract_lets +onlyGivenNames x; refine Same.cut (F := F) (a := s0) (x := x) ?_ (fun hx => ?_); (on_goal 1 => (unfold x; clear x)); (on_goal 2 => clear_value x))
    | with_reducible apply fset_same

theorem markFailed_same {F : Part → Bool} {s0 s : State} {a0} (h : Same F s0 s) (qregs : F .regs = false) :
    Same F s0 (markFailed a0 s) := by
  unfold markFailed
  repeat' first
    | with_reducible assumption
    | (extract_lets +onlyGivenNames x)
    | with_reducible apply flagBit_same
    | with_reducible apply flag_same

theorem failBank16_same {F : Part → Bool} {s0 s : State} (h : Same F s0 s) (qregs : F .regs = false) : Same F
    s0 (failBank16 s) := by
  unfold failBank16
  repeat' first
    | with_reducible assumption
    | with_reducible apply forEach_same
    | with_reducible apply fset_same
    | intro _ _ _

theorem readBank16_same {F : Part → Bool} {s0 s : State} {a0} (h : Same F s0 s) (qregs : F .regs = false) :
    Same F s0 (readBank16 a0 s) := by
  unfold readBank16
  repeat' first
    | with_reducible assumption
    | (extract_lets +onlyGivenNames x)
    | with_reducible apply onlyIf_same
    | with_reducible apply failBank16_same
    | with_reducible apply markFailed_same
    | with_reducible apply foldl_same
    | intro _ _ _
    | intro _ _

theorem failRow_same {F : Part → Bool} {s0 s : State} {a0} (h : Same F s0 s) (qrt : F .rt = false)
    (qrtImg : F .rtImg = false) (qrsvRun : F .rsvRun = false) (qrsvWait : F .rsvWait = false) : Same F s0
    (failRow a0 s) := by
  unfold failRow
  repeat' first
    | with_reducible assumption
    | (extract_lets +onlyGivenNames x)
    | with_reducible apply onlyIf_same
    | with_reducible apply queueRecheck_same
    | with_reducible apply foldl_same
    | (with_reducible apply mk_same; with_reducible assumption; all_goals first | exact Or.inr (by assumption) | exact Or.inl (by with_reducible rfl))
    | intro _ _ _
    | intro _ _

theorem failRoutes_same {F : Part → Bool} {s0 s : State} {a0} (h : Same F s0 s) (qregs : F .regs = false)
    (qrt : F .rt = false) (qrtImg : F .rtImg = false) (qrsvRun : F .rsvRun = false)
    (qrsvWait : F .rsvWait = false) : Same F s0 (failRoutes a0 s) := by
  unfold failRoutes
  repeat' first
    | with_reducible assumption
    | (extract_lets +onlyGivenNames x)
    | with_reducible apply failRow_same
    | with_reducible apply markFailed_same

theorem readRoutes_same {F : Part → Bool} {s0 s : State} {a0 a1} (h : Same F s0 s) (qregs : F .regs = false)
    (qrt : F .rt = false) (qrtImg : F .rtImg = false) (qrsvRun : F .rsvRun = false)
    (qrsvWait : F .rsvWait = false) : Same F s0 (readRoutes a0 a1 s) := by
  unfold readRoutes
  repeat' first
    | with_reducible assumption
    | (extract_lets +onlyGivenNames x)
    | with_reducible apply forEach_same
    | with_reducible apply failRoutes_same
    | with_reducible apply foldl_same
    | (with_reducible apply mk_same; with_reducible assumption; all_goals first | exact Or.inr (by assumption) | exact Or.inl (by with_reducible rfl))
    | intro _ _ _

theorem rsvResult_same {F : Part → Bool} {s0 s : State} {a0 a1} (h : Same F s0 s) (qregs : F .regs = false) :
    Same F s0 (rsvResult a0 a1 s) := by
  unfold rsvResult
  repeat' first
    | with_reducible assumption
    | (extract_lets +onlyGivenNames x; refine Same.cut (F := F) (a := s0) (x := x) ?_ (fun hx => ?_); (on_goal 1 => (unfold x; clear x)); (on_goal 2 => clear_value x))
    | with_reducible apply fset_same
    | with_reducible apply flag_same

theorem rsvNext_same {F : Part → Bool} {s0 s : State} (h : Same F s0 s) (qrsvRun : F .rsvRun = false)
    (qrsvWait : F .rsvWait = false) : Same F s0 (rsvNext s) := by
  unfold rsvNext
  repeat' first
    | with_reducible assumption
    | (with_reducible apply mk_same; with_reducible assumption; all_goals first | exact Or.inr (by assumption) | exact Or.inl (by with_reducible rfl))
    | split

theorem finishAdmit_same {F : Part → Bool} {s0 s : State} {a0} (h : Same F s0 s) (qregs : F .regs = false) :
    Same F s0 (finishAdmit a0 s) := by
  unfold finishAdmit
  repeat' first
    | with_reducible assumption
    | with_reducible apply fset_same
    | with_reducible apply setInForce_same
    | with_reducible apply rsvResult_same
    | split

theorem finishRelease_same {F : Part → Bool} {s0 s : State} {a0} (h : Same F s0 s) (qregs : F .regs = false) :
    Same F s0 (finishRelease a0 s) := by
  unfold finishRelease
  repeat' first
    | with_reducible assumption
    | (extract_lets +onlyGivenNames x; refine Same.cut (F := F) (a := s0) (x := x) ?_ (fun hx => ?_); (on_goal 1 => (unfold x; clear x)); (on_goal 2 => clear_value x))
    | with_reducible apply onlyIf_same
    | with_reducible apply fset_same
    | with_reducible apply rsvResult_same
    | intro _ _

theorem rsvCommand_same {F : Part → Bool} {s0 s : State} {a0 a1} (h : Same F s0 s) (qregs : F .regs = false)
    (qrsvRun : F .rsvRun = false) (qrsvWait : F .rsvWait = false) : Same F s0 (rsvCommand a0 a1 s) := by
  unfold rsvCommand
  repeat' first
    | with_reducible assumption
    | with_reducible apply errReserved_same
    | with_reducible apply rsvResult_same
    | with_reducible apply queueRsv_same
    | split

theorem execRsvAdmit_same {F : Part → Bool} {s0 s : State} {a0} (h : Same F s0 s) (qregs : F .regs = false)
    (qrsvRun : F .rsvRun = false) (qrsvWait : F .rsvWait = false) : SameO F s0 (execRsvAdmit a0 s) := by
  unfold execRsvAdmit
  repeat' first
    | with_reducible assumption
    | with_reducible apply next_same
    | with_reducible apply rsvCommand_same

theorem execRsvRelease_same {F : Part → Bool} {s0 s : State} {a0} (h : Same F s0 s) (qregs : F .regs = false)
    (qrsvRun : F .rsvRun = false) (qrsvWait : F .rsvWait = false) : SameO F s0 (execRsvRelease a0 s) := by
  unfold execRsvRelease
  repeat' first
    | with_reducible assumption
    | with_reducible apply next_same
    | with_reducible apply rsvCommand_same

theorem execRsvCmdDone_same {F : Part → Bool} {s0 s : State} {a1 a2} (h : Same F s0 s)
    (qregs : F .regs = false) (qrt : F .rt = false) (qrtImg : F .rtImg = false) (qrsvRun : F .rsvRun = false)
    (qrsvWait : F .rsvWait = false) : SameO F s0 (execRsvCmdDone s a1 a2) := by
  unfold execRsvCmdDone
  repeat' first
    | with_reducible assumption
    | (extract_lets +onlyGivenNames x)
    | with_reducible apply next_same
    | with_reducible apply rsvNext_same
    | with_reducible apply readBank16_same
    | with_reducible apply finishAdmit_same
    | with_reducible apply readRoutes_same
    | with_reducible apply finishRelease_same
    | with_reducible apply foldl_same
    | (with_reducible apply mk_same; with_reducible assumption; all_goals first | exact Or.inr (by assumption) | exact Or.inl (by with_reducible rfl))
    | intro _
    | split

theorem demote_same {F : Part → Bool} {s0 s : State} {a0 a1} (h : Same F s0 s) (qregs : F .regs = false) : Same
    F s0 (demote a0 a1 s) := by
  unfold demote
  repeat' first
    | with_reducible assumption
    | (extract_lets +onlyGivenNames x; refine Same.cut (F := F) (a := s0) (x := x) ?_ (fun hx => ?_); (on_goal 1 => (unfold x; clear x)); (on_goal 2 => clear_value x))
    | with_reducible apply fset_same
    | with_reducible apply flag_same
    | with_reducible apply satAdd_same

theorem recheckAt_same {F : Part → Bool} {s0 s : State} {a0} (h : Same F s0 s) (qregs : F .regs = false) : Same
    F s0 (recheckAt a0 s) := by
  unfold recheckAt
  repeat' first
    | with_reducible assumption
    | (extract_lets +onlyGivenNames x)
    | with_reducible apply onlyIf_same
    | with_reducible apply fset_same
    | with_reducible apply foldl_same
    | intro _ _ _
    | intro _ _

theorem recheck_same {F : Part → Bool} {s0 s : State} {a0} (h : Same F s0 s) (qregs : F .regs = false)
    (qpower : F .power = false) : Same F s0 (recheck a0 s) := by
  unfold recheck
  repeat' first
    | with_reducible assumption
    | with_reducible apply flag_same
    | with_reducible apply forEach_same
    | with_reducible apply demote_same
    | with_reducible apply onlyIf_same
    | with_reducible apply modPower_same
    | intro _ _ _
    | intro _ _

theorem execRecheck_same {F : Part → Bool} {s0 s : State} {a1 a2} (h : Same F s0 s) (qregs : F .regs = false)
    (qrt : F .rt = false) (qrtImg : F .rtImg = false) (qrsvRun : F .rsvRun = false)
    (qrsvWait : F .rsvWait = false) (qpower : F .power = false) : SameO F s0 (execRecheck s a1 a2) := by
  unfold execRecheck
  repeat' first
    | with_reducible assumption
    | (extract_lets +onlyGivenNames x)
    | with_reducible apply next_same
    | with_reducible apply rsvNext_same
    | with_reducible apply recheck_same
    | with_reducible apply readRoutes_same
    | with_reducible apply readBank16_same
    | with_reducible apply foldl_same
    | (with_reducible apply mk_same; with_reducible assumption; all_goals first | exact Or.inr (by assumption) | exact Or.inl (by with_reducible rfl))
    | intro _
    | split

theorem execLoadHeldClear_same {F : Part → Bool} {s0 s : State} {a0} (h : Same F s0 s)
    (qregs : F .regs = false) : SameO F s0 (execLoadHeldClear a0 s) := by
  unfold execLoadHeldClear
  repeat' first
    | with_reducible assumption
    | with_reducible apply next_same
    | with_reducible apply fset_same
    | split

theorem writeRt_same {F : Part → Bool} {s0 s : State} {a0 a1 a2 a3 a4} (h : Same F s0 s) (qrt : F .rt = false)
    (qrtImg : F .rtImg = false) : Same F s0 (writeRt a0 a1 a2 a3 a4 s) := by
  unfold writeRt
  repeat' first
    | with_reducible assumption
    | (extract_lets +onlyGivenNames x; refine Same.cut (F := F) (a := s0) (x := x) ?_ (fun hx => ?_); (on_goal 1 => (unfold x; clear x)); (on_goal 2 => clear_value x))
    | (extract_lets +onlyGivenNames x)
    | (with_reducible apply mk_same; with_reducible assumption; all_goals first | exact Or.inr (by assumption) | exact Or.inl (by with_reducible rfl))
    | split

theorem execRtData_same {F : Part → Bool} {s0 s : State} {a0 a1} (h : Same F s0 s) (qregs : F .regs = false)
    (qrt : F .rt = false) (qrtImg : F .rtImg = false) (qrsvRun : F .rsvRun = false)
    (qrsvWait : F .rsvWait = false) : SameO F s0 (execRtData a0 a1 s) := by
  unfold execRtData
  repeat' first
    | with_reducible assumption
    | with_reducible apply next_same
    | with_reducible apply onlyIf_same
    | with_reducible apply errReserved_same
    | with_reducible apply flag_same
    | with_reducible apply errState_same
    | with_reducible apply queueRecheck_same
    | with_reducible apply writeRt_same
    | with_reducible apply fset_same
    | intro _ _
    | split

theorem dropBegun_same {F : Part → Bool} {s0 s : State} {a0 a1} (h : Same F s0 s) (qchans : F .chans = false) :
    Same F s0 (dropBegun a0 a1 s) := by
  unfold dropBegun
  repeat' first
    | with_reducible assumption
    | (extract_lets +onlyGivenNames x)
    | with_reducible apply returnCredit_same
    | with_reducible apply modVc_same
    | split

theorem answerHeld_same {F : Part → Bool} {s0 s : State} {a0 a1 a2 a3} (h : Same F s0 s)
    (qregs : F .regs = false) (qnis : F .nis = false) (qerrLog : F .errLog = false) : Same F s0
    (answerHeld a0 a1 a2 a3 s) := by
  unfold answerHeld
  repeat' first
    | with_reducible assumption
    | (extract_lets +onlyGivenNames x; refine Same.cut (F := F) (a := s0) (x := x) ?_ (fun hx => ?_); (on_goal 1 => (unfold x; clear x)); (on_goal 2 => clear_value x))
    | (extract_lets +onlyGivenNames x)
    | with_reducible apply satAdd_same
    | with_reducible apply modEntry_same
    | with_reducible apply pushAnswer_same
    | with_reducible apply foldl_same
    | intro _
    | split

theorem sweepVc_same {F : Part → Bool} {s0 s : State} {a0 a1 a2} (h : Same F s0 s) (qregs : F .regs = false)
    (qchans : F .chans = false) (qnis : F .nis = false) (qerrLog : F .errLog = false) : Same F s0
    (sweepVc a0 a1 a2 s) := by
  unfold sweepVc
  repeat' first
    | with_reducible assumption
    | (extract_lets +onlyGivenNames x; refine Same.cut (F := F) (a := s0) (x := x) ?_ (fun hx => ?_); (on_goal 1 => (unfold x; clear x)); (on_goal 2 => clear_value x))
    | (extract_lets +onlyGivenNames x)
    | with_reducible apply dropBegun_same
    | with_reducible apply forEach_same
    | with_reducible apply answerHeld_same
    | with_reducible apply consumePacket_same
    | with_reducible apply foldl_same
    | intro _ _ _

theorem sweepRx_same {F : Part → Bool} {s0 s : State} {a0 a1} (h : Same F s0 s) (qregs : F .regs = false)
    (qchans : F .chans = false) (qnis : F .nis = false) (qerrLog : F .errLog = false) : Same F s0
    (sweepRx a0 a1 s) := by
  unfold sweepRx
  repeat' first
    | with_reducible assumption
    | (extract_lets +onlyGivenNames x)
    | with_reducible apply forEach_same
    | with_reducible apply sweepVc_same
    | with_reducible apply foldl_same
    | intro _ _ _

theorem releaseHeld_same {F : Part → Bool} {s0 s : State} {a0 a1} (h : Same F s0 s) (qregs : F .regs = false)
    (qrouters : F .routers = false) (qnis : F .nis = false) (qerrLog : F .errLog = false) : Same F s0
    (releaseHeld a0 a1 s) := by
  unfold releaseHeld
  repeat' first
    | with_reducible assumption
    | with_reducible apply satAdd_same
    | with_reducible apply forEach_same
    | with_reducible apply hand_same
    | with_reducible apply modNi_same
    | intro _ _ _

theorem switchOff_same {F : Part → Bool} {s0 s : State} {a0} (h : Same F s0 s) (qregs : F .regs = false)
    (qchans : F .chans = false) (qnis : F .nis = false) : Same F s0 (switchOff a0 s) := by
  unfold switchOff
  repeat' first
    | with_reducible assumption
    | with_reducible apply noteLink_same
    | with_reducible apply modChan_same
    | with_reducible apply fset_same
    | with_reducible apply modNi_same

theorem endWake_same {F : Part → Bool} {s0 s : State} {a0} (h : Same F s0 s) (qregs : F .regs = false)
    (qchans : F .chans = false) (qnis : F .nis = false) : Same F s0 (endWake a0 s) := by
  unfold endWake
  repeat' first
    | with_reducible assumption
    | (extract_lets +onlyGivenNames x; refine Same.cut (F := F) (a := s0) (x := x) ?_ (fun hx => ?_); (on_goal 1 => (unfold x; clear x)); (on_goal 2 => clear_value x))
    | with_reducible apply fset_same
    | with_reducible apply switchOff_same
    | with_reducible apply modNi_same
    | split

theorem emptyFifo_same {F : Part → Bool} {s0 s : State} {a0} (h : Same F s0 s) (qregs : F .regs = false)
    (qnis : F .nis = false) : Same F s0 (emptyFifo a0 s) := by
  unfold emptyFifo
  repeat' first
    | with_reducible assumption
    | with_reducible apply modNi_same
    | with_reducible apply onlyIf_same
    | with_reducible apply satAdd_same
    | with_reducible apply forEach_same
    | with_reducible apply freeEntry_same
    | intro _ _ _
    | intro _ _

theorem freeLeg0_same {F : Part → Bool} {s0 s : State} {a0} (h : Same F s0 s) (qregs : F .regs = false)
    (qnis : F .nis = false) (qunsure : F .unsure = false) : Same F s0 (freeLeg0 a0 s) := by
  unfold freeLeg0
  repeat' first
    | with_reducible assumption
    | with_reducible apply forEach_same
    | with_reducible apply freeEntry_same
    | with_reducible apply noteUnsure_same
    | with_reducible apply modNi_same
    | intro _ _ _

theorem freeStale_same {F : Part → Bool} {s0 s : State} {a0} (h : Same F s0 s) (qregs : F .regs = false)
    (qnis : F .nis = false) : Same F s0 (freeStale a0 s) := by
  unfold freeStale
  repeat' first
    | with_reducible assumption
    | (extract_lets +onlyGivenNames x)
    | with_reducible apply forEach_same
    | with_reducible apply freeEntry_same
    | with_reducible apply foldl_same
    | intro _ _ _

theorem setCheckRow_same {F : Part → Bool} {s0 s : State} {a0 a1} (h : Same F s0 s)
    (qlookups : F .lookups = false) : Same F s0 (setCheckRow a0 a1 s) := by
  unfold setCheckRow
  repeat' first
    | with_reducible assumption
    | (with_reducible apply mk_same; with_reducible assumption; all_goals first | exact Or.inr (by assumption) | exact Or.inl (by with_reducible rfl))

theorem offerRow_same {F : Part → Bool} {s0 s : State} {a0} (h : Same F s0 s) (qlookups : F .lookups = false) :
    Same F s0 (offerRow a0 s) := by
  unfold offerRow
  repeat' first
    | with_reducible assumption
    | with_reducible apply setCheckRow_same

theorem dropLookups_same {F : Part → Bool} {s0 s : State} {a0} (h : Same F s0 s)
    (qlookups : F .lookups = false) : Same F s0 (dropLookups a0 s) := by
  unfold dropLookups
  repeat' first
    | with_reducible assumption
    | with_reducible apply offerRow_same
    | with_reducible apply setCheckRow_same

theorem answerReceipts_same {F : Part → Bool} {s0 s : State} {a0} (h : Same F s0 s) (qregs : F .regs = false)
    (qnis : F .nis = false) (qerrLog : F .errLog = false) : Same F s0 (answerReceipts a0 s) := by
  unfold answerReceipts
  repeat' first
    | with_reducible assumption
    | (extract_lets +onlyGivenNames x)
    | with_reducible apply forEach_same
    | with_reducible apply answerReceipt_same
    | with_reducible apply foldl_same
    | intro _ _ _

theorem endGrace_same {F : Part → Bool} {s0 s : State} {a0} (h : Same F s0 s) (qregs : F .regs = false)
    (qnis : F .nis = false) (qerrLog : F .errLog = false) : Same F s0 (endGrace a0 s) := by
  unfold endGrace
  repeat' first
    | with_reducible assumption
    | (extract_lets +onlyGivenNames x)
    | with_reducible apply answerReceipts_same
    | with_reducible apply modNi_same

theorem isolateNow_same {F : Part → Bool} {s0 s : State} {a0 a1} (h : Same F s0 s) (qregs : F .regs = false)
    (qchans : F .chans = false) (qrouters : F .routers = false) (qnis : F .nis = false)
    (qlookups : F .lookups = false) (qunsure : F .unsure = false) (qrsvRun : F .rsvRun = false)
    (qrsvWait : F .rsvWait = false) (qerrLog : F .errLog = false) (qpower : F .power = false) : Same F s0
    (isolateNow a0 a1 s) := by
  unfold isolateNow
  repeat' first
    | with_reducible assumption
    | (extract_lets +onlyGivenNames x; refine Same.cut (F := F) (a := s0) (x := x) ?_ (fun hx => ?_); (on_goal 1 => (unfold x; clear x)); (on_goal 2 => clear_value x))
    | (extract_lets +onlyGivenNames x)
    | with_reducible apply fset_same
    | with_reducible apply abortEntry_same
    | with_reducible apply modNi_same
    | with_reducible apply endGrace_same
    | with_reducible apply fsetB_same
    | with_reducible apply dropLookups_same
    | with_reducible apply freeLeg0_same
    | with_reducible apply endWake_same
    | with_reducible apply emptyFifo_same
    | with_reducible apply freeStale_same
    | with_reducible apply sweepRx_same
    | with_reducible apply releaseHeld_same
    | with_reducible apply onlyIf_same
    | with_reducible apply answerReceipts_same
    | with_reducible apply queueRecheck_same
    | with_reducible apply foldl_same
    | intro _ _ _
    | intro _ _
    | intro _
    | split

theorem isolateMask_same {F : Part → Bool} {s0 s : State} {a0 a1} (h : Same F s0 s) (qregs : F .regs = false)
    (qchans : F .chans = false) (qrouters : F .routers = false) (qnis : F .nis = false)
    (qlookups : F .lookups = false) (qunsure : F .unsure = false) (qrsvRun : F .rsvRun = false)
    (qrsvWait : F .rsvWait = false) (qerrLog : F .errLog = false) (qpower : F .power = false)
    (qstrip : F .strip = false) : Same F s0 (isolateMask a0 a1 s) := by
  unfold isolateMask
  repeat' first
    | with_reducible assumption
    | (extract_lets +onlyGivenNames x; refine Same.cut (F := F) (a := s0) (x := x) ?_ (fun hx => ?_); (on_goal 1 => (unfold x; clear x)); (on_goal 2 => clear_value x))
    | with_reducible apply fset_same
    | with_reducible apply modNi_same
    | with_reducible apply isolateNow_same
    | (with_reducible apply mk_same; with_reducible assumption; all_goals first | exact Or.inr (by assumption) | exact Or.inl (by with_reducible rfl))
    | split

theorem isolate_same {F : Part → Bool} {s0 s : State} {a0 a1} (h : Same F s0 s) (qregs : F .regs = false)
    (qchans : F .chans = false) (qrouters : F .routers = false) (qnis : F .nis = false)
    (qlookups : F .lookups = false) (qunsure : F .unsure = false) (qrsvRun : F .rsvRun = false)
    (qrsvWait : F .rsvWait = false) (qerrLog : F .errLog = false) (qpower : F .power = false)
    (qstrip : F .strip = false) : Same F s0 (isolate a0 a1 s) := by
  unfold isolate
  repeat' first
    | with_reducible assumption
    | with_reducible apply isolateMask_same

theorem sweepArrival_same {F : Part → Bool} {s0 s : State} {a0} (h : Same F s0 s) (qregs : F .regs = false)
    (qchans : F .chans = false) (qnis : F .nis = false) (qerrLog : F .errLog = false) : Same F s0
    (sweepArrival a0 s) := by
  unfold sweepArrival
  repeat' first
    | with_reducible assumption
    | (extract_lets +onlyGivenNames x)
    | with_reducible apply sweepRx_same
    | with_reducible apply foldl_same
    | intro _
    | split

theorem execIsolate_same {F : Part → Bool} {s0 s : State} {a0} (h : Same F s0 s) (qregs : F .regs = false)
    (qchans : F .chans = false) (qrouters : F .routers = false) (qnis : F .nis = false)
    (qlookups : F .lookups = false) (qunsure : F .unsure = false) (qrsvRun : F .rsvRun = false)
    (qrsvWait : F .rsvWait = false) (qerrLog : F .errLog = false) (qpower : F .power = false)
    (qstrip : F .strip = false) : SameO F s0 (execIsolate a0 s) := by
  unfold execIsolate
  repeat' first
    | with_reducible assumption
    | with_reducible apply next_same
    | with_reducible apply isolate_same
    | split

theorem execSwept_same {F : Part → Bool} {s0 s : State} {a0} (h : Same F s0 s) (qregs : F .regs = false)
    (qerrLog : F .errLog = false) : SameO F s0 (execSwept a0 s) := by
  unfold execSwept
  repeat' first
    | with_reducible assumption
    | (extract_lets +onlyGivenNames x; refine Same.cut (F := F) (a := s0) (x := x) ?_ (fun hx => ?_); (on_goal 1 => (unfold x; clear x)); (on_goal 2 => clear_value x))
    | (extract_lets +onlyGivenNames x)
    | with_reducible apply next_same
    | with_reducible apply fset_same
    | with_reducible apply errRecord_same
    | with_reducible apply flag_same
    | split

theorem execFenceGraceEnd_same {F : Part → Bool} {s0 s : State} {a0} (h : Same F s0 s)
    (qregs : F .regs = false) (qnis : F .nis = false) (qerrLog : F .errLog = false) : SameO F s0
    (execFenceGraceEnd a0 s) := by
  unfold execFenceGraceEnd
  repeat' first
    | with_reducible assumption
    | (extract_lets +onlyGivenNames x)
    | with_reducible apply next_same
    | with_reducible apply endGrace_same
    | with_reducible apply foldl_same
    | intro _
    | split

theorem arriveNi_same {F : Part → Bool} {s0 s : State} {a0} (h : Same F s0 s) (qregs : F .regs = false)
    (qchans : F .chans = false) (qnis : F .nis = false) (qerrLog : F .errLog = false) : Same F s0
    (arriveNi a0 s) := by
  unfold arriveNi
  repeat' first
    | with_reducible assumption
    | (extract_lets +onlyGivenNames x)
    | with_reducible apply judgeRx_same
    | with_reducible apply sweepArrival_same

theorem stirRx_same {F : Part → Bool} {s0 s : State} {a0} (h : Same F s0 s) (qnis : F .nis = false) : Same F s0
    (stirRx a0 s) := by
  unfold stirRx
  repeat' first
    | with_reducible assumption
    | (extract_lets +onlyGivenNames x)
    | with_reducible apply modNi_same
    | with_reducible apply foldl_same
    | (with_reducible apply mk_same; with_reducible assumption; all_goals first | exact Or.inr (by assumption) | exact Or.inl (by with_reducible rfl))
    | intro _
    | split

theorem arriveRouter_same {F : Part → Bool} {s0 s : State} {a0 a1 a2} (h : Same F s0 s)
    (qrouters : F .routers = false) : Same F s0 (arriveRouter a0 a1 a2 s) := by
  unfold arriveRouter
  repeat' first
    | with_reducible assumption
    | with_reducible apply addInj_same
    | split

theorem acceptFlit_same {F : Part → Bool} {s0 s : State} {a0 a1} (h : Same F s0 s) (qregs : F .regs = false)
    (qchans : F .chans = false) (qrouters : F .routers = false) (qnis : F .nis = false)
    (qerrLog : F .errLog = false) : Same F s0 (acceptFlit a0 a1 s) := by
  unfold acceptFlit
  repeat' first
    | with_reducible assumption
    | (extract_lets +onlyGivenNames x; refine Same.cut (F := F) (a := s0) (x := x) ?_ (fun hx => ?_); (on_goal 1 => (unfold x; clear x)); (on_goal 2 => clear_value x))
    | (extract_lets +onlyGivenNames x)
    | with_reducible apply modChan_same
    | with_reducible apply takeBody_same
    | with_reducible apply takeCredit_same
    | with_reducible apply arriveNi_same
    | with_reducible apply arriveRouter_same
    | with_reducible apply foldl_same
    | intro _
    | split

theorem takeFlit_same {F : Part → Bool} {s0 s : State} {a0 a1} (h : Same F s0 s) (qregs : F .regs = false)
    (qchans : F .chans = false) (qrouters : F .routers = false) (qnis : F .nis = false)
    (qerrLog : F .errLog = false) : Same F s0 (takeFlit a0 a1 s) := by
  unfold takeFlit
  repeat' first
    | with_reducible assumption
    | (extract_lets +onlyGivenNames x; refine Same.cut (F := F) (a := s0) (x := x) ?_ (fun hx => ?_); (on_goal 1 => (unfold x; clear x)); (on_goal 2 => clear_value x))
    | (extract_lets +onlyGivenNames x)
    | with_reducible apply onlyIf_same
    | with_reducible apply stirRx_same
    | with_reducible apply refuseFlit_same
    | with_reducible apply satAdd_same
    | with_reducible apply takeAck_same
    | with_reducible apply acceptFlit_same
    | with_reducible apply modChan_same
    | with_reducible apply foldl_same
    | (with_reducible apply mk_same; with_reducible assumption; all_goals first | exact Or.inr (by assumption) | exact Or.inl (by with_reducible rfl))
    | intro _ _ _
    | intro _ _
    | intro _
    | split

theorem execFlitReceive_same {F : Part → Bool} {s0 s : State} {a0 a1} (h : Same F s0 s)
    (qregs : F .regs = false) (qchans : F .chans = false) (qrouters : F .routers = false)
    (qnis : F .nis = false) (qerrLog : F .errLog = false) : SameO F s0 (execFlitReceive a0 a1 s) := by
  unfold execFlitReceive
  repeat' first
    | with_reducible assumption
    | (extract_lets +onlyGivenNames x; refine Same.cut (F := F) (a := s0) (x := x) ?_ (fun hx => ?_); (on_goal 1 => (unfold x; clear x)); (on_goal 2 => clear_value x))
    | (extract_lets +onlyGivenNames x)
    | with_reducible apply next_same
    | with_reducible apply onlyIf_same
    | with_reducible apply modChan_same
    | with_reducible apply satAdd_same
    | with_reducible apply stirRx_same
    | with_reducible apply refuseFlit_same
    | with_reducible apply takeFlit_same
    | with_reducible apply foldl_same
    | (with_reducible apply mk_same; with_reducible assumption; all_goals first | exact Or.inr (by assumption) | exact Or.inl (by with_reducible rfl))
    | intro _ _ _
    | intro _ _
    | intro _
    | split

theorem execReplay_same {F : Part → Bool} {s0 s : State} {a0} (h : Same F s0 s) (qregs : F .regs = false)
    (qchans : F .chans = false) (qnis : F .nis = false) : SameO F s0 (execReplay a0 s) := by
  unfold execReplay
  repeat' first
    | with_reducible assumption
    | (extract_lets +onlyGivenNames x)
    | with_reducible apply next_same
    | with_reducible apply onlyIf_same
    | with_reducible apply replayChan_same
    | with_reducible apply foldl_same
    | (with_reducible apply mk_same; with_reducible assumption; all_goals first | exact Or.inr (by assumption) | exact Or.inl (by with_reducible rfl))
    | intro _ _ _
    | intro _ _

theorem execReplayTo_same {F : Part → Bool} {s0 s : State} {a0} (h : Same F s0 s) (qregs : F .regs = false)
    (qchans : F .chans = false) (qnis : F .nis = false) : SameO F s0 (execReplayTo a0 s) := by
  unfold execReplayTo
  repeat' first
    | with_reducible assumption
    | (extract_lets +onlyGivenNames x)
    | with_reducible apply next_same
    | with_reducible apply onlyIf_same
    | with_reducible apply replayChan_same
    | with_reducible apply foldl_same
    | (with_reducible apply mk_same; with_reducible assumption; all_goals first | exact Or.inr (by assumption) | exact Or.inl (by with_reducible rfl))
    | intro _ _ _
    | intro _ _

theorem logLost_same {F : Part → Bool} {s0 s : State} {a0 a1 a2} (h : Same F s0 s) (qregs : F .regs = false)
    (qerrLog : F .errLog = false) : Same F s0 (logLost a0 a1 a2 s) := by
  unfold logLost
  repeat' first
    | with_reducible assumption
    | with_reducible apply errQ0_same
    | with_reducible apply satAdd_same

theorem losePartial_same {F : Part → Bool} {s0 s : State} {a0 a1} (h : Same F s0 s) (qregs : F .regs = false)
    (qchans : F .chans = false) (qrouters : F .routers = false) (qerrLog : F .errLog = false) : Same F s0
    (losePartial a0 a1 s) := by
  unfold losePartial
  repeat' first
    | with_reducible assumption
    | with_reducible apply consumePacket_same
    | with_reducible apply returnCredit_same
    | with_reducible apply modVc_same
    | with_reducible apply logLost_same
    | with_reducible apply hand_same
    | with_reducible apply onlyIf_same
    | with_reducible apply addRem_same
    | intro _ _
    | split

theorem dropGoing_same {F : Part → Bool} {s0 s : State} {a0 a1} (h : Same F s0 s) (qchans : F .chans = false)
    (qrouters : F .routers = false) (qnis : F .nis = false) : Same F s0 (dropGoing a0 a1 s) := by
  unfold dropGoing
  repeat' first
    | with_reducible assumption
    | with_reducible apply modNi_same
    | with_reducible apply onlyIf_same
    | with_reducible apply addRem_same
    | with_reducible apply forEach_same
    | with_reducible apply dropBegun_same
    | with_reducible apply modRouter_same
    | intro _ _ _
    | intro _ _
    | split

theorem loseReplay_same {F : Part → Bool} {s0 s : State} {a0} (h : Same F s0 s) (qregs : F .regs = false)
    (qchans : F .chans = false) (qrouters : F .routers = false) (qnis : F .nis = false)
    (qerrLog : F .errLog = false) : Same F s0 (loseReplay a0 s) := by
  unfold loseReplay
  repeat' first
    | with_reducible assumption
    | with_reducible apply modChan_same
    | with_reducible apply forEach_same
    | with_reducible apply hand_same
    | with_reducible apply logLost_same
    | with_reducible apply dropGoing_same
    | intro _ _ _

theorem noteDown_same {F : Part → Bool} {s0 s : State} {a0} (h : Same F s0 s) (qregs : F .regs = false)
    (qerrLog : F .errLog = false) : Same F s0 (noteDown a0 s) := by
  unfold noteDown
  repeat' first
    | with_reducible assumption
    | with_reducible apply linkChange_same
    | with_reducible apply errRecord_same
    | with_reducible apply satAdd_same

theorem enterDown_same {F : Part → Bool} {s0 s : State} {a0} (h : Same F s0 s) (qregs : F .regs = false)
    (qchans : F .chans = false) (qrouters : F .routers = false) (qnis : F .nis = false)
    (qlookups : F .lookups = false) (qunsure : F .unsure = false) (qrsvRun : F .rsvRun = false)
    (qrsvWait : F .rsvWait = false) (qerrLog : F .errLog = false) (qpower : F .power = false)
    (qstrip : F .strip = false) : Same F s0 (enterDown a0 s) := by
  unfold enterDown
  repeat' first
    | with_reducible assumption
    | (extract_lets +onlyGivenNames x; refine Same.cut (F := F) (a := s0) (x := x) ?_ (fun hx => ?_); (on_goal 1 => (unfold x; clear x)); (on_goal 2 => clear_value x))
    | (extract_lets +onlyGivenNames x)
    | with_reducible apply loseReplay_same
    | with_reducible apply forEach_same
    | with_reducible apply losePartial_same
    | with_reducible apply noteDown_same
    | with_reducible apply onlyIf_same
    | with_reducible apply queueRecheck_same
    | with_reducible apply flag_same
    | with_reducible apply isolate_same
    | intro _ _ _
    | intro _ _
    | split

theorem replayAfter_same {F : Part → Bool} {s0 s : State} {a0} (h : Same F s0 s) (qregs : F .regs = false)
    (qchans : F .chans = false) (qnis : F .nis = false) : Same F s0 (replayAfter a0 s) := by
  unfold replayAfter
  repeat' first
    | with_reducible assumption
    | (extract_lets +onlyGivenNames x)
    | with_reducible apply resend_same
    | with_reducible apply onlyIf_same
    | with_reducible apply satAdd_same
    | with_reducible apply foldl_same
    | (with_reducible apply mk_same; with_reducible assumption; all_goals first | exact Or.inr (by assumption) | exact Or.inl (by with_reducible rfl))
    | intro _ _ _
    | intro _ _

theorem execRetrainDone_same {F : Part → Bool} {s0 s : State} {a0 a1} (h : Same F s0 s)
    (qregs : F .regs = false) (qchans : F .chans = false) (qrouters : F .routers = false)
    (qnis : F .nis = false) (qlookups : F .lookups = false) (qunsure : F .unsure = false)
    (qrsvRun : F .rsvRun = false) (qrsvWait : F .rsvWait = false) (qerrLog : F .errLog = false)
    (qpower : F .power = false) (qstrip : F .strip = false) : SameO F s0 (execRetrainDone a0 a1 s) := by
  unfold execRetrainDone
  repeat' first
    | with_reducible assumption
    | (extract_lets +onlyGivenNames x; refine Same.cut (F := F) (a := s0) (x := x) ?_ (fun hx => ?_); (on_goal 1 => (unfold x; clear x)); (on_goal 2 => clear_value x))
    | (extract_lets +onlyGivenNames x)
    | with_reducible apply next_same
    | with_reducible apply enterDown_same
    | with_reducible apply modChan_same
    | with_reducible apply noteLink_same
    | with_reducible apply replayAfter_same
    | with_reducible apply foldl_same
    | intro _
    | split

theorem execTrainDone_same {F : Part → Bool} {s0 s : State} {a0} (h : Same F s0 s) (qregs : F .regs = false)
    (qchans : F .chans = false) : SameO F s0 (execTrainDone a0 s) := by
  unfold execTrainDone
  repeat' first
    | with_reducible assumption
    | (extract_lets +onlyGivenNames x)
    | with_reducible apply next_same
    | with_reducible apply onlyIf_same
    | with_reducible apply noteLink_same
    | with_reducible apply modChan_same
    | intro _ _
    | split

theorem setBankBad_same {F : Part → Bool} {s0 s : State} {a0 a1} (h : Same F s0 s) (qregs : F .regs = false) :
    Same F s0 (setBankBad a0 a1 s) := by
  unfold setBankBad
  repeat' first
    | with_reducible assumption
    | with_reducible apply flagBit_same
    | with_reducible apply unflagBit_same
    | split

theorem recordFault_same {F : Part → Bool} {s0 s : State} {a0 a1} (h : Same F s0 s) (qregs : F .regs = false)
    (qfaults : F .faults = false) : Same F s0 (recordFault a0 a1 s) := by
  unfold recordFault
  repeat' first
    | with_reducible assumption
    | (extract_lets +onlyGivenNames x; refine Same.cut (F := F) (a := s0) (x := x) ?_ (fun hx => ?_); (on_goal 1 => (unfold x; clear x)); (on_goal 2 => clear_value x))
    | with_reducible apply satAdd_same
    | with_reducible apply flag_same
    | (with_reducible apply mk_same; with_reducible assumption; all_goals first | exact Or.inr (by assumption) | exact Or.inl (by with_reducible rfl))
    | split

theorem execFaultRecordPop_same {F : Part → Bool} {s0 s : State} (h : Same F s0 s)
    (qfaults : F .faults = false) : SameO F s0 (execFaultRecordPop s) := by
  unfold execFaultRecordPop
  repeat' first
    | with_reducible assumption
    | with_reducible apply next_same
    | (with_reducible apply mk_same; with_reducible assumption; all_goals first | exact Or.inr (by assumption) | exact Or.inl (by with_reducible rfl))

theorem failBank17_same {F : Part → Bool} {s0 s : State} (h : Same F s0 s) (qregs : F .regs = false)
    (qstaged : F .staged = false) (qtime : F .time = false) (qartCmd : F .artCmd = false)
    (qartWait : F .artWait = false) (qfaults : F .faults = false) (qunsure : F .unsure = false) : Same F s0
    (failBank17 s) := by
  unfold failBank17
  extract_lets o q t u v w
  have ht : Same F s0 t := by apply mk_same h <;> first | exact Or.inr (by assumption) | exact Or.inl rfl
  clear_value t
  have hu : Same F s0 u := fset_same (fset_same ht qregs) qregs
  have hv : Same F s0 v := fset_same hu qregs
  have hw : Same F s0 w := forEach_same hv (fun _ _ k => fset_same (fset_same k qregs) qregs)
  exact forEach_same hw (fun _ _ k => clearFields_same k qregs qstaged)

theorem failBank17.setLk_same {F : Part → Bool} {s0 s : State} {a0 a1 a2 a3} (h : Same F s0 s)
    (qregs : F .regs = false) : Same F s0 (failBank17.setLk a0 a1 a2 a3 s) := by
  unfold failBank17.setLk
  repeat' first
    | with_reducible assumption
    | with_reducible apply fset_same

theorem failArt_same {F : Part → Bool} {s0 s : State} {a0} (h : Same F s0 s) (qregs : F .regs = false) : Same F
    s0 (failArt a0 s) := by
  unfold failArt
  repeat' first
    | with_reducible assumption
    | (extract_lets +onlyGivenNames x)
    | with_reducible apply flagBit_same
    | with_reducible apply markFailed_same

theorem failControl_same {F : Part → Bool} {s0 s : State} (h : Same F s0 s) (qregs : F .regs = false)
    (qstaged : F .staged = false) (qtime : F .time = false) (qartCmd : F .artCmd = false)
    (qartWait : F .artWait = false) (qfaults : F .faults = false) (qunsure : F .unsure = false) : Same F s0
    (failControl s) := by
  unfold failControl
  repeat' first
    | with_reducible assumption
    | (extract_lets +onlyGivenNames x)
    | with_reducible apply failBank17_same
    | with_reducible apply markFailed_same

theorem failBank_same {F : Part → Bool} {s0 s : State} {a0} (h : Same F s0 s) (qregs : F .regs = false)
    (qstaged : F .staged = false) (qrt : F .rt = false) (qrtImg : F .rtImg = false) (qtime : F .time = false)
    (qartCmd : F .artCmd = false) (qartWait : F .artWait = false) (qfaults : F .faults = false)
    (qunsure : F .unsure = false) (qrsvRun : F .rsvRun = false) (qrsvWait : F .rsvWait = false) : Same F s0
    (failBank a0 s) := by
  unfold failBank
  repeat' first
    | with_reducible assumption
    | (extract_lets +onlyGivenNames x)
    | with_reducible apply failArt_same
    | with_reducible apply readBank16_same
    | with_reducible apply failControl_same
    | with_reducible apply failRoutes_same
    | with_reducible apply foldl_same
    | intro _
    | split

theorem failBanks_same {F : Part → Bool} {s0 s : State} {a0 a1} (h : Same F s0 s) (qregs : F .regs = false)
    (qstaged : F .staged = false) (qtime : F .time = false) (qartCmd : F .artCmd = false)
    (qartWait : F .artWait = false) (qfaults : F .faults = false) (qunsure : F .unsure = false) : Same F s0
    (failBanks a0 a1 s) := by
  unfold failBanks
  repeat' first
    | with_reducible assumption
    | (extract_lets +onlyGivenNames x; refine Same.cut (F := F) (a := s0) (x := x) ?_ (fun hx => ?_); (on_goal 1 => (unfold x; clear x)); (on_goal 2 => clear_value x))
    | (extract_lets +onlyGivenNames x)
    | with_reducible apply forEach_same
    | with_reducible apply failArt_same
    | with_reducible apply onlyIf_same
    | with_reducible apply failControl_same
    | with_reducible apply foldl_same
    | intro _ _ _
    | intro _ _

theorem cacheTouch_same {F : Part → Bool} {s0 s : State} {a0 a1} (h : Same F s0 s) (qnis : F .nis = false) :
    Same F s0 (cacheTouch a0 a1 s) := by
  unfold cacheTouch
  repeat' first
    | with_reducible assumption
    | with_reducible apply modNi_same

theorem present_same {F : Part → Bool} {s0 s : State} {a0} (h : Same F s0 s) (qlookups : F .lookups = false) :
    Same F s0 (present a0 s) := by
  unfold present
  repeat' first
    | with_reducible assumption
    | with_reducible apply offerRow_same
    | with_reducible apply setCheckRow_same

theorem failRead_same {F : Part → Bool} {s0 s : State} {a0 a1 a2} (h : Same F s0 s) (qregs : F .regs = false)
    (qstaged : F .staged = false) (qtime : F .time = false) (qartCmd : F .artCmd = false)
    (qartWait : F .artWait = false) (qfaults : F .faults = false) (qunsure : F .unsure = false) : Same F s0
    (failRead a0 a1 a2 s) := by
  unfold failRead
  repeat' first
    | with_reducible assumption
    | (extract_lets +onlyGivenNames x; refine Same.cut (F := F) (a := s0) (x := x) ?_ (fun hx => ?_); (on_goal 1 => (unfold x; clear x)); (on_goal 2 => clear_value x))
    | (extract_lets +onlyGivenNames x)
    | with_reducible apply onlyIf_same
    | with_reducible apply failControl_same
    | with_reducible apply failArt_same
    | with_reducible apply foldl_same
    | intro _ _ _
    | intro _ _
    | intro _
    | split

theorem execArtLookup_same {F : Part → Bool} {s0 s : State} {a0 a2 a3} (h : Same F s0 s)
    (qregs : F .regs = false) (qstaged : F .staged = false) (qnis : F .nis = false) (qtime : F .time = false)
    (qartCmd : F .artCmd = false) (qartWait : F .artWait = false) (qlookups : F .lookups = false)
    (qfaults : F .faults = false) (qunsure : F .unsure = false) : SameO F s0 (execArtLookup a0 s a2 a3) := by
  unfold execArtLookup
  repeat' first
    | with_reducible assumption
    | (extract_lets +onlyGivenNames x; refine Same.cut (F := F) (a := s0) (x := x) ?_ (fun hx => ?_); (on_goal 1 => (unfold x; clear x)); (on_goal 2 => clear_value x))
    | (extract_lets +onlyGivenNames x)
    | with_reducible apply next_same
    | with_reducible apply setCheckRow_same
    | with_reducible apply maxIn_same
    | with_reducible apply wrapAdd_same
    | with_reducible apply offerRow_same
    | with_reducible apply recordFault_same
    | with_reducible apply failRead_same
    | with_reducible apply onlyIf_same
    | with_reducible apply modNi_same
    | with_reducible apply foldl_same
    | intro _ _ _
    | intro _ _
    | intro _
    | split

theorem staleVerdicts_same {F : Part → Bool} {s0 s : State} {a0} (h : Same F s0 s) (qnis : F .nis = false) :
    Same F s0 (staleVerdicts a0 s) := by
  unfold staleVerdicts
  repeat' first
    | with_reducible assumption
    | with_reducible apply modNi_same

theorem execFlush_same {F : Part → Bool} {s0 s : State} {a0} (h : Same F s0 s) (qnis : F .nis = false) : SameO
    F s0 (execFlush a0 s) := by
  unfold execFlush
  repeat' first
    | with_reducible assumption
    | with_reducible apply next_same
    | with_reducible apply staleVerdicts_same
    | split

theorem staleAll_same {F : Part → Bool} {s0 s : State} (h : Same F s0 s) (qnis : F .nis = false) : Same F s0
    (staleAll s) := by
  unfold staleAll
  repeat' first
    | with_reducible assumption
    | with_reducible apply forEach_same
    | with_reducible apply staleVerdicts_same
    | intro _ _ _

theorem setBusy_same {F : Part → Bool} {s0 s : State} (h : Same F s0 s) (qregs : F .regs = false) : Same F s0
    (setBusy s) := by
  unfold setBusy
  repeat' first
    | with_reducible assumption
    | with_reducible apply flag_same

theorem artwStep_same {F : Part → Bool} {s0 s : State} (h : Same F s0 s) (qregs : F .regs = false) : Same F s0
    (artwStep s) := by
  unfold artwStep
  repeat' first
    | with_reducible assumption
    | with_reducible apply onlyIf_same
    | with_reducible apply fset_same
    | intro _ _

theorem execArtwW3_same {F : Part → Bool} {s0 s : State} {a0} (h : Same F s0 s) (qregs : F .regs = false)
    (qart : F .art = false) (qartHold : F .artHold = false) : SameO F s0 (execArtwW3 a0 s) := by
  unfold execArtwW3
  repeat' first
    | with_reducible assumption
    | (extract_lets +onlyGivenNames x)
    | with_reducible apply next_same
    | with_reducible apply artwStep_same
    | with_reducible apply setBusy_same
    | with_reducible apply fset_same
    | (with_reducible apply mk_same; with_reducible assumption; all_goals first | exact Or.inr (by assumption) | exact Or.inl (by with_reducible rfl))
    | split

theorem writeCount_same {F : Part → Bool} {s0 s : State} {a0 a1} (h : Same F s0 s) (qregs : F .regs = false) :
    Same F s0 (writeCount a0 a1 s) := by
  unfold writeCount
  repeat' first
    | with_reducible assumption
    | with_reducible apply errReserved_same
    | with_reducible apply setBusy_same
    | with_reducible apply fset_same
    | split

theorem execArtCount_same {F : Part → Bool} {s0 s : State} {a0} (h : Same F s0 s) (qregs : F .regs = false) :
    SameO F s0 (execArtCount a0 s) := by
  unfold execArtCount
  repeat' first
    | with_reducible assumption
    | with_reducible apply next_same
    | with_reducible apply writeCount_same

theorem startCmd_same {F : Part → Bool} {s0 s : State} {a0} (h : Same F s0 s) (qregs : F .regs = false)
    (qartCmd : F .artCmd = false) (qartLongAt : F .artLongAt = false) : Same F s0 (startCmd a0 s) := by
  unfold startCmd
  repeat' first
    | with_reducible assumption
    | with_reducible apply fset_same
    | with_reducible apply onlyIf_same
    | (with_reducible apply mk_same; with_reducible assumption; all_goals first | exact Or.inr (by assumption) | exact Or.inl (by with_reducible rfl))
    | intro _ _

theorem artCommand_same {F : Part → Bool} {s0 s : State} {a0 a1} (h : Same F s0 s) (qregs : F .regs = false)
    (qartCmd : F .artCmd = false) (qartWait : F .artWait = false) (qartLongAt : F .artLongAt = false) : Same F
    s0 (artCommand a0 a1 s) := by
  unfold artCommand
  repeat' first
    | with_reducible assumption
    | with_reducible apply errReserved_same
    | with_reducible apply setBusy_same
    | with_reducible apply startCmd_same
    | (with_reducible apply mk_same; with_reducible assumption; all_goals first | exact Or.inr (by assumption) | exact Or.inl (by with_reducible rfl))
    | split

theorem execValidate_same {F : Part → Bool} {s0 s : State} {a0} (h : Same F s0 s) (qregs : F .regs = false)
    (qartCmd : F .artCmd = false) (qartWait : F .artWait = false) (qartLongAt : F .artLongAt = false) : SameO F
    s0 (execValidate a0 s) := by
  unfold execValidate
  repeat' first
    | with_reducible assumption
    | with_reducible apply next_same
    | with_reducible apply artCommand_same

theorem execCopy_same {F : Part → Bool} {s0 s : State} {a0} (h : Same F s0 s) (qregs : F .regs = false)
    (qartCmd : F .artCmd = false) (qartWait : F .artWait = false) (qartLongAt : F .artLongAt = false) : SameO F
    s0 (execCopy a0 s) := by
  unfold execCopy
  repeat' first
    | with_reducible assumption
    | with_reducible apply next_same
    | with_reducible apply artCommand_same

theorem execClear_same {F : Part → Bool} {s0 s : State} {a0} (h : Same F s0 s) (qregs : F .regs = false)
    (qartCmd : F .artCmd = false) (qartWait : F .artWait = false) (qartLongAt : F .artLongAt = false) : SameO F
    s0 (execClear a0 s) := by
  unfold execClear
  repeat' first
    | with_reducible assumption
    | with_reducible apply next_same
    | with_reducible apply artCommand_same

theorem setFences_same {F : Part → Bool} {s0 s : State} {a0} (h : Same F s0 s) (qfence : F .fence = false) :
    Same F s0 (setFences a0 s) := by
  unfold setFences
  repeat' first
    | with_reducible assumption
    | with_reducible apply forEach_same
    | (with_reducible apply mk_same; with_reducible assumption; all_goals first | exact Or.inr (by assumption) | exact Or.inl (by with_reducible rfl))
    | intro _ _ _

theorem doValidate_same {F : Part → Bool} {s0 s : State} (h : Same F s0 s) (qregs : F .regs = false)
    (qfence : F .fence = false) : Same F s0 (doValidate s) := by
  unfold doValidate
  repeat' first
    | with_reducible assumption
    | (extract_lets +onlyGivenNames x; refine Same.cut (F := F) (a := s0) (x := x) ?_ (fun hx => ?_); (on_goal 1 => (unfold x; clear x)); (on_goal 2 => clear_value x))
    | (extract_lets +onlyGivenNames x)
    | with_reducible apply setFences_same
    | with_reducible apply fset_same
    | with_reducible apply onlyIf_same
    | with_reducible apply flag_same
    | intro _ _
    | split

theorem doCopy_same {F : Part → Bool} {s0 s : State} (h : Same F s0 s) (qregs : F .regs = false)
    (qart : F .art = false) (qfence : F .fence = false) : Same F s0 (doCopy s) := by
  unfold doCopy
  repeat' first
    | with_reducible assumption
    | with_reducible apply fset_same
    | with_reducible apply forEach_same
    | with_reducible apply setBankBad_same
    | (with_reducible apply mk_same; with_reducible assumption; all_goals first | exact Or.inr (by assumption) | exact Or.inl (by with_reducible rfl))
    | intro _ _ _

theorem doClear_same {F : Part → Bool} {s0 s : State} (h : Same F s0 s) (qregs : F .regs = false)
    (qart : F .art = false) (qfence : F .fence = false) : Same F s0 (doClear s) := by
  unfold doClear
  repeat' first
    | with_reducible assumption
    | with_reducible apply forEach_same
    | with_reducible apply setBankBad_same
    | with_reducible apply fset_same
    | (with_reducible apply mk_same; with_reducible assumption; all_goals first | exact Or.inr (by assumption) | exact Or.inl (by with_reducible rfl))
    | intro _ _ _

theorem execCmdDone_same {F : Part → Bool} {s0 s : State} {a1} (h : Same F s0 s) (qregs : F .regs = false)
    (qstaged : F .staged = false) (qtime : F .time = false) (qart : F .art = false) (qfence : F .fence = false)
    (qartCmd : F .artCmd = false) (qartWait : F .artWait = false) (qartLongAt : F .artLongAt = false)
    (qfaults : F .faults = false) (qunsure : F .unsure = false) : SameO F s0 (execCmdDone s a1) := by
  unfold execCmdDone
  repeat' first
    | with_reducible assumption
    | (extract_lets +onlyGivenNames x; refine Same.cut (F := F) (a := s0) (x := x) ?_ (fun hx => ?_); (on_goal 1 => (unfold x; clear x)); (on_goal 2 => clear_value x))
    | (extract_lets +onlyGivenNames x)
    | with_reducible apply next_same
    | with_reducible apply failBanks_same
    | with_reducible apply doValidate_same
    | with_reducible apply doCopy_same
    | with_reducible apply doClear_same
    | with_reducible apply flag_same
    | with_reducible apply fset_same
    | with_reducible apply startCmd_same
    | with_reducible apply foldl_same
    | (with_reducible apply mk_same; with_reducible assumption; all_goals first | exact Or.inr (by assumption) | exact Or.inl (by with_reducible rfl))
    | intro _
    | split

theorem refuseSwap_same {F : Part → Bool} {s0 s : State} {a0} (h : Same F s0 s) (qregs : F .regs = false) :
    Same F s0 (refuseSwap a0 s) := by
  unfold refuseSwap
  repeat' first
    | with_reducible assumption
    | with_reducible apply flag_same
    | with_reducible apply fset_same

theorem armSwap_same {F : Part → Bool} {s0 s : State} (h : Same F s0 s) (qregs : F .regs = false)
    (qtime : F .time = false) : Same F s0 (armSwap s) := by
  unfold armSwap
  repeat' first
    | with_reducible assumption
    | (extract_lets +onlyGivenNames x)
    | with_reducible apply refuseSwap_same
    | with_reducible apply markArm_same
    | with_reducible apply fset_same
    | with_reducible apply modTime_same
    | split

theorem disarmSwap_same {F : Part → Bool} {s0 s : State} (h : Same F s0 s) (qregs : F .regs = false)
    (qtime : F .time = false) : Same F s0 (disarmSwap s) := by
  unfold disarmSwap
  repeat' first
    | with_reducible assumption
    | with_reducible apply fset_same
    | with_reducible apply modTime_same

theorem execSwapArm_same {F : Part → Bool} {s0 s : State} (h : Same F s0 s) (qregs : F .regs = false)
    (qtime : F .time = false) : SameO F s0 (execSwapArm s) := by
  unfold execSwapArm
  repeat' first
    | with_reducible assumption
    | with_reducible apply next_same
    | with_reducible apply armSwap_same

theorem execSwapDisarm_same {F : Part → Bool} {s0 s : State} (h : Same F s0 s) (qregs : F .regs = false)
    (qtime : F .time = false) : SameO F s0 (execSwapDisarm s) := by
  unfold execSwapDisarm
  repeat' first
    | with_reducible assumption
    | with_reducible apply next_same
    | with_reducible apply disarmSwap_same

theorem execSwapRearm_same {F : Part → Bool} {s0 s : State} (h : Same F s0 s) (qregs : F .regs = false)
    (qtime : F .time = false) : SameO F s0 (execSwapRearm s) := by
  unfold execSwapRearm
  repeat' first
    | with_reducible assumption
    | with_reducible apply next_same
    | with_reducible apply armSwap_same
    | with_reducible apply disarmSwap_same

theorem execArtSwap_same {F : Part → Bool} {s0 s : State} (h : Same F s0 s) (qregs : F .regs = false)
    (qtime : F .time = false) (qswapUs : F .swapUs = false) (qswapTick : F .swapTick = false)
    (qswapStalled : F .swapStalled = false) : SameO F s0 (execArtSwap s) := by
  unfold execArtSwap
  repeat' first
    | with_reducible assumption
    | (extract_lets +onlyGivenNames x; refine Same.cut (F := F) (a := s0) (x := x) ?_ (fun hx => ?_); (on_goal 1 => (unfold x; clear x)); (on_goal 2 => clear_value x))
    | (extract_lets +onlyGivenNames x)
    | with_reducible apply next_same
    | with_reducible apply disarmSwap_same
    | with_reducible apply logFiring_same
    | with_reducible apply refuseSwap_same
    | with_reducible apply fset_same
    | with_reducible apply flag_same
    | with_reducible apply wrapAdd_same
    | with_reducible apply onlyIf_same
    | (with_reducible apply mk_same; with_reducible assumption; all_goals first | exact Or.inr (by assumption) | exact Or.inl (by with_reducible rfl))
    | intro _ _
    | split

theorem execArtDrainSample_same {F : Part → Bool} {s0 s : State} (h : Same F s0 s) (qregs : F .regs = false)
    (qunsure : F .unsure = false) (qunsureGen : F .unsureGen = false) (qswapLim : F .swapLim = false) : SameO F
    s0 (execArtDrainSample s) := by
  unfold execArtDrainSample
  repeat' first
    | with_reducible assumption
    | (extract_lets +onlyGivenNames x; refine Same.cut (F := F) (a := s0) (x := x) ?_ (fun hx => ?_); (on_goal 1 => (unfold x; clear x)); (on_goal 2 => clear_value x))
    | (extract_lets +onlyGivenNames x)
    | with_reducible apply next_same
    | with_reducible apply fset_same
    | with_reducible apply flag_same
    | with_reducible apply onlyIf_same
    | with_reducible apply foldl_same
    | (with_reducible apply mk_same; with_reducible assumption; all_goals first | exact Or.inr (by assumption) | exact Or.inl (by with_reducible rfl))
    | intro _ _ _
    | intro _ _
    | intro _
    | split

theorem execArtDrainStall_same {F : Part → Bool} {s0 s : State} (h : Same F s0 s) (qregs : F .regs = false)
    (qswapStalled : F .swapStalled = false) : SameO F s0 (execArtDrainStall s) := by
  unfold execArtDrainStall
  repeat' first
    | with_reducible assumption
    | (extract_lets +onlyGivenNames x; refine Same.cut (F := F) (a := s0) (x := x) ?_ (fun hx => ?_); (on_goal 1 => (unfold x; clear x)); (on_goal 2 => clear_value x))
    | with_reducible apply next_same
    | with_reducible apply flag_same
    | (with_reducible apply mk_same; with_reducible assumption; all_goals first | exact Or.inr (by assumption) | exact Or.inl (by with_reducible rfl))
    | split

theorem execDmW1_same {F : Part → Bool} {s0 s : State} {a0 a1} (h : Same F s0 s) (qregs : F .regs = false)
    (qstaged : F .staged = false) (qstagedNow : F .stagedNow = false) : SameO F s0 (execDmW1 a0 a1 s) := by
  unfold execDmW1
  repeat' first
    | with_reducible assumption
    | (extract_lets +onlyGivenNames x)
    | with_reducible apply next_same
    | with_reducible apply errReserved_same
    | with_reducible apply sset_same
    | with_reducible apply foldl_same
    | (with_reducible apply mk_same; with_reducible assumption; all_goals first | exact Or.inr (by assumption) | exact Or.inl (by with_reducible rfl))
    | intro _
    | split

theorem classify_same {F : Part → Bool} {s0 s : State} {a0 a1 a2} (h : Same F s0 s) (qregs : F .regs = false) :
    Same F s0 (classify a0 a1 a2 s).2 := by
  unfold classify
  repeat' first
    | with_reducible assumption
    | (extract_lets +onlyGivenNames x)
    | with_reducible apply flag_same
    | with_reducible apply satAdd_same
    | split

theorem classify_pair2 {F : Part → Bool} {s0 s : State} {a0 a1 a2} {d} {t : State} (h : Same F s0 s)
    (qregs : F .regs = false) (e : classify a0 a1 a2 s = (d, t)) : Same F s0 t := by
  have k := classify_same (F := F) (a0 := a0) (a1 := a1) (a2 := a2) h qregs
  rw [e] at k; exact k

theorem execClsW1_same {F : Part → Bool} {s0 s : State} {a0 a1} (h : Same F s0 s) (qregs : F .regs = false)
    (qstaged : F .staged = false) (qstagedNow : F .stagedNow = false) : SameO F s0 (execClsW1 a0 a1 s) := by
  unfold execClsW1
  repeat' first
    | with_reducible assumption
    | (extract_lets +onlyGivenNames x; refine Same.cut (F := F) (a := s0) (x := x) ?_ (fun hx => ?_); (on_goal 1 => (unfold x; clear x)); (on_goal 2 => clear_value x))
    | (extract_lets +onlyGivenNames x)
    | with_reducible apply next_same
    | with_reducible apply errReserved_same
    | with_reducible apply sset_same
    | with_reducible apply onlyIf_same
    | with_reducible apply fset_same
    | with_reducible apply foldl_same
    | (with_reducible apply mk_same; with_reducible assumption; all_goals first | exact Or.inr (by assumption) | exact Or.inl (by with_reducible rfl))
    | intro _ _ _
    | intro _ _
    | intro _
    | split

theorem setTokens_same {F : Part → Bool} {s0 s : State} {a0 a1 a2} (h : Same F s0 s) (qregs : F .regs = false)
    : Same F s0 (setTokens a0 a1 a2 s) := by
  unfold setTokens
  repeat' first
    | with_reducible assumption
    | with_reducible apply fset_same

theorem shaperRegs_same {F : Part → Bool} {s0 s : State} {a1} (h : Same F s0 s) (qregs : F .regs = false) :
    Same F s0 (shaperRegs s a1) := by
  unfold shaperRegs
  repeat' first
    | with_reducible assumption
    | (extract_lets +onlyGivenNames x)
    | with_reducible apply workingRegs_same

theorem refill_same {F : Part → Bool} {s0 s : State} {a0 a1} (h : Same F s0 s) (qregs : F .regs = false) : Same
    F s0 (refill a0 a1 s) := by
  unfold refill
  repeat' first
    | with_reducible assumption
    | with_reducible apply fset_same
    | with_reducible apply setTokens_same

theorem refillTick_same {F : Part → Bool} {s0 s : State} (h : Same F s0 s) (qregs : F .regs = false)
    (qrefillAt : F .refillAt = false) : Same F s0 (refillTick s) := by
  unfold refillTick
  repeat' first
    | with_reducible assumption
    | (extract_lets +onlyGivenNames x; refine Same.cut (F := F) (a := s0) (x := x) ?_ (fun hx => ?_); (on_goal 1 => (unfold x; clear x)); (on_goal 2 => clear_value x))
    | (extract_lets +onlyGivenNames x)
    | with_reducible apply forEach_same
    | with_reducible apply refill_same
    | (with_reducible apply mk_same; with_reducible assumption; all_goals first | exact Or.inr (by assumption) | exact Or.inl (by with_reducible rfl))
    | intro _ _ _
    | split

theorem execRefillTick_same {F : Part → Bool} {s0 s : State} (h : Same F s0 s) (qregs : F .regs = false)
    (qrefillAt : F .refillAt = false) : SameO F s0 (execRefillTick s) := by
  unfold execRefillTick
  repeat' first
    | with_reducible assumption
    | with_reducible apply next_same
    | with_reducible apply refillTick_same

theorem resetShaper_same {F : Part → Bool} {s0 s : State} {a0 a1} (h : Same F s0 s) (qregs : F .regs = false) :
    Same F s0 (resetShaper a0 a1 s) := by
  unfold resetShaper
  repeat' first
    | with_reducible assumption
    | (extract_lets +onlyGivenNames x; refine Same.cut (F := F) (a := s0) (x := x) ?_ (fun hx => ?_); (on_goal 1 => (unfold x; clear x)); (on_goal 2 => clear_value x))
    | (extract_lets +onlyGivenNames x)
    | with_reducible apply fset_same
    | with_reducible apply onlyIf_same
    | with_reducible apply flag_same
    | with_reducible apply satAdd_same
    | with_reducible apply setTokens_same
    | intro _ _
    | split

theorem beforeTest_same {F : Part → Bool} {s0 s : State} {a0 a1 a2 a3} (h : Same F s0 s)
    (qregs : F .regs = false) (qnis : F .nis = false) (qrefillAt : F .refillAt = false)
    (hf : ∀ t, Same F s0 t → Same F s0 (a3 t)): Same F s0 (beforeTest a0 a1 a2 a3 s) := by
  unfold beforeTest
  repeat' first
    | with_reducible assumption
    | (extract_lets +onlyGivenNames x)
    | with_reducible apply modNi_same
    | with_reducible apply refillTick_same
    | with_reducible apply hf
    | with_reducible apply foldl_same
    | intro _
    | split

theorem execFqRate_same {F : Part → Bool} {s0 s : State} {a0 a1} (h : Same F s0 s) (qregs : F .regs = false)
    (qnis : F .nis = false) (qrefillAt : F .refillAt = false) : SameO F s0 (execFqRate a0 a1 s) := by
  unfold execFqRate
  repeat' first
    | with_reducible assumption
    | (extract_lets +onlyGivenNames x)
    | with_reducible apply next_same
    | with_reducible apply beforeTest_same
    | with_reducible apply fset_same
    | with_reducible apply foldl_same
    | intro _ _ _
    | intro _ _

theorem execFqDepth_same {F : Part → Bool} {s0 s : State} {a0 a1} (h : Same F s0 s) (qregs : F .regs = false)
    (qnis : F .nis = false) (qrefillAt : F .refillAt = false) : SameO F s0 (execFqDepth a0 a1 s) := by
  unfold execFqDepth
  repeat' first
    | with_reducible assumption
    | (extract_lets +onlyGivenNames x; refine Same.cut (F := F) (a := s0) (x := x) ?_ (fun hx => ?_); (on_goal 1 => (unfold x; clear x)); (on_goal 2 => clear_value x))
    | (extract_lets +onlyGivenNames x)
    | with_reducible apply next_same
    | with_reducible apply beforeTest_same
    | with_reducible apply fset_same
    | with_reducible apply onlyIf_same
    | with_reducible apply resetShaper_same
    | with_reducible apply foldl_same
    | intro _ _ _
    | intro _ _

theorem execReload_same {F : Part → Bool} {s0 s : State} {a0} (h : Same F s0 s) (qregs : F .regs = false)
    (qnis : F .nis = false) (qrefillAt : F .refillAt = false) : SameO F s0 (execReload a0 s) := by
  unfold execReload
  repeat' first
    | with_reducible assumption
    | (extract_lets +onlyGivenNames x)
    | with_reducible apply next_same
    | with_reducible apply beforeTest_same
    | with_reducible apply onlyIf_same
    | with_reducible apply resetShaper_same
    | with_reducible apply foldl_same
    | intro _ _ _
    | intro _ _

theorem writeQuota_same {F : Part → Bool} {s0 s : State} {a0 a1} (h : Same F s0 s) (qregs : F .regs = false) :
    Same F s0 (writeQuota a0 a1 s) := by
  unfold writeQuota
  repeat' first
    | with_reducible assumption
    | (extract_lets +onlyGivenNames x; refine Same.cut (F := F) (a := s0) (x := x) ?_ (fun hx => ?_); (on_goal 1 => (unfold x; clear x)); (on_goal 2 => clear_value x))
    | (extract_lets +onlyGivenNames x)
    | with_reducible apply errReserved_same
    | with_reducible apply fset_same
    | with_reducible apply flag_same
    | with_reducible apply quotaCheck_same
    | with_reducible apply foldl_same
    | intro _
    | split

theorem execFqQuota_same {F : Part → Bool} {s0 s : State} {a0 a1} (h : Same F s0 s) (qregs : F .regs = false)
    (qnis : F .nis = false) (qrefillAt : F .refillAt = false) : SameO F s0 (execFqQuota a0 a1 s) := by
  unfold execFqQuota
  repeat' first
    | with_reducible assumption
    | (extract_lets +onlyGivenNames x)
    | with_reducible apply next_same
    | with_reducible apply beforeTest_same
    | with_reducible apply writeQuota_same
    | with_reducible apply foldl_same
    | intro _ _ _
    | intro _ _

theorem clearMax_same {F : Part → Bool} {s0 s : State} {a0 a1} (h : Same F s0 s) (qregs : F .regs = false) :
    Same F s0 (clearMax a0 a1 s) := by
  unfold clearMax
  repeat' first
    | with_reducible assumption
    | with_reducible apply fset_same

theorem execClrMax_same {F : Part → Bool} {s0 s : State} {a0} (h : Same F s0 s) (qregs : F .regs = false) :
    SameO F s0 (execClrMax a0 s) := by
  unfold execClrMax
  repeat' first
    | with_reducible assumption
    | with_reducible apply next_same
    | with_reducible apply onlyIf_same
    | with_reducible apply clearMax_same
    | intro _ _

theorem execClrAllMax_same {F : Part → Bool} {s0 s : State} {a0} (h : Same F s0 s) (qregs : F .regs = false) :
    SameO F s0 (execClrAllMax a0 s) := by
  unfold execClrAllMax
  repeat' first
    | with_reducible assumption
    | with_reducible apply next_same
    | with_reducible apply onlyIf_same
    | with_reducible apply forEach_same
    | with_reducible apply clearMax_same
    | intro _ _ _
    | intro _ _

theorem sampleQueue_same {F : Part → Bool} {s0 s : State} {a0 a1 a2} (h : Same F s0 s)
    (qregs : F .regs = false) : Same F s0 (sampleQueue a0 a1 a2 s) := by
  unfold sampleQueue
  repeat' first
    | with_reducible assumption
    | with_reducible apply fset_same

theorem execTelemetrySample_same {F : Part → Bool} {s0 s : State} {a0} (h : Same F s0 s)
    (qregs : F .regs = false) (qnis : F .nis = false) : SameO F s0 (execTelemetrySample a0 s) := by
  unfold execTelemetrySample
  repeat' first
    | with_reducible assumption
    | (extract_lets +onlyGivenNames x; refine Same.cut (F := F) (a := s0) (x := x) ?_ (fun hx => ?_); (on_goal 1 => (unfold x; clear x)); (on_goal 2 => clear_value x))
    | (extract_lets +onlyGivenNames x)
    | with_reducible apply next_same
    | with_reducible apply modNi_same
    | with_reducible apply forEach_same
    | with_reducible apply sampleQueue_same
    | with_reducible apply fset_same
    | with_reducible apply wrapAdd_same
    | with_reducible apply flag_same
    | with_reducible apply onlyIf_same
    | intro _ _ _
    | intro _ _
    | split

theorem countClass_same {F : Part → Bool} {s0 s : State} {a0 a1 a2 a3} (h : Same F s0 s)
    (qregs : F .regs = false) : Same F s0 (countClass a0 a1 a2 a3 s) := by
  unfold countClass
  repeat' first
    | with_reducible assumption
    | with_reducible apply wrapAdd_same
    | with_reducible apply satAdd_same
    | split

theorem submitCheck_same {F : Part → Bool} {s0 s : State} {a0 a1 a2 a3 a4} (h : Same F s0 s)
    (qregs : F .regs = false) (qnis : F .nis = false) : Same F s0 (submitCheck a0 a1 a2 a3 a4 s).1 := by
  unfold submitCheck
  repeat' first
    | with_reducible assumption
    | with_reducible apply flag_same
    | with_reducible apply satAdd_same
    | with_reducible apply wakeN1_same
    | split

theorem submitCheck_pair2 {F : Part → Bool} {s0 s : State} {a0 a1 a2 a3 a4} {d} {t : State} (h : Same F s0 s)
    (qregs : F .regs = false) (qnis : F .nis = false) (e : submitCheck a0 a1 a2 a3 a4 s = (t, d)) : Same F s0 t := by
  have k := submitCheck_same (F := F) (a0 := a0) (a1 := a1) (a2 := a2) (a3 := a3) (a4 := a4) h qregs qnis
  rw [e] at k; exact k

theorem countLocal_same {F : Part → Bool} {s0 s : State} {a0} (h : Same F s0 s) (qnis : F .nis = false) : Same
    F s0 (countLocal a0 s) := by
  unfold countLocal
  repeat' first
    | with_reducible assumption
    | with_reducible apply modNi_same
    | split

theorem freeServed_same {F : Part → Bool} {s0 s : State} {a0 a1} (h : Same F s0 s) (qregs : F .regs = false)
    (qnis : F .nis = false) : Same F s0 (freeServed a0 a1 s) := by
  unfold freeServed
  repeat' first
    | with_reducible assumption
    | with_reducible apply freeReceipt_same
    | with_reducible apply freeEntry_same
    | split

theorem headInjected_same {F : Part → Bool} {s0 s : State} {a0 a1 a2} (h : Same F s0 s)
    (qregs : F .regs = false) (qnis : F .nis = false) : Same F s0 (headInjected a0 a1 a2 s) := by
  unfold headInjected
  repeat' first
    | with_reducible assumption
    | with_reducible apply freeEntry_same
    | with_reducible apply modEntry_same
    | with_reducible apply freeServed_same
    | with_reducible apply wrapAdd_same
    | with_reducible apply freeReceipt_same
    | split

theorem noteNi_same {F : Part → Bool} {s0 s : State} {a0 a1} (h : Same F s0 s) (qnis : F .nis = false) : Same F
    s0 (noteNi a0 a1 s) := by
  unfold noteNi
  repeat' first
    | with_reducible assumption
    | with_reducible apply modNi_same

theorem injectFlit_same {F : Part → Bool} {s0 s : State} {a0 a1} (h : Same F s0 s) (qregs : F .regs = false)
    (qchans : F .chans = false) (qnis : F .nis = false) : Same F s0 (injectFlit a0 a1 s) := by
  unfold injectFlit
  repeat' first
    | with_reducible assumption
    | with_reducible apply modNi_same
    | with_reducible apply sendFlit_same
    | with_reducible apply onlyIf_same
    | with_reducible apply satAdd_same
    | with_reducible apply headInjected_same
    | intro _ _
    | split

theorem grantNi_same {F : Part → Bool} {s0 s : State} {a0 a1} (h : Same F s0 s) (qregs : F .regs = false)
    (qchans : F .chans = false) (qnis : F .nis = false) : Same F s0 (grantNi a0 a1 s) := by
  unfold grantNi
  repeat' first
    | with_reducible assumption
    | with_reducible apply injectFlit_same
    | with_reducible apply noteNi_same
    | with_reducible apply countLocal_same

theorem execNiInject_same {F : Part → Bool} {s0 s : State} {a0} (h : Same F s0 s) (qregs : F .regs = false)
    (qchans : F .chans = false) (qnis : F .nis = false) : SameO F s0 (execNiInject a0 s) := by
  unfold execNiInject
  repeat' first
    | with_reducible assumption
    | (extract_lets +onlyGivenNames x)
    | with_reducible apply next_same
    | with_reducible apply grantNi_same
    | split

theorem execFlitGrant_same {F : Part → Bool} {s0 s : State} {a0} (h : Same F s0 s) (qregs : F .regs = false)
    (qchans : F .chans = false) (qrouters : F .routers = false) (qnis : F .nis = false)
    (qerrLog : F .errLog = false) (qpower : F .power = false) : SameO F s0 (execFlitGrant a0 s) := by
  unfold execFlitGrant
  repeat' first
    | with_reducible assumption
    | (extract_lets +onlyGivenNames x)
    | with_reducible apply next_same
    | with_reducible apply grantRouter_same
    | with_reducible apply grantNi_same
    | split

theorem execStarveLimit_same {F : Part → Bool} {s0 s : State} {a0 a1 a2} (h : Same F s0 s)
    (qchans : F .chans = false) (qrouters : F .routers = false) (qnis : F .nis = false) : SameO F s0
    (execStarveLimit a0 a1 a2 s) := by
  unfold execStarveLimit
  repeat' first
    | with_reducible assumption
    | (extract_lets +onlyGivenNames x)
    | with_reducible apply next_same
    | with_reducible apply modNi_same
    | with_reducible apply onlyIf_same
    | with_reducible apply modRouter_same
    | with_reducible apply modVc_same
    | intro _ _
    | split

theorem execWaypointAccept_same {F : Part → Bool} {s0 s : State} {a0 a1} (h : Same F s0 s)
    (qregs : F .regs = false) (qchans : F .chans = false) (qnis : F .nis = false) : SameO F s0
    (execWaypointAccept a0 a1 s) := by
  unfold execWaypointAccept
  repeat' first
    | with_reducible assumption
    | (extract_lets +onlyGivenNames x; refine Same.cut (F := F) (a := s0) (x := x) ?_ (fun hx => ?_); (on_goal 1 => (unfold x; clear x)); (on_goal 2 => clear_value x))
    | (extract_lets +onlyGivenNames x)
    | with_reducible apply next_same
    | with_reducible apply modVc_same
    | with_reducible apply wakeN1_same
    | with_reducible apply modNi_same
    | with_reducible apply judgeRx_same
    | with_reducible apply takeEntry_same
    | with_reducible apply foldl_same
    | intro _
    | split

theorem answerServed_same {F : Part → Bool} {s0 s : State} {a0 a1 a2} (h : Same F s0 s)
    (qregs : F .regs = false) (qnis : F .nis = false) (qerrLog : F .errLog = false) : Same F s0
    (answerServed a0 a1 a2 s) := by
  unfold answerServed
  repeat' first
    | with_reducible assumption
    | (extract_lets +onlyGivenNames x; refine Same.cut (F := F) (a := s0) (x := x) ?_ (fun hx => ?_); (on_goal 1 => (unfold x; clear x)); (on_goal 2 => clear_value x))
    | (extract_lets +onlyGivenNames x)
    | with_reducible apply pushAnswer_same
    | with_reducible apply modEntry_same
    | with_reducible apply markAnswered_same
    | with_reducible apply foldl_same
    | intro _
    | split

theorem noteLateAnswer_same {F : Part → Bool} {s0 s : State} {a0 a1} (h : Same F s0 s) (qnis : F .nis = false)
    : Same F s0 (noteLateAnswer a0 a1 s) := by
  unfold noteLateAnswer
  repeat' first
    | with_reducible assumption
    | with_reducible apply modNi_same

theorem takeBir_same {F : Part → Bool} {s0 s : State} {a0 a1 a2 a3 a4} (h : Same F s0 s)
    (qfree : F .free = false) (qregs : F .regs = false) (qnis : F .nis = false) (qerrLog : F .errLog = false)
    (qlc : F .lc = false) (qsmx : F .smx = false) : Same F s0 (takeBir a0 a1 a2 a3 a4 s) := by
  unfold takeBir
  repeat' first
    | with_reducible assumption
    | with_reducible apply strayResponse_same
    | with_reducible apply wrapAdd_same
    | with_reducible apply modEntry_same
    | with_reducible apply onlyIf_same
    | with_reducible apply closeEntry_same
    | with_reducible apply toFifoAt_same
    | intro _ _
    | split

theorem takeAnswer_same {F : Part → Bool} {s0 s : State} {a0 a1 a2 a3 a4 a5} (h : Same F s0 s)
    (qfree : F .free = false) (qregs : F .regs = false) (qnis : F .nis = false) (qlc : F .lc = false)
    (qsmx : F .smx = false) : Same F s0 (takeAnswer a0 a1 a2 a3 a4 a5 s) := by
  unfold takeAnswer
  repeat' first
    | with_reducible assumption
    | with_reducible apply onlyIf_same
    | with_reducible apply flag_same
    | with_reducible apply toFifoAt_same
    | with_reducible apply closeEntry_same
    | intro _ _

theorem takeFetch_same {F : Part → Bool} {s0 s : State} {a0 a1 a2 a3 a4 a5} (h : Same F s0 s)
    (qfree : F .free = false) (qregs : F .regs = false) (qnis : F .nis = false) (qerrLog : F .errLog = false)
    (qlc : F .lc = false) (qsmx : F .smx = false) : Same F s0 (takeFetch a0 a1 a2 a3 a4 a5 s) := by
  unfold takeFetch
  repeat' first
    | with_reducible assumption
    | (extract_lets +onlyGivenNames x; refine Same.cut (F := F) (a := s0) (x := x) ?_ (fun hx => ?_); (on_goal 1 => (unfold x; clear x)); (on_goal 2 => clear_value x))
    | (extract_lets +onlyGivenNames x)
    | with_reducible apply modEntry_same
    | with_reducible apply onlyIf_same
    | with_reducible apply noteLateAnswer_same
    | with_reducible apply answerServed_same
    | with_reducible apply toFifoAt_same
    | with_reducible apply foldl_same
    | intro _ _ _
    | intro _ _

theorem execResponseArrive_same {F : Part → Bool} {s0 s : State} {a0 a1} (h : Same F s0 s)
    (qfree : F .free = false) (qregs : F .regs = false) (qchans : F .chans = false) (qnis : F .nis = false)
    (qerrLog : F .errLog = false) (qlc : F .lc = false) (qsmx : F .smx = false) : SameO F s0
    (execResponseArrive a0 a1 s) := by
  unfold execResponseArrive
  repeat' first
    | with_reducible assumption
    | (extract_lets +onlyGivenNames x)
    | with_reducible apply next_same
    | with_reducible apply consumePacket_same
    | with_reducible apply wakeN1_same
    | with_reducible apply strayResponse_same
    | with_reducible apply freeEntry_same
    | with_reducible apply takeFetch_same
    | with_reducible apply takeBir_same
    | with_reducible apply takeAnswer_same
    | split

theorem countTei_same {F : Part → Bool} {s0 s : State} {a0} (h : Same F s0 s) (qnis : F .nis = false) : Same F
    s0 (countTei a0 s) := by
  unfold countTei
  repeat' first
    | with_reducible assumption
    | with_reducible apply modNi_same
    | split

theorem beatFifo_same {F : Part → Bool} {s0 s : State} {a0 a1 a2 a3} (h : Same F s0 s)
    (qregs : F .regs = false) (qnis : F .nis = false) : Same F s0 (beatFifo a0 a1 a2 a3 s) := by
  unfold beatFifo
  repeat' first
    | with_reducible assumption
    | (extract_lets +onlyGivenNames x; refine Same.cut (F := F) (a := s0) (x := x) ?_ (fun hx => ?_); (on_goal 1 => (unfold x; clear x)); (on_goal 2 => clear_value x))
    | (extract_lets +onlyGivenNames x)
    | with_reducible apply modNi_same
    | with_reducible apply freeEntry_same
    | with_reducible apply countBytes_same
    | split

theorem beatRequest_same {F : Part → Bool} {s0 s : State} {a0 a1} (h : Same F s0 s) (qchans : F .chans = false)
    (qnis : F .nis = false) : Same F s0 (beatRequest a0 a1 s) := by
  unfold beatRequest
  repeat' first
    | with_reducible assumption
    | (extract_lets +onlyGivenNames x; refine Same.cut (F := F) (a := s0) (x := x) ?_ (fun hx => ?_); (on_goal 1 => (unfold x; clear x)); (on_goal 2 => clear_value x))
    | (extract_lets +onlyGivenNames x)
    | with_reducible apply modVc_same
    | with_reducible apply modNi_same
    | with_reducible apply returnCredit_same
    | with_reducible apply onlyIf_same
    | intro _ _
    | split

theorem noteBeat_same {F : Part → Bool} {s0 s : State} {a0 a1} (h : Same F s0 s) (qnis : F .nis = false) : Same
    F s0 (noteBeat a0 a1 s) := by
  unfold noteBeat
  repeat' first
    | with_reducible assumption
    | with_reducible apply modNi_same

theorem endStarve_same {F : Part → Bool} {s0 s : State} {a0 a1} (h : Same F s0 s) (qnis : F .nis = false) :
    Same F s0 (endStarve a0 a1 s) := by
  unfold endStarve
  repeat' first
    | with_reducible assumption
    | with_reducible apply onlyIf_same
    | with_reducible apply modNi_same
    | intro _ _

theorem execTeiDeliver_same {F : Part → Bool} {s0 s : State} {a0} (h : Same F s0 s) (qregs : F .regs = false)
    (qchans : F .chans = false) (qnis : F .nis = false) : SameO F s0 (execTeiDeliver a0 s) := by
  unfold execTeiDeliver
  repeat' first
    | with_reducible assumption
    | (extract_lets +onlyGivenNames x; refine Same.cut (F := F) (a := s0) (x := x) ?_ (fun hx => ?_); (on_goal 1 => (unfold x; clear x)); (on_goal 2 => clear_value x))
    | (extract_lets +onlyGivenNames x)
    | with_reducible apply next_same
    | with_reducible apply noteBeat_same
    | with_reducible apply countTei_same
    | with_reducible apply beatFifo_same
    | with_reducible apply beatRequest_same
    | with_reducible apply endStarve_same
    | split

theorem execDeliveryCredit_same {F : Part → Bool} {s0 s : State} {a0 a1} (h : Same F s0 s)
    (qregs : F .regs = false) (qnis : F .nis = false) : SameO F s0 (execDeliveryCredit a0 a1 s) := by
  unfold execDeliveryCredit
  repeat' first
    | with_reducible assumption
    | (extract_lets +onlyGivenNames x)
    | with_reducible apply next_same
    | with_reducible apply flag_same
    | with_reducible apply modNi_same
    | split

theorem modLedger_same {F : Part → Bool} {s0 s : State} {f} (h : Same F s0 s) (qledger : F .ledger = false) :
    Same F s0 (modLedger f s) := by
  unfold modLedger; apply mk_same h <;> first | exact Or.inr (by assumption) | exact Or.inl rfl

theorem enqueue_same {F : Part → Bool} {s0 s : State} {a0} (h : Same F s0 s) (qregs : F .regs = false)
    (qledger : F .ledger = false) : Same F s0 (enqueue a0 s) := by
  unfold enqueue
  repeat' first
    | with_reducible assumption
    | (extract_lets +onlyGivenNames x; refine Same.cut (F := F) (a := s0) (x := x) ?_ (fun hx => ?_); (on_goal 1 => (unfold x; clear x)); (on_goal 2 => clear_value x))
    | with_reducible apply modLedger_same
    | with_reducible apply onlyIf_same
    | with_reducible apply flag_same
    | intro _ _

theorem readyUnsigned_same {F : Part → Bool} {s0 s : State} (h : Same F s0 s) (qregs : F .regs = false)
    (qledger : F .ledger = false) : Same F s0 (readyUnsigned s) := by
  unfold readyUnsigned
  repeat' first
    | with_reducible assumption
    | (extract_lets +onlyGivenNames x)
    | with_reducible apply flag_same
    | with_reducible apply modLedger_same
    | with_reducible apply foldl_same
    | intro _
    | split

theorem fileRecord_same {F : Part → Bool} {s0 s : State} {a0} (h : Same F s0 s) (qregs : F .regs = false)
    (qledger : F .ledger = false) : Same F s0 (fileRecord a0 s) := by
  unfold fileRecord
  repeat' first
    | with_reducible assumption
    | (extract_lets +onlyGivenNames x; refine Same.cut (F := F) (a := s0) (x := x) ?_ (fun hx => ?_); (on_goal 1 => (unfold x; clear x)); (on_goal 2 => clear_value x))
    | (extract_lets +onlyGivenNames x)
    | with_reducible apply readyUnsigned_same
    | with_reducible apply enqueue_same
    | with_reducible apply flag_same
    | with_reducible apply foldl_same
    | intro _
    | split

theorem fileBoot_same {F : Part → Bool} {s0 s : State} (h : Same F s0 s) (qregs : F .regs = false)
    (qledger : F .ledger = false) : Same F s0 (fileBoot s) := by
  unfold fileBoot
  repeat' first
    | with_reducible assumption
    | with_reducible apply fileRecord_same

theorem fileGap_same {F : Part → Bool} {s0 s : State} {a0} (h : Same F s0 s) (qregs : F .regs = false)
    (qledger : F .ledger = false) : Same F s0 (fileGap a0 s) := by
  unfold fileGap
  repeat' first
    | with_reducible assumption
    | (extract_lets +onlyGivenNames x; refine Same.cut (F := F) (a := s0) (x := x) ?_ (fun hx => ?_); (on_goal 1 => (unfold x; clear x)); (on_goal 2 => clear_value x))
    | with_reducible apply flag_same
    | with_reducible apply modLedger_same
    | with_reducible apply fileRecord_same
    | split

theorem execReadout_same {F : Part → Bool} {s0 s : State} (h : Same F s0 s) (qregs : F .regs = false)
    (qledger : F .ledger = false) : SameO F s0 (execReadout s) := by
  unfold execReadout
  repeat' first
    | with_reducible assumption
    | with_reducible apply next_same
    | with_reducible apply flag_same
    | with_reducible apply fileRecord_same
    | split

theorem execPop_same {F : Part → Bool} {s0 s : State} (h : Same F s0 s) (qregs : F .regs = false)
    (qledger : F .ledger = false) : SameO F s0 (execPop s) := by
  unfold execPop
  repeat' first
    | with_reducible assumption
    | (extract_lets +onlyGivenNames x)
    | with_reducible apply next_same
    | with_reducible apply modLedger_same
    | with_reducible apply readyUnsigned_same
    | with_reducible apply foldl_same
    | intro _
    | split

theorem execRecordReady_same {F : Part → Bool} {s0 s : State} (h : Same F s0 s) (qfree : F .free = false)
    (qregs : F .regs = false) (qledger : F .ledger = false) : SameO F s0 (execRecordReady s) := by
  unfold execRecordReady
  repeat' first
    | with_reducible assumption
    | (refine draw_pair2 ?_ (by with_reducible assumption) (by with_reducible assumption) )
    | with_reducible apply next_same
    | with_reducible apply draw_same
    | with_reducible apply flag_same
    | with_reducible apply modLedger_same
    | with_reducible apply draw_same
    | split

theorem moveAcc_same {F : Part → Bool} {s0 s : State} {a0 a1} (h : Same F s0 s) (qnis : F .nis = false) : Same
    F s0 (moveAcc a0 a1 s) := by
  unfold moveAcc
  repeat' first
    | with_reducible assumption
    | with_reducible apply modNi_same
    | split

theorem execLedgerEpoch_same {F : Part → Bool} {s0 s : State} (h : Same F s0 s) (qregs : F .regs = false)
    (qnis : F .nis = false) (qtime : F .time = false) (qledger : F .ledger = false) : SameO F s0
    (execLedgerEpoch s) := by
  unfold execLedgerEpoch
  repeat' first
    | with_reducible assumption
    | (extract_lets +onlyGivenNames x; refine Same.cut (F := F) (a := s0) (x := x) ?_ (fun hx => ?_); (on_goal 1 => (unfold x; clear x)); (on_goal 2 => clear_value x))
    | (extract_lets +onlyGivenNames x)
    | with_reducible apply next_same
    | with_reducible apply logFiring_same
    | with_reducible apply forEach_same
    | with_reducible apply moveAcc_same
    | with_reducible apply modLedger_same
    | with_reducible apply onlyIf_same
    | with_reducible apply flag_same
    | (with_reducible apply mk_same; with_reducible assumption; all_goals first | exact Or.inr (by assumption) | exact Or.inl (by with_reducible rfl))
    | intro _ _ _
    | intro _ _
    | split

theorem execEpochClose_same {F : Part → Bool} {s0 s : State} (h : Same F s0 s) (qregs : F .regs = false)
    (qnis : F .nis = false) (qledger : F .ledger = false) : SameO F s0 (execEpochClose s) := by
  unfold execEpochClose
  repeat' first
    | with_reducible assumption
    | (extract_lets +onlyGivenNames x; refine Same.cut (F := F) (a := s0) (x := x) ?_ (fun hx => ?_); (on_goal 1 => (unfold x; clear x)); (on_goal 2 => clear_value x))
    | (extract_lets +onlyGivenNames x)
    | with_reducible apply next_same
    | with_reducible apply modLedger_same
    | with_reducible apply forEach_same
    | with_reducible apply modNi_same
    | with_reducible apply fset_same
    | intro _ _ _
    | split

theorem addFlush_same {F : Part → Bool} {s0 s : State} {a0} (h : Same F s0 s) (qledger : F .ledger = false) :
    Same F s0 (addFlush a0 s) := by
  unfold addFlush
  repeat' first
    | with_reducible assumption
    | with_reducible apply modLedger_same

theorem teiS0_same {F : Part → Bool} {s0 s : State} {a0} (h : Same F s0 s) (qregs : F .regs = false)
    (qchans : F .chans = false) (qnis : F .nis = false) : Same F s0 (teiS0 a0 s) := by
  unfold teiS0
  repeat' first
    | with_reducible assumption
    | (extract_lets +onlyGivenNames x; refine Same.cut (F := F) (a := s0) (x := x) ?_ (fun hx => ?_); (on_goal 1 => (unfold x; clear x)); (on_goal 2 => clear_value x))
    | with_reducible apply forEach_same
    | with_reducible apply dropBegun_same
    | with_reducible apply emptyFifo_same
    | with_reducible apply fset_same
    | with_reducible apply modNi_same
    | intro _ _ _

theorem teiRestart_same {F : Part → Bool} {s0 s : State} {a0} (h : Same F s0 s) (qregs : F .regs = false)
    (qchans : F .chans = false) (qnis : F .nis = false) : Same F s0 (teiRestart a0 s) := by
  unfold teiRestart
  repeat' first
    | with_reducible assumption
    | (extract_lets +onlyGivenNames x; refine Same.cut (F := F) (a := s0) (x := x) ?_ (fun hx => ?_); (on_goal 1 => (unfold x; clear x)); (on_goal 2 => clear_value x))
    | with_reducible apply teiS0_same
    | with_reducible apply satAdd_same
    | split

theorem startWake_same {F : Part → Bool} {s0 s : State} {a0} (h : Same F s0 s) (qregs : F .regs = false)
    (qnis : F .nis = false) : Same F s0 (startWake a0 s) := by
  unfold startWake
  repeat' first
    | with_reducible assumption
    | (extract_lets +onlyGivenNames x; refine Same.cut (F := F) (a := s0) (x := x) ?_ (fun hx => ?_); (on_goal 1 => (unfold x; clear x)); (on_goal 2 => clear_value x))
    | with_reducible apply fset_same
    | with_reducible apply modNi_same
    | split

theorem powerOnRegs_same {F : Part → Bool} {s0 s : State} {a0} (h : Same F s0 s) (qregs : F .regs = false)
    (qstaged : F .staged = false) : Same F s0 (powerOnRegs a0 s) := by
  unfold powerOnRegs
  repeat' first
    | with_reducible assumption
    | (extract_lets +onlyGivenNames x; refine Same.cut (F := F) (a := s0) (x := x) ?_ (fun hx => ?_); (on_goal 1 => (unfold x; clear x)); (on_goal 2 => clear_value x))
    | with_reducible apply clearFields_same
    | split

theorem wakeShapers_same {F : Part → Bool} {s0 s : State} {a0} (h : Same F s0 s) (qregs : F .regs = false)
    (qnis : F .nis = false) : Same F s0 (wakeShapers a0 s) := by
  unfold wakeShapers
  repeat' first
    | with_reducible assumption
    | with_reducible apply modNi_same
    | with_reducible apply forEach_same
    | with_reducible apply resetShaper_same
    | with_reducible apply setTokens_same
    | intro _ _ _
    | split

theorem releaseOne_same {F : Part → Bool} {s0 s : State} {a0 a1} (h : Same F s0 s) (qchans : F .chans = false)
    : Same F s0 (releaseOne a0 a1 s) := by
  unfold releaseOne
  repeat' first
    | with_reducible assumption
    | (extract_lets +onlyGivenNames x)
    | with_reducible apply modVc_same
    | with_reducible apply modChan_same

theorem finishWake_same {F : Part → Bool} {s0 s : State} {a0} (h : Same F s0 s) (qregs : F .regs = false)
    (qstaged : F .staged = false) (qchans : F .chans = false) (qnis : F .nis = false)
    (qerrLog : F .errLog = false) : Same F s0 (finishWake a0 s) := by
  unfold finishWake
  repeat' first
    | with_reducible assumption
    | (extract_lets +onlyGivenNames x; refine Same.cut (F := F) (a := s0) (x := x) ?_ (fun hx => ?_); (on_goal 1 => (unfold x; clear x)); (on_goal 2 => clear_value x))
    | (extract_lets +onlyGivenNames x)
    | with_reducible apply fset_same
    | with_reducible apply flag_same
    | with_reducible apply wrapAdd_same
    | with_reducible apply modNi_same
    | with_reducible apply exportGates_same
    | with_reducible apply wakeShapers_same
    | with_reducible apply onlyIf_same
    | with_reducible apply takeOver_same
    | with_reducible apply judgeRx_same
    | with_reducible apply sweepArrival_same
    | with_reducible apply forEach_same
    | with_reducible apply releaseOne_same
    | with_reducible apply foldl_same
    | intro _ _ _
    | intro _ _
    | intro _
    | split

theorem failWake_same {F : Part → Bool} {s0 s : State} {a0 a1} (h : Same F s0 s) (qregs : F .regs = false)
    (qchans : F .chans = false) (qrouters : F .routers = false) (qnis : F .nis = false)
    (qlookups : F .lookups = false) (qunsure : F .unsure = false) (qrsvRun : F .rsvRun = false)
    (qrsvWait : F .rsvWait = false) (qerrLog : F .errLog = false) (qpower : F .power = false)
    (qstrip : F .strip = false) : Same F s0 (failWake a0 a1 s) := by
  unfold failWake
  repeat' first
    | with_reducible assumption
    | (extract_lets +onlyGivenNames x; refine Same.cut (F := F) (a := s0) (x := x) ?_ (fun hx => ?_); (on_goal 1 => (unfold x; clear x)); (on_goal 2 => clear_value x))
    | (extract_lets +onlyGivenNames x)
    | with_reducible apply flag_same
    | with_reducible apply fset_same
    | with_reducible apply onlyIf_same
    | with_reducible apply queueRecheck_same
    | with_reducible apply isolateMask_same
    | with_reducible apply endWake_same
    | with_reducible apply foldl_same
    | intro _ _ _
    | intro _ _

theorem loseConfig_same {F : Part → Bool} {s0 s : State} {a0} (h : Same F s0 s) (qregs : F .regs = false)
    (qstaged : F .staged = false) (qnis : F .nis = false) (qrsvRun : F .rsvRun = false)
    (qrsvWait : F .rsvWait = false) : Same F s0 (loseConfig a0 s) := by
  unfold loseConfig
  repeat' first
    | with_reducible assumption
    | with_reducible apply flagBit_same
    | with_reducible apply flag_same
    | with_reducible apply fset_same
    | with_reducible apply clearFields_same
    | with_reducible apply onlyIf_same
    | with_reducible apply queueRecheck_same
    | with_reducible apply modNi_same
    | intro _ _

theorem goE4_same {F : Part → Bool} {s0 s : State} {a0} (h : Same F s0 s) (qnis : F .nis = false) : Same F s0
    (goE4 a0 s) := by
  unfold goE4
  repeat' first
    | with_reducible assumption
    | with_reducible apply modNi_same

theorem goE3_same {F : Part → Bool} {s0 s : State} {a0} (h : Same F s0 s) (qnis : F .nis = false) : Same F s0
    (goE3 a0 s) := by
  unfold goE3
  repeat' first
    | with_reducible assumption
    | with_reducible apply goE4_same
    | with_reducible apply modNi_same
    | split

theorem startEntry_same {F : Part → Bool} {s0 s : State} {a0 a1} (h : Same F s0 s) (qregs : F .regs = false)
    (qnis : F .nis = false) : Same F s0 (startEntry a0 a1 s) := by
  unfold startEntry
  repeat' first
    | with_reducible assumption
    | (extract_lets +onlyGivenNames x; refine Same.cut (F := F) (a := s0) (x := x) ?_ (fun hx => ?_); (on_goal 1 => (unfold x; clear x)); (on_goal 2 => clear_value x))
    | with_reducible apply fset_same
    | with_reducible apply modNi_same
    | with_reducible apply goE3_same
    | split

theorem endFlush_same {F : Part → Bool} {s0 s : State} {a0} (h : Same F s0 s) (qnis : F .nis = false) : Same F
    s0 (endFlush a0 s) := by
  unfold endFlush
  repeat' first
    | with_reducible assumption
    | with_reducible apply goE4_same
    | split

theorem goE2_same {F : Part → Bool} {s0 s : State} {a0} (h : Same F s0 s) (qnis : F .nis = false) : Same F s0
    (goE2 a0 s) := by
  unfold goE2
  repeat' first
    | with_reducible assumption
    | (extract_lets +onlyGivenNames x)
    | with_reducible apply modNi_same

theorem resumeNi_same {F : Part → Bool} {s0 s : State} {a0} (h : Same F s0 s) (qregs : F .regs = false)
    (qstaged : F .staged = false) (qchans : F .chans = false) (qnis : F .nis = false)
    (qerrLog : F .errLog = false) : Same F s0 (resumeNi a0 s) := by
  unfold resumeNi
  repeat' first
    | with_reducible assumption
    | (extract_lets +onlyGivenNames x; refine Same.cut (F := F) (a := s0) (x := x) ?_ (fun hx => ?_); (on_goal 1 => (unfold x; clear x)); (on_goal 2 => clear_value x))
    | (extract_lets +onlyGivenNames x)
    | with_reducible apply onlyIf_same
    | with_reducible apply goE2_same
    | with_reducible apply goE3_same
    | with_reducible apply endFlush_same
    | with_reducible apply finishWake_same
    | with_reducible apply foldl_same
    | (with_reducible apply mk_same; with_reducible assumption; all_goals first | exact Or.inr (by assumption) | exact Or.inl (by with_reducible rfl))
    | intro _ _ _
    | intro _ _
    | intro _
    | split

theorem resumeAll_same {F : Part → Bool} {s0 s : State} (h : Same F s0 s) (qregs : F .regs = false)
    (qstaged : F .staged = false) (qchans : F .chans = false) (qnis : F .nis = false)
    (qerrLog : F .errLog = false) : Same F s0 (resumeAll s) := by
  unfold resumeAll
  repeat' first
    | with_reducible assumption
    | (extract_lets +onlyGivenNames x)
    | with_reducible apply forEach_same
    | with_reducible apply resumeNi_same
    | with_reducible apply foldl_same
    | intro _ _ _

theorem demandWake_same {F : Part → Bool} {s0 s : State} {a0} (h : Same F s0 s) (qregs : F .regs = false)
    (qnis : F .nis = false) : Same F s0 (demandWake a0 s) := by
  unfold demandWake
  repeat' first
    | with_reducible assumption
    | with_reducible apply startWake_same
    | with_reducible apply modNi_same
    | split

theorem dropLeg0_same {F : Part → Bool} {s0 s : State} {a0 a1} (h : Same F s0 s) (qnis : F .nis = false) : Same
    F s0 (dropLeg0 a0 a1 s) := by
  unfold dropLeg0
  repeat' first
    | with_reducible assumption
    | with_reducible apply modNi_same

theorem orphan_same {F : Part → Bool} {s0 s : State} {a0 a1 a2} (h : Same F s0 s) (qregs : F .regs = false)
    (qnis : F .nis = false) : Same F s0 (orphan a0 a1 a2 s) := by
  unfold orphan
  repeat' first
    | with_reducible assumption
    | with_reducible apply satAdd_same
    | with_reducible apply modNi_same
    | with_reducible apply modEntry_same

theorem orphanOne_same {F : Part → Bool} {s0 s : State} {a0 a1} (h : Same F s0 s) (qregs : F .regs = false)
    (qnis : F .nis = false) : Same F s0 (orphanOne a0 a1 s) := by
  unfold orphanOne
  repeat' first
    | with_reducible assumption
    | with_reducible apply freeEntry_same
    | with_reducible apply dropLeg0_same
    | with_reducible apply orphan_same
    | split

theorem abandonTei_same {F : Part → Bool} {s0 s : State} {a0} (h : Same F s0 s) (qregs : F .regs = false)
    (qchans : F .chans = false) (qnis : F .nis = false) (qlookups : F .lookups = false)
    (qerrLog : F .errLog = false) : Same F s0 (abandonTei a0 s) := by
  unfold abandonTei
  repeat' first
    | with_reducible assumption
    | (extract_lets +onlyGivenNames x; refine Same.cut (F := F) (a := s0) (x := x) ?_ (fun hx => ?_); (on_goal 1 => (unfold x; clear x)); (on_goal 2 => clear_value x))
    | (extract_lets +onlyGivenNames x)
    | with_reducible apply teiRestart_same
    | with_reducible apply dropLookups_same
    | with_reducible apply modNi_same
    | with_reducible apply forEach_same
    | with_reducible apply answerReceipt_same
    | with_reducible apply orphanOne_same
    | with_reducible apply foldl_same
    | intro _ _ _

theorem endpointReset_same {F : Part → Bool} {s0 s : State} {a0} (h : Same F s0 s) (qregs : F .regs = false)
    (qchans : F .chans = false) (qnis : F .nis = false) (qlookups : F .lookups = false)
    (qerrLog : F .errLog = false) : Same F s0 (endpointReset a0 s) := by
  unfold endpointReset
  repeat' first
    | with_reducible assumption
    | (extract_lets +onlyGivenNames x)
    | with_reducible apply abandonTei_same
    | with_reducible apply flag_same

theorem execEpReset_same {F : Part → Bool} {s0 s : State} {a0} (h : Same F s0 s) (qregs : F .regs = false)
    (qchans : F .chans = false) (qnis : F .nis = false) (qlookups : F .lookups = false)
    (qerrLog : F .errLog = false) : SameO F s0 (execEpReset a0 s) := by
  unfold execEpReset
  repeat' first
    | with_reducible assumption
    | (extract_lets +onlyGivenNames x; refine Same.cut (F := F) (a := s0) (x := x) ?_ (fun hx => ?_); (on_goal 1 => (unfold x; clear x)); (on_goal 2 => clear_value x))
    | (extract_lets +onlyGivenNames x)
    | with_reducible apply next_same
    | with_reducible apply modNi_same
    | with_reducible apply onlyIf_same
    | with_reducible apply endpointReset_same
    | with_reducible apply foldl_same
    | intro _ _ _
    | intro _ _
    | intro _
    | split

theorem execEpReadyFall_same {F : Part → Bool} {s0 s : State} {a0} (h : Same F s0 s) (qregs : F .regs = false)
    (qchans : F .chans = false) (qnis : F .nis = false) (qlookups : F .lookups = false)
    (qerrLog : F .errLog = false) : SameO F s0 (execEpReadyFall a0 s) := by
  unfold execEpReadyFall
  repeat' first
    | with_reducible assumption
    | (extract_lets +onlyGivenNames x; refine Same.cut (F := F) (a := s0) (x := x) ?_ (fun hx => ?_); (on_goal 1 => (unfold x; clear x)); (on_goal 2 => clear_value x))
    | (extract_lets +onlyGivenNames x)
    | with_reducible apply next_same
    | with_reducible apply modNi_same
    | with_reducible apply onlyIf_same
    | with_reducible apply endpointReset_same
    | with_reducible apply foldl_same
    | intro _ _ _
    | intro _ _
    | intro _
    | split

theorem setEpPins_same {F : Part → Bool} {s0 s : State} {a0 a1 a2} (h : Same F s0 s) (qnis : F .nis = false) :
    Same F s0 (setEpPins a0 a1 a2 s) := by
  unfold setEpPins
  repeat' first
    | with_reducible assumption
    | with_reducible apply modNi_same

theorem execTeiResetRelease_same {F : Part → Bool} {s0 s : State} {a0 a2 a3} (h : Same F s0 s)
    (qregs : F .regs = false) (qchans : F .chans = false) (qnis : F .nis = false) : SameO F s0
    (execTeiResetRelease a0 s a2 a3) := by
  unfold execTeiResetRelease
  repeat' first
    | with_reducible assumption
    | (extract_lets +onlyGivenNames x; refine Same.cut (F := F) (a := s0) (x := x) ?_ (fun hx => ?_); (on_goal 1 => (unfold x; clear x)); (on_goal 2 => clear_value x))
    | (extract_lets +onlyGivenNames x)
    | with_reducible apply next_same
    | with_reducible apply setEpPins_same
    | with_reducible apply modNi_same
    | with_reducible apply judgeRx_same
    | with_reducible apply fset_same
    | with_reducible apply foldl_same
    | intro _
    | split

theorem execTeiUp_same {F : Part → Bool} {s0 s : State} {a0} (h : Same F s0 s) (qregs : F .regs = false)
    (qstaged : F .staged = false) (qchans : F .chans = false) (qnis : F .nis = false)
    (qlookups : F .lookups = false) (qerrLog : F .errLog = false) : SameO F s0 (execTeiUp a0 s) := by
  unfold execTeiUp
  repeat' first
    | with_reducible assumption
    | (extract_lets +onlyGivenNames x; refine Same.cut (F := F) (a := s0) (x := x) ?_ (fun hx => ?_); (on_goal 1 => (unfold x; clear x)); (on_goal 2 => clear_value x))
    | (extract_lets +onlyGivenNames x)
    | with_reducible apply next_same
    | with_reducible apply fset_same
    | with_reducible apply modNi_same
    | with_reducible apply finishWake_same
    | with_reducible apply onlyIf_same
    | with_reducible apply flag_same
    | with_reducible apply endpointReset_same
    | with_reducible apply judgeRx_same
    | with_reducible apply foldl_same
    | intro _ _ _
    | intro _ _
    | intro _
    | split

theorem execPwrAck_same {F : Part → Bool} {s0 s : State} {a0 a2} (h : Same F s0 s) (qregs : F .regs = false)
    (qnis : F .nis = false) (qpower : F .power = false) : SameO F s0 (execPwrAck a0 s a2) := by
  unfold execPwrAck
  repeat' first
    | with_reducible assumption
    | (extract_lets +onlyGivenNames x)
    | with_reducible apply next_same
    | with_reducible apply abortEntry_same
    | with_reducible apply modNi_same
    | with_reducible apply goE2_same
    | with_reducible apply foldl_same
    | intro _
    | split

theorem execPwrNak_same {F : Part → Bool} {s0 s : State} {a0 a1} (h : Same F s0 s) (qregs : F .regs = false)
    (qnis : F .nis = false) (qpower : F .power = false) : SameO F s0 (execPwrNak a0 a1 s) := by
  unfold execPwrNak
  repeat' first
    | with_reducible assumption
    | with_reducible apply next_same
    | with_reducible apply abortEntry_same
    | split

theorem startF3Wake_same {F : Part → Bool} {s0 s : State} (h : Same F s0 s) (qregs : F .regs = false)
    (qpower : F .power = false) : Same F s0 (startF3Wake s) := by
  unfold startF3Wake
  repeat' first
    | with_reducible assumption
    | (extract_lets +onlyGivenNames x; refine Same.cut (F := F) (a := s0) (x := x) ?_ (fun hx => ?_); (on_goal 1 => (unfold x; clear x)); (on_goal 2 => clear_value x))
    | with_reducible apply modPower_same
    | with_reducible apply fset_same
    | split

theorem execEpWakeReq_same {F : Part → Bool} {s0 s : State} {a0} (h : Same F s0 s) (qregs : F .regs = false)
    (qnis : F .nis = false) (qpower : F .power = false) : SameO F s0 (execEpWakeReq a0 s) := by
  unfold execEpWakeReq
  repeat' first
    | with_reducible assumption
    | (extract_lets +onlyGivenNames x)
    | with_reducible apply next_same
    | with_reducible apply onlyIf_same
    | with_reducible apply modNi_same
    | with_reducible apply abortEntry_same
    | with_reducible apply startF3Wake_same
    | with_reducible apply demandWake_same
    | intro _ _
    | split

theorem execDerateAccept_same {F : Part → Bool} {s0 s : State} {a0 a1} (h : Same F s0 s)
    (qnis : F .nis = false) (qrsvRun : F .rsvRun = false) (qrsvWait : F .rsvWait = false) : SameO F s0
    (execDerateAccept a0 a1 s) := by
  unfold execDerateAccept
  repeat' first
    | with_reducible assumption
    | (extract_lets +onlyGivenNames x)
    | with_reducible apply next_same
    | with_reducible apply onlyIf_same
    | with_reducible apply queueRecheck_same
    | with_reducible apply modNi_same
    | intro _ _
    | split

theorem trip_same {F : Part → Bool} {s0 s : State} {a0 a1 a2} (h : Same F s0 s) (qregs : F .regs = false)
    (qchans : F .chans = false) (qrouters : F .routers = false) (qnis : F .nis = false)
    (qlookups : F .lookups = false) (qunsure : F .unsure = false) (qrsvRun : F .rsvRun = false)
    (qrsvWait : F .rsvWait = false) (qerrLog : F .errLog = false) (qpower : F .power = false)
    (qstrip : F .strip = false) : Same F s0 (trip a0 a1 a2 s) := by
  unfold trip
  repeat' first
    | with_reducible assumption
    | (extract_lets +onlyGivenNames x; refine Same.cut (F := F) (a := s0) (x := x) ?_ (fun hx => ?_); (on_goal 1 => (unfold x; clear x)); (on_goal 2 => clear_value x))
    | with_reducible apply errRecord_same
    | with_reducible apply isolate_same
    | with_reducible apply flag_same
    | split

theorem execWdogAccept_same {F : Part → Bool} {s0 s : State} {a0 a1} (h : Same F s0 s)
    (qregs : F .regs = false) (qchans : F .chans = false) (qrouters : F .routers = false)
    (qnis : F .nis = false) (qlookups : F .lookups = false) (qunsure : F .unsure = false)
    (qrsvRun : F .rsvRun = false) (qrsvWait : F .rsvWait = false) (qerrLog : F .errLog = false)
    (qpower : F .power = false) (qstrip : F .strip = false) : SameO F s0 (execWdogAccept a0 a1 s) := by
  unfold execWdogAccept
  repeat' first
    | with_reducible assumption
    | (extract_lets +onlyGivenNames x)
    | with_reducible apply next_same
    | with_reducible apply trip_same
    | with_reducible apply flag_same
    | with_reducible apply modNi_same
    | split

theorem execWdogResp_same {F : Part → Bool} {s0 s : State} {a0} (h : Same F s0 s) (qregs : F .regs = false)
    (qchans : F .chans = false) (qrouters : F .routers = false) (qnis : F .nis = false)
    (qlookups : F .lookups = false) (qunsure : F .unsure = false) (qrsvRun : F .rsvRun = false)
    (qrsvWait : F .rsvWait = false) (qerrLog : F .errLog = false) (qpower : F .power = false)
    (qstrip : F .strip = false) : SameO F s0 (execWdogResp a0 s) := by
  unfold execWdogResp
  repeat' first
    | with_reducible assumption
    | (extract_lets +onlyGivenNames x)
    | with_reducible apply next_same
    | with_reducible apply trip_same
    | with_reducible apply flag_same
    | with_reducible apply modNi_same
    | split

theorem tickNi_same {F : Part → Bool} {s0 s : State} {a0} (h : Same F s0 s) (qnis : F .nis = false) : Same F s0
    (tickNi a0 s) := by
  unfold tickNi
  repeat' first
    | with_reducible assumption
    | with_reducible apply modNi_same
    | split

theorem tickRsv_same {F : Part → Bool} {s0 s : State} {a0} (h : Same F s0 s) (qnis : F .nis = false) : Same F
    s0 (tickRsv a0 s) := by
  unfold tickRsv
  repeat' first
    | with_reducible assumption
    | with_reducible apply accAdd_same

theorem execMicrosecondTick_same {F : Part → Bool} {s0 s : State} (h : Same F s0 s) (qus : F .us = false)
    (qregs : F .regs = false) (qnis : F .nis = false) (qtime : F .time = false) : SameO F s0
    (execMicrosecondTick s) := by
  unfold execMicrosecondTick
  repeat' first
    | with_reducible assumption
    | (extract_lets +onlyGivenNames x; refine Same.cut (F := F) (a := s0) (x := x) ?_ (fun hx => ?_); (on_goal 1 => (unfold x; clear x)); (on_goal 2 => clear_value x))
    | (extract_lets +onlyGivenNames x)
    | with_reducible apply next_same
    | with_reducible apply onlyIf_same
    | with_reducible apply satAdd_same
    | with_reducible apply forEach_same
    | with_reducible apply tickRsv_same
    | with_reducible apply tickNi_same
    | with_reducible apply learnRatio_same
    | with_reducible apply foldl_same
    | (with_reducible apply mk_same; with_reducible assumption; all_goals first | exact Or.inr (by assumption) | exact Or.inl (by with_reducible rfl))
    | intro _ _ _
    | intro _ _
    | intro _
    | split

theorem readmitNow_same {F : Part → Bool} {s0 s : State} {a0} (h : Same F s0 s) (qregs : F .regs = false)
    (qchans : F .chans = false) (qnis : F .nis = false) : Same F s0 (readmitNow a0 s) := by
  unfold readmitNow
  repeat' first
    | with_reducible assumption
    | with_reducible apply fset_same
    | with_reducible apply onlyIf_same
    | with_reducible apply unflagBit_same
    | with_reducible apply teiRestart_same
    | with_reducible apply modNi_same
    | intro _ _

theorem execReadmit_same {F : Part → Bool} {s0 s : State} {a0 a1} (h : Same F s0 s) (qregs : F .regs = false)
    (qchans : F .chans = false) (qnis : F .nis = false) : SameO F s0 (execReadmit a0 a1 s) := by
  unfold execReadmit
  repeat' first
    | with_reducible assumption
    | (extract_lets +onlyGivenNames x)
    | with_reducible apply next_same
    | with_reducible apply readmitNow_same
    | with_reducible apply flag_same
    | with_reducible apply fset_same
    | split

theorem execReadmitReturn_same {F : Part → Bool} {s0 s : State} {a0} (h : Same F s0 s)
    (qregs : F .regs = false) (qnis : F .nis = false) : SameO F s0 (execReadmitReturn a0 s) := by
  unfold execReadmitReturn
  repeat' first
    | with_reducible assumption
    | (extract_lets +onlyGivenNames x; refine Same.cut (F := F) (a := s0) (x := x) ?_ (fun hx => ?_); (on_goal 1 => (unfold x; clear x)); (on_goal 2 => clear_value x))
    | (extract_lets +onlyGivenNames x)
    | with_reducible apply next_same
    | with_reducible apply fset_same
    | with_reducible apply modNi_same
    | split

theorem slotChanged_same {F : Part → Bool} {s0 s : State} {a0} (h : Same F s0 s) (qregs : F .regs = false) :
    Same F s0 (slotChanged a0 s) := by
  unfold slotChanged
  repeat' first
    | with_reducible assumption
    | with_reducible apply flag_same
    | with_reducible apply flagBit_same

theorem execRemoval_same {F : Part → Bool} {s0 s : State} {a0} (h : Same F s0 s) (qpins : F .pins = false)
    (qregs : F .regs = false) (qchans : F .chans = false) (qrouters : F .routers = false)
    (qnis : F .nis = false) (qlookups : F .lookups = false) (qunsure : F .unsure = false)
    (qrsvRun : F .rsvRun = false) (qrsvWait : F .rsvWait = false) (qerrLog : F .errLog = false)
    (qpower : F .power = false) (qstrip : F .strip = false) : SameO F s0 (execRemoval a0 s) := by
  unfold execRemoval
  repeat' first
    | with_reducible assumption
    | (extract_lets +onlyGivenNames x; refine Same.cut (F := F) (a := s0) (x := x) ?_ (fun hx => ?_); (on_goal 1 => (unfold x; clear x)); (on_goal 2 => clear_value x))
    | (extract_lets +onlyGivenNames x)
    | with_reducible apply next_same
    | with_reducible apply flagBit_same
    | with_reducible apply unflagBit_same
    | with_reducible apply slotChanged_same
    | with_reducible apply satAdd_same
    | with_reducible apply forEach_same
    | with_reducible apply onlyIf_same
    | with_reducible apply queueRecheck_same
    | with_reducible apply isolate_same
    | (with_reducible apply mk_same; with_reducible assumption; all_goals first | exact Or.inr (by assumption) | exact Or.inl (by with_reducible rfl))
    | intro _ _ _
    | intro _ _
    | split

theorem execFence_same {F : Part → Bool} {s0 s : State} {a0 a2} (h : Same F s0 s) (qpins : F .pins = false)
    (qregs : F .regs = false) (qchans : F .chans = false) (qrouters : F .routers = false)
    (qnis : F .nis = false) (qlookups : F .lookups = false) (qunsure : F .unsure = false)
    (qrsvRun : F .rsvRun = false) (qrsvWait : F .rsvWait = false) (qerrLog : F .errLog = false)
    (qslots : F .slots = false) (qpower : F .power = false) (qstrip : F .strip = false) : SameO F s0
    (execFence a0 s a2) := by
  unfold execFence
  repeat' first
    | with_reducible assumption
    | (extract_lets +onlyGivenNames x; refine Same.cut (F := F) (a := s0) (x := x) ?_ (fun hx => ?_); (on_goal 1 => (unfold x; clear x)); (on_goal 2 => clear_value x))
    | (extract_lets +onlyGivenNames x)
    | with_reducible apply next_same
    | with_reducible apply slotChanged_same
    | with_reducible apply flag_same
    | with_reducible apply satAdd_same
    | with_reducible apply forEach_same
    | with_reducible apply isolate_same
    | with_reducible apply foldl_same
    | (with_reducible apply mk_same; with_reducible assumption; all_goals first | exact Or.inr (by assumption) | exact Or.inl (by with_reducible rfl))
    | intro _ _ _
    | intro _
    | split

theorem execWarnGlitches_same {F : Part → Bool} {s0 s : State} {a0 a2} (h : Same F s0 s)
    (qpins : F .pins = false) (qregs : F .regs = false) : SameO F s0 (execWarnGlitches a0 s a2) := by
  unfold execWarnGlitches
  repeat' first
    | with_reducible assumption
    | (extract_lets +onlyGivenNames x)
    | with_reducible apply next_same
    | with_reducible apply satAdd_same
    | with_reducible apply foldl_same
    | (with_reducible apply mk_same; with_reducible assumption; all_goals first | exact Or.inr (by assumption) | exact Or.inl (by with_reducible rfl))
    | intro _
    | split

theorem execFuseTrip_same {F : Part → Bool} {s0 s : State} {a0} (h : Same F s0 s) (qpins : F .pins = false)
    (qregs : F .regs = false) (qchans : F .chans = false) (qrouters : F .routers = false)
    (qnis : F .nis = false) (qlookups : F .lookups = false) (qunsure : F .unsure = false)
    (qrsvRun : F .rsvRun = false) (qrsvWait : F .rsvWait = false) (qerrLog : F .errLog = false)
    (qslots : F .slots = false) (qpower : F .power = false) (qstrip : F .strip = false) : SameO F s0
    (execFuseTrip a0 s) := by
  unfold execFuseTrip
  repeat' first
    | with_reducible assumption
    | (extract_lets +onlyGivenNames x; refine Same.cut (F := F) (a := s0) (x := x) ?_ (fun hx => ?_); (on_goal 1 => (unfold x; clear x)); (on_goal 2 => clear_value x))
    | (extract_lets +onlyGivenNames x)
    | with_reducible apply next_same
    | with_reducible apply flagBit_same
    | with_reducible apply slotChanged_same
    | with_reducible apply flag_same
    | with_reducible apply satAdd_same
    | with_reducible apply forEach_same
    | with_reducible apply failWake_same
    | with_reducible apply isolate_same
    | with_reducible apply foldl_same
    | (with_reducible apply mk_same; with_reducible assumption; all_goals first | exact Or.inr (by assumption) | exact Or.inl (by with_reducible rfl))
    | intro _ _ _
    | intro _
    | split

theorem execSlotInsert_same {F : Part → Bool} {s0 s : State} {a0} (h : Same F s0 s) (qpins : F .pins = false)
    (qregs : F .regs = false) (qstableUs : F .stableUs = false) : SameO F s0 (execSlotInsert a0 s) := by
  unfold execSlotInsert
  repeat' first
    | with_reducible assumption
    | (extract_lets +onlyGivenNames x; refine Same.cut (F := F) (a := s0) (x := x) ?_ (fun hx => ?_); (on_goal 1 => (unfold x; clear x)); (on_goal 2 => clear_value x))
    | (extract_lets +onlyGivenNames x)
    | with_reducible apply next_same
    | with_reducible apply onlyIf_same
    | with_reducible apply slotChanged_same
    | with_reducible apply unflagBit_same
    | (with_reducible apply mk_same; with_reducible assumption; all_goals first | exact Or.inr (by assumption) | exact Or.inl (by with_reducible rfl))
    | intro _ _

theorem execHoldoff_same {F : Part → Bool} {s0 s : State} {a0} (h : Same F s0 s) (qregs : F .regs = false) :
    SameO F s0 (execHoldoff a0 s) := by
  unfold execHoldoff
  repeat' first
    | with_reducible assumption
    | (extract_lets +onlyGivenNames x)
    | with_reducible apply next_same
    | with_reducible apply flagBit_same
    | split

theorem execPwrWarnNRise_same {F : Part → Bool} {s0 s : State} {a0} (h : Same F s0 s) (qpins : F .pins = false)
    (qregs : F .regs = false) (qslots : F .slots = false) : SameO F s0 (execPwrWarnNRise a0 s) := by
  unfold execPwrWarnNRise
  repeat' first
    | with_reducible assumption
    | (extract_lets +onlyGivenNames x)
    | with_reducible apply next_same
    | with_reducible apply slotChanged_same
    | (with_reducible apply mk_same; with_reducible assumption; all_goals first | exact Or.inr (by assumption) | exact Or.inl (by with_reducible rfl))
    | split

theorem execFuseTrippedFall_same {F : Part → Bool} {s0 s : State} {a0} (h : Same F s0 s)
    (qpins : F .pins = false) (qregs : F .regs = false) (qslots : F .slots = false) : SameO F s0
    (execFuseTrippedFall a0 s) := by
  unfold execFuseTrippedFall
  repeat' first
    | with_reducible assumption
    | (extract_lets +onlyGivenNames x)
    | with_reducible apply next_same
    | with_reducible apply slotChanged_same
    | with_reducible apply unflagBit_same
    | with_reducible apply foldl_same
    | (with_reducible apply mk_same; with_reducible assumption; all_goals first | exact Or.inr (by assumption) | exact Or.inl (by with_reducible rfl))
    | intro _
    | split

theorem execErrLogPop_same {F : Part → Bool} {s0 s : State} (h : Same F s0 s) (qerrLog : F .errLog = false) :
    SameO F s0 (execErrLogPop s) := by
  unfold execErrLogPop
  repeat' first
    | with_reducible assumption
    | with_reducible apply next_same
    | (with_reducible apply mk_same; with_reducible assumption; all_goals first | exact Or.inr (by assumption) | exact Or.inl (by with_reducible rfl))

theorem pwrResult_same {F : Part → Bool} {s0 s : State} {a0 a1 a2 a3 a4} (h : Same F s0 s)
    (qregs : F .regs = false) : Same F s0 (pwrResult a0 a1 a2 a3 a4 s) := by
  unfold pwrResult
  repeat' first
    | with_reducible assumption
    | (extract_lets +onlyGivenNames x; refine Same.cut (F := F) (a := s0) (x := x) ?_ (fun hx => ?_); (on_goal 1 => (unfold x; clear x)); (on_goal 2 => clear_value x))
    | with_reducible apply fset_same

theorem pwrAccept_same {F : Part → Bool} {s0 s : State} {a0} (h : Same F s0 s) (qregs : F .regs = false) : Same
    F s0 (pwrAccept a0 s) := by
  unfold pwrAccept
  repeat' first
    | with_reducible assumption
    | with_reducible apply pwrResult_same

theorem pwrRefuse_same {F : Part → Bool} {s0 s : State} {a0 a1 a2 a3 a4} (h : Same F s0 s)
    (qregs : F .regs = false) (qpower : F .power = false) : Same F s0 (pwrRefuse a0 a1 a2 a3 a4 s) := by
  unfold pwrRefuse
  repeat' first
    | with_reducible assumption
    | with_reducible apply pwrResult_same
    | with_reducible apply refRecord_same

theorem execN1Entry_same {F : Part → Bool} {s0 s : State} {a0} (h : Same F s0 s) (qregs : F .regs = false) :
    SameO F s0 (execN1Entry a0 s) := by
  unfold execN1Entry
  repeat' first
    | with_reducible assumption
    | (extract_lets +onlyGivenNames x)
    | with_reducible apply next_same
    | with_reducible apply fset_same
    | split

theorem commandWake_same {F : Part → Bool} {s0 s : State} {a0} (h : Same F s0 s) (qregs : F .regs = false)
    (qnis : F .nis = false) (qpower : F .power = false) : Same F s0 (commandWake a0 s) := by
  unfold commandWake
  repeat' first
    | with_reducible assumption
    | with_reducible apply modNi_same
    | with_reducible apply abortEntry_same
    | with_reducible apply startWake_same
    | split

theorem execNiWake_same {F : Part → Bool} {s0 s : State} {a0} (h : Same F s0 s) (qregs : F .regs = false)
    (qnis : F .nis = false) (qpower : F .power = false) : SameO F s0 (execNiWake a0 s) := by
  unfold execNiWake
  repeat' first
    | with_reducible assumption
    | (extract_lets +onlyGivenNames x)
    | with_reducible apply next_same
    | with_reducible apply pwrRefuse_same
    | with_reducible apply commandWake_same
    | with_reducible apply pwrAccept_same
    | split

theorem sleepForbidden_same {F : Part → Bool} {s0 s : State} {a0} (h : Same F s0 s) (qregs : F .regs = false)
    (qnis : F .nis = false) (qpower : F .power = false) : Same F s0 (sleepForbidden a0 s) := by
  unfold sleepForbidden
  repeat' first
    | with_reducible assumption
    | with_reducible apply commandWake_same
    | with_reducible apply startWake_same
    | with_reducible apply onlyIf_same
    | with_reducible apply modNi_same
    | intro _ _
    | split

theorem execSleepOk_same {F : Part → Bool} {s0 s : State} {a0} (h : Same F s0 s) (qregs : F .regs = false)
    (qnis : F .nis = false) (qpower : F .power = false) : SameO F s0 (execSleepOk a0 s) := by
  unfold execSleepOk
  repeat' first
    | with_reducible assumption
    | (extract_lets +onlyGivenNames x; refine Same.cut (F := F) (a := s0) (x := x) ?_ (fun hx => ?_); (on_goal 1 => (unfold x; clear x)); (on_goal 2 => clear_value x))
    | (extract_lets +onlyGivenNames x)
    | with_reducible apply next_same
    | with_reducible apply fsetB_same
    | with_reducible apply errReserved_same
    | with_reducible apply fset_same
    | with_reducible apply refRecord_same
    | with_reducible apply modNi_same
    | with_reducible apply sleepForbidden_same
    | split

theorem execNiSleep_same {F : Part → Bool} {s0 s : State} {a0} (h : Same F s0 s) (qregs : F .regs = false)
    (qnis : F .nis = false) (qpower : F .power = false) : SameO F s0 (execNiSleep a0 s) := by
  unfold execNiSleep
  repeat' first
    | with_reducible assumption
    | with_reducible apply next_same
    | with_reducible apply pwrRefuse_same
    | with_reducible apply startEntry_same
    | with_reducible apply pwrAccept_same
    | split

theorem execNiDrained_same {F : Part → Bool} {s0 s : State} {a0} (h : Same F s0 s) (qnis : F .nis = false) :
    SameO F s0 (execNiDrained a0 s) := by
  unfold execNiDrained
  repeat' first
    | with_reducible assumption
    | (extract_lets +onlyGivenNames x)
    | with_reducible apply next_same
    | with_reducible apply onlyIf_same
    | with_reducible apply goE3_same
    | intro _ _
    | split

theorem execAckTimeout_same {F : Part → Bool} {s0 s : State} {a0} (h : Same F s0 s) (qregs : F .regs = false)
    (qnis : F .nis = false) (qpower : F .power = false) : SameO F s0 (execAckTimeout a0 s) := by
  unfold execAckTimeout
  repeat' first
    | with_reducible assumption
    | (extract_lets +onlyGivenNames x)
    | with_reducible apply next_same
    | with_reducible apply onlyIf_same
    | with_reducible apply abortEntry_same
    | intro _ _
    | split

theorem execDrainTimeout_same {F : Part → Bool} {s0 s : State} {a0} (h : Same F s0 s) (qregs : F .regs = false)
    (qnis : F .nis = false) (qpower : F .power = false) : SameO F s0 (execDrainTimeout a0 s) := by
  unfold execDrainTimeout
  repeat' first
    | with_reducible assumption
    | (extract_lets +onlyGivenNames x)
    | with_reducible apply next_same
    | with_reducible apply onlyIf_same
    | with_reducible apply abortEntry_same
    | intro _ _
    | split

theorem execFlushAck_same {F : Part → Bool} {s0 s : State} {a0} (h : Same F s0 s) (qnis : F .nis = false)
    (qledger : F .ledger = false) : SameO F s0 (execFlushAck a0 s) := by
  unfold execFlushAck
  repeat' first
    | with_reducible assumption
    | (extract_lets +onlyGivenNames x)
    | with_reducible apply next_same
    | with_reducible apply endFlush_same
    | with_reducible apply modNi_same
    | with_reducible apply addFlush_same
    | split

theorem execFlushTimeout_same {F : Part → Bool} {s0 s : State} {a0} (h : Same F s0 s) (qregs : F .regs = false)
    (qnis : F .nis = false) (qledger : F .ledger = false) : SameO F s0 (execFlushTimeout a0 s) := by
  unfold execFlushTimeout
  repeat' first
    | with_reducible assumption
    | (extract_lets +onlyGivenNames x)
    | with_reducible apply next_same
    | with_reducible apply endFlush_same
    | with_reducible apply fileGap_same
    | with_reducible apply modNi_same
    | split

theorem execImageCrcStored_same {F : Part → Bool} {s0 s : State} {a0 a2} (h : Same F s0 s)
    (qregs : F .regs = false) (qstaged : F .staged = false) (qnis : F .nis = false)
    (qrsvRun : F .rsvRun = false) (qrsvWait : F .rsvWait = false) : SameO F s0 (execImageCrcStored a0 s a2) := by
  unfold execImageCrcStored
  repeat' first
    | with_reducible assumption
    | (extract_lets +onlyGivenNames x)
    | with_reducible apply next_same
    | with_reducible apply onlyIf_same
    | with_reducible apply loseConfig_same
    | with_reducible apply modNi_same
    | with_reducible apply foldl_same
    | (with_reducible apply mk_same; with_reducible assumption; all_goals first | exact Or.inr (by assumption) | exact Or.inl (by with_reducible rfl))
    | intro _ _ _
    | intro _ _
    | intro _
    | split

theorem execN2Entered_same {F : Part → Bool} {s0 s : State} {a0} (h : Same F s0 s) (qregs : F .regs = false)
    (qchans : F .chans = false) (qnis : F .nis = false) : SameO F s0 (execN2Entered a0 s) := by
  unfold execN2Entered
  repeat' first
    | with_reducible assumption
    | (extract_lets +onlyGivenNames x; refine Same.cut (F := F) (a := s0) (x := x) ?_ (fun hx => ?_); (on_goal 1 => (unfold x; clear x)); (on_goal 2 => clear_value x))
    | (extract_lets +onlyGivenNames x)
    | with_reducible apply next_same
    | with_reducible apply fset_same
    | with_reducible apply flag_same
    | with_reducible apply modNi_same
    | with_reducible apply exportGates_same
    | with_reducible apply switchOff_same
    | with_reducible apply onlyIf_same
    | with_reducible apply startWake_same
    | intro _ _
    | split

theorem execNiSupplyGood_same {F : Part → Bool} {s0 s : State} {a0} (h : Same F s0 s) (qregs : F .regs = false)
    (qstaged : F .staged = false) (qnis : F .nis = false) : SameO F s0 (execNiSupplyGood a0 s) := by
  unfold execNiSupplyGood
  repeat' first
    | with_reducible assumption
    | (extract_lets +onlyGivenNames x)
    | with_reducible apply next_same
    | with_reducible apply onlyIf_same
    | with_reducible apply powerOnRegs_same
    | with_reducible apply modNi_same
    | intro _ _
    | split

theorem execImageRestore_same {F : Part → Bool} {s0 s : State} {a0 a1 a3} (h : Same F s0 s)
    (qregs : F .regs = false) (qstaged : F .staged = false) (qchans : F .chans = false) (qnis : F .nis = false)
    (qrsvRun : F .rsvRun = false) (qrsvWait : F .rsvWait = false) : SameO F s0 (execImageRestore a0 a1 s a3) := by
  unfold execImageRestore
  repeat' first
    | with_reducible assumption
    | (extract_lets +onlyGivenNames x; refine Same.cut (F := F) (a := s0) (x := x) ?_ (fun hx => ?_); (on_goal 1 => (unfold x; clear x)); (on_goal 2 => clear_value x))
    | (extract_lets +onlyGivenNames x)
    | with_reducible apply next_same
    | with_reducible apply modNi_same
    | with_reducible apply teiRestart_same
    | with_reducible apply onlyIf_same
    | with_reducible apply loseConfig_same
    | with_reducible apply foldl_same
    | intro _ _ _
    | intro _ _
    | intro _
    | split

theorem execWakeLinkUp_same {F : Part → Bool} {s0 s : State} {a0} (h : Same F s0 s) (qregs : F .regs = false)
    (qstaged : F .staged = false) (qchans : F .chans = false) (qnis : F .nis = false)
    (qerrLog : F .errLog = false) : SameO F s0 (execWakeLinkUp a0 s) := by
  unfold execWakeLinkUp
  repeat' first
    | with_reducible assumption
    | (extract_lets +onlyGivenNames x)
    | with_reducible apply next_same
    | with_reducible apply onlyIf_same
    | with_reducible apply finishWake_same
    | with_reducible apply modNi_same
    | with_reducible apply foldl_same
    | intro _ _ _
    | intro _ _
    | intro _
    | split

theorem execWakeTimeout_same {F : Part → Bool} {s0 s : State} {a0} (h : Same F s0 s) (qregs : F .regs = false)
    (qchans : F .chans = false) (qrouters : F .routers = false) (qnis : F .nis = false)
    (qlookups : F .lookups = false) (qunsure : F .unsure = false) (qrsvRun : F .rsvRun = false)
    (qrsvWait : F .rsvWait = false) (qerrLog : F .errLog = false) (qpower : F .power = false)
    (qstrip : F .strip = false) : SameO F s0 (execWakeTimeout a0 s) := by
  unfold execWakeTimeout
  repeat' first
    | with_reducible assumption
    | (extract_lets +onlyGivenNames x)
    | with_reducible apply next_same
    | with_reducible apply onlyIf_same
    | with_reducible apply failWake_same
    | intro _ _
    | split

theorem execConfigValid_same {F : Part → Bool} {s0 s : State} (h : Same F s0 s) (qregs : F .regs = false)
    (qchans : F .chans = false) (qnis : F .nis = false) : SameO F s0 (execConfigValid s) := by
  unfold execConfigValid
  repeat' first
    | with_reducible assumption
    | (extract_lets +onlyGivenNames x; refine Same.cut (F := F) (a := s0) (x := x) ?_ (fun hx => ?_); (on_goal 1 => (unfold x; clear x)); (on_goal 2 => clear_value x))
    | (extract_lets +onlyGivenNames x)
    | with_reducible apply next_same
    | with_reducible apply fset_same
    | with_reducible apply modNi_same
    | with_reducible apply onlyIf_same
    | with_reducible apply teiRestart_same
    | intro _ _
    | split

theorem execFabSleep_same {F : Part → Bool} {s0 s : State} (h : Same F s0 s) (qregs : F .regs = false)
    (qnis : F .nis = false) (qpower : F .power = false) : SameO F s0 (execFabSleep s) := by
  unfold execFabSleep
  repeat' first
    | with_reducible assumption
    | (extract_lets +onlyGivenNames x; refine Same.cut (F := F) (a := s0) (x := x) ?_ (fun hx => ?_); (on_goal 1 => (unfold x; clear x)); (on_goal 2 => clear_value x))
    | with_reducible apply next_same
    | with_reducible apply pwrRefuse_same
    | with_reducible apply modPower_same
    | with_reducible apply fset_same
    | with_reducible apply pwrAccept_same
    | with_reducible apply forEach_same
    | with_reducible apply startEntry_same
    | intro _ _ _
    | split

theorem execF3NoReturn_same {F : Part → Bool} {s0 s : State} (h : Same F s0 s) (qnis : F .nis = false)
    (qpower : F .power = false) : SameO F s0 (execF3NoReturn s) := by
  unfold execF3NoReturn
  repeat' first
    | with_reducible assumption
    | (extract_lets +onlyGivenNames x)
    | with_reducible apply next_same
    | with_reducible apply forEach_same
    | with_reducible apply modNi_same
    | with_reducible apply modPower_same
    | intro _ _ _
    | split

theorem execF3Entered_same {F : Part → Bool} {s0 s : State} {a1} (h : Same F s0 s) (qregs : F .regs = false)
    (qstaged : F .staged = false) (qchans : F .chans = false) (qrouters : F .routers = false)
    (qrt : F .rt = false) (qrtImg : F .rtImg = false) (qnis : F .nis = false) (qtime : F .time = false)
    (qartCmd : F .artCmd = false) (qartWait : F .artWait = false) (qfaults : F .faults = false)
    (qunsure : F .unsure = false) (qrsvRun : F .rsvRun = false) (qrsvWait : F .rsvWait = false)
    (qpower : F .power = false) : SameO F s0 (execF3Entered s a1) := by
  unfold execF3Entered
  repeat' first
    | with_reducible assumption
    | (extract_lets +onlyGivenNames x; refine Same.cut (F := F) (a := s0) (x := x) ?_ (fun hx => ?_); (on_goal 1 => (unfold x; clear x)); (on_goal 2 => clear_value x))
    | (extract_lets +onlyGivenNames x)
    | with_reducible apply next_same
    | with_reducible apply forEach_same
    | with_reducible apply failBank_same
    | with_reducible apply modNi_same
    | with_reducible apply modPower_same
    | with_reducible apply fset_same
    | with_reducible apply flag_same
    | with_reducible apply onlyIf_same
    | with_reducible apply startF3Wake_same
    | with_reducible apply foldl_same
    | (with_reducible apply mk_same; with_reducible assumption; all_goals first | exact Or.inr (by assumption) | exact Or.inl (by with_reducible rfl))
    | intro _ _ _
    | intro _ _
    | intro _
    | split

theorem execFabWake_same {F : Part → Bool} {s0 s : State} (h : Same F s0 s) (qregs : F .regs = false)
    (qnis : F .nis = false) (qpower : F .power = false) : SameO F s0 (execFabWake s) := by
  unfold execFabWake
  repeat' first
    | with_reducible assumption
    | (extract_lets +onlyGivenNames x; refine Same.cut (F := F) (a := s0) (x := x) ?_ (fun hx => ?_); (on_goal 1 => (unfold x; clear x)); (on_goal 2 => clear_value x))
    | with_reducible apply next_same
    | with_reducible apply pwrAccept_same
    | with_reducible apply modPower_same
    | with_reducible apply abortF3_same
    | with_reducible apply startF3Wake_same
    | split

theorem execF3PowerGood_same {F : Part → Bool} {s0 s : State} {a0 a2} (h : Same F s0 s)
    (qregs : F .regs = false) (qstaged : F .staged = false) (qchans : F .chans = false)
    (qrouters : F .routers = false) (qrt : F .rt = false) (qrtImg : F .rtImg = false) (qnis : F .nis = false)
    (qtime : F .time = false) (qartCmd : F .artCmd = false) (qartWait : F .artWait = false)
    (qfaults : F .faults = false) (qunsure : F .unsure = false) (qrsvRun : F .rsvRun = false)
    (qrsvWait : F .rsvWait = false) (qpower : F .power = false) : SameO F s0 (execF3PowerGood a0 s a2) := by
  unfold execF3PowerGood
  repeat' first
    | with_reducible assumption
    | (extract_lets +onlyGivenNames x; refine Same.cut (F := F) (a := s0) (x := x) ?_ (fun hx => ?_); (on_goal 1 => (unfold x; clear x)); (on_goal 2 => clear_value x))
    | (extract_lets +onlyGivenNames x)
    | with_reducible apply next_same
    | with_reducible apply modPower_same
    | with_reducible apply forEach_same
    | with_reducible apply clearFields_same
    | with_reducible apply failBank_same
    | with_reducible apply startWake_same
    | with_reducible apply foldl_same
    | (with_reducible apply mk_same; with_reducible assumption; all_goals first | exact Or.inr (by assumption) | exact Or.inl (by with_reducible rfl))
    | intro _ _ _
    | intro _
    | split

theorem execF3WakeDone_same {F : Part → Bool} {s0 s : State} (h : Same F s0 s) (qregs : F .regs = false)
    (qnis : F .nis = false) : SameO F s0 (execF3WakeDone s) := by
  unfold execF3WakeDone
  repeat' first
    | with_reducible assumption
    | (extract_lets +onlyGivenNames x; refine Same.cut (F := F) (a := s0) (x := x) ?_ (fun hx => ?_); (on_goal 1 => (unfold x; clear x)); (on_goal 2 => clear_value x))
    | with_reducible apply next_same
    | with_reducible apply flag_same
    | with_reducible apply fset_same
    | with_reducible apply forEach_same
    | with_reducible apply startWake_same
    | intro _ _ _
    | split

theorem modStrip_same {F : Part → Bool} {s0 s : State} {f} (h : Same F s0 s) (qstrip : F .strip = false) : Same
    F s0 (modStrip f s) := by
  unfold modStrip; apply mk_same h <;> first | exact Or.inr (by assumption) | exact Or.inl rfl

theorem setPhase_same {F : Part → Bool} {s0 s : State} {a0} (h : Same F s0 s) (qregs : F .regs = false) : Same
    F s0 (setPhase a0 s) := by
  unfold setPhase
  repeat' first
    | with_reducible assumption
    | with_reducible apply fset_same

theorem rearmStrip_same {F : Part → Bool} {s0 s : State} {a0} (h : Same F s0 s) (qtime : F .time = false) :
    Same F s0 (rearmStrip a0 s) := by
  unfold rearmStrip
  repeat' first
    | with_reducible assumption
    | (extract_lets +onlyGivenNames x)
    | (with_reducible apply mk_same; with_reducible assumption; all_goals first | exact Or.inr (by assumption) | exact Or.inl (by with_reducible rfl))
    | split

theorem moveNext_same {F : Part → Bool} {s0 s : State} {a0 a1} (h : Same F s0 s) (qregs : F .regs = false) :
    Same F s0 (moveNext a0 a1 s) := by
  unfold moveNext
  repeat' first
    | with_reducible assumption
    | (extract_lets +onlyGivenNames x; refine Same.cut (F := F) (a := s0) (x := x) ?_ (fun hx => ?_); (on_goal 1 => (unfold x; clear x)); (on_goal 2 => clear_value x))
    | with_reducible apply fset_same
    | with_reducible apply onlyIf_same
    | with_reducible apply flag_same
    | with_reducible apply satAdd_same
    | intro _ _

theorem advanceNext_same {F : Part → Bool} {s0 s : State} {a0} (h : Same F s0 s) (qregs : F .regs = false) :
    Same F s0 (advanceNext a0 s) := by
  unfold advanceNext
  repeat' first
    | with_reducible assumption
    | with_reducible apply moveNext_same
    | split

theorem logSlice_same {F : Part → Bool} {s0 s : State} {a0 a1 a2 a3} (h : Same F s0 s)
    (qregs : F .regs = false) (qstrip : F .strip = false) : Same F s0 (logSlice a0 a1 a2 a3 s) := by
  unfold logSlice
  repeat' first
    | with_reducible assumption
    | with_reducible apply satAdd_same
    | with_reducible apply modStrip_same
    | split

theorem execTsLogPop_same {F : Part → Bool} {s0 s : State} (h : Same F s0 s) (qstrip : F .strip = false) :
    SameO F s0 (execTsLogPop s) := by
  unfold execTsLogPop
  repeat' first
    | with_reducible assumption
    | with_reducible apply next_same
    | with_reducible apply modStrip_same

theorem endPrepare_same {F : Part → Bool} {s0 s : State} (h : Same F s0 s) (qnis : F .nis = false)
    (qstrip : F .strip = false) : Same F s0 (endPrepare s) := by
  unfold endPrepare
  repeat' first
    | with_reducible assumption
    | with_reducible apply modStrip_same
    | with_reducible apply modNi_same
    | split

theorem endHold_same {F : Part → Bool} {s0 s : State} (h : Same F s0 s) (qstrip : F .strip = false) : Same F s0
    (endHold s) := by
  unfold endHold
  repeat' first
    | with_reducible assumption
    | with_reducible apply modStrip_same

theorem skipSlice_same {F : Part → Bool} {s0 s : State} {a0 a1} (h : Same F s0 s) (qregs : F .regs = false)
    (qnis : F .nis = false) (qstrip : F .strip = false) : Same F s0 (skipSlice a0 a1 s) := by
  unfold skipSlice
  repeat' first
    | with_reducible assumption
    | (extract_lets +onlyGivenNames x; refine Same.cut (F := F) (a := s0) (x := x) ?_ (fun hx => ?_); (on_goal 1 => (unfold x; clear x)); (on_goal 2 => clear_value x))
    | with_reducible apply endPrepare_same
    | with_reducible apply setPhase_same
    | with_reducible apply modStrip_same
    | with_reducible apply onlyIf_same
    | with_reducible apply endHold_same
    | with_reducible apply flag_same
    | with_reducible apply satAdd_same
    | with_reducible apply logSlice_same
    | with_reducible apply advanceNext_same
    | intro _ _
    | split

theorem raiseHold_same {F : Part → Bool} {s0 s : State} {a0} (h : Same F s0 s) (qnis : F .nis = false) : Same F
    s0 (raiseHold a0 s) := by
  unfold raiseHold
  repeat' first
    | with_reducible assumption
    | with_reducible apply modNi_same
    | split

theorem execSlicePrepare_same {F : Part → Bool} {s0 s : State} (h : Same F s0 s) (qnis : F .nis = false)
    (qstrip : F .strip = false) : SameO F s0 (execSlicePrepare s) := by
  unfold execSlicePrepare
  repeat' first
    | with_reducible assumption
    | with_reducible apply next_same
    | with_reducible apply raiseHold_same
    | with_reducible apply modNi_same
    | with_reducible apply modStrip_same
    | split

theorem startHold_same {F : Part → Bool} {s0 s : State} {a0 a1} (h : Same F s0 s) (qstrip : F .strip = false) :
    Same F s0 (startHold a0 a1 s) := by
  unfold startHold
  repeat' first
    | with_reducible assumption
    | with_reducible apply modStrip_same
    | split

theorem passOver_same {F : Part → Bool} {s0 s : State} {a0} (h : Same F s0 s) (qregs : F .regs = false) : Same
    F s0 (passOver a0 s) := by
  unfold passOver
  repeat' first
    | with_reducible assumption
    | (extract_lets +onlyGivenNames x)
    | with_reducible apply moveNext_same
    | split

theorem openWindow_same {F : Part → Bool} {s0 s : State} {a0} (h : Same F s0 s) (qregs : F .regs = false)
    (qnis : F .nis = false) (qstrip : F .strip = false) : Same F s0 (openWindow a0 s) := by
  unfold openWindow
  repeat' first
    | with_reducible assumption
    | (extract_lets +onlyGivenNames x; refine Same.cut (F := F) (a := s0) (x := x) ?_ (fun hx => ?_); (on_goal 1 => (unfold x; clear x)); (on_goal 2 => clear_value x))
    | (extract_lets +onlyGivenNames x; clear_value x)
    | with_reducible apply modStrip_same
    | with_reducible apply fset_same
    | with_reducible apply onlyIf_same
    | with_reducible apply flag_same
    | with_reducible apply startHold_same
    | with_reducible apply passOver_same
    | with_reducible apply endPrepare_same
    | with_reducible apply skipSlice_same
    | with_reducible apply setPhase_same
    | intro _ _
    | split

theorem execStripWindow_same {F : Part → Bool} {s0 s : State} (h : Same F s0 s) (qregs : F .regs = false)
    (qnis : F .nis = false) (qtime : F .time = false) (qstrip : F .strip = false) : SameO F s0
    (execStripWindow s) := by
  unfold execStripWindow
  repeat' first
    | with_reducible assumption
    | (extract_lets +onlyGivenNames x; refine Same.cut (F := F) (a := s0) (x := x) ?_ (fun hx => ?_); (on_goal 1 => (unfold x; clear x)); (on_goal 2 => clear_value x))
    | (extract_lets +onlyGivenNames x)
    | with_reducible apply next_same
    | with_reducible apply logFiring_same
    | with_reducible apply onlyIf_same
    | with_reducible apply endPrepare_same
    | with_reducible apply openWindow_same
    | (with_reducible apply mk_same; with_reducible assumption; all_goals first | exact Or.inr (by assumption) | exact Or.inl (by with_reducible rfl))
    | intro _ _
    | split

theorem execWindowClose_same {F : Part → Bool} {s0 s : State} (h : Same F s0 s) (qregs : F .regs = false)
    (qnis : F .nis = false) (qstrip : F .strip = false) : SameO F s0 (execWindowClose s) := by
  unfold execWindowClose
  repeat' first
    | with_reducible assumption
    | (extract_lets +onlyGivenNames x; refine Same.cut (F := F) (a := s0) (x := x) ?_ (fun hx => ?_); (on_goal 1 => (unfold x; clear x)); (on_goal 2 => clear_value x))
    | with_reducible apply next_same
    | with_reducible apply fset_same
    | with_reducible apply endHold_same
    | with_reducible apply endPrepare_same
    | with_reducible apply skipSlice_same
    | with_reducible apply flag_same
    | with_reducible apply modStrip_same
    | split

theorem trainLink_same {F : Part → Bool} {s0 s : State} {a0} (h : Same F s0 s) (qregs : F .regs = false)
    (qchans : F .chans = false) : Same F s0 (trainLink a0 s) := by
  unfold trainLink
  repeat' first
    | with_reducible assumption
    | with_reducible apply noteLink_same
    | with_reducible apply modChan_same

theorem markTest_same {F : Part → Bool} {s0 s : State} {a0 a1} (h : Same F s0 s)
    (qrouters : F .routers = false) (qnis : F .nis = false) (qstrip : F .strip = false) : Same F s0
    (markTest a0 a1 s) := by
  unfold markTest
  repeat' first
    | with_reducible assumption
    | with_reducible apply modRouter_same
    | with_reducible apply modNi_same
    | with_reducible apply modStrip_same
    | split

theorem noteIdle_same {F : Part → Bool} {s0 s : State} {a0} (h : Same F s0 s) (qnis : F .nis = false) : Same F
    s0 (noteIdle a0 s) := by
  unfold noteIdle
  repeat' first
    | with_reducible assumption
    | with_reducible apply onlyIf_same
    | with_reducible apply modNi_same
    | intro _ _
    | split

theorem saveStatus_same {F : Part → Bool} {s0 s : State} {a0} (h : Same F s0 s) (qstrip : F .strip = false) :
    Same F s0 (saveStatus a0 s) := by
  unfold saveStatus
  repeat' first
    | with_reducible assumption
    | with_reducible apply modStrip_same

theorem writeBack_same {F : Part → Bool} {s0 s : State} {a0} (h : Same F s0 s) (qregs : F .regs = false)
    (qstrip : F .strip = false) : Same F s0 (writeBack a0 s) := by
  unfold writeBack
  repeat' first
    | with_reducible assumption
    | with_reducible apply modStrip_same
    | (with_reducible apply mk_same; with_reducible assumption; all_goals first | exact Or.inr (by assumption) | exact Or.inl (by with_reducible rfl))

theorem clearUnit_same {F : Part → Bool} {s0 s : State} {a0} (h : Same F s0 s) (qnis : F .nis = false) : Same F
    s0 (clearUnit a0 s) := by
  unfold clearUnit
  repeat' first
    | with_reducible assumption
    | with_reducible apply onlyIf_same
    | with_reducible apply staleVerdicts_same
    | intro _ _
    | split

theorem execSliceTest_same {F : Part → Bool} {s0 s : State} {a1} (h : Same F s0 s) (qregs : F .regs = false)
    (qchans : F .chans = false) (qrouters : F .routers = false) (qnis : F .nis = false)
    (qstrip : F .strip = false) : SameO F s0 (execSliceTest s a1) := by
  unfold execSliceTest
  repeat' first
    | with_reducible assumption
    | (extract_lets +onlyGivenNames x; refine Same.cut (F := F) (a := s0) (x := x) ?_ (fun hx => ?_); (on_goal 1 => (unfold x; clear x)); (on_goal 2 => clear_value x))
    | (extract_lets +onlyGivenNames x)
    | with_reducible apply next_same
    | with_reducible apply noteIdle_same
    | with_reducible apply clearUnit_same
    | with_reducible apply saveStatus_same
    | with_reducible apply setPhase_same
    | with_reducible apply modStrip_same
    | with_reducible apply forEach_same
    | with_reducible apply trainLink_same
    | with_reducible apply markTest_same
    | with_reducible apply foldl_same
    | intro _ _ _
    | intro _
    | split

theorem execQuietTimeout_same {F : Part → Bool} {s0 s : State} {a1} (h : Same F s0 s) (qregs : F .regs = false)
    (qnis : F .nis = false) (qstrip : F .strip = false) : SameO F s0 (execQuietTimeout s a1) := by
  unfold execQuietTimeout
  repeat' first
    | with_reducible assumption
    | (extract_lets +onlyGivenNames x; refine Same.cut (F := F) (a := s0) (x := x) ?_ (fun hx => ?_); (on_goal 1 => (unfold x; clear x)); (on_goal 2 => clear_value x))
    | (extract_lets +onlyGivenNames x)
    | with_reducible apply next_same
    | with_reducible apply noteIdle_same
    | with_reducible apply skipSlice_same
    | with_reducible apply foldl_same
    | intro _
    | split

theorem execTestEnd_same {F : Part → Bool} {s0 s : State} {a0} (h : Same F s0 s) (qregs : F .regs = false)
    (qstrip : F .strip = false) : SameO F s0 (execTestEnd a0 s) := by
  unfold execTestEnd
  repeat' first
    | with_reducible assumption
    | with_reducible apply next_same
    | with_reducible apply satAdd_same
    | with_reducible apply modStrip_same
    | with_reducible apply onlyIf_same
    | with_reducible apply fset_same
    | with_reducible apply setPhase_same
    | intro _ _
    | split

theorem restoreNi_same {F : Part → Bool} {s0 s : State} {a0 a1} (h : Same F s0 s) (qregs : F .regs = false)
    (qstaged : F .staged = false) (qnis : F .nis = false) : Same F s0 (restoreNi a0 a1 s) := by
  unfold restoreNi
  repeat' first
    | with_reducible assumption
    | (extract_lets +onlyGivenNames x; refine Same.cut (F := F) (a := s0) (x := x) ?_ (fun hx => ?_); (on_goal 1 => (unfold x; clear x)); (on_goal 2 => clear_value x))
    | with_reducible apply onlyIf_same
    | with_reducible apply modNi_same
    | with_reducible apply staleVerdicts_same
    | with_reducible apply wakeShapers_same
    | with_reducible apply clearFields_same
    | intro _ _
    | split

theorem loseImage_same {F : Part → Bool} {s0 s : State} {a0} (h : Same F s0 s) (qregs : F .regs = false)
    (qstaged : F .staged = false) (qchans : F .chans = false) (qnis : F .nis = false)
    (qlookups : F .lookups = false) (qrsvRun : F .rsvRun = false) (qrsvWait : F .rsvWait = false)
    (qerrLog : F .errLog = false) : Same F s0 (loseImage a0 s) := by
  unfold loseImage
  repeat' first
    | with_reducible assumption
    | (extract_lets +onlyGivenNames x; refine Same.cut (F := F) (a := s0) (x := x) ?_ (fun hx => ?_); (on_goal 1 => (unfold x; clear x)); (on_goal 2 => clear_value x))
    | (extract_lets +onlyGivenNames x)
    | with_reducible apply loseConfig_same
    | with_reducible apply onlyIf_same
    | with_reducible apply abandonTei_same
    | with_reducible apply foldl_same
    | intro _ _ _
    | intro _ _

theorem moveList_same {F : Part → Bool} {s0 s : State} {a0} (h : Same F s0 s) (qregs : F .regs = false)
    (qstaged : F .staged = false) (qnis : F .nis = false) : Same F s0 (moveList a0 s) := by
  unfold moveList
  repeat' first
    | with_reducible assumption
    | (extract_lets +onlyGivenNames x)
    | with_reducible apply onlyIf_same
    | with_reducible apply takeOver_same
    | with_reducible apply foldl_same
    | intro _ _ _
    | intro _ _

theorem reloadRt_same {F : Part → Bool} {s0 s : State} {a0} (h : Same F s0 s) (qrt : F .rt = false) : Same F s0
    (reloadRt a0 s) := by
  unfold reloadRt
  repeat' first
    | with_reducible assumption
    | (with_reducible apply mk_same; with_reducible assumption; all_goals first | exact Or.inr (by assumption) | exact Or.inl (by with_reducible rfl))

theorem resultFlags_same {F : Part → Bool} {s0 s : State} {a0 a1} (h : Same F s0 s) (qregs : F .regs = false)
    (qchans : F .chans = false) (qrouters : F .routers = false) (qnis : F .nis = false)
    (qlookups : F .lookups = false) (qunsure : F .unsure = false) (qrsvRun : F .rsvRun = false)
    (qrsvWait : F .rsvWait = false) (qerrLog : F .errLog = false) (qpower : F .power = false)
    (qstrip : F .strip = false) : Same F s0 (resultFlags a0 a1 s) := by
  unfold resultFlags
  repeat' first
    | with_reducible assumption
    | (extract_lets +onlyGivenNames x; refine Same.cut (F := F) (a := s0) (x := x) ?_ (fun hx => ?_); (on_goal 1 => (unfold x; clear x)); (on_goal 2 => clear_value x))
    | with_reducible apply onlyIf_same
    | with_reducible apply flag_same
    | with_reducible apply satAdd_same
    | with_reducible apply enterDown_same
    | intro _ _
    | split

theorem strikeDeferred_same {F : Part → Bool} {s0 s : State} {a0} (h : Same F s0 s) (qregs : F .regs = false)
    (qchans : F .chans = false) (qrouters : F .routers = false) (qnis : F .nis = false)
    (qlookups : F .lookups = false) (qunsure : F .unsure = false) (qrsvRun : F .rsvRun = false)
    (qrsvWait : F .rsvWait = false) (qerrLog : F .errLog = false) (qpower : F .power = false) : Same F s0
    (strikeDeferred a0 s) := by
  unfold strikeDeferred
  repeat' first
    | with_reducible assumption
    | (extract_lets +onlyGivenNames x)
    | with_reducible apply isolateNow_same
    | with_reducible apply modNi_same
    | split

theorem execSliceDone_same {F : Part → Bool} {s0 s : State} {a1} (h : Same F s0 s) (qregs : F .regs = false)
    (qstaged : F .staged = false) (qchans : F .chans = false) (qrouters : F .routers = false)
    (qrt : F .rt = false) (qrtImg : F .rtImg = false) (qnis : F .nis = false) (qlookups : F .lookups = false)
    (qunsure : F .unsure = false) (qrsvRun : F .rsvRun = false) (qrsvWait : F .rsvWait = false)
    (qerrLog : F .errLog = false) (qpower : F .power = false) (qstrip : F .strip = false) : SameO F s0
    (execSliceDone s a1) := by
  unfold execSliceDone
  repeat' first
    | with_reducible assumption
    | (extract_lets +onlyGivenNames x; refine Same.cut (F := F) (a := s0) (x := x) ?_ (fun hx => ?_); (on_goal 1 => (unfold x; clear x)); (on_goal 2 => clear_value x))
    | (extract_lets +onlyGivenNames x; clear_value x)
    | (extract_lets +onlyGivenNames x)
    | with_reducible apply next_same
    | with_reducible apply markTest_same
    | with_reducible apply setPhase_same
    | with_reducible apply writeBack_same
    | with_reducible apply onlyIf_same
    | with_reducible apply failRoutes_same
    | with_reducible apply reloadRt_same
    | with_reducible apply loseImage_same
    | with_reducible apply moveList_same
    | with_reducible apply restoreNi_same
    | with_reducible apply endPrepare_same
    | with_reducible apply modStrip_same
    | with_reducible apply logSlice_same
    | with_reducible apply flag_same
    | with_reducible apply satAdd_same
    | with_reducible apply advanceNext_same
    | with_reducible apply resultFlags_same
    | with_reducible apply endHold_same
    | with_reducible apply strikeDeferred_same
    | with_reducible apply resumeAll_same
    | with_reducible apply foldl_same
    | intro _ _ _
    | intro _ _
    | intro _
    | split

theorem execBurn_same {F : Part → Bool} {s0 s : State} (h : Same F s0 s) (qregs : F .regs = false)
    (qstrip : F .strip = false) : SameO F s0 (execBurn s) := by
  unfold execBurn
  repeat' first
    | with_reducible assumption
    | (extract_lets +onlyGivenNames x)
    | with_reducible apply next_same
    | with_reducible apply flag_same
    | with_reducible apply modStrip_same
    | split

theorem execFuseDone_same {F : Part → Bool} {s0 s : State} (h : Same F s0 s) (qregs : F .regs = false)
    (qstrip : F .strip = false) (qfuses : F .fuses = false) : SameO F s0 (execFuseDone s) := by
  unfold execFuseDone
  repeat' first
    | with_reducible assumption
    | with_reducible apply next_same
    | with_reducible apply flag_same
    | with_reducible apply modStrip_same
    | (with_reducible apply mk_same; with_reducible assumption; all_goals first | exact Or.inr (by assumption) | exact Or.inl (by with_reducible rfl))
    | split

theorem raiseZeroise_same {F : Part → Bool} {s0 s : State} (h : Same F s0 s) (qnis : F .nis = false) : Same F
    s0 (raiseZeroise s) := by
  unfold raiseZeroise
  repeat' first
    | with_reducible assumption
    | with_reducible apply forEach_same
    | with_reducible apply modNi_same
    | intro _ _ _

theorem noteAcks_same {F : Part → Bool} {s0 s : State} {a0} (h : Same F s0 s) (qnis : F .nis = false) : Same F
    s0 (noteAcks a0 s) := by
  unfold noteAcks
  repeat' first
    | with_reducible assumption
    | with_reducible apply forEach_same
    | with_reducible apply modNi_same
    | intro _ _ _

theorem zeroNi_same {F : Part → Bool} {s0 s : State} {a0} (h : Same F s0 s) (qnis : F .nis = false) : Same F s0
    (zeroNi a0 s) := by
  unfold zeroNi
  repeat' first
    | with_reducible assumption
    | with_reducible apply modNi_same
    | with_reducible apply staleVerdicts_same

theorem execTestMode_same {F : Part → Bool} {s0 s : State} {a1 a2} (h : Same F s0 s) (qpins : F .pins = false)
    (qregs : F .regs = false) (qchans : F .chans = false) (qnis : F .nis = false) (qstrip : F .strip = false)
    (qledger : F .ledger = false) : SameO F s0 (execTestMode s a1 a2) := by
  unfold execTestMode
  repeat' first
    | with_reducible assumption
    | (extract_lets +onlyGivenNames x; refine Same.cut (F := F) (a := s0) (x := x) ?_ (fun hx => ?_); (on_goal 1 => (unfold x; clear x)); (on_goal 2 => clear_value x))
    | (extract_lets +onlyGivenNames x)
    | with_reducible apply next_same
    | with_reducible apply raiseZeroise_same
    | with_reducible apply forEach_same
    | with_reducible apply zeroNi_same
    | with_reducible apply modLedger_same
    | with_reducible apply modStrip_same
    | with_reducible apply flag_same
    | with_reducible apply fset_same
    | with_reducible apply foldl_same
    | (with_reducible apply mk_same; with_reducible assumption; all_goals first | exact Or.inr (by assumption) | exact Or.inl (by with_reducible rfl))
    | intro _ _ _
    | intro _
    | split

theorem execZeroiseWait_same {F : Part → Bool} {s0 s : State} {a1} (h : Same F s0 s) (qregs : F .regs = false)
    (qnis : F .nis = false) : SameO F s0 (execZeroiseWait s a1) := by
  unfold execZeroiseWait
  repeat' first
    | with_reducible assumption
    | (extract_lets +onlyGivenNames x; refine Same.cut (F := F) (a := s0) (x := x) ?_ (fun hx => ?_); (on_goal 1 => (unfold x; clear x)); (on_goal 2 => clear_value x))
    | (extract_lets +onlyGivenNames x)
    | with_reducible apply next_same
    | with_reducible apply noteAcks_same
    | with_reducible apply flag_same
    | with_reducible apply foldl_same
    | intro _
    | split

theorem execScanAllowed_same {F : Part → Bool} {s0 s : State} {a1} (h : Same F s0 s) (qregs : F .regs = false)
    (qnis : F .nis = false) : SameO F s0 (execScanAllowed s a1) := by
  unfold execScanAllowed
  repeat' first
    | with_reducible assumption
    | (extract_lets +onlyGivenNames x; refine Same.cut (F := F) (a := s0) (x := x) ?_ (fun hx => ?_); (on_goal 1 => (unfold x; clear x)); (on_goal 2 => clear_value x))
    | (extract_lets +onlyGivenNames x)
    | with_reducible apply next_same
    | with_reducible apply noteAcks_same
    | with_reducible apply fset_same
    | with_reducible apply foldl_same
    | intro _
    | split

theorem readEffect_same {F : Part → Bool} {s0 s : State} {a0 a1} (h : Same F s0 s) (qregs : F .regs = false)
    (qtime : F .time = false) (qfaults : F .faults = false) (qerrLog : F .errLog = false)
    (qstrip : F .strip = false) : Same F s0 (readEffect a0 a1 s) := by
  unfold readEffect
  repeat' first
    | with_reducible assumption
    | with_reducible apply onlyIf_same
    | with_reducible apply fset_same
    | with_reducible apply artwStep_same
    | with_reducible apply nextOr_same
    | with_reducible apply execErrLogPop_same
    | with_reducible apply execEvtLogPop_same
    | with_reducible apply execFaultRecordPop_same
    | with_reducible apply execTsLogPop_same
    | intro _ _
    | split

theorem setTrans_same {F : Part → Bool} {s0 s : State} {a0} (h : Same F s0 s) (qpower : F .power = false) :
    Same F s0 (setTrans a0 s) := by
  unfold setTrans
  repeat' first
    | with_reducible assumption
    | with_reducible apply modPower_same

theorem endTrans_same {F : Part → Bool} {s0 s : State} {a0} (h : Same F s0 s) (qregs : F .regs = false)
    (qpower : F .power = false) : Same F s0 (endTrans a0 s) := by
  unfold endTrans
  repeat' first
    | with_reducible assumption
    | with_reducible apply flag_same
    | with_reducible apply fset_same
    | with_reducible apply modPower_same

theorem startRamp_same {F : Part → Bool} {s0 s : State} {a0} (h : Same F s0 s) (qpower : F .power = false) :
    Same F s0 (startRamp a0 s) := by
  unfold startRamp
  repeat' first
    | with_reducible assumption
    | with_reducible apply modPower_same

theorem execSetLevel_same {F : Part → Bool} {s0 s : State} {a0} (h : Same F s0 s) (qregs : F .regs = false)
    (qrsvRun : F .rsvRun = false) (qrsvWait : F .rsvWait = false) (qpower : F .power = false) : SameO F s0
    (execSetLevel a0 s) := by
  unfold execSetLevel
  repeat' first
    | with_reducible assumption
    | (extract_lets +onlyGivenNames x; refine Same.cut (F := F) (a := s0) (x := x) ?_ (fun hx => ?_); (on_goal 1 => (unfold x; clear x)); (on_goal 2 => clear_value x))
    | (extract_lets +onlyGivenNames x)
    | with_reducible apply next_same
    | with_reducible apply pwrRefuse_same
    | with_reducible apply pwrAccept_same
    | with_reducible apply fset_same
    | with_reducible apply modPower_same
    | with_reducible apply startRamp_same
    | with_reducible apply queueRecheck_same
    | with_reducible apply setTrans_same
    | split

theorem execLevelRecheckDone_same {F : Part → Bool} {s0 s : State} (h : Same F s0 s)
    (qpower : F .power = false) : SameO F s0 (execLevelRecheckDone s) := by
  unfold execLevelRecheckDone
  repeat' first
    | with_reducible assumption
    | with_reducible apply next_same
    | with_reducible apply onlyIf_same
    | with_reducible apply setTrans_same
    | intro _ _

theorem execPowerGood_same {F : Part → Bool} {s0 s : State} (h : Same F s0 s) (qpower : F .power = false) :
    SameO F s0 (execPowerGood s) := by
  unfold execPowerGood
  repeat' first
    | with_reducible assumption
    | with_reducible apply next_same
    | with_reducible apply onlyIf_same
    | with_reducible apply setTrans_same
    | intro _ _

theorem execFlowHold_same {F : Part → Bool} {s0 s : State} (h : Same F s0 s) (qpower : F .power = false) :
    SameO F s0 (execFlowHold s) := by
  unfold execFlowHold
  repeat' first
    | with_reducible assumption
    | with_reducible apply next_same
    | with_reducible apply onlyIf_same
    | with_reducible apply setTrans_same
    | intro _ _

theorem execPllRelock_same {F : Part → Bool} {s0 s : State} (h : Same F s0 s) (qregs : F .regs = false)
    (qpower : F .power = false) : SameO F s0 (execPllRelock s) := by
  unfold execPllRelock
  repeat' first
    | with_reducible assumption
    | with_reducible apply next_same
    | with_reducible apply endTrans_same
    | with_reducible apply setTrans_same
    | split

theorem execLevelRetrain_same {F : Part → Bool} {s0 s : State} (h : Same F s0 s) (qregs : F .regs = false)
    (qstaged : F .staged = false) (qchans : F .chans = false) (qnis : F .nis = false)
    (qerrLog : F .errLog = false) (qpower : F .power = false) : SameO F s0 (execLevelRetrain s) := by
  unfold execLevelRetrain
  repeat' first
    | with_reducible assumption
    | (extract_lets +onlyGivenNames x; refine Same.cut (F := F) (a := s0) (x := x) ?_ (fun hx => ?_); (on_goal 1 => (unfold x; clear x)); (on_goal 2 => clear_value x))
    | (extract_lets +onlyGivenNames x)
    | with_reducible apply next_same
    | with_reducible apply fset_same
    | with_reducible apply startRamp_same
    | with_reducible apply endTrans_same
    | with_reducible apply resumeAll_same
    | with_reducible apply foldl_same
    | intro _
    | split

theorem execRampDownDone_same {F : Part → Bool} {s0 s : State} (h : Same F s0 s) (qregs : F .regs = false)
    (qpower : F .power = false) : SameO F s0 (execRampDownDone s) := by
  unfold execRampDownDone
  repeat' first
    | with_reducible assumption
    | with_reducible apply next_same
    | with_reducible apply onlyIf_same
    | with_reducible apply endTrans_same
    | intro _ _

theorem execLevelFailed_same {F : Part → Bool} {s0 s : State} (h : Same F s0 s) (qregs : F .regs = false)
    (qpower : F .power = false) : SameO F s0 (execLevelFailed s) := by
  unfold execLevelFailed
  repeat' first
    | with_reducible assumption
    | with_reducible apply next_same
    | with_reducible apply onlyIf_same
    | with_reducible apply endTrans_same
    | intro _ _

theorem noReceipt_same {F : Part → Bool} {s0 s : State} {a0 a1 a2 a3} (h : Same F s0 s)
    (qregs : F .regs = false) (qnis : F .nis = false) (qerrLog : F .errLog = false) : Same F s0
    (noReceipt a0 a1 a2 a3 s) := by
  unfold noReceipt
  repeat' first
    | with_reducible assumption
    | with_reducible apply onlyIf_same
    | with_reducible apply flag_same
    | with_reducible apply modNi_same
    | with_reducible apply errNi_same
    | intro _ _

theorem answerStray_same {F : Part → Bool} {s0 s : State} {a0} (h : Same F s0 s) (qregs : F .regs = false) :
    Same F s0 (answerStray a0 s) := by
  unfold answerStray
  repeat' first
    | with_reducible assumption
    | with_reducible apply flag_same

theorem badResult_same {F : Part → Bool} {s0 s : State} {a0} (h : Same F s0 s) (qregs : F .regs = false) : Same
    F s0 (badResult a0 s) := by
  unfold badResult
  repeat' first
    | with_reducible assumption
    | with_reducible apply flag_same

theorem sendResponse_same {F : Part → Bool} {s0 s : State} {a0 a1 a2 a3 a4} (h : Same F s0 s)
    (qregs : F .regs = false) (qnis : F .nis = false) (qerrLog : F .errLog = false) : Same F s0
    (sendResponse a0 a1 a2 a3 a4 s) := by
  unfold sendResponse
  repeat' first
    | with_reducible assumption
    | (extract_lets +onlyGivenNames x; refine Same.cut (F := F) (a := s0) (x := x) ?_ (fun hx => ?_); (on_goal 1 => (unfold x; clear x)); (on_goal 2 => clear_value x))
    | (extract_lets +onlyGivenNames x)
    | with_reducible apply markAnswered_same
    | with_reducible apply pushBuilt_same
    | with_reducible apply onlyIf_same
    | with_reducible apply badResult_same
    | with_reducible apply errNi_same
    | with_reducible apply pushReady_same
    | with_reducible apply foldl_same
    | intro _ _ _
    | intro _ _
    | intro _
    | split

theorem execTeiResponse_same {F : Part → Bool} {s0 s : State} {a0 a1} (h : Same F s0 s)
    (qregs : F .regs = false) (qnis : F .nis = false) (qerrLog : F .errLog = false) : SameO F s0
    (execTeiResponse a0 a1 s) := by
  unfold execTeiResponse
  repeat' first
    | with_reducible assumption
    | (extract_lets +onlyGivenNames x; refine Same.cut (F := F) (a := s0) (x := x) ?_ (fun hx => ?_); (on_goal 1 => (unfold x; clear x)); (on_goal 2 => clear_value x))
    | (refine submitCheck_pair2 ?_ (by with_reducible assumption) (by with_reducible assumption) (by with_reducible assumption) )
    | (extract_lets +onlyGivenNames x; refine Same.cut (F := F) (a := s0) (x := x.1) ?_ (fun hx => ?_); (on_goal 1 => (unfold x; clear x)); (on_goal 2 => clear_value x))
    | (extract_lets +onlyGivenNames x)
    | with_reducible apply next_same
    | with_reducible apply submitCheck_same
    | with_reducible apply noReceipt_same
    | with_reducible apply sendResponse_same
    | with_reducible apply answerStray_same
    | with_reducible apply modEntry_same
    | split

theorem notServed_same {F : Part → Bool} {s0 s : State} {a0 a1} (h : Same F s0 s) (qregs : F .regs = false)
    (qnis : F .nis = false) (qerrLog : F .errLog = false) : Same F s0 (notServed a0 a1 s) := by
  unfold notServed
  repeat' first
    | with_reducible assumption
    | (extract_lets +onlyGivenNames x; refine Same.cut (F := F) (a := s0) (x := x) ?_ (fun hx => ?_); (on_goal 1 => (unfold x; clear x)); (on_goal 2 => clear_value x))
    | (extract_lets +onlyGivenNames x)
    | with_reducible apply markAnswered_same
    | with_reducible apply badResult_same
    | with_reducible apply pushAnswer_same

theorem placeLeg_same {F : Part → Bool} {s0 s : State} {a0 a1 a2} (h : Same F s0 s) (qregs : F .regs = false)
    (qerrLog : F .errLog = false) : Same F s0 (placeLeg a0 a1 a2 s).2 := by
  unfold placeLeg
  repeat' first
    | with_reducible assumption
    | with_reducible apply flag_same
    | with_reducible apply errNi_same
    | split

theorem placeLeg_pair2 {F : Part → Bool} {s0 s : State} {a0 a1 a2} {d} {t : State} (h : Same F s0 s)
    (qregs : F .regs = false) (qerrLog : F .errLog = false) (e : placeLeg a0 a1 a2 s = (d, t)) : Same F s0 t := by
  have k := placeLeg_same (F := F) (a0 := a0) (a1 := a1) (a2 := a2) h qregs qerrLog
  rw [e] at k; exact k

theorem answerEngine_same {F : Part → Bool} {s0 s : State} {a0 a1 a2 a3} (h : Same F s0 s)
    (qfree : F .free = false) (qregs : F .regs = false) (qnis : F .nis = false) (qlc : F .lc = false)
    (qsmx : F .smx = false) : Same F s0 (answerEngine a0 a1 a2 a3 s) := by
  unfold answerEngine
  repeat' first
    | with_reducible assumption
    | with_reducible apply toFifo_same

theorem relayResult_same {F : Part → Bool} {s0 s : State} {a0 a1 a2 a3} (h : Same F s0 s)
    (qfree : F .free = false) (qregs : F .regs = false) (qnis : F .nis = false) (qerrLog : F .errLog = false)
    (qlc : F .lc = false) (qsmx : F .smx = false) : Same F s0 (relayResult a0 a1 a2 a3 s) := by
  unfold relayResult
  repeat' first
    | with_reducible assumption
    | (extract_lets +onlyGivenNames x; refine Same.cut (F := F) (a := s0) (x := x) ?_ (fun hx => ?_); (on_goal 1 => (unfold x; clear x)); (on_goal 2 => clear_value x))
    | (refine placeLeg_pair2 ?_ (by with_reducible assumption) (by with_reducible assumption) (by with_reducible assumption) )
    | (extract_lets +onlyGivenNames x)
    | with_reducible apply answerServed_same
    | with_reducible apply errNi_same
    | with_reducible apply badResult_same
    | with_reducible apply answerEngine_same
    | with_reducible apply placeLeg_same
    | with_reducible apply modEntry_same
    | with_reducible apply pushReady_same
    | with_reducible apply markAnswered_same
    | split

theorem fetchRefused_same {F : Part → Bool} {s0 s : State} {a0 a1 a2 a3 a4} (h : Same F s0 s)
    (qfree : F .free = false) (qregs : F .regs = false) (qnis : F .nis = false) (qerrLog : F .errLog = false)
    (qlc : F .lc = false) (qsmx : F .smx = false) : Same F s0 (fetchRefused a0 a1 a2 a3 a4 s) := by
  unfold fetchRefused
  repeat' first
    | with_reducible assumption
    | (extract_lets +onlyGivenNames x; refine Same.cut (F := F) (a := s0) (x := x) ?_ (fun hx => ?_); (on_goal 1 => (unfold x; clear x)); (on_goal 2 => clear_value x))
    | (extract_lets +onlyGivenNames x)
    | with_reducible apply noteLateAnswer_same
    | with_reducible apply answerServed_same
    | with_reducible apply answerEngine_same

theorem fetchResult_same {F : Part → Bool} {s0 s : State} {a0 a1 a2 a3} (h : Same F s0 s)
    (qfree : F .free = false) (qregs : F .regs = false) (qnis : F .nis = false) (qerrLog : F .errLog = false)
    (qlc : F .lc = false) (qsmx : F .smx = false) : Same F s0 (fetchResult a0 a1 a2 a3 s) := by
  unfold fetchResult
  repeat' first
    | with_reducible assumption
    | (refine placeLeg_pair2 ?_ (by with_reducible assumption) (by with_reducible assumption) (by with_reducible assumption) )
    | (extract_lets +onlyGivenNames x)
    | with_reducible apply answerServed_same
    | with_reducible apply badResult_same
    | with_reducible apply fetchRefused_same
    | with_reducible apply errNi_same
    | with_reducible apply placeLeg_same
    | with_reducible apply pushReady_same
    | with_reducible apply modEntry_same
    | split

theorem engineResult_same {F : Part → Bool} {s0 s : State} {a0 a1 a2 a3} (h : Same F s0 s)
    (qregs : F .regs = false) (qnis : F .nis = false) (qerrLog : F .errLog = false)
    (hf : ∀ a b t, Same F s0 t → Same F s0 (a3 a b t)): Same F s0 (engineResult a0 a1 a2 a3 s) := by
  unfold engineResult
  repeat' first
    | with_reducible assumption
    | (extract_lets +onlyGivenNames x; refine Same.cut (F := F) (a := s0) (x := x) ?_ (fun hx => ?_); (on_goal 1 => (unfold x; clear x)); (on_goal 2 => clear_value x))
    | (refine submitCheck_pair2 ?_ (by with_reducible assumption) (by with_reducible assumption) (by with_reducible assumption) )
    | (extract_lets +onlyGivenNames x; refine Same.cut (F := F) (a := s0) (x := x.1) ?_ (fun hx => ?_); (on_goal 1 => (unfold x; clear x)); (on_goal 2 => clear_value x))
    | (extract_lets +onlyGivenNames x)
    | with_reducible apply submitCheck_same
    | with_reducible apply noReceipt_same
    | with_reducible apply notServed_same
    | with_reducible apply answerStray_same
    | with_reducible apply hf
    | split

theorem execTeiRelay_same {F : Part → Bool} {s0 s : State} {a0 a1} (h : Same F s0 s) (qfree : F .free = false)
    (qregs : F .regs = false) (qnis : F .nis = false) (qerrLog : F .errLog = false) (qlc : F .lc = false)
    (qsmx : F .smx = false) : SameO F s0 (execTeiRelay a0 a1 s) := by
  unfold execTeiRelay
  repeat' first
    | with_reducible assumption
    | (extract_lets +onlyGivenNames x)
    | with_reducible apply next_same
    | with_reducible apply engineResult_same
    | with_reducible apply relayResult_same
    | intro _
    | split

theorem execTeiFetch_same {F : Part → Bool} {s0 s : State} {a0 a1} (h : Same F s0 s) (qfree : F .free = false)
    (qregs : F .regs = false) (qnis : F .nis = false) (qerrLog : F .errLog = false) (qlc : F .lc = false)
    (qsmx : F .smx = false) : SameO F s0 (execTeiFetch a0 a1 s) := by
  unfold execTeiFetch
  repeat' first
    | with_reducible assumption
    | (extract_lets +onlyGivenNames x)
    | with_reducible apply next_same
    | with_reducible apply engineResult_same
    | with_reducible apply fetchResult_same
    | intro _
    | split

theorem noteLegacy_same {F : Part → Bool} {s0 s : State} {a0} (h : Same F s0 s)
    (qunsureGen : F .unsureGen = false) : Same F s0 (noteLegacy a0 s) := by
  unfold noteLegacy
  repeat' first
    | with_reducible assumption
    | (with_reducible apply mk_same; with_reducible assumption; all_goals first | exact Or.inr (by assumption) | exact Or.inl (by with_reducible rfl))
    | split

theorem execLegacyTimeout_same {F : Part → Bool} {s0 s : State} {a0 a1} (h : Same F s0 s)
    (qfree : F .free = false) (qregs : F .regs = false) (qnis : F .nis = false)
    (qunsureGen : F .unsureGen = false) (qlc : F .lc = false) (qsmx : F .smx = false) : SameO F s0
    (execLegacyTimeout a0 a1 s) := by
  unfold execLegacyTimeout
  repeat' first
    | with_reducible assumption
    | (extract_lets +onlyGivenNames x; refine Same.cut (F := F) (a := s0) (x := x) ?_ (fun hx => ?_); (on_goal 1 => (unfold x; clear x)); (on_goal 2 => clear_value x))
    | (extract_lets +onlyGivenNames x)
    | with_reducible apply next_same
    | with_reducible apply modEntry_same
    | with_reducible apply closeEntry_same
    | with_reducible apply noteLegacy_same
    | with_reducible apply satAdd_same
    | with_reducible apply flag_same
    | with_reducible apply refuseToEp_same
    | split

theorem execSadWrite_same {F : Part → Bool} {s0 s : State} {a0 a1 a2 a3} (h : Same F s0 s)
    (qregs : F .regs = false) (qstaged : F .staged = false) (qstagedNow : F .stagedNow = false) : SameO F s0
    (execSadWrite a0 a1 a2 a3 s) := by
  unfold execSadWrite
  repeat' first
    | with_reducible assumption
    | (extract_lets +onlyGivenNames x)
    | with_reducible apply next_same
    | with_reducible apply errReserved_same
    | with_reducible apply sset_same
    | with_reducible apply foldl_same
    | (with_reducible apply mk_same; with_reducible assumption; all_goals first | exact Or.inr (by assumption) | exact Or.inl (by with_reducible rfl))
    | intro _
    | split

theorem commitShl_same {F : Part → Bool} {s0 s : State} {a0} (h : Same F s0 s) (qregs : F .regs = false)
    (qstaged : F .staged = false) (qnis : F .nis = false) : Same F s0 (commitShl a0 s) := by
  unfold commitShl
  repeat' first
    | with_reducible assumption
    | (extract_lets +onlyGivenNames x; refine Same.cut (F := F) (a := s0) (x := x) ?_ (fun hx => ?_); (on_goal 1 => (unfold x; clear x)); (on_goal 2 => clear_value x))
    | (extract_lets +onlyGivenNames x)
    | with_reducible apply fset_same
    | with_reducible apply mergeStaged_same
    | with_reducible apply modNi_same
    | with_reducible apply onlyIf_same
    | with_reducible apply takeOver_same
    | with_reducible apply foldl_same
    | (with_reducible apply mk_same; with_reducible assumption; all_goals first | exact Or.inr (by assumption) | exact Or.inl (by with_reducible rfl))
    | intro _ _ _
    | intro _ _
    | intro _
    | split

theorem commitPage_same {F : Part → Bool} {s0 s : State} {a0} (h : Same F s0 s) (qregs : F .regs = false)
    (qstaged : F .staged = false) (qnis : F .nis = false) (qtime : F .time = false) : Same F s0
    (commitPage a0 s) := by
  unfold commitPage
  repeat' first
    | with_reducible assumption
    | (extract_lets +onlyGivenNames x; refine Same.cut (F := F) (a := s0) (x := x) ?_ (fun hx => ?_); (on_goal 1 => (unfold x; clear x)); (on_goal 2 => clear_value x))
    | (extract_lets +onlyGivenNames x)
    | with_reducible apply commitShl_same
    | with_reducible apply fset_same
    | with_reducible apply commitDelay_same
    | with_reducible apply mergeStaged_same
    | with_reducible apply rearmStrip_same
    | with_reducible apply staleAll_same
    | with_reducible apply setBankBad_same
    | with_reducible apply wrapAdd_same
    | with_reducible apply onlyIf_same
    | with_reducible apply foldl_same
    | (with_reducible apply mk_same; with_reducible assumption; all_goals first | exact Or.inr (by assumption) | exact Or.inl (by with_reducible rfl))
    | intro _ _ _
    | intro _ _
    | intro _
    | split

theorem softCommit_same {F : Part → Bool} {s0 s : State} {a0} (h : Same F s0 s) (qregs : F .regs = false)
    (qstaged : F .staged = false) (qnis : F .nis = false) (qtime : F .time = false) : Same F s0
    (softCommit a0 s) := by
  unfold softCommit
  repeat' first
    | with_reducible assumption
    | (extract_lets +onlyGivenNames x; refine Same.cut (F := F) (a := s0) (x := x) ?_ (fun hx => ?_); (on_goal 1 => (unfold x; clear x)); (on_goal 2 => clear_value x))
    | (extract_lets +onlyGivenNames x)
    | with_reducible apply modTime_same
    | with_reducible apply commitPage_same
    | with_reducible apply foldl_same
    | intro _
    | split

theorem execCommit_same {F : Part → Bool} {s0 s : State} {a0} (h : Same F s0 s) (qregs : F .regs = false)
    (qstaged : F .staged = false) (qnis : F .nis = false) (qtime : F .time = false) : SameO F s0
    (execCommit a0 s) := by
  unfold execCommit
  repeat' first
    | with_reducible assumption
    | with_reducible apply next_same
    | with_reducible apply softCommit_same
    | split

theorem stageWritten_same {F : Part → Bool} {s0 s : State} {a0 a1 a2} (h : Same F s0 s)
    (qregs : F .regs = false) (qstaged : F .staged = false) (qnis : F .nis = false) : Same F s0
    (stageWritten a0 a1 a2 s) := by
  unfold stageWritten
  repeat' first
    | with_reducible assumption
    | (extract_lets +onlyGivenNames x)
    | with_reducible apply modNi_same
    | with_reducible apply fset_same
    | with_reducible apply stageKey_same
    | with_reducible apply foldl_same
    | intro _
    | split

theorem gcCommit_same {F : Part → Bool} {s0 s : State} {a0} (h : Same F s0 s) (qregs : F .regs = false)
    (qstaged : F .staged = false) (qnis : F .nis = false) (qtime : F .time = false) : Same F s0 (gcCommit a0 s) := by
  unfold gcCommit
  repeat' first
    | with_reducible assumption
    | (extract_lets +onlyGivenNames x; refine Same.cut (F := F) (a := s0) (x := x) ?_ (fun hx => ?_); (on_goal 1 => (unfold x; clear x)); (on_goal 2 => clear_value x))
    | (extract_lets +onlyGivenNames x)
    | with_reducible apply commitPage_same
    | with_reducible apply onlyIf_same
    | with_reducible apply fset_same
    | with_reducible apply forEach_same
    | with_reducible apply stageWritten_same
    | with_reducible apply foldl_same
    | (with_reducible apply mk_same; with_reducible assumption; all_goals first | exact Or.inr (by assumption) | exact Or.inl (by with_reducible rfl))
    | intro _ _ _
    | intro _ _

theorem keepCaches_same {F : Part → Bool} {s0 s : State} {a0} (h : Same F s0 s) (qnis : F .nis = false) : Same
    F s0 (keepCaches a0 s) := by
  unfold keepCaches
  repeat' first
    | with_reducible assumption
    | (extract_lets +onlyGivenNames x)
    | with_reducible apply forEach_same
    | with_reducible apply modNi_same
    | with_reducible apply foldl_same
    | (with_reducible apply mk_same; with_reducible assumption; all_goals first | exact Or.inr (by assumption) | exact Or.inl (by with_reducible rfl))
    | intro _ _ _

theorem restoreCache_same {F : Part → Bool} {s0 s : State} {a0} (h : Same F s0 s) (qnis : F .nis = false) :
    Same F s0 (restoreCache a0 s) := by
  unfold restoreCache
  repeat' first
    | with_reducible assumption
    | (extract_lets +onlyGivenNames x; refine Same.cut (F := F) (a := s0) (x := x) ?_ (fun hx => ?_); (on_goal 1 => (unfold x; clear x)); (on_goal 2 => clear_value x))
    | (extract_lets +onlyGivenNames x)
    | with_reducible apply modNi_same
    | with_reducible apply onlyIf_same
    | with_reducible apply forEach_same
    | with_reducible apply cacheTouch_same
    | with_reducible apply foldl_same
    | (with_reducible apply mk_same; with_reducible assumption; all_goals first | exact Or.inr (by assumption) | exact Or.inl (by with_reducible rfl))
    | intro _ _ _
    | intro _ _
    | intro _
    | split

theorem gcPage_same {F : Part → Bool} {s0 s : State} {a0} (h : Same F s0 s) (qregs : F .regs = false)
    (qstaged : F .staged = false) (qnis : F .nis = false) (qtime : F .time = false) : Same F s0 (gcPage a0 s) := by
  unfold gcPage
  repeat' first
    | with_reducible assumption
    | (extract_lets +onlyGivenNames x; refine Same.cut (F := F) (a := s0) (x := x) ?_ (fun hx => ?_); (on_goal 1 => (unfold x; clear x)); (on_goal 2 => clear_value x))
    | (extract_lets +onlyGivenNames x)
    | with_reducible apply onlyIf_same
    | with_reducible apply keepCaches_same
    | with_reducible apply gcCommit_same
    | with_reducible apply fset_same
    | with_reducible apply modTime_same
    | with_reducible apply foldl_same
    | (with_reducible apply mk_same; with_reducible assumption; all_goals first | exact Or.inr (by assumption) | exact Or.inl (by with_reducible rfl))
    | intro _ _ _
    | intro _ _

theorem joinGc_same {F : Part → Bool} {s0 s : State} {a0} (h : Same F s0 s) (qregs : F .regs = false)
    (qstaged : F .staged = false) (qnis : F .nis = false) (qtime : F .time = false) : Same F s0 (joinGc a0 s) := by
  unfold joinGc
  repeat' first
    | with_reducible assumption
    | with_reducible apply onlyIf_same
    | with_reducible apply gcPage_same
    | with_reducible apply fset_same
    | intro _ _
    | split

theorem undoCommit_same {F : Part → Bool} {s0 s : State} {a0} (h : Same F s0 s) (qregs : F .regs = false)
    (qstaged : F .staged = false) (qnis : F .nis = false) (qtime : F .time = false) : Same F s0
    (undoCommit a0 s) := by
  unfold undoCommit
  repeat' first
    | with_reducible assumption
    | (extract_lets +onlyGivenNames x; refine Same.cut (F := F) (a := s0) (x := x) ?_ (fun hx => ?_); (on_goal 1 => (unfold x; clear x)); (on_goal 2 => clear_value x))
    | (extract_lets +onlyGivenNames x)
    | with_reducible apply modNi_same
    | with_reducible apply modTime_same
    | with_reducible apply forEach_same
    | with_reducible apply restoreCache_same
    | with_reducible apply onlyIf_same
    | with_reducible apply fset_same
    | with_reducible apply stageWritten_same
    | with_reducible apply foldl_same
    | (with_reducible apply mk_same; with_reducible assumption; all_goals first | exact Or.inr (by assumption) | exact Or.inl (by with_reducible rfl))
    | intro _ _ _
    | intro _ _
    | intro _
    | split

theorem leaveGc_same {F : Part → Bool} {s0 s : State} {a0} (h : Same F s0 s) (qregs : F .regs = false)
    (qstaged : F .staged = false) (qnis : F .nis = false) (qtime : F .time = false) : Same F s0 (leaveGc a0 s) := by
  unfold leaveGc
  repeat' first
    | with_reducible assumption
    | (extract_lets +onlyGivenNames x; refine Same.cut (F := F) (a := s0) (x := x) ?_ (fun hx => ?_); (on_goal 1 => (unfold x; clear x)); (on_goal 2 => clear_value x))
    | (extract_lets +onlyGivenNames x)
    | with_reducible apply forEach_same
    | with_reducible apply undoCommit_same
    | with_reducible apply fset_same
    | with_reducible apply modTime_same
    | with_reducible apply foldl_same
    | intro _ _ _

theorem abortPage_same {F : Part → Bool} {s0 s : State} {a0} (h : Same F s0 s) (qregs : F .regs = false)
    (qstaged : F .staged = false) (qstagedNow : F .stagedNow = false) (qnis : F .nis = false) : Same F s0
    (abortPage a0 s) := by
  unfold abortPage
  repeat' first
    | with_reducible assumption
    | (extract_lets +onlyGivenNames x; refine Same.cut (F := F) (a := s0) (x := x) ?_ (fun hx => ?_); (on_goal 1 => (unfold x; clear x)); (on_goal 2 => clear_value x))
    | (extract_lets +onlyGivenNames x)
    | with_reducible apply onlyIf_same
    | with_reducible apply modNi_same
    | with_reducible apply fset_same
    | with_reducible apply foldl_same
    | (with_reducible apply mk_same; with_reducible assumption; all_goals first | exact Or.inr (by assumption) | exact Or.inl (by with_reducible rfl))
    | intro _ _ _
    | intro _ _

theorem execAbort_same {F : Part → Bool} {s0 s : State} {a0} (h : Same F s0 s) (qregs : F .regs = false)
    (qstaged : F .staged = false) (qstagedNow : F .stagedNow = false) (qnis : F .nis = false) : SameO F s0
    (execAbort a0 s) := by
  unfold execAbort
  repeat' first
    | with_reducible assumption
    | (extract_lets +onlyGivenNames x)
    | with_reducible apply next_same
    | with_reducible apply abortPage_same
    | with_reducible apply foldl_same
    | (with_reducible apply mk_same; with_reducible assumption; all_goals first | exact Or.inr (by assumption) | exact Or.inl (by with_reducible rfl))
    | intro _
    | split

theorem noteQuiesced_same {F : Part → Bool} {s0 s : State} {a0} (h : Same F s0 s) (qregs : F .regs = false) :
    Same F s0 (noteQuiesced a0 s) := by
  unfold noteQuiesced
  repeat' first
    | with_reducible assumption
    | with_reducible apply fset_same
    | split

theorem setQuiesce_same {F : Part → Bool} {s0 s : State} {a0 a1 a2} (h : Same F s0 s) (qregs : F .regs = false)
    (qtime : F .time = false) (qrsvRun : F .rsvRun = false) (qrsvWait : F .rsvWait = false)
    (qrsvCfgChg : F .rsvCfgChg = false) (qsmx : F .smx = false) : Same F s0 (setQuiesce a0 a1 a2 s) := by
  unfold setQuiesce
  repeat' first
    | with_reducible assumption
    | (extract_lets +onlyGivenNames x; refine Same.cut (F := F) (a := s0) (x := x) ?_ (fun hx => ?_); (on_goal 1 => (unfold x; clear x)); (on_goal 2 => clear_value x))
    | with_reducible apply fsetB_same
    | with_reducible apply quiesceTime_same
    | with_reducible apply noteQuiesced_same
    | with_reducible apply fset_same
    | with_reducible apply queueRecheck_same
    | (with_reducible apply mk_same; with_reducible assumption; all_goals first | exact Or.inr (by assumption) | exact Or.inl (by with_reducible rfl))
    | split

theorem execQuiesce_same {F : Part → Bool} {s0 s : State} {a0 a1 a2} (h : Same F s0 s)
    (qregs : F .regs = false) (qtime : F .time = false) (qrsvRun : F .rsvRun = false)
    (qrsvWait : F .rsvWait = false) (qrsvCfgChg : F .rsvCfgChg = false) (qsmx : F .smx = false) : SameO F s0
    (execQuiesce a0 a1 a2 s) := by
  unfold execQuiesce
  repeat' first
    | with_reducible assumption
    | with_reducible apply next_same
    | with_reducible apply setQuiesce_same
    | split

theorem execQuiesced_same {F : Part → Bool} {s0 s : State} {a0} (h : Same F s0 s) (qregs : F .regs = false) :
    SameO F s0 (execQuiesced a0 s) := by
  unfold execQuiesced
  repeat' first
    | with_reducible assumption
    | with_reducible apply next_same
    | with_reducible apply noteQuiesced_same
    | split

theorem execGcJoin_same {F : Part → Bool} {s0 s : State} {a0} (h : Same F s0 s) (qregs : F .regs = false)
    (qstaged : F .staged = false) (qnis : F .nis = false) (qtime : F .time = false) : SameO F s0
    (execGcJoin a0 s) := by
  unfold execGcJoin
  repeat' first
    | with_reducible assumption
    | with_reducible apply next_same
    | with_reducible apply joinGc_same
    | split

theorem execGcLeave_same {F : Part → Bool} {s0 s : State} {a0} (h : Same F s0 s) (qregs : F .regs = false)
    (qstaged : F .staged = false) (qnis : F .nis = false) (qtime : F .time = false) : SameO F s0
    (execGcLeave a0 s) := by
  unfold execGcLeave
  repeat' first
    | with_reducible assumption
    | (extract_lets +onlyGivenNames x)
    | with_reducible apply next_same
    | with_reducible apply leaveGc_same
    | with_reducible apply foldl_same
    | intro _
    | split

theorem refuseGc_same {F : Part → Bool} {s0 s : State} {a0} (h : Same F s0 s) (qregs : F .regs = false) : Same
    F s0 (refuseGc a0 s) := by
  unfold refuseGc
  repeat' first
    | with_reducible assumption
    | with_reducible apply irqHold_same
    | with_reducible apply fset_same

theorem armGc_same {F : Part → Bool} {s0 s : State} (h : Same F s0 s) (qregs : F .regs = false)
    (qtime : F .time = false) : Same F s0 (armGc s) := by
  unfold armGc
  repeat' first
    | with_reducible assumption
    | (extract_lets +onlyGivenNames x)
    | with_reducible apply refuseGc_same
    | with_reducible apply markArm_same
    | with_reducible apply modTime_same
    | split

theorem disarmGc_same {F : Part → Bool} {s0 s : State} (h : Same F s0 s) (qtime : F .time = false) : Same F s0
    (disarmGc s) := by
  unfold disarmGc
  repeat' first
    | with_reducible assumption
    | with_reducible apply modTime_same

theorem execGcArm_same {F : Part → Bool} {s0 s : State} (h : Same F s0 s) (qregs : F .regs = false)
    (qtime : F .time = false) : SameO F s0 (execGcArm s) := by
  unfold execGcArm
  repeat' first
    | with_reducible assumption
    | with_reducible apply next_same
    | with_reducible apply armGc_same

theorem execGcDisarm_same {F : Part → Bool} {s0 s : State} (h : Same F s0 s) (qtime : F .time = false) : SameO
    F s0 (execGcDisarm s) := by
  unfold execGcDisarm
  repeat' first
    | with_reducible assumption
    | with_reducible apply next_same
    | with_reducible apply disarmGc_same

theorem execGcRearm_same {F : Part → Bool} {s0 s : State} (h : Same F s0 s) (qregs : F .regs = false)
    (qtime : F .time = false) : SameO F s0 (execGcRearm s) := by
  unfold execGcRearm
  repeat' first
    | with_reducible assumption
    | with_reducible apply next_same
    | with_reducible apply armGc_same
    | with_reducible apply disarmGc_same

theorem execGlobalCommit_same {F : Part → Bool} {s0 s : State} (h : Same F s0 s) (qregs : F .regs = false)
    (qstaged : F .staged = false) (qnis : F .nis = false) (qtime : F .time = false) : SameO F s0
    (execGlobalCommit s) := by
  unfold execGlobalCommit
  repeat' first
    | with_reducible assumption
    | with_reducible apply next_same
    | with_reducible apply logFiring_same
    | with_reducible apply forEach_same
    | with_reducible apply gcPage_same
    | with_reducible apply modTime_same
    | with_reducible apply wrapAdd_same
    | with_reducible apply onlyIf_same
    | with_reducible apply irqHold_same
    | intro _ _ _
    | intro _ _
    | split

theorem irqSet_same {F : Part → Bool} {s0 s : State} {a0 a1} (h : Same F s0 s) (qregs : F .regs = false) : Same
    F s0 (irqSet a0 a1 s) := by
  unfold irqSet
  repeat' first
    | with_reducible assumption
    | with_reducible apply forEach_same
    | with_reducible apply flagBit_same
    | with_reducible apply irqHold_same
    | intro _ _ _
    | split

theorem execIrqSet_same {F : Part → Bool} {s0 s : State} {a0 a1} (h : Same F s0 s) (qregs : F .regs = false) :
    SameO F s0 (execIrqSet a0 a1 s) := by
  unfold execIrqSet
  repeat' first
    | with_reducible assumption
    | with_reducible apply next_same
    | with_reducible apply irqSet_same
    | split

theorem smxValid_same {F : Part → Bool} {s0 s : State} (h : Same F s0 s) (qregs : F .regs = false) : Same F s0
    (smxValid s) := by
  unfold smxValid
  repeat' first
    | with_reducible assumption
    | with_reducible apply fset_same
    | split

theorem irqClear_same {F : Part → Bool} {s0 s : State} {a0 a1} (h : Same F s0 s) (qregs : F .regs = false) :
    Same F s0 (irqClear a0 a1 s) := by
  unfold irqClear
  repeat' first
    | with_reducible assumption
    | (extract_lets +onlyGivenNames x; refine Same.cut (F := F) (a := s0) (x := x) ?_ (fun hx => ?_); (on_goal 1 => (unfold x; clear x)); (on_goal 2 => clear_value x))
    | with_reducible apply forEach_same
    | with_reducible apply unflagBit_same
    | with_reducible apply onlyIf_same
    | with_reducible apply smxValid_same
    | with_reducible apply fset_same
    | intro _ _ _
    | intro _ _

theorem writeField_same {F : Part → Bool} {s0 s : State} {a0 a1 a2 a3} (h : Same F s0 s)
    (qregs : F .regs = false) (qstaged : F .staged = false) (qstagedNow : F .stagedNow = false) : Same F s0
    (writeField a0 a1 a2 a3 s) := by
  unfold writeField
  repeat' first
    | with_reducible assumption
    | (extract_lets +onlyGivenNames x; refine Same.cut (F := F) (a := s0) (x := x) ?_ (fun hx => ?_); (on_goal 1 => (unfold x; clear x)); (on_goal 2 => clear_value x))
    | (extract_lets +onlyGivenNames x)
    | with_reducible apply errReserved_same
    | with_reducible apply fset_same
    | with_reducible apply pageErr_same
    | with_reducible apply sset_same
    | with_reducible apply foldl_same
    | (with_reducible apply mk_same; with_reducible assumption; all_goals first | exact Or.inr (by assumption) | exact Or.inl (by with_reducible rfl))
    | intro _
    | split

theorem plainWrite_same {F : Part → Bool} {s0 s : State} {a0 a1 a2} (h : Same F s0 s) (qregs : F .regs = false)
    (qstaged : F .staged = false) (qstagedNow : F .stagedNow = false) : Same F s0 (plainWrite a0 a1 a2 s) := by
  unfold plainWrite
  repeat' first
    | with_reducible assumption
    | (extract_lets +onlyGivenNames x)
    | with_reducible apply forEach_same
    | with_reducible apply writeField_same
    | with_reducible apply foldl_same
    | (with_reducible apply mk_same; with_reducible assumption; all_goals first | exact Or.inr (by assumption) | exact Or.inl (by with_reducible rfl))
    | intro _ _ _

theorem armWrite_same {F : Part → Bool} {s0 s : State} {v} {f g : State → State} (h : Same F s0 s)
    (hf : ∀ t, Same F s0 t → Same F s0 (f t)) (hg : ∀ t, Same F s0 t → Same F s0 (g t)) : Same F s0 (armWrite v f g s) :=
  onlyIf_same (onlyIf_same h hg) hf

theorem writeCtrl_same {F : Part → Bool} {s0 s : State} {a0 a1 a2} (h : Same F s0 s) (qregs : F .regs = false)
    (qstaged : F .staged = false) (qstagedNow : F .stagedNow = false) (qnis : F .nis = false)
    (qtime : F .time = false) (qrsvRun : F .rsvRun = false) (qrsvWait : F .rsvWait = false)
    (qrsvCfgChg : F .rsvCfgChg = false) (qsmx : F .smx = false) : Same F s0 (writeCtrl a0 a1 a2 s) := by
  unfold writeCtrl
  repeat' first
    | with_reducible assumption
    | (extract_lets +onlyGivenNames x; refine Same.cut (F := F) (a := s0) (x := x) ?_ (fun hx => ?_); (on_goal 1 => (unfold x; clear x)); (on_goal 2 => clear_value x))
    | (extract_lets +onlyGivenNames x)
    | with_reducible apply leaveGc_same
    | with_reducible apply onlyIf_same
    | with_reducible apply joinGc_same
    | with_reducible apply abortPage_same
    | with_reducible apply softCommit_same
    | with_reducible apply setQuiesce_same
    | with_reducible apply foldl_same
    | (with_reducible apply mk_same; with_reducible assumption; all_goals first | exact Or.inr (by assumption) | exact Or.inl (by with_reducible rfl))
    | intro _ _ _
    | intro _ _
    | intro _
    | split

theorem writeHeader_same {F : Part → Bool} {s0 s : State} {a0 a1 a2 a3 a4} (h : Same F s0 s)
    (qregs : F .regs = false) (qstaged : F .staged = false) (qstagedNow : F .stagedNow = false)
    (qnis : F .nis = false) (qtime : F .time = false) (qrsvRun : F .rsvRun = false)
    (qrsvWait : F .rsvWait = false) (qrsvCfgChg : F .rsvCfgChg = false) (qsmx : F .smx = false) : Same F s0
    (writeHeader a0 a1 a2 a3 a4 s) := by
  unfold writeHeader
  repeat' first
    | with_reducible assumption
    | (extract_lets +onlyGivenNames x)
    | with_reducible apply writeCtrl_same
    | with_reducible apply onlyIf_same
    | with_reducible apply fset_same
    | with_reducible apply irqClear_same
    | with_reducible apply irqSet_same
    | with_reducible apply foldl_same
    | (with_reducible apply mk_same; with_reducible assumption; all_goals first | exact Or.inr (by assumption) | exact Or.inl (by with_reducible rfl))
    | intro _ _ _
    | intro _ _
    | intro _
    | split

theorem writeGroup_same {F : Part → Bool} {s0 s : State} {a0 a1} (h : Same F s0 s) (qregs : F .regs = false)
    (qstaged : F .staged = false) (qstagedNow : F .stagedNow = false) : Same F s0 (writeGroup a0 a1 s) := by
  unfold writeGroup
  repeat' first
    | with_reducible assumption
    | (extract_lets +onlyGivenNames x; refine Same.cut (F := F) (a := s0) (x := x) ?_ (fun hx => ?_); (on_goal 1 => (unfold x; clear x)); (on_goal 2 => clear_value x))
    | (extract_lets +onlyGivenNames x)
    | with_reducible apply onlyIf_same
    | with_reducible apply errReserved_same
    | with_reducible apply sset_same
    | with_reducible apply foldl_same
    | (with_reducible apply mk_same; with_reducible assumption; all_goals first | exact Or.inr (by assumption) | exact Or.inl (by with_reducible rfl))
    | intro _ _ _
    | intro _ _
    | intro _
    | split

theorem writePwrCmd_same {F : Part → Bool} {s0 s : State} {a0} (h : Same F s0 s) (qregs : F .regs = false)
    (qnis : F .nis = false) (qrsvRun : F .rsvRun = false) (qrsvWait : F .rsvWait = false)
    (qpower : F .power = false) : Same F s0 (writePwrCmd a0 s) := by
  unfold writePwrCmd
  repeat' first
    | with_reducible assumption
    | with_reducible apply nextOr_same
    | with_reducible apply execSetLevel_same
    | with_reducible apply execNiSleep_same
    | with_reducible apply execNiWake_same
    | with_reducible apply execFabSleep_same
    | with_reducible apply execFabWake_same
    | with_reducible apply errReserved_same
    | split

theorem writeArtCmd_same {F : Part → Bool} {s0 s : State} {a0} (h : Same F s0 s) (qregs : F .regs = false)
    (qartCmd : F .artCmd = false) (qartWait : F .artWait = false) (qartLongAt : F .artLongAt = false) : Same F
    s0 (writeArtCmd a0 s) := by
  unfold writeArtCmd
  repeat' first
    | with_reducible assumption
    | with_reducible apply artCommand_same
    | split

theorem writeArtw_same {F : Part → Bool} {s0 s : State} {a0 a1} (h : Same F s0 s) (qregs : F .regs = false)
    (qartHold : F .artHold = false) : Same F s0 (writeArtw a0 a1 s) := by
  unfold writeArtw
  repeat' first
    | with_reducible assumption
    | (extract_lets +onlyGivenNames x; refine Same.cut (F := F) (a := s0) (x := x) ?_ (fun hx => ?_); (on_goal 1 => (unfold x; clear x)); (on_goal 2 => clear_value x))
    | (extract_lets +onlyGivenNames x)
    | with_reducible apply onlyIf_same
    | with_reducible apply errReserved_same
    | (with_reducible apply mk_same; with_reducible assumption; all_goals first | exact Or.inr (by assumption) | exact Or.inl (by with_reducible rfl))
    | intro _ _

theorem writeRsvCfg_same {F : Part → Bool} {s0 s : State} {a0} (h : Same F s0 s) (qregs : F .regs = false)
    (qstaged : F .staged = false) (qstagedNow : F .stagedNow = false) (qrsvCfgChg : F .rsvCfgChg = false) :
    Same F s0 (writeRsvCfg a0 s) := by
  unfold writeRsvCfg
  repeat' first
    | with_reducible assumption
    | (extract_lets +onlyGivenNames x; refine Same.cut (F := F) (a := s0) (x := x) ?_ (fun hx => ?_); (on_goal 1 => (unfold x; clear x)); (on_goal 2 => clear_value x))
    | (extract_lets +onlyGivenNames x)
    | with_reducible apply plainWrite_same
    | with_reducible apply foldl_same
    | (with_reducible apply mk_same; with_reducible assumption; all_goals first | exact Or.inr (by assumption) | exact Or.inl (by with_reducible rfl))
    | intro _
    | split

theorem writePtr_same {F : Part → Bool} {s0 s : State} {a0} (h : Same F s0 s) (qregs : F .regs = false)
    (qstaged : F .staged = false) (qstagedNow : F .stagedNow = false) : Same F s0 (writePtr a0 s) := by
  unfold writePtr
  repeat' first
    | with_reducible assumption
    | (extract_lets +onlyGivenNames x; refine Same.cut (F := F) (a := s0) (x := x) ?_ (fun hx => ?_); (on_goal 1 => (unfold x; clear x)); (on_goal 2 => clear_value x))
    | (extract_lets +onlyGivenNames x)
    | with_reducible apply plainWrite_same
    | with_reducible apply fset_same
    | with_reducible apply foldl_same
    | (with_reducible apply mk_same; with_reducible assumption; all_goals first | exact Or.inr (by assumption) | exact Or.inl (by with_reducible rfl))
    | intro _
    | split

theorem writeVcCtrl_same {F : Part → Bool} {s0 s : State} {a0 a1} (h : Same F s0 s) (qregs : F .regs = false)
    (qstaged : F .staged = false) (qstagedNow : F .stagedNow = false) (qnis : F .nis = false) : Same F s0
    (writeVcCtrl a0 a1 s) := by
  unfold writeVcCtrl
  repeat' first
    | with_reducible assumption
    | (extract_lets +onlyGivenNames x; refine Same.cut (F := F) (a := s0) (x := x) ?_ (fun hx => ?_); (on_goal 1 => (unfold x; clear x)); (on_goal 2 => clear_value x))
    | (extract_lets +onlyGivenNames x)
    | with_reducible apply plainWrite_same
    | with_reducible apply onlyIf_same
    | with_reducible apply staleVerdicts_same
    | with_reducible apply modNi_same
    | with_reducible apply foldl_same
    | (with_reducible apply mk_same; with_reducible assumption; all_goals first | exact Or.inr (by assumption) | exact Or.inl (by with_reducible rfl))
    | intro _ _ _
    | intro _ _

theorem writeIsoCtrl_same {F : Part → Bool} {s0 s : State} {a0 a1} (h : Same F s0 s) (qregs : F .regs = false)
    (qchans : F .chans = false) (qrouters : F .routers = false) (qnis : F .nis = false)
    (qlookups : F .lookups = false) (qunsure : F .unsure = false) (qrsvRun : F .rsvRun = false)
    (qrsvWait : F .rsvWait = false) (qerrLog : F .errLog = false) (qpower : F .power = false)
    (qstrip : F .strip = false) : Same F s0 (writeIsoCtrl a0 a1 s) := by
  unfold writeIsoCtrl
  repeat' first
    | with_reducible assumption
    | with_reducible apply nextOr_same
    | with_reducible apply execIsolate_same
    | with_reducible apply onlyIf_same
    | with_reducible apply execReadmit_same
    | intro _ _
    | split

theorem writeTimer_same {F : Part → Bool} {s0 s : State} {a0 a1} (h : Same F s0 s) (qregs : F .regs = false)
    (qtime : F .time = false) : Same F s0 (writeTimer a0 a1 s) := by
  unfold writeTimer
  repeat' first
    | with_reducible assumption
    | with_reducible apply armWrite_same
    | with_reducible apply timerArm_same
    | with_reducible apply timerDisarm_same
    | with_reducible apply timerFields_same
    | intro _ _

theorem writeFqCmd_same {F : Part → Bool} {s0 s : State} {a0 a1} (h : Same F s0 s) (qregs : F .regs = false)
    (qnis : F .nis = false) (qrefillAt : F .refillAt = false) : Same F s0 (writeFqCmd a0 a1 s) := by
  unfold writeFqCmd
  repeat' first
    | with_reducible assumption
    | (extract_lets +onlyGivenNames x; refine Same.cut (F := F) (a := s0) (x := x) ?_ (fun hx => ?_); (on_goal 1 => (unfold x; clear x)); (on_goal 2 => clear_value x))
    | (extract_lets +onlyGivenNames x)
    | with_reducible apply onlyIf_same
    | with_reducible apply nextOr_same
    | with_reducible apply execReload_same
    | with_reducible apply execClrMax_same
    | with_reducible apply execClrAllMax_same
    | with_reducible apply foldl_same
    | intro _ _ _
    | intro _ _

theorem writeLedgerCmd_same {F : Part → Bool} {s0 s : State} {a0} (h : Same F s0 s) (qregs : F .regs = false)
    (qledger : F .ledger = false) : Same F s0 (writeLedgerCmd a0 s) := by
  unfold writeLedgerCmd
  repeat' first
    | with_reducible assumption
    | (extract_lets +onlyGivenNames x; refine Same.cut (F := F) (a := s0) (x := x) ?_ (fun hx => ?_); (on_goal 1 => (unfold x; clear x)); (on_goal 2 => clear_value x))
    | with_reducible apply onlyIf_same
    | with_reducible apply nextOr_same
    | with_reducible apply execReadout_same
    | with_reducible apply execPop_same
    | intro _ _

theorem writeBehind_same {F : Part → Bool} {s0 s : State} {a0 a1 a2} (h : Same F s0 s)
    (qregs : F .regs = false) (qstaged : F .staged = false) (qstagedNow : F .stagedNow = false)
    (qnis : F .nis = false) : Same F s0 (writeBehind a0 a1 a2 s) := by
  unfold writeBehind
  repeat' first
    | with_reducible assumption
    | (extract_lets +onlyGivenNames x; refine Same.cut (F := F) (a := s0) (x := x) ?_ (fun hx => ?_); (on_goal 1 => (unfold x; clear x)); (on_goal 2 => clear_value x))
    | (extract_lets +onlyGivenNames x)
    | with_reducible apply plainWrite_same
    | with_reducible apply forEach_same
    | with_reducible apply stageKey_same
    | with_reducible apply modNi_same
    | with_reducible apply foldl_same
    | (with_reducible apply mk_same; with_reducible assumption; all_goals first | exact Or.inr (by assumption) | exact Or.inl (by with_reducible rfl))
    | intro _ _ _

theorem writeNi_same {F : Part → Bool} {s0 s : State} {a0 a1 a2} (h : Same F s0 s) (qregs : F .regs = false)
    (qstaged : F .staged = false) (qstagedNow : F .stagedNow = false) (qchans : F .chans = false)
    (qrouters : F .routers = false) (qnis : F .nis = false) (qlookups : F .lookups = false)
    (qunsure : F .unsure = false) (qrsvRun : F .rsvRun = false) (qrsvWait : F .rsvWait = false)
    (qerrLog : F .errLog = false) (qpower : F .power = false) (qstrip : F .strip = false) : Same F s0
    (writeNi a0 a1 a2 s) := by
  unfold writeNi
  repeat' first
    | with_reducible assumption
    | (extract_lets +onlyGivenNames x)
    | with_reducible apply writeVcCtrl_same
    | with_reducible apply writeIsoCtrl_same
    | with_reducible apply nextOr_same
    | with_reducible apply execSadWrite_same
    | with_reducible apply writeBehind_same
    | with_reducible apply flag_same
    | with_reducible apply plainWrite_same
    | with_reducible apply foldl_same
    | (with_reducible apply mk_same; with_reducible assumption; all_goals first | exact Or.inr (by assumption) | exact Or.inl (by with_reducible rfl))
    | intro _
    | split

theorem writeFqw_same {F : Part → Bool} {s0 s : State} {a0 a1 a2} (h : Same F s0 s) (qregs : F .regs = false)
    (qstaged : F .staged = false) (qstagedNow : F .stagedNow = false) (qnis : F .nis = false)
    (qtime : F .time = false) (qfaults : F .faults = false) (qerrLog : F .errLog = false)
    (qstrip : F .strip = false) (qrefillAt : F .refillAt = false) : Same F s0 (writeFqw a0 a1 a2 s) := by
  unfold writeFqw
  repeat' first
    | with_reducible assumption
    | (extract_lets +onlyGivenNames x)
    | with_reducible apply nextOr_same
    | with_reducible apply execClsW1_same
    | with_reducible apply beforeTest_same
    | with_reducible apply plainWrite_same
    | with_reducible apply execFqRate_same
    | with_reducible apply execFqDepth_same
    | with_reducible apply execFqQuota_same
    | with_reducible apply writeFqCmd_same
    | with_reducible apply readEffect_same
    | with_reducible apply foldl_same
    | (with_reducible apply mk_same; with_reducible assumption; all_goals first | exact Or.inr (by assumption) | exact Or.inl (by with_reducible rfl))
    | intro _ _ _
    | intro _ _
    | intro _
    | split

theorem writeLate_same {F : Part → Bool} {s0 s : State} {a0} (h : Same F s0 s) (qregs : F .regs = false)
    (qstaged : F .staged = false) (qstagedNow : F .stagedNow = false) (qnis : F .nis = false)
    (qtime : F .time = false) (qfaults : F .faults = false) (qerrLog : F .errLog = false)
    (qstrip : F .strip = false) (qrefillAt : F .refillAt = false) : Same F s0 (writeLate a0 s) := by
  unfold writeLate
  repeat' first
    | with_reducible assumption
    | (extract_lets +onlyGivenNames x; refine Same.cut (F := F) (a := s0) (x := x) ?_ (fun hx => ?_); (on_goal 1 => (unfold x; clear x)); (on_goal 2 => clear_value x))
    | (extract_lets +onlyGivenNames x)
    | with_reducible apply modNi_same
    | with_reducible apply fset_same
    | with_reducible apply forEach_same
    | with_reducible apply writeFqw_same
    | with_reducible apply foldl_same
    | (with_reducible apply mk_same; with_reducible assumption; all_goals first | exact Or.inr (by assumption) | exact Or.inl (by with_reducible rfl))
    | intro _ _ _

theorem writeTime_same {F : Part → Bool} {s0 s : State} {a0 a1} (h : Same F s0 s) (qmtime : F .mtime = false)
    (qregs : F .regs = false) (qstaged : F .staged = false) (qstagedNow : F .stagedNow = false)
    (qnis : F .nis = false) (qtime : F .time = false) : Same F s0 (writeTime a0 a1 s) := by
  unfold writeTime
  repeat' first
    | with_reducible assumption
    | (extract_lets +onlyGivenNames x)
    | with_reducible apply nextOr_same
    | with_reducible apply execMtimeSet_same
    | with_reducible apply execSwFreq_same
    | with_reducible apply execSwPhase_same
    | with_reducible apply writeTimer_same
    | with_reducible apply plainWrite_same
    | with_reducible apply foldl_same
    | (with_reducible apply mk_same; with_reducible assumption; all_goals first | exact Or.inr (by assumption) | exact Or.inl (by with_reducible rfl))
    | intro _
    | split

theorem writeArt_same {F : Part → Bool} {s0 s : State} {a0 a1} (h : Same F s0 s) (qregs : F .regs = false)
    (qstaged : F .staged = false) (qstagedNow : F .stagedNow = false) (qtime : F .time = false)
    (qartCmd : F .artCmd = false) (qartWait : F .artWait = false) (qartLongAt : F .artLongAt = false) : Same F
    s0 (writeArt a0 a1 s) := by
  unfold writeArt
  repeat' first
    | with_reducible assumption
    | (extract_lets +onlyGivenNames x)
    | with_reducible apply armWrite_same
    | with_reducible apply armSwap_same
    | with_reducible apply disarmSwap_same
    | with_reducible apply writeArtCmd_same
    | with_reducible apply nextOr_same
    | with_reducible apply execArtCount_same
    | with_reducible apply execDmW1_same
    | with_reducible apply plainWrite_same
    | with_reducible apply foldl_same
    | (with_reducible apply mk_same; with_reducible assumption; all_goals first | exact Or.inr (by assumption) | exact Or.inl (by with_reducible rfl))
    | intro _ _ _
    | intro _ _
    | intro _
    | split

theorem modLc_same {F : Part → Bool} {s0 s : State} {f} (h : Same F s0 s) (qlc : F .lc = false) : Same F s0
    (modLc f s) := by
  unfold modLc; apply mk_same h <;> first | exact Or.inr (by assumption) | exact Or.inl rfl

theorem lcResult_same {F : Part → Bool} {s0 s : State} {a0} (h : Same F s0 s) (qregs : F .regs = false) : Same
    F s0 (lcResult a0 s) := by
  unfold lcResult
  repeat' first
    | with_reducible assumption
    | with_reducible apply fset_same

theorem lcRefuse_same {F : Part → Bool} {s0 s : State} {a0} (h : Same F s0 s) (qregs : F .regs = false) : Same
    F s0 (lcRefuse a0 s) := by
  unfold lcRefuse
  repeat' first
    | with_reducible assumption
    | with_reducible apply flag_same
    | with_reducible apply lcResult_same

theorem lcStart_same {F : Part → Bool} {s0 s : State} {a0} (h : Same F s0 s) (qregs : F .regs = false)
    (qlc : F .lc = false) : Same F s0 (lcStart a0 s) := by
  unfold lcStart
  repeat' first
    | with_reducible assumption
    | with_reducible apply fset_same
    | with_reducible apply modLc_same

theorem lcFinish_same {F : Part → Bool} {s0 s : State} {a0} (h : Same F s0 s) (qregs : F .regs = false)
    (qfuses : F .fuses = false) (qlc : F .lc = false) : Same F s0 (lcFinish a0 s) := by
  unfold lcFinish
  repeat' first
    | with_reducible assumption
    | with_reducible apply modLc_same
    | with_reducible apply flag_same
    | with_reducible apply lcResult_same
    | with_reducible apply fset_same
    | (with_reducible apply mk_same; with_reducible assumption; all_goals first | exact Or.inr (by assumption) | exact Or.inl (by with_reducible rfl))

theorem clearSecrets_same {F : Part → Bool} {s0 s : State} {a0} (h : Same F s0 s) (qnis : F .nis = false) :
    Same F s0 (clearSecrets a0 s) := by
  unfold clearSecrets
  repeat' first
    | with_reducible assumption
    | with_reducible apply modNi_same
    | with_reducible apply staleVerdicts_same

theorem startRma_same {F : Part → Bool} {s0 s : State} (h : Same F s0 s) (qregs : F .regs = false)
    (qnis : F .nis = false) (qledger : F .ledger = false) (qlc : F .lc = false) : Same F s0 (startRma s) := by
  unfold startRma
  repeat' first
    | with_reducible assumption
    | (extract_lets +onlyGivenNames x)
    | with_reducible apply lcStart_same
    | with_reducible apply modLedger_same
    | with_reducible apply forEach_same
    | with_reducible apply clearSecrets_same
    | with_reducible apply raiseZeroise_same
    | with_reducible apply foldl_same
    | (with_reducible apply mk_same; with_reducible assumption; all_goals first | exact Or.inr (by assumption) | exact Or.inl (by with_reducible rfl))
    | intro _ _ _

theorem tryToken_same {F : Part → Bool} {s0 s : State} (h : Same F s0 s) (qregs : F .regs = false)
    (qnis : F .nis = false) (qledger : F .ledger = false) (qlc : F .lc = false) : Same F s0 (tryToken s) := by
  unfold tryToken
  repeat' first
    | with_reducible assumption
    | (extract_lets +onlyGivenNames x; refine Same.cut (F := F) (a := s0) (x := x) ?_ (fun hx => ?_); (on_goal 1 => (unfold x; clear x)); (on_goal 2 => clear_value x))
    | (extract_lets +onlyGivenNames x)
    | with_reducible apply lcRefuse_same
    | with_reducible apply modLc_same
    | with_reducible apply startRma_same
    | with_reducible apply flag_same
    | with_reducible apply satAdd_same
    | with_reducible apply foldl_same
    | (with_reducible apply mk_same; with_reducible assumption; all_goals first | exact Or.inr (by assumption) | exact Or.inl (by with_reducible rfl))
    | intro _
    | split

theorem takeKeySlot_same {F : Part → Bool} {s0 s : State} (h : Same F s0 s) (qfree : F .free = false)
    (qfuses : F .fuses = false) : Same F s0 (takeKeySlot s) := by
  unfold takeKeySlot
  repeat' first
    | with_reducible assumption
    | (refine draw_pair2 ?_ (by with_reducible assumption) (by with_reducible assumption) )
    | with_reducible apply draw_same
    | with_reducible apply draw_same
    | split
    | dsimp only
    | (with_reducible apply mk_same <;> first | exact Or.inr (by assumption) | exact Or.inl (by with_reducible rfl) | skip)

theorem execLcRequest_same {F : Part → Bool} {s0 s : State} {a0} (h : Same F s0 s) (qfree : F .free = false)
    (qregs : F .regs = false) (qnis : F .nis = false) (qfuses : F .fuses = false) (qledger : F .ledger = false)
    (qlc : F .lc = false) : SameO F s0 (execLcRequest a0 s) := by
  unfold execLcRequest
  repeat' first
    | with_reducible assumption
    | (extract_lets +onlyGivenNames x)
    | with_reducible apply next_same
    | with_reducible apply lcRefuse_same
    | with_reducible apply lcFinish_same
    | with_reducible apply lcStart_same
    | with_reducible apply takeKeySlot_same
    | with_reducible apply tryToken_same
    | with_reducible apply foldl_same
    | (with_reducible apply mk_same; with_reducible assumption; all_goals first | exact Or.inr (by assumption) | exact Or.inl (by with_reducible rfl))
    | intro _
    | split

theorem execNonceGen_same {F : Part → Bool} {s0 s : State} (h : Same F s0 s) (qfree : F .free = false)
    (qlc : F .lc = false) : SameO F s0 (execNonceGen s) := by
  unfold execNonceGen
  repeat' first
    | with_reducible assumption
    | (refine draw_pair2 ?_ (by with_reducible assumption) (by with_reducible assumption) )
    | with_reducible apply next_same
    | with_reducible apply draw_same
    | with_reducible apply modLc_same
    | with_reducible apply draw_same
    | split

theorem fuseLk_same {F : Part → Bool} {s0 s : State} (h : Same F s0 s) (qstaged : F .staged = false)
    (qtime : F .time = false) (qfuses : F .fuses = false) : Same F s0 (fuseLk s) := by
  unfold fuseLk
  repeat' first
    | with_reducible assumption
    | (with_reducible apply mk_same; with_reducible assumption; all_goals first | exact Or.inr (by assumption) | exact Or.inl (by with_reducible rfl))

theorem execProductionDone_same {F : Part → Bool} {s0 s : State} (h : Same F s0 s) (qregs : F .regs = false)
    (qstaged : F .staged = false) (qtime : F .time = false) (qfuses : F .fuses = false)
    (qledger : F .ledger = false) (qlc : F .lc = false) : SameO F s0 (execProductionDone s) := by
  unfold execProductionDone
  repeat' first
    | with_reducible assumption
    | (extract_lets +onlyGivenNames x; refine Same.cut (F := F) (a := s0) (x := x) ?_ (fun hx => ?_); (on_goal 1 => (unfold x; clear x)); (on_goal 2 => clear_value x))
    | (extract_lets +onlyGivenNames x)
    | with_reducible apply next_same
    | with_reducible apply fuseLk_same
    | with_reducible apply lcFinish_same
    | with_reducible apply fset_same
    | with_reducible apply fileBoot_same
    | with_reducible apply modLedger_same
    | (with_reducible apply mk_same; with_reducible assumption; all_goals first | exact Or.inr (by assumption) | exact Or.inl (by with_reducible rfl))
    | split

theorem execRmaDone_same {F : Part → Bool} {s0 s : State} {a1} (h : Same F s0 s) (qregs : F .regs = false)
    (qnis : F .nis = false) (qpower : F .power = false) (qfuses : F .fuses = false) (qlc : F .lc = false) :
    SameO F s0 (execRmaDone s a1) := by
  unfold execRmaDone
  repeat' first
    | with_reducible assumption
    | (extract_lets +onlyGivenNames x; refine Same.cut (F := F) (a := s0) (x := x) ?_ (fun hx => ?_); (on_goal 1 => (unfold x; clear x)); (on_goal 2 => clear_value x))
    | (extract_lets +onlyGivenNames x)
    | with_reducible apply next_same
    | with_reducible apply noteAcks_same
    | with_reducible apply lcFinish_same
    | with_reducible apply onlyIf_same
    | with_reducible apply startF3Wake_same
    | with_reducible apply foldl_same
    | (with_reducible apply mk_same; with_reducible assumption; all_goals first | exact Or.inr (by assumption) | exact Or.inl (by with_reducible rfl))
    | intro _ _ _
    | intro _ _
    | intro _
    | split

theorem refuse_same {F : Part → Bool} {s0 s : State} {a0 a1 a2 a3 a4} (h : Same F s0 s)
    (qfree : F .free = false) (qregs : F .regs = false) (qnis : F .nis = false) (qerrLog : F .errLog = false)
    (qlc : F .lc = false) (qsmx : F .smx = false) : Same F s0 (refuse a0 a1 a2 a3 a4 s) := by
  unfold refuse
  repeat' first
    | with_reducible assumption
    | (extract_lets +onlyGivenNames x; refine Same.cut (F := F) (a := s0) (x := x) ?_ (fun hx => ?_); (on_goal 1 => (unfold x; clear x)); (on_goal 2 => clear_value x))
    | (refine draw_pair2 ?_ (by with_reducible assumption) (by with_reducible assumption) )
    | (extract_lets +onlyGivenNames x; refine Same.cut (F := F) (a := s0) (x := x.2) ?_ (fun hx => ?_); (on_goal 1 => (unfold x; clear x)); (on_goal 2 => clear_value x))
    | (extract_lets +onlyGivenNames x)
    | with_reducible apply draw_same
    | with_reducible apply errNi_same
    | with_reducible apply refuseToEp_same
    | with_reducible apply setEntry_same
    | with_reducible apply freeEntry_same
    | with_reducible apply draw_same
    | split

theorem allowRequest_same {F : Part → Bool} {s0 s : State} {a0 a1 a2 a3} (h : Same F s0 s)
    (qfree : F .free = false) (qregs : F .regs = false) (qnis : F .nis = false) (qerrLog : F .errLog = false)
    (qlc : F .lc = false) (qsmx : F .smx = false) : Same F s0 (allowRequest a0 a1 a2 a3 s) := by
  unfold allowRequest
  repeat' first
    | with_reducible assumption
    | (extract_lets +onlyGivenNames x; refine Same.cut (F := F) (a := s0) (x := x) ?_ (fun hx => ?_); (on_goal 1 => (unfold x; clear x)); (on_goal 2 => clear_value x))
    | (extract_lets +onlyGivenNames x)
    | with_reducible apply setEntry_same
    | with_reducible apply refuse_same
    | with_reducible apply flag_same
    | with_reducible apply onlyIf_same
    | with_reducible apply maxIn_same
    | intro _ _
    | split

theorem chargeDenial_same {F : Part → Bool} {s0 s : State} {a0 a1} (h : Same F s0 s) (qnis : F .nis = false)
    (qledger : F .ledger = false) : Same F s0 (chargeDenial a0 a1 s) := by
  unfold chargeDenial
  repeat' first
    | with_reducible assumption
    | with_reducible apply accAdd_same
    | (with_reducible apply mk_same; with_reducible assumption; all_goals first | exact Or.inr (by assumption) | exact Or.inl (by with_reducible rfl))
    | split

theorem takeVerdict_same {F : Part → Bool} {s0 s : State} {a0 a1 a2} (h : Same F s0 s)
    (qfree : F .free = false) (qregs : F .regs = false) (qnis : F .nis = false) (qerrLog : F .errLog = false)
    (qledger : F .ledger = false) (qlc : F .lc = false) (qsmx : F .smx = false) : Same F s0
    (takeVerdict a0 a1 a2 s) := by
  unfold takeVerdict
  repeat' first
    | with_reducible assumption
    | with_reducible apply allowRequest_same
    | with_reducible apply refuse_same
    | with_reducible apply chargeDenial_same
    | split

theorem checkArt_same {F : Part → Bool} {s0 s : State} {a0 a1 a2} (h : Same F s0 s) (qfree : F .free = false)
    (qregs : F .regs = false) (qnis : F .nis = false) (qlookups : F .lookups = false)
    (qerrLog : F .errLog = false) (qledger : F .ledger = false) (qlc : F .lc = false) (qsmx : F .smx = false) :
    Same F s0 (checkArt a0 a1 a2 s) := by
  unfold checkArt
  repeat' first
    | with_reducible assumption
    | (extract_lets +onlyGivenNames x; refine Same.cut (F := F) (a := s0) (x := x) ?_ (fun hx => ?_); (on_goal 1 => (unfold x; clear x)); (on_goal 2 => clear_value x))
    | (extract_lets +onlyGivenNames x)
    | with_reducible apply cacheTouch_same
    | with_reducible apply wrapAdd_same
    | with_reducible apply takeVerdict_same
    | with_reducible apply onlyIf_same
    | with_reducible apply present_same
    | with_reducible apply modEntry_same
    | intro _ _
    | split

theorem checkRequest_same {F : Part → Bool} {s0 s : State} {a0 a1 a2 a3} (h : Same F s0 s)
    (qfree : F .free = false) (qregs : F .regs = false) (qnis : F .nis = false) (qlookups : F .lookups = false)
    (qerrLog : F .errLog = false) (qledger : F .ledger = false) (qlc : F .lc = false) (qsmx : F .smx = false) :
    Same F s0 (checkRequest a0 a1 a2 a3 s) := by
  unfold checkRequest
  repeat' first
    | with_reducible assumption
    | (extract_lets +onlyGivenNames x; refine Same.cut (F := F) (a := s0) (x := x) ?_ (fun hx => ?_); (on_goal 1 => (unfold x; clear x)); (on_goal 2 => clear_value x))
    | (refine classify_pair2 ?_ (by with_reducible assumption) (by with_reducible assumption) )
    | (extract_lets +onlyGivenNames x; refine Same.cut (F := F) (a := s0) (x := x.2) ?_ (fun hx => ?_); (on_goal 1 => (unfold x; clear x)); (on_goal 2 => clear_value x))
    | with_reducible apply classify_same
    | with_reducible apply modEntry_same
    | with_reducible apply refuse_same
    | with_reducible apply flag_same
    | with_reducible apply checkArt_same
    | with_reducible apply allowRequest_same
    | split

theorem execTeiRequest_same {F : Part → Bool} {s0 s : State} {a0 a1} (h : Same F s0 s)
    (qfree : F .free = false) (qregs : F .regs = false) (qnis : F .nis = false) (qlookups : F .lookups = false)
    (qerrLog : F .errLog = false) (qledger : F .ledger = false) (qlc : F .lc = false) (qsmx : F .smx = false) :
    SameO F s0 (execTeiRequest a0 a1 s) := by
  unfold execTeiRequest
  repeat' first
    | with_reducible assumption
    | (extract_lets +onlyGivenNames x; refine Same.cut (F := F) (a := s0) (x := x) ?_ (fun hx => ?_); (on_goal 1 => (unfold x; clear x)); (on_goal 2 => clear_value x))
    | (refine submitCheck_pair2 ?_ (by with_reducible assumption) (by with_reducible assumption) (by with_reducible assumption) )
    | (extract_lets +onlyGivenNames x; refine Same.cut (F := F) (a := s0) (x := x.1) ?_ (fun hx => ?_); (on_goal 1 => (unfold x; clear x)); (on_goal 2 => clear_value x))
    | (extract_lets +onlyGivenNames x)
    | with_reducible apply next_same
    | with_reducible apply submitCheck_same
    | with_reducible apply checkRequest_same
    | with_reducible apply takeEntry_same
    | split

theorem execVerdictReturn_same {F : Part → Bool} {s0 s : State} {a0} (h : Same F s0 s)
    (qfree : F .free = false) (qregs : F .regs = false) (qnis : F .nis = false) (qlookups : F .lookups = false)
    (qerrLog : F .errLog = false) (qledger : F .ledger = false) (qlc : F .lc = false) (qsmx : F .smx = false) :
    SameO F s0 (execVerdictReturn a0 s) := by
  unfold execVerdictReturn
  repeat' first
    | with_reducible assumption
    | (extract_lets +onlyGivenNames x; refine Same.cut (F := F) (a := s0) (x := x) ?_ (fun hx => ?_); (on_goal 1 => (unfold x; clear x)); (on_goal 2 => clear_value x))
    | (extract_lets +onlyGivenNames x)
    | with_reducible apply next_same
    | with_reducible apply offerRow_same
    | with_reducible apply modNi_same
    | with_reducible apply onlyIf_same
    | with_reducible apply cacheTouch_same
    | with_reducible apply takeVerdict_same
    | intro _ _
    | split

theorem bootDone_same {F : Part → Bool} {s0 s : State} (h : Same F s0 s) (qregs : F .regs = false) : Same F s0
    (bootDone s) := by
  unfold bootDone
  repeat' first
    | with_reducible assumption
    | with_reducible apply flag_same
    | with_reducible apply fset_same
    | split

theorem execBootDone_same {F : Part → Bool} {s0 s : State} (h : Same F s0 s) (qregs : F .regs = false) : SameO
    F s0 (execBootDone s) := by
  unfold execBootDone
  repeat' first
    | with_reducible assumption
    | with_reducible apply next_same
    | with_reducible apply bootDone_same

theorem writeHpCfg_same {F : Part → Bool} {s0 s : State} {a0} (h : Same F s0 s) (qregs : F .regs = false)
    (qstaged : F .staged = false) (qstagedNow : F .stagedNow = false) (qslots : F .slots = false) : Same F s0
    (writeHpCfg a0 s) := by
  unfold writeHpCfg
  repeat' first
    | with_reducible assumption
    | (extract_lets +onlyGivenNames x; refine Same.cut (F := F) (a := s0) (x := x) ?_ (fun hx => ?_); (on_goal 1 => (unfold x; clear x)); (on_goal 2 => clear_value x))
    | (extract_lets +onlyGivenNames x)
    | with_reducible apply plainWrite_same
    | with_reducible apply foldl_same
    | (with_reducible apply mk_same; with_reducible assumption; all_goals first | exact Or.inr (by assumption) | exact Or.inl (by with_reducible rfl))
    | intro _
    | split

theorem writeFg_same {F : Part → Bool} {s0 s : State} {a0 a1} (h : Same F s0 s) (qregs : F .regs = false)
    (qstaged : F .staged = false) (qstagedNow : F .stagedNow = false) (qtime : F .time = false)
    (qslots : F .slots = false) : Same F s0 (writeFg a0 a1 s) := by
  unfold writeFg
  repeat' first
    | with_reducible assumption
    | (extract_lets +onlyGivenNames x)
    | with_reducible apply armWrite_same
    | with_reducible apply armGc_same
    | with_reducible apply disarmGc_same
    | with_reducible apply armFlip_same
    | with_reducible apply disarmFlip_same
    | with_reducible apply writeHpCfg_same
    | with_reducible apply writeGroup_same
    | with_reducible apply plainWrite_same
    | with_reducible apply foldl_same
    | (with_reducible apply mk_same; with_reducible assumption; all_goals first | exact Or.inr (by assumption) | exact Or.inl (by with_reducible rfl))
    | intro _ _ _
    | intro _ _
    | intro _
    | split

theorem writeSmx_same {F : Part → Bool} {s0 s : State} {a0 a1} (h : Same F s0 s) (qregs : F .regs = false)
    (qstaged : F .staged = false) (qstagedNow : F .stagedNow = false) : Same F s0 (writeSmx a0 a1 s) := by
  unfold writeSmx
  repeat' first
    | with_reducible assumption
    | (extract_lets +onlyGivenNames x)
    | with_reducible apply onlyIf_same
    | with_reducible apply bootDone_same
    | with_reducible apply smxValid_same
    | with_reducible apply plainWrite_same
    | with_reducible apply foldl_same
    | (with_reducible apply mk_same; with_reducible assumption; all_goals first | exact Or.inr (by assumption) | exact Or.inl (by with_reducible rfl))
    | intro _ _ _
    | intro _ _
    | intro _
    | split

theorem writePower_same {F : Part → Bool} {s0 s : State} {a0 a1} (h : Same F s0 s) (qregs : F .regs = false)
    (qstaged : F .staged = false) (qstagedNow : F .stagedNow = false) (qchans : F .chans = false)
    (qnis : F .nis = false) (qrsvRun : F .rsvRun = false) (qrsvWait : F .rsvWait = false)
    (qpower : F .power = false) : Same F s0 (writePower a0 a1 s) := by
  unfold writePower
  repeat' first
    | with_reducible assumption
    | (extract_lets +onlyGivenNames x)
    | with_reducible apply writePwrCmd_same
    | with_reducible apply nextOr_same
    | with_reducible apply execSleepOk_same
    | with_reducible apply onlyIf_same
    | with_reducible apply execConfigValid_same
    | with_reducible apply plainWrite_same
    | with_reducible apply foldl_same
    | (with_reducible apply mk_same; with_reducible assumption; all_goals first | exact Or.inr (by assumption) | exact Or.inl (by with_reducible rfl))
    | intro _ _ _
    | intro _ _
    | intro _
    | split

theorem writeStrip_same {F : Part → Bool} {s0 s : State} {a0 a1} (h : Same F s0 s) (qregs : F .regs = false)
    (qstaged : F .staged = false) (qstagedNow : F .stagedNow = false) (qstrip : F .strip = false) : Same F s0
    (writeStrip a0 a1 s) := by
  unfold writeStrip
  repeat' first
    | with_reducible assumption
    | (extract_lets +onlyGivenNames x)
    | with_reducible apply writePtr_same
    | with_reducible apply onlyIf_same
    | with_reducible apply nextOr_same
    | with_reducible apply execBurn_same
    | with_reducible apply plainWrite_same
    | with_reducible apply foldl_same
    | (with_reducible apply mk_same; with_reducible assumption; all_goals first | exact Or.inr (by assumption) | exact Or.inl (by with_reducible rfl))
    | intro _ _ _
    | intro _ _
    | intro _
    | split

theorem writeLc_same {F : Part → Bool} {s0 s : State} {a0 a1} (h : Same F s0 s) (qfree : F .free = false)
    (qregs : F .regs = false) (qstaged : F .staged = false) (qstagedNow : F .stagedNow = false)
    (qnis : F .nis = false) (qfuses : F .fuses = false) (qledger : F .ledger = false) (qlc : F .lc = false) :
    Same F s0 (writeLc a0 a1 s) := by
  unfold writeLc
  repeat' first
    | with_reducible assumption
    | (extract_lets +onlyGivenNames x; refine Same.cut (F := F) (a := s0) (x := x) ?_ (fun hx => ?_); (on_goal 1 => (unfold x; clear x)); (on_goal 2 => clear_value x))
    | (extract_lets +onlyGivenNames x)
    | with_reducible apply onlyIf_same
    | with_reducible apply nextOr_same
    | with_reducible apply execLcRequest_same
    | with_reducible apply execNonceGen_same
    | with_reducible apply modLc_same
    | with_reducible apply plainWrite_same
    | with_reducible apply foldl_same
    | (with_reducible apply mk_same; with_reducible assumption; all_goals first | exact Or.inr (by assumption) | exact Or.inl (by with_reducible rfl))
    | intro _ _ _
    | intro _ _
    | intro _
    | split

theorem writeRsv_same {F : Part → Bool} {s0 s : State} {a0 a1} (h : Same F s0 s) (qregs : F .regs = false)
    (qstaged : F .staged = false) (qstagedNow : F .stagedNow = false) (qrsvRun : F .rsvRun = false)
    (qrsvWait : F .rsvWait = false) (qrsvCfgChg : F .rsvCfgChg = false) : Same F s0 (writeRsv a0 a1 s) := by
  unfold writeRsv
  repeat' first
    | with_reducible assumption
    | (extract_lets +onlyGivenNames x)
    | with_reducible apply writeRsvCfg_same
    | with_reducible apply nextOr_same
    | with_reducible apply execRsvAdmit_same
    | with_reducible apply onlyIf_same
    | with_reducible apply execRsvRelease_same
    | with_reducible apply plainWrite_same
    | with_reducible apply foldl_same
    | (with_reducible apply mk_same; with_reducible assumption; all_goals first | exact Or.inr (by assumption) | exact Or.inl (by with_reducible rfl))
    | intro _ _ _
    | intro _ _
    | intro _
    | split

theorem writeCp_same {F : Part → Bool} {s0 s : State} {a0 a1} (h : Same F s0 s) (qregs : F .regs = false)
    (qstaged : F .staged = false) (qstagedNow : F .stagedNow = false) : Same F s0 (writeCp a0 a1 s) := by
  unfold writeCp
  repeat' first
    | with_reducible assumption
    | (extract_lets +onlyGivenNames x)
    | with_reducible apply onlyIf_same
    | with_reducible apply forEach_same
    | with_reducible apply fset_same
    | with_reducible apply plainWrite_same
    | with_reducible apply foldl_same
    | (with_reducible apply mk_same; with_reducible assumption; all_goals first | exact Or.inr (by assumption) | exact Or.inl (by with_reducible rfl))
    | intro _ _ _
    | intro _ _
    | intro _
    | split

theorem writeArtWin_same {F : Part → Bool} {s0 s : State} {a0 a1} (h : Same F s0 s) (qregs : F .regs = false)
    (qstaged : F .staged = false) (qstagedNow : F .stagedNow = false) (qart : F .art = false)
    (qartHold : F .artHold = false) : Same F s0 (writeArtWin a0 a1 s) := by
  unfold writeArtWin
  repeat' first
    | with_reducible assumption
    | (extract_lets +onlyGivenNames x)
    | with_reducible apply writeArtw_same
    | with_reducible apply nextOr_same
    | with_reducible apply execArtwW3_same
    | with_reducible apply plainWrite_same
    | with_reducible apply foldl_same
    | (with_reducible apply mk_same; with_reducible assumption; all_goals first | exact Or.inr (by assumption) | exact Or.inl (by with_reducible rfl))
    | intro _
    | split

theorem regWrite_same {F : Part → Bool} {s0 s : State} {a0 a1 a2 a3} (h : Same F s0 s)
    (qfree : F .free = false) (qmtime : F .mtime = false) (qregs : F .regs = false)
    (qstaged : F .staged = false) (qstagedNow : F .stagedNow = false) (qchans : F .chans = false)
    (qrouters : F .routers = false) (qrt : F .rt = false) (qrtImg : F .rtImg = false) (qnis : F .nis = false)
    (qtime : F .time = false) (qart : F .art = false) (qartHold : F .artHold = false)
    (qartCmd : F .artCmd = false) (qartWait : F .artWait = false) (qartLongAt : F .artLongAt = false)
    (qlookups : F .lookups = false) (qfaults : F .faults = false) (qunsure : F .unsure = false)
    (qrsvRun : F .rsvRun = false) (qrsvWait : F .rsvWait = false) (qrsvCfgChg : F .rsvCfgChg = false)
    (qerrLog : F .errLog = false) (qslots : F .slots = false) (qpower : F .power = false)
    (qstrip : F .strip = false) (qfuses : F .fuses = false) (qledger : F .ledger = false) (qlc : F .lc = false)
    (qsmx : F .smx = false) (qrefillAt : F .refillAt = false) : Same F s0 (regWrite a0 a1 a2 a3 s) := by
  unfold regWrite
  repeat' first
    | with_reducible assumption
    | (extract_lets +onlyGivenNames x)
    | with_reducible apply writeHeader_same
    | with_reducible apply writeFg_same
    | with_reducible apply writeTime_same
    | with_reducible apply writeSmx_same
    | with_reducible apply writePower_same
    | with_reducible apply writeStrip_same
    | with_reducible apply writeLc_same
    | with_reducible apply onlyIf_same
    | with_reducible apply writeLedgerCmd_same
    | with_reducible apply plainWrite_same
    | with_reducible apply writeArt_same
    | with_reducible apply writeArtWin_same
    | with_reducible apply writeRsv_same
    | with_reducible apply writeCp_same
    | with_reducible apply nextOr_same
    | with_reducible apply execRtData_same
    | with_reducible apply writeNi_same
    | with_reducible apply writeFqw_same
    | with_reducible apply foldl_same
    | (with_reducible apply mk_same; with_reducible assumption; all_goals first | exact Or.inr (by assumption) | exact Or.inl (by with_reducible rfl))
    | intro _ _ _
    | intro _ _
    | intro _
    | split

theorem execRegisterWrite_same {F : Part → Bool} {s0 s : State} {a0 a1 a2} (h : Same F s0 s)
    (qfree : F .free = false) (qmtime : F .mtime = false) (qregs : F .regs = false)
    (qstaged : F .staged = false) (qstagedNow : F .stagedNow = false) (qchans : F .chans = false)
    (qrouters : F .routers = false) (qrt : F .rt = false) (qrtImg : F .rtImg = false) (qnis : F .nis = false)
    (qtime : F .time = false) (qart : F .art = false) (qartHold : F .artHold = false)
    (qartCmd : F .artCmd = false) (qartWait : F .artWait = false) (qartLongAt : F .artLongAt = false)
    (qlookups : F .lookups = false) (qfaults : F .faults = false) (qunsure : F .unsure = false)
    (qrsvRun : F .rsvRun = false) (qrsvWait : F .rsvWait = false) (qrsvCfgChg : F .rsvCfgChg = false)
    (qerrLog : F .errLog = false) (qslots : F .slots = false) (qpower : F .power = false)
    (qstrip : F .strip = false) (qfuses : F .fuses = false) (qledger : F .ledger = false) (qlc : F .lc = false)
    (qsmx : F .smx = false) (qrefillAt : F .refillAt = false) : SameO F s0 (execRegisterWrite a0 a1 a2 s) := by
  unfold execRegisterWrite
  repeat' first
    | with_reducible assumption
    | (extract_lets +onlyGivenNames x)
    | with_reducible apply next_same
    | with_reducible apply regWrite_same
    | with_reducible apply foldl_same
    | (with_reducible apply mk_same; with_reducible assumption; all_goals first | exact Or.inr (by assumption) | exact Or.inl (by with_reducible rfl))
    | intro _
    | split

theorem countSafelight_same {F : Part → Bool} {s0 s : State} {a0 a1} (h : Same F s0 s)
    (qregs : F .regs = false) (qlc : F .lc = false) : Same F s0 (countSafelight a0 a1 s) := by
  unfold countSafelight
  repeat' first
    | with_reducible assumption
    | with_reducible apply modLc_same
    | with_reducible apply flag_same
    | with_reducible apply satAdd_same
    | with_reducible apply onlyIf_same
    | intro _ _
    | split

theorem failUnit_same {F : Part → Bool} {s0 s : State} {a0} (h : Same F s0 s) (qregs : F .regs = false)
    (qstaged : F .staged = false) (qchans : F .chans = false) (qrt : F .rt = false) (qrtImg : F .rtImg = false)
    (qnis : F .nis = false) (qtime : F .time = false) (qartCmd : F .artCmd = false)
    (qartWait : F .artWait = false) (qlookups : F .lookups = false) (qfaults : F .faults = false)
    (qunsure : F .unsure = false) (qrsvRun : F .rsvRun = false) (qrsvWait : F .rsvWait = false)
    (qerrLog : F .errLog = false) : Same F s0 (failUnit a0 s) := by
  unfold failUnit
  repeat' first
    | with_reducible assumption
    | (extract_lets +onlyGivenNames x)
    | with_reducible apply failBank_same
    | with_reducible apply loseImage_same
    | with_reducible apply foldl_same
    | (with_reducible apply mk_same; with_reducible assumption; all_goals first | exact Or.inr (by assumption) | exact Or.inl (by with_reducible rfl))
    | intro _
    | split

theorem spineRead_same {F : Part → Bool} {s0 s : State} {a0 a1 a2} (h : Same F s0 s) (qfree : F .free = false)
    (qregs : F .regs = false) (qstaged : F .staged = false) (qchans : F .chans = false) (qrt : F .rt = false)
    (qrtImg : F .rtImg = false) (qnis : F .nis = false) (qtime : F .time = false) (qartCmd : F .artCmd = false)
    (qartWait : F .artWait = false) (qlookups : F .lookups = false) (qfaults : F .faults = false)
    (qunsure : F .unsure = false) (qrsvRun : F .rsvRun = false) (qrsvWait : F .rsvWait = false)
    (qerrLog : F .errLog = false) (qlc : F .lc = false) (qsmx : F .smx = false) : Same F s0
    (spineRead a0 a1 a2 s) := by
  unfold spineRead
  repeat' first
    | with_reducible assumption
    | (refine draw_pair2 ?_ (by with_reducible assumption) (by with_reducible assumption) )
    | (extract_lets +onlyGivenNames x)
    | with_reducible apply draw_same
    | with_reducible apply failUnit_same
    | with_reducible apply smxComplete_same

theorem smxTake_same {F : Part → Bool} {s0 s : State} {a0} (h : Same F s0 s) (qfree : F .free = false)
    (qmtime : F .mtime = false) (qregs : F .regs = false) (qstaged : F .staged = false)
    (qstagedNow : F .stagedNow = false) (qchans : F .chans = false) (qrouters : F .routers = false)
    (qrt : F .rt = false) (qrtImg : F .rtImg = false) (qnis : F .nis = false) (qtime : F .time = false)
    (qart : F .art = false) (qartHold : F .artHold = false) (qartCmd : F .artCmd = false)
    (qartWait : F .artWait = false) (qartLongAt : F .artLongAt = false) (qlookups : F .lookups = false)
    (qfaults : F .faults = false) (qunsure : F .unsure = false) (qrsvRun : F .rsvRun = false)
    (qrsvWait : F .rsvWait = false) (qrsvCfgChg : F .rsvCfgChg = false) (qerrLog : F .errLog = false)
    (qslots : F .slots = false) (qpower : F .power = false) (qstrip : F .strip = false)
    (qfuses : F .fuses = false) (qledger : F .ledger = false) (qlc : F .lc = false) (qsmx : F .smx = false)
    (qmem : F .mem = false) (qrefillAt : F .refillAt = false) : Same F s0 (smxTake a0 s) := by
  unfold smxTake
  repeat' first
    | with_reducible assumption
    | (extract_lets +onlyGivenNames x; refine Same.cut (F := F) (a := s0) (x := x) ?_ (fun hx => ?_); (on_goal 1 => (unfold x; clear x)); (on_goal 2 => clear_value x))
    | (extract_lets +onlyGivenNames x)
    | with_reducible apply smxComplete_same
    | with_reducible apply sramWrite_same
    | with_reducible apply regWrite_same
    | with_reducible apply readEffect_same
    | with_reducible apply spineRead_same
    | with_reducible apply foldl_same
    | (with_reducible apply mk_same; with_reducible assumption; all_goals first | exact Or.inr (by assumption) | exact Or.inl (by with_reducible rfl))
    | intro _
    | split

theorem bridgeDemand_same {F : Part → Bool} {s0 s : State} (h : Same F s0 s) (qregs : F .regs = false)
    (qnis : F .nis = false) (qpower : F .power = false) : Same F s0 (bridgeDemand s) := by
  unfold bridgeDemand
  repeat' first
    | with_reducible assumption
    | (extract_lets +onlyGivenNames x; refine Same.cut (F := F) (a := s0) (x := x) ?_ (fun hx => ?_); (on_goal 1 => (unfold x; clear x)); (on_goal 2 => clear_value x))
    | with_reducible apply onlyIf_same
    | with_reducible apply startF3Wake_same
    | with_reducible apply nextOr_same
    | with_reducible apply execEpWakeReq_same
    | intro _ _

theorem issueAccess_same {F : Part → Bool} {s0 s : State} {a0 a1 a2 a3 a4} (h : Same F s0 s)
    (qfree : F .free = false) (qregs : F .regs = false) (qnis : F .nis = false) (qlookups : F .lookups = false)
    (qerrLog : F .errLog = false) (qledger : F .ledger = false) (qlc : F .lc = false) (qsmx : F .smx = false) :
    Same F s0 (issueAccess a0 a1 a2 a3 a4 s) := by
  unfold issueAccess
  repeat' first
    | with_reducible assumption
    | with_reducible apply wakeN1_same
    | with_reducible apply checkRequest_same
    | with_reducible apply takeEntry_same

theorem pushBridge_same {F : Part → Bool} {s0 s : State} {a0} (h : Same F s0 s) (qsmx : F .smx = false) : Same
    F s0 (pushBridge a0 s) := by
  unfold pushBridge
  repeat' first
    | with_reducible assumption
    | (with_reducible apply mk_same; with_reducible assumption; all_goals first | exact Or.inr (by assumption) | exact Or.inl (by with_reducible rfl))

theorem bridgeRefuse_same {F : Part → Bool} {s0 s : State} {a0 a1 a2} (h : Same F s0 s)
    (qfree : F .free = false) (qregs : F .regs = false) (qlc : F .lc = false) (qsmx : F .smx = false) : Same F
    s0 (bridgeRefuse a0 a1 a2 s) := by
  unfold bridgeRefuse
  repeat' first
    | with_reducible assumption
    | with_reducible apply drainBridge_same
    | with_reducible apply pushBridge_same

theorem bridgeTake_same {F : Part → Bool} {s0 s : State} {a0} (h : Same F s0 s) (qfree : F .free = false)
    (qregs : F .regs = false) (qnis : F .nis = false) (qlookups : F .lookups = false)
    (qerrLog : F .errLog = false) (qledger : F .ledger = false) (qlc : F .lc = false) (qsmx : F .smx = false) :
    Same F s0 (bridgeTake a0 s) := by
  unfold bridgeTake
  repeat' first
    | with_reducible assumption
    | (extract_lets +onlyGivenNames x)
    | with_reducible apply bridgeRefuse_same
    | with_reducible apply issueAccess_same
    | with_reducible apply pushBridge_same
    | split

theorem grantAccess_same {F : Part → Bool} {s0 s : State} {a0 a1} (h : Same F s0 s) (qfree : F .free = false)
    (qmtime : F .mtime = false) (qregs : F .regs = false) (qstaged : F .staged = false)
    (qstagedNow : F .stagedNow = false) (qchans : F .chans = false) (qrouters : F .routers = false)
    (qrt : F .rt = false) (qrtImg : F .rtImg = false) (qnis : F .nis = false) (qtime : F .time = false)
    (qart : F .art = false) (qartHold : F .artHold = false) (qartCmd : F .artCmd = false)
    (qartWait : F .artWait = false) (qartLongAt : F .artLongAt = false) (qlookups : F .lookups = false)
    (qfaults : F .faults = false) (qunsure : F .unsure = false) (qrsvRun : F .rsvRun = false)
    (qrsvWait : F .rsvWait = false) (qrsvCfgChg : F .rsvCfgChg = false) (qerrLog : F .errLog = false)
    (qslots : F .slots = false) (qpower : F .power = false) (qstrip : F .strip = false)
    (qfuses : F .fuses = false) (qledger : F .ledger = false) (qlc : F .lc = false) (qsmx : F .smx = false)
    (qmem : F .mem = false) (qrefillAt : F .refillAt = false) : Same F s0 (grantAccess a0 a1 s) := by
  unfold grantAccess
  extract_lets +onlyGivenNames q t c u
  have ht : Same F s0 t := by apply mk_same h <;> first | exact Or.inr (by assumption) | exact Or.inl rfl
  clear_value t
  have hu : Same F s0 u := countSafelight_same ht qregs qlc
  clear_value u c
  split
  · split
    · exact bridgeRefuse_same hu qfree qregs qlc qsmx
    · exact smxError_same hu qfree qregs qlc qsmx
  · split
    · exact bridgeTake_same hu qfree qregs qnis qlookups qerrLog qledger qlc qsmx
    · exact smxTake_same hu qfree qmtime qregs qstaged qstagedNow qchans qrouters qrt qrtImg qnis qtime qart qartHold qartCmd qartWait qartLongAt qlookups qfaults qunsure qrsvRun qrsvWait qrsvCfgChg qerrLog qslots qpower qstrip qfuses qledger qlc qsmx qmem qrefillAt

theorem smxCycle_same {F : Part → Bool} {s0 s : State} (h : Same F s0 s) (qfree : F .free = false)
    (qmtime : F .mtime = false) (qregs : F .regs = false) (qstaged : F .staged = false)
    (qstagedNow : F .stagedNow = false) (qchans : F .chans = false) (qrouters : F .routers = false)
    (qrt : F .rt = false) (qrtImg : F .rtImg = false) (qnis : F .nis = false) (qtime : F .time = false)
    (qart : F .art = false) (qartHold : F .artHold = false) (qartCmd : F .artCmd = false)
    (qartWait : F .artWait = false) (qartLongAt : F .artLongAt = false) (qlookups : F .lookups = false)
    (qfaults : F .faults = false) (qunsure : F .unsure = false) (qrsvRun : F .rsvRun = false)
    (qrsvWait : F .rsvWait = false) (qrsvCfgChg : F .rsvCfgChg = false) (qerrLog : F .errLog = false)
    (qslots : F .slots = false) (qpower : F .power = false) (qstrip : F .strip = false)
    (qfuses : F .fuses = false) (qledger : F .ledger = false) (qlc : F .lc = false) (qsmx : F .smx = false)
    (qmem : F .mem = false) (qrefillAt : F .refillAt = false) : Same F s0 (smxCycle s) := by
  unfold smxCycle
  repeat' first
    | with_reducible assumption
    | (extract_lets +onlyGivenNames x; refine Same.cut (F := F) (a := s0) (x := x) ?_ (fun hx => ?_); (on_goal 1 => (unfold x; clear x)); (on_goal 2 => clear_value x))
    | (extract_lets +onlyGivenNames x)
    | with_reducible apply grantAccess_same
    | with_reducible apply onlyIf_same
    | with_reducible apply bridgeDemand_same
    | with_reducible apply foldl_same
    | (with_reducible apply mk_same; with_reducible assumption; all_goals first | exact Or.inr (by assumption) | exact Or.inl (by with_reducible rfl))
    | intro _ _ _
    | intro _ _
    | intro _
    | split

theorem issueSmx_same {F : Part → Bool} {s0 s : State} {a0} (h : Same F s0 s) (qfree : F .free = false)
    (qmtime : F .mtime = false) (qregs : F .regs = false) (qstaged : F .staged = false)
    (qstagedNow : F .stagedNow = false) (qchans : F .chans = false) (qrouters : F .routers = false)
    (qrt : F .rt = false) (qrtImg : F .rtImg = false) (qnis : F .nis = false) (qtime : F .time = false)
    (qart : F .art = false) (qartHold : F .artHold = false) (qartCmd : F .artCmd = false)
    (qartWait : F .artWait = false) (qartLongAt : F .artLongAt = false) (qlookups : F .lookups = false)
    (qfaults : F .faults = false) (qunsure : F .unsure = false) (qrsvRun : F .rsvRun = false)
    (qrsvWait : F .rsvWait = false) (qrsvCfgChg : F .rsvCfgChg = false) (qerrLog : F .errLog = false)
    (qslots : F .slots = false) (qpower : F .power = false) (qstrip : F .strip = false)
    (qfuses : F .fuses = false) (qledger : F .ledger = false) (qlc : F .lc = false) (qsmx : F .smx = false)
    (qmem : F .mem = false) (qrefillAt : F .refillAt = false) : Same F s0 (issueSmx a0 s) := by
  unfold issueSmx
  repeat' first
    | with_reducible assumption
    | (extract_lets +onlyGivenNames x; refine Same.cut (F := F) (a := s0) (x := x) ?_ (fun hx => ?_); (on_goal 1 => (unfold x; clear x)); (on_goal 2 => clear_value x))
    | (extract_lets +onlyGivenNames x)
    | with_reducible apply onlyIf_same
    | with_reducible apply wrapAdd_same
    | with_reducible apply smxCycle_same
    | with_reducible apply foldl_same
    | (with_reducible apply mk_same; with_reducible assumption; all_goals first | exact Or.inr (by assumption) | exact Or.inl (by with_reducible rfl))
    | intro _ _ _
    | intro _ _
    | intro _
    | split

theorem execSmxAccess_same {F : Part → Bool} {s0 s : State} {a0} (h : Same F s0 s) (qfree : F .free = false)
    (qmtime : F .mtime = false) (qregs : F .regs = false) (qstaged : F .staged = false)
    (qstagedNow : F .stagedNow = false) (qchans : F .chans = false) (qrouters : F .routers = false)
    (qrt : F .rt = false) (qrtImg : F .rtImg = false) (qnis : F .nis = false) (qtime : F .time = false)
    (qart : F .art = false) (qartHold : F .artHold = false) (qartCmd : F .artCmd = false)
    (qartWait : F .artWait = false) (qartLongAt : F .artLongAt = false) (qlookups : F .lookups = false)
    (qfaults : F .faults = false) (qunsure : F .unsure = false) (qrsvRun : F .rsvRun = false)
    (qrsvWait : F .rsvWait = false) (qrsvCfgChg : F .rsvCfgChg = false) (qerrLog : F .errLog = false)
    (qslots : F .slots = false) (qpower : F .power = false) (qstrip : F .strip = false)
    (qfuses : F .fuses = false) (qledger : F .ledger = false) (qlc : F .lc = false) (qsmx : F .smx = false)
    (qmem : F .mem = false) (qrefillAt : F .refillAt = false) : SameO F s0 (execSmxAccess a0 s) := by
  unfold execSmxAccess
  repeat' first
    | with_reducible assumption
    | (extract_lets +onlyGivenNames x)
    | with_reducible apply next_same
    | with_reducible apply issueSmx_same

theorem execSmxBridge_same {F : Part → Bool} {s0 s : State} {a0} (h : Same F s0 s) (qfree : F .free = false)
    (qmtime : F .mtime = false) (qregs : F .regs = false) (qstaged : F .staged = false)
    (qstagedNow : F .stagedNow = false) (qchans : F .chans = false) (qrouters : F .routers = false)
    (qrt : F .rt = false) (qrtImg : F .rtImg = false) (qnis : F .nis = false) (qtime : F .time = false)
    (qart : F .art = false) (qartHold : F .artHold = false) (qartCmd : F .artCmd = false)
    (qartWait : F .artWait = false) (qartLongAt : F .artLongAt = false) (qlookups : F .lookups = false)
    (qfaults : F .faults = false) (qunsure : F .unsure = false) (qrsvRun : F .rsvRun = false)
    (qrsvWait : F .rsvWait = false) (qrsvCfgChg : F .rsvCfgChg = false) (qerrLog : F .errLog = false)
    (qslots : F .slots = false) (qpower : F .power = false) (qstrip : F .strip = false)
    (qfuses : F .fuses = false) (qledger : F .ledger = false) (qlc : F .lc = false) (qsmx : F .smx = false)
    (qmem : F .mem = false) (qrefillAt : F .refillAt = false) : SameO F s0 (execSmxBridge a0 s) := by
  unfold execSmxBridge
  repeat' first
    | with_reducible assumption
    | (extract_lets +onlyGivenNames x)
    | with_reducible apply next_same
    | with_reducible apply issueSmx_same
    | with_reducible apply foldl_same
    | (with_reducible apply mk_same; with_reducible assumption; all_goals first | exact Or.inr (by assumption) | exact Or.inl (by with_reducible rfl))
    | intro _
    | split

theorem failBridge_same {F : Part → Bool} {s0 s : State} {a0} (h : Same F s0 s) (qfree : F .free = false)
    (qregs : F .regs = false) (qlc : F .lc = false) (qsmx : F .smx = false) : Same F s0 (failBridge a0 s) := by
  unfold failBridge
  repeat' first
    | with_reducible assumption
    | with_reducible apply bridgeRefuse_same
    | with_reducible apply countSafelight_same
    | with_reducible apply foldl_same
    | (with_reducible apply mk_same; with_reducible assumption; all_goals first | exact Or.inr (by assumption) | exact Or.inl (by with_reducible rfl))
    | intro _ _ _
    | split

theorem execFabWakeFailed_same {F : Part → Bool} {s0 s : State} (h : Same F s0 s) (qfree : F .free = false)
    (qregs : F .regs = false) (qlc : F .lc = false) (qsmx : F .smx = false) : SameO F s0 (execFabWakeFailed s) := by
  unfold execFabWakeFailed
  repeat' first
    | with_reducible assumption
    | (extract_lets +onlyGivenNames x; refine Same.cut (F := F) (a := s0) (x := x) ?_ (fun hx => ?_); (on_goal 1 => (unfold x; clear x)); (on_goal 2 => clear_value x))
    | with_reducible apply next_same
    | with_reducible apply fset_same
    | with_reducible apply forEach_same
    | with_reducible apply failBridge_same
    | with_reducible apply flag_same
    | intro _ _ _
    | split

theorem slIssue_same {F : Part → Bool} {s0 s : State} {a0 a1 a2} (h : Same F s0 s) (qfree : F .free = false)
    (qregs : F .regs = false) (qnis : F .nis = false) (qlookups : F .lookups = false)
    (qerrLog : F .errLog = false) (qledger : F .ledger = false) (qlc : F .lc = false) (qsmx : F .smx = false) :
    Same F s0 (slIssue a0 a1 a2 s) := by
  unfold slIssue
  repeat' first
    | with_reducible assumption
    | with_reducible apply modLc_same
    | with_reducible apply issueAccess_same
    | split

theorem slRetry_same {F : Part → Bool} {s0 s : State} (h : Same F s0 s) (qfree : F .free = false)
    (qregs : F .regs = false) (qnis : F .nis = false) (qlookups : F .lookups = false)
    (qerrLog : F .errLog = false) (qpower : F .power = false) (qledger : F .ledger = false)
    (qlc : F .lc = false) (qsmx : F .smx = false) : Same F s0 (slRetry s) := by
  unfold slRetry
  repeat' first
    | with_reducible assumption
    | (extract_lets +onlyGivenNames x; refine Same.cut (F := F) (a := s0) (x := x) ?_ (fun hx => ?_); (on_goal 1 => (unfold x; clear x)); (on_goal 2 => clear_value x))
    | with_reducible apply onlyIf_same
    | with_reducible apply nextOr_same
    | with_reducible apply execEpWakeReq_same
    | with_reducible apply slIssue_same
    | intro _ _
    | split

theorem slStart_same {F : Part → Bool} {s0 s : State} {a0} (h : Same F s0 s) (qfree : F .free = false)
    (qmtime : F .mtime = false) (qregs : F .regs = false) (qstaged : F .staged = false)
    (qstagedNow : F .stagedNow = false) (qchans : F .chans = false) (qrouters : F .routers = false)
    (qrt : F .rt = false) (qrtImg : F .rtImg = false) (qnis : F .nis = false) (qtime : F .time = false)
    (qart : F .art = false) (qartHold : F .artHold = false) (qartCmd : F .artCmd = false)
    (qartWait : F .artWait = false) (qartLongAt : F .artLongAt = false) (qlookups : F .lookups = false)
    (qfaults : F .faults = false) (qunsure : F .unsure = false) (qrsvRun : F .rsvRun = false)
    (qrsvWait : F .rsvWait = false) (qrsvCfgChg : F .rsvCfgChg = false) (qerrLog : F .errLog = false)
    (qslots : F .slots = false) (qpower : F .power = false) (qstrip : F .strip = false)
    (qfuses : F .fuses = false) (qledger : F .ledger = false) (qlc : F .lc = false) (qsmx : F .smx = false)
    (qmem : F .mem = false) (qrefillAt : F .refillAt = false) : Same F s0 (slStart a0 s) := by
  unfold slStart
  repeat' first
    | with_reducible assumption
    | (extract_lets +onlyGivenNames x; refine Same.cut (F := F) (a := s0) (x := x) ?_ (fun hx => ?_); (on_goal 1 => (unfold x; clear x)); (on_goal 2 => clear_value x))
    | (extract_lets +onlyGivenNames x)
    | with_reducible apply modLc_same
    | with_reducible apply issueSmx_same
    | with_reducible apply slRetry_same
    | with_reducible apply foldl_same
    | (with_reducible apply mk_same; with_reducible assumption; all_goals first | exact Or.inr (by assumption) | exact Or.inl (by with_reducible rfl))
    | intro _
    | split

theorem tapRise_same {F : Part → Bool} {s0 s : State} {a0} (h : Same F s0 s) (qfree : F .free = false)
    (qlc : F .lc = false) : Same F s0 (tapRise a0 s) := by
  unfold tapRise
  repeat' first
    | with_reducible assumption
    | (refine draw_pair2 ?_ (by with_reducible assumption) (by with_reducible assumption) )
    | (extract_lets +onlyGivenNames x)
    | with_reducible apply modLc_same
    | with_reducible apply draw_same
    | with_reducible apply draw_same
    | split

theorem tapFall_same {F : Part → Bool} {s0 s : State} (h : Same F s0 s) (qfree : F .free = false)
    (qmtime : F .mtime = false) (qregs : F .regs = false) (qstaged : F .staged = false)
    (qstagedNow : F .stagedNow = false) (qchans : F .chans = false) (qrouters : F .routers = false)
    (qrt : F .rt = false) (qrtImg : F .rtImg = false) (qnis : F .nis = false) (qtime : F .time = false)
    (qart : F .art = false) (qartHold : F .artHold = false) (qartCmd : F .artCmd = false)
    (qartWait : F .artWait = false) (qartLongAt : F .artLongAt = false) (qlookups : F .lookups = false)
    (qfaults : F .faults = false) (qunsure : F .unsure = false) (qrsvRun : F .rsvRun = false)
    (qrsvWait : F .rsvWait = false) (qrsvCfgChg : F .rsvCfgChg = false) (qerrLog : F .errLog = false)
    (qslots : F .slots = false) (qpower : F .power = false) (qstrip : F .strip = false)
    (qfuses : F .fuses = false) (qledger : F .ledger = false) (qlc : F .lc = false) (qsmx : F .smx = false)
    (qmem : F .mem = false) (qrefillAt : F .refillAt = false) : Same F s0 (tapFall s) := by
  unfold tapFall
  repeat' first
    | with_reducible assumption
    | (extract_lets +onlyGivenNames x; refine Same.cut (F := F) (a := s0) (x := x) ?_ (fun hx => ?_); (on_goal 1 => (unfold x; clear x)); (on_goal 2 => clear_value x))
    | (extract_lets +onlyGivenNames x)
    | with_reducible apply modLc_same
    | with_reducible apply onlyIf_same
    | with_reducible apply slStart_same
    | with_reducible apply foldl_same
    | (with_reducible apply mk_same; with_reducible assumption; all_goals first | exact Or.inr (by assumption) | exact Or.inl (by with_reducible rfl))
    | intro _ _ _
    | intro _ _
    | intro _
    | split

theorem tapClock_same {F : Part → Bool} {s0 s : State} {a1} (h : Same F s0 s) (qfree : F .free = false)
    (qmtime : F .mtime = false) (qregs : F .regs = false) (qstaged : F .staged = false)
    (qstagedNow : F .stagedNow = false) (qchans : F .chans = false) (qrouters : F .routers = false)
    (qrt : F .rt = false) (qrtImg : F .rtImg = false) (qnis : F .nis = false) (qtime : F .time = false)
    (qart : F .art = false) (qartHold : F .artHold = false) (qartCmd : F .artCmd = false)
    (qartWait : F .artWait = false) (qartLongAt : F .artLongAt = false) (qlookups : F .lookups = false)
    (qfaults : F .faults = false) (qunsure : F .unsure = false) (qrsvRun : F .rsvRun = false)
    (qrsvWait : F .rsvWait = false) (qrsvCfgChg : F .rsvCfgChg = false) (qerrLog : F .errLog = false)
    (qslots : F .slots = false) (qpower : F .power = false) (qstrip : F .strip = false)
    (qfuses : F .fuses = false) (qledger : F .ledger = false) (qlc : F .lc = false) (qsmx : F .smx = false)
    (qmem : F .mem = false) (qrefillAt : F .refillAt = false) : Same F s0 (tapClock s a1) := by
  unfold tapClock
  repeat' first
    | with_reducible assumption
    | (extract_lets +onlyGivenNames x)
    | with_reducible apply tapFall_same
    | with_reducible apply modLc_same
    | with_reducible apply tapRise_same

theorem execSlCtrl_same {F : Part → Bool} {s0 s : State} {a0 a1 a2} (h : Same F s0 s) (qfree : F .free = false)
    (qmtime : F .mtime = false) (qregs : F .regs = false) (qstaged : F .staged = false)
    (qstagedNow : F .stagedNow = false) (qchans : F .chans = false) (qrouters : F .routers = false)
    (qrt : F .rt = false) (qrtImg : F .rtImg = false) (qnis : F .nis = false) (qtime : F .time = false)
    (qart : F .art = false) (qartHold : F .artHold = false) (qartCmd : F .artCmd = false)
    (qartWait : F .artWait = false) (qartLongAt : F .artLongAt = false) (qlookups : F .lookups = false)
    (qfaults : F .faults = false) (qunsure : F .unsure = false) (qrsvRun : F .rsvRun = false)
    (qrsvWait : F .rsvWait = false) (qrsvCfgChg : F .rsvCfgChg = false) (qerrLog : F .errLog = false)
    (qslots : F .slots = false) (qpower : F .power = false) (qstrip : F .strip = false)
    (qfuses : F .fuses = false) (qledger : F .ledger = false) (qlc : F .lc = false) (qsmx : F .smx = false)
    (qmem : F .mem = false) (qrefillAt : F .refillAt = false) : SameO F s0 (execSlCtrl a0 a1 a2 s) := by
  unfold execSlCtrl
  repeat' first
    | with_reducible assumption
    | (extract_lets +onlyGivenNames x)
    | with_reducible apply next_same
    | with_reducible apply tapClock_same
    | with_reducible apply foldl_same
    | (with_reducible apply mk_same; with_reducible assumption; all_goals first | exact Or.inr (by assumption) | exact Or.inl (by with_reducible rfl))
    | intro _ _ _
    | intro _
    | split

theorem loadLk_same {F : Part → Bool} {s0 s : State} (h : Same F s0 s) (qregs : F .regs = false) : Same F s0
    (loadLk s) := by
  unfold loadLk
  repeat' first
    | with_reducible assumption
    | with_reducible apply forEach_same
    | with_reducible apply fset_same
    | intro _ _ _
    | split

theorem heldInReset_same {F : Part → Bool} {s0 s : State} (h : Same F s0 s) (qcyc : F .cyc = false)
    (qticks : F .ticks = false) (qsixths : F .sixths = false) (qus : F .us = false) (qmtime : F .mtime = false)
    (qregs : F .regs = false) (qstaged : F .staged = false) (qstagedNow : F .stagedNow = false)
    (qchans : F .chans = false) (qrouters : F .routers = false) (qrt : F .rt = false)
    (qrtImg : F .rtImg = false) (qnis : F .nis = false) (qtime : F .time = false) (qart : F .art = false)
    (qfence : F .fence = false) (qartHold : F .artHold = false) (qartCmd : F .artCmd = false)
    (qartWait : F .artWait = false) (qartLongAt : F .artLongAt = false) (qlookups : F .lookups = false)
    (qfaults : F .faults = false) (qswapUs : F .swapUs = false) (qswapTick : F .swapTick = false)
    (qswapStalled : F .swapStalled = false) (qunsure : F .unsure = false) (qunsureGen : F .unsureGen = false)
    (qflipUs : F .flipUs = false) (qflipTick : F .flipTick = false) (qflipStalled : F .flipStalled = false)
    (qswapLim : F .swapLim = false) (qflipLim : F .flipLim = false) (qrsvRun : F .rsvRun = false)
    (qrsvWait : F .rsvWait = false) (qrsvCfgChg : F .rsvCfgChg = false) (qerrLog : F .errLog = false)
    (qstableUs : F .stableUs = false) (qslots : F .slots = false) (qpower : F .power = false)
    (qstrip : F .strip = false) (qledger : F .ledger = false) (qlc : F .lc = false) (qsmx : F .smx = false)
    (qmem : F .mem = false) (qrefillAt : F .refillAt = false) : Same F s0 (heldInReset s) := by
  refine ⟨fun p hp => ?_⟩
  have hs := h.same p hp
  cases p
  case free => exact hs
  case pins => exact hs
  case fuses => exact hs
  all_goals exact same_or (Or.inr (by assumption)) hp hs

theorem resetSlots_same {F : Part → Bool} {s0 s : State} (h : Same F s0 s) (qregs : F .regs = false)
    (qnis : F .nis = false) : Same F s0 (resetSlots s) := by
  unfold resetSlots
  repeat' first
    | with_reducible assumption
    | (extract_lets +onlyGivenNames x; refine Same.cut (F := F) (a := s0) (x := x) ?_ (fun hx => ?_); (on_goal 1 => (unfold x; clear x)); (on_goal 2 => clear_value x))
    | with_reducible apply fset_same
    | with_reducible apply modNi_same
    | with_reducible apply forEach_same
    | intro _ _ _

theorem aonReset_same {F : Part → Bool} {s0 s : State} (h : Same F s0 s) (qfree : F .free = false)
    (qcyc : F .cyc = false) (qticks : F .ticks = false) (qsixths : F .sixths = false) (qus : F .us = false)
    (qmtime : F .mtime = false) (qregs : F .regs = false) (qstaged : F .staged = false)
    (qstagedNow : F .stagedNow = false) (qchans : F .chans = false) (qrouters : F .routers = false)
    (qrt : F .rt = false) (qrtImg : F .rtImg = false) (qnis : F .nis = false) (qtime : F .time = false)
    (qart : F .art = false) (qfence : F .fence = false) (qartHold : F .artHold = false)
    (qartCmd : F .artCmd = false) (qartWait : F .artWait = false) (qartLongAt : F .artLongAt = false)
    (qlookups : F .lookups = false) (qfaults : F .faults = false) (qswapUs : F .swapUs = false)
    (qswapTick : F .swapTick = false) (qswapStalled : F .swapStalled = false) (qunsure : F .unsure = false)
    (qunsureGen : F .unsureGen = false) (qflipUs : F .flipUs = false) (qflipTick : F .flipTick = false)
    (qflipStalled : F .flipStalled = false) (qswapLim : F .swapLim = false) (qflipLim : F .flipLim = false)
    (qrsvRun : F .rsvRun = false) (qrsvWait : F .rsvWait = false) (qrsvCfgChg : F .rsvCfgChg = false)
    (qerrLog : F .errLog = false) (qstableUs : F .stableUs = false) (qslots : F .slots = false)
    (qpower : F .power = false) (qstrip : F .strip = false) (qfuses : F .fuses = false)
    (qledger : F .ledger = false) (qlc : F .lc = false) (qsmx : F .smx = false) (qmem : F .mem = false)
    (qrefillAt : F .refillAt = false) : Same F s0 (aonReset s) := by
  unfold aonReset
  repeat' first
    | with_reducible assumption
    | (extract_lets +onlyGivenNames x; refine Same.cut (F := F) (a := s0) (x := x) ?_ (fun hx => ?_); (on_goal 1 => (unfold x; clear x)); (on_goal 2 => clear_value x))
    | (refine draw_pair2 ?_ (by with_reducible assumption) (by with_reducible assumption) )
    | (extract_lets +onlyGivenNames x)
    | with_reducible apply draw_same
    | with_reducible apply heldInReset_same
    | with_reducible apply loadLk_same
    | with_reducible apply resetSlots_same
    | with_reducible apply onlyIf_same
    | with_reducible apply flag_same
    | with_reducible apply enqueue_same
    | with_reducible apply draw_same
    | with_reducible apply foldl_same
    | (with_reducible apply mk_same; with_reducible assumption; all_goals first | exact Or.inr (by assumption) | exact Or.inl (by with_reducible rfl))
    | intro _ _ _
    | intro _ _
    | intro _
    | split
    | dsimp only
    | (with_reducible apply mk_same <;> first | exact Or.inr (by assumption) | exact Or.inl (by with_reducible rfl) | skip)

theorem execAonReset_same {F : Part → Bool} {s0 s : State} (h : Same F s0 s) (qfree : F .free = false)
    (qcyc : F .cyc = false) (qticks : F .ticks = false) (qsixths : F .sixths = false) (qus : F .us = false)
    (qmtime : F .mtime = false) (qregs : F .regs = false) (qstaged : F .staged = false)
    (qstagedNow : F .stagedNow = false) (qchans : F .chans = false) (qrouters : F .routers = false)
    (qrt : F .rt = false) (qrtImg : F .rtImg = false) (qnis : F .nis = false) (qtime : F .time = false)
    (qart : F .art = false) (qfence : F .fence = false) (qartHold : F .artHold = false)
    (qartCmd : F .artCmd = false) (qartWait : F .artWait = false) (qartLongAt : F .artLongAt = false)
    (qlookups : F .lookups = false) (qfaults : F .faults = false) (qswapUs : F .swapUs = false)
    (qswapTick : F .swapTick = false) (qswapStalled : F .swapStalled = false) (qunsure : F .unsure = false)
    (qunsureGen : F .unsureGen = false) (qflipUs : F .flipUs = false) (qflipTick : F .flipTick = false)
    (qflipStalled : F .flipStalled = false) (qswapLim : F .swapLim = false) (qflipLim : F .flipLim = false)
    (qrsvRun : F .rsvRun = false) (qrsvWait : F .rsvWait = false) (qrsvCfgChg : F .rsvCfgChg = false)
    (qerrLog : F .errLog = false) (qstableUs : F .stableUs = false) (qslots : F .slots = false)
    (qpower : F .power = false) (qstrip : F .strip = false) (qfuses : F .fuses = false)
    (qledger : F .ledger = false) (qlc : F .lc = false) (qsmx : F .smx = false) (qmem : F .mem = false)
    (qrefillAt : F .refillAt = false) : SameO F s0 (execAonReset s) := by
  unfold execAonReset
  repeat' first
    | with_reducible assumption
    | (extract_lets +onlyGivenNames x)
    | with_reducible apply next_same
    | with_reducible apply setQuiesce_same
    | with_reducible apply aonReset_same

theorem execBootCopyDone_same {F : Part → Bool} {s0 s : State} {a0} (h : Same F s0 s) (qregs : F .regs = false)
    (qtime : F .time = false) (qrsvRun : F .rsvRun = false) (qrsvWait : F .rsvWait = false)
    (qrsvCfgChg : F .rsvCfgChg = false) (qsmx : F .smx = false) (qmem : F .mem = false) : SameO F s0
    (execBootCopyDone a0 s) := by
  unfold execBootCopyDone
  repeat' first
    | with_reducible assumption
    | with_reducible apply next_same
    | with_reducible apply onlyIf_same
    | with_reducible apply fset_same
    | with_reducible apply bootDone_same
    | with_reducible apply setQuiesce_same
    | (with_reducible apply mk_same; with_reducible assumption; all_goals first | exact Or.inr (by assumption) | exact Or.inl (by with_reducible rfl))
    | intro _ _
    | split

theorem deadReset_same {F : Part → Bool} {s0 s : State} (h : Same F s0 s) (qcyc : F .cyc = false)
    (qticks : F .ticks = false) (qsixths : F .sixths = false) (qus : F .us = false) (qmtime : F .mtime = false)
    (qregs : F .regs = false) (qstaged : F .staged = false) (qstagedNow : F .stagedNow = false)
    (qchans : F .chans = false) (qrouters : F .routers = false) (qrt : F .rt = false)
    (qrtImg : F .rtImg = false) (qnis : F .nis = false) (qtime : F .time = false) (qart : F .art = false)
    (qfence : F .fence = false) (qartHold : F .artHold = false) (qartCmd : F .artCmd = false)
    (qartWait : F .artWait = false) (qartLongAt : F .artLongAt = false) (qlookups : F .lookups = false)
    (qfaults : F .faults = false) (qswapUs : F .swapUs = false) (qswapTick : F .swapTick = false)
    (qswapStalled : F .swapStalled = false) (qunsure : F .unsure = false) (qunsureGen : F .unsureGen = false)
    (qflipUs : F .flipUs = false) (qflipTick : F .flipTick = false) (qflipStalled : F .flipStalled = false)
    (qswapLim : F .swapLim = false) (qflipLim : F .flipLim = false) (qrsvRun : F .rsvRun = false)
    (qrsvWait : F .rsvWait = false) (qrsvCfgChg : F .rsvCfgChg = false) (qerrLog : F .errLog = false)
    (qstableUs : F .stableUs = false) (qslots : F .slots = false) (qpower : F .power = false)
    (qstrip : F .strip = false) (qledger : F .ledger = false) (qlc : F .lc = false) (qsmx : F .smx = false)
    (qmem : F .mem = false) (qrefillAt : F .refillAt = false) : Same F s0 (deadReset s) := by
  unfold deadReset
  repeat' first
    | with_reducible assumption
    | (extract_lets +onlyGivenNames x; refine Same.cut (F := F) (a := s0) (x := x) ?_ (fun hx => ?_); (on_goal 1 => (unfold x; clear x)); (on_goal 2 => clear_value x))
    | (extract_lets +onlyGivenNames x)
    | with_reducible apply heldInReset_same
    | with_reducible apply foldl_same
    | (with_reducible apply mk_same; with_reducible assumption; all_goals first | exact Or.inr (by assumption) | exact Or.inl (by with_reducible rfl))

theorem execTestModeFall_same {F : Part → Bool} {s0 s : State} (h : Same F s0 s) (qcyc : F .cyc = false)
    (qticks : F .ticks = false) (qsixths : F .sixths = false) (qus : F .us = false) (qmtime : F .mtime = false)
    (qpins : F .pins = false) (qregs : F .regs = false) (qstaged : F .staged = false)
    (qstagedNow : F .stagedNow = false) (qchans : F .chans = false) (qrouters : F .routers = false)
    (qrt : F .rt = false) (qrtImg : F .rtImg = false) (qnis : F .nis = false) (qtime : F .time = false)
    (qart : F .art = false) (qfence : F .fence = false) (qartHold : F .artHold = false)
    (qartCmd : F .artCmd = false) (qartWait : F .artWait = false) (qartLongAt : F .artLongAt = false)
    (qlookups : F .lookups = false) (qfaults : F .faults = false) (qswapUs : F .swapUs = false)
    (qswapTick : F .swapTick = false) (qswapStalled : F .swapStalled = false) (qunsure : F .unsure = false)
    (qunsureGen : F .unsureGen = false) (qflipUs : F .flipUs = false) (qflipTick : F .flipTick = false)
    (qflipStalled : F .flipStalled = false) (qswapLim : F .swapLim = false) (qflipLim : F .flipLim = false)
    (qrsvRun : F .rsvRun = false) (qrsvWait : F .rsvWait = false) (qrsvCfgChg : F .rsvCfgChg = false)
    (qerrLog : F .errLog = false) (qstableUs : F .stableUs = false) (qslots : F .slots = false)
    (qpower : F .power = false) (qstrip : F .strip = false) (qledger : F .ledger = false) (qlc : F .lc = false)
    (qsmx : F .smx = false) (qmem : F .mem = false) (qrefillAt : F .refillAt = false) : SameO F s0
    (execTestModeFall s) := by
  unfold execTestModeFall
  repeat' first
    | with_reducible assumption
    | (extract_lets +onlyGivenNames x; refine Same.cut (F := F) (a := s0) (x := x) ?_ (fun hx => ?_); (on_goal 1 => (unfold x; clear x)); (on_goal 2 => clear_value x))
    | (extract_lets +onlyGivenNames x)
    | with_reducible apply next_same
    | with_reducible apply deadReset_same
    | with_reducible apply foldl_same
    | (with_reducible apply mk_same; with_reducible assumption; all_goals first | exact Or.inr (by assumption) | exact Or.inl (by with_reducible rfl))
    | intro _
    | split

theorem holdFlags_same {F : Part → Bool} {s0 s : State} {a0} (h : Same F s0 s) (qregs : F .regs = false) : Same
    F s0 (holdFlags a0 s) := by
  unfold holdFlags
  repeat' first
    | with_reducible assumption
    | with_reducible apply forEach_same
    | with_reducible apply fsetB_same
    | intro _ _ _
    | split

theorem movePtr_same {F : Part → Bool} {s0 s : State} {a0 a1 a2} (h : Same F s0 s) (qnis : F .nis = false) :
    Same F s0 (movePtr a0 a1 a2 s) := by
  unfold movePtr
  repeat' first
    | with_reducible assumption
    | with_reducible apply modNi_same
    | split

theorem countWaits_same {F : Part → Bool} {s0 s : State} {a0 a1 a2} (h : Same F s0 s) (qnis : F .nis = false) :
    Same F s0 (countWaits a0 a1 a2 s) := by
  unfold countWaits
  repeat' first
    | with_reducible assumption
    | with_reducible apply forEach_same
    | with_reducible apply modEntry_same
    | intro _ _ _

theorem chargeRequest_same {F : Part → Bool} {s0 s : State} {a0 a1 a2} (h : Same F s0 s)
    (qregs : F .regs = false) : Same F s0 (chargeRequest a0 a1 a2 s) := by
  unfold chargeRequest
  repeat' first
    | with_reducible assumption
    | with_reducible apply countClass_same
    | with_reducible apply setTokens_same
    | with_reducible apply wrapAdd_same
    | with_reducible apply maxIn_same
    | with_reducible apply fset_same
    | split

theorem openEntry_same {F : Part → Bool} {s0 s : State} {a0 a1 a2} (h : Same F s0 s) (qregs : F .regs = false)
    (qnis : F .nis = false) : Same F s0 (openEntry a0 a1 a2 s) := by
  unfold openEntry
  repeat' first
    | with_reducible assumption
    | with_reducible apply chargeRequest_same
    | with_reducible apply forEach_same
    | with_reducible apply pushReady_same
    | with_reducible apply setEntry_same
    | intro _ _ _

theorem injectLeg0_same {F : Part → Bool} {s0 s : State} {a0 a1} (h : Same F s0 s) (qregs : F .regs = false)
    (qchans : F .chans = false) (qnis : F .nis = false) : Same F s0 (injectLeg0 a0 a1 s) := by
  unfold injectLeg0
  repeat' first
    | with_reducible assumption
    | with_reducible apply grantNi_same
    | split

theorem execAdmission_same {F : Part → Bool} {s0 s : State} {a0} (h : Same F s0 s) (qregs : F .regs = false)
    (qchans : F .chans = false) (qnis : F .nis = false) (qrefillAt : F .refillAt = false) : SameO F s0
    (execAdmission a0 s) := by
  unfold execAdmission
  repeat' first
    | with_reducible assumption
    | (extract_lets +onlyGivenNames x; refine Same.cut (F := F) (a := s0) (x := x) ?_ (fun hx => ?_); (on_goal 1 => (unfold x; clear x)); (on_goal 2 => clear_value x))
    | (extract_lets +onlyGivenNames x; clear_value x)
    | with_reducible apply next_same
    | with_reducible apply holdFlags_same
    | with_reducible apply onlyIf_same
    | with_reducible apply refillTick_same
    | with_reducible apply countWaits_same
    | with_reducible apply movePtr_same
    | with_reducible apply openEntry_same
    | with_reducible apply modNi_same
    | with_reducible apply injectLeg0_same
    | intro _ _
    | split

theorem endRouter_same {F : Part → Bool} {s0 s : State} {a0} (h : Same F s0 s) (qregs : F .regs = false)
    (qchans : F .chans = false) (qrouters : F .routers = false) (qerrLog : F .errLog = false) : Same F s0
    (endRouter a0 s) := by
  unfold endRouter
  repeat' first
    | with_reducible assumption
    | with_reducible apply retryHanded_same
    | with_reducible apply modRouter_same
    | with_reducible apply beginCycle_same

theorem endChans_same {F : Part → Bool} {s0 s : State} (h : Same F s0 s) (qchans : F .chans = false) : Same F
    s0 (endChans s) := by
  unfold endChans
  repeat' first
    | with_reducible assumption
    | (with_reducible apply mk_same; with_reducible assumption; all_goals first | exact Or.inr (by assumption) | exact Or.inl (by with_reducible rfl))

theorem idleNi_same {F : Part → Bool} {s0 s : State} {a0} (h : Same F s0 s) (qnis : F .nis = false) : Same F s0
    (idleNi a0 s) := by
  unfold idleNi
  repeat' first
    | with_reducible assumption
    | with_reducible apply modNi_same
    | split

theorem endNi_same {F : Part → Bool} {s0 s : State} {a0} (h : Same F s0 s) (qregs : F .regs = false)
    (qnis : F .nis = false) : Same F s0 (endNi a0 s) := by
  unfold endNi
  repeat' first
    | with_reducible assumption
    | (extract_lets +onlyGivenNames x; refine Same.cut (F := F) (a := s0) (x := x) ?_ (fun hx => ?_); (on_goal 1 => (unfold x; clear x)); (on_goal 2 => clear_value x))
    | with_reducible apply countTei_same
    | with_reducible apply countLocal_same
    | with_reducible apply idleNi_same
    | with_reducible apply modNi_same
    | with_reducible apply holdFlags_same
    | split

theorem sendAck_same {F : Part → Bool} {s0 s : State} {a0} (h : Same F s0 s) (qchans : F .chans = false) : Same
    F s0 (sendAck a0 s) := by
  unfold sendAck
  repeat' first
    | with_reducible assumption
    | with_reducible apply modChan_same

theorem sendIdle_same {F : Part → Bool} {s0 s : State} {a0} (h : Same F s0 s) (qchans : F .chans = false) :
    Same F s0 (sendIdle a0 s) := by
  unfold sendIdle
  repeat' first
    | with_reducible assumption
    | (extract_lets +onlyGivenNames x)
    | with_reducible apply sendFlit_same
    | with_reducible apply sendAck_same
    | split

theorem passTime_same {F : Part → Bool} {s0 s : State} {a0} (h : Same F s0 s) (qcyc : F .cyc = false)
    (qticks : F .ticks = false) (qsixths : F .sixths = false) (qmtime : F .mtime = false)
    (qtime : F .time = false) : Same F s0 (passTime a0 s) := by
  unfold passTime
  repeat' first
    | with_reducible assumption
    | (extract_lets +onlyGivenNames x; refine Same.cut (F := F) (a := s0) (x := x) ?_ (fun hx => ?_); (on_goal 1 => (unfold x; clear x)); (on_goal 2 => clear_value x))
    | (extract_lets +onlyGivenNames x)
    | with_reducible apply foldl_same
    | (with_reducible apply mk_same; with_reducible assumption; all_goals first | exact Or.inr (by assumption) | exact Or.inl (by with_reducible rfl))

theorem countQueued_same {F : Part → Bool} {s0 s : State} (h : Same F s0 s) (qregs : F .regs = false) : Same F
    s0 (countQueued s) := by
  unfold countQueued
  repeat' first
    | with_reducible assumption
    | with_reducible apply forEach_same
    | with_reducible apply wrapAdd_same
    | intro _ _ _
    | split

theorem endCommits_same {F : Part → Bool} {s0 s : State} (h : Same F s0 s) (qstagedNow : F .stagedNow = false)
    (qnis : F .nis = false) (qtime : F .time = false) : Same F s0 (endCommits s) := by
  unfold endCommits
  repeat' first
    | with_reducible assumption
    | (extract_lets +onlyGivenNames x; refine Same.cut (F := F) (a := s0) (x := x) ?_ (fun hx => ?_); (on_goal 1 => (unfold x; clear x)); (on_goal 2 => clear_value x))
    | (extract_lets +onlyGivenNames x)
    | with_reducible apply forEach_same
    | with_reducible apply modNi_same
    | with_reducible apply modTime_same
    | with_reducible apply foldl_same
    | (with_reducible apply mk_same; with_reducible assumption; all_goals first | exact Or.inr (by assumption) | exact Or.inl (by with_reducible rfl))
    | intro _ _ _

theorem wakeDemanded_same {F : Part → Bool} {s0 s : State} {a0} (h : Same F s0 s) (qregs : F .regs = false)
    (qnis : F .nis = false) : Same F s0 (wakeDemanded a0 s) := by
  unfold wakeDemanded
  repeat' first
    | with_reducible assumption
    | with_reducible apply onlyIf_same
    | with_reducible apply startWake_same
    | intro _ _

theorem idleCycle_same {F : Part → Bool} {s0 s : State} (h : Same F s0 s) (qfree : F .free = false)
    (qcyc : F .cyc = false) (qticks : F .ticks = false) (qsixths : F .sixths = false) (qus : F .us = false)
    (qmtime : F .mtime = false) (qregs : F .regs = false) (qstaged : F .staged = false)
    (qstagedNow : F .stagedNow = false) (qchans : F .chans = false) (qrouters : F .routers = false)
    (qrt : F .rt = false) (qrtImg : F .rtImg = false) (qnis : F .nis = false) (qtime : F .time = false)
    (qart : F .art = false) (qfence : F .fence = false) (qartHold : F .artHold = false)
    (qartCmd : F .artCmd = false) (qartWait : F .artWait = false) (qartLongAt : F .artLongAt = false)
    (qlookups : F .lookups = false) (qfaults : F .faults = false) (qswapUs : F .swapUs = false)
    (qswapTick : F .swapTick = false) (qswapStalled : F .swapStalled = false) (qunsure : F .unsure = false)
    (qunsureGen : F .unsureGen = false) (qflipUs : F .flipUs = false) (qflipTick : F .flipTick = false)
    (qflipStalled : F .flipStalled = false) (qswapLim : F .swapLim = false) (qflipLim : F .flipLim = false)
    (qrsvRun : F .rsvRun = false) (qrsvWait : F .rsvWait = false) (qrsvCfgChg : F .rsvCfgChg = false)
    (qerrLog : F .errLog = false) (qstableUs : F .stableUs = false) (qslots : F .slots = false)
    (qpower : F .power = false) (qstrip : F .strip = false) (qfuses : F .fuses = false)
    (qledger : F .ledger = false) (qlc : F .lc = false) (qsmx : F .smx = false) (qmem : F .mem = false)
    (qrefillAt : F .refillAt = false) : Same F s0 (idleCycle s) := by
  unfold idleCycle
  repeat' first
    | with_reducible assumption
    | (extract_lets +onlyGivenNames x; refine Same.cut (F := F) (a := s0) (x := x) ?_ (fun hx => ?_); (on_goal 1 => (unfold x; clear x)); (on_goal 2 => clear_value x))
    | (extract_lets +onlyGivenNames x)
    | with_reducible apply deadReset_same
    | with_reducible apply forEach_same
    | with_reducible apply endRouter_same
    | with_reducible apply sendIdle_same
    | with_reducible apply endChans_same
    | with_reducible apply endNi_same
    | with_reducible apply wakeDemanded_same
    | with_reducible apply countQueued_same
    | with_reducible apply raiseHold_same
    | with_reducible apply readyUnsigned_same
    | with_reducible apply slRetry_same
    | with_reducible apply smxCycle_same
    | with_reducible apply passTime_same
    | with_reducible apply endCommits_same
    | with_reducible apply writeLate_same
    | with_reducible apply foldl_same
    | (with_reducible apply mk_same; with_reducible assumption; all_goals first | exact Or.inr (by assumption) | exact Or.inl (by with_reducible rfl))
    | intro _ _ _
    | intro _
    | split

theorem portAnswer_same {F : Part → Bool} {s0 s : State} {a0 a1 a2} (h : Same F s0 s) (qregs : F .regs = false)
    (qnis : F .nis = false) (qerrLog : F .errLog = false) : Same F s0 (portAnswer a0 a1 a2 s) := by
  unfold portAnswer
  repeat' first
    | with_reducible assumption
    | (extract_lets +onlyGivenNames x)
    | with_reducible apply errNi_same
    | with_reducible apply pushReady_same
    | with_reducible apply foldl_same
    | intro _
    | split

theorem portCpl_same {F : Part → Bool} {s0 s : State} {a0 a1} (h : Same F s0 s) (qregs : F .regs = false)
    (qnis : F .nis = false) (qerrLog : F .errLog = false) : Same F s0 (portCpl a0 a1 s) := by
  unfold portCpl
  repeat' first
    | with_reducible assumption
    | (extract_lets +onlyGivenNames x)
    | with_reducible apply portAnswer_same

theorem portTiedOff_same {F : Part → Bool} {s0 s : State} {a0 a1} (h : Same F s0 s) (qregs : F .regs = false)
    (qnis : F .nis = false) (qerrLog : F .errLog = false) : Same F s0 (portTiedOff a0 a1 s) := by
  unfold portTiedOff
  repeat' first
    | with_reducible assumption
    | (extract_lets +onlyGivenNames x; refine Same.cut (F := F) (a := s0) (x := x) ?_ (fun hx => ?_); (on_goal 1 => (unfold x; clear x)); (on_goal 2 => clear_value x))
    | with_reducible apply satAdd_same
    | with_reducible apply errNi_same
    | with_reducible apply pushAnswer_same
    | split

theorem portDiscard_same {F : Part → Bool} {s0 s : State} {a0 a1} (h : Same F s0 s) (qregs : F .regs = false)
    (qerrLog : F .errLog = false) : Same F s0 (portDiscard a0 a1 s) := by
  unfold portDiscard
  repeat' first
    | with_reducible assumption
    | with_reducible apply errNi_same

theorem portTake_same {F : Part → Bool} {s0 s : State} {a0 a1 a2} (h : Same F s0 s) (qregs : F .regs = false)
    (qchans : F .chans = false) (qnis : F .nis = false) (qerrLog : F .errLog = false)
    (hf : ∀ a t, Same F s0 t → Same F s0 (a2 a t)): Same F s0 (portTake a0 a1 a2 s) := by
  unfold portTake
  repeat' first
    | with_reducible assumption
    | (extract_lets +onlyGivenNames x; refine Same.cut (F := F) (a := s0) (x := x) ?_ (fun hx => ?_); (on_goal 1 => (unfold x; clear x)); (on_goal 2 => clear_value x))
    | with_reducible apply consumePacket_same
    | with_reducible apply wakeN1_same
    | with_reducible apply portDiscard_same
    | with_reducible apply portTiedOff_same
    | with_reducible apply hf
    | split

theorem timeAnswer_same {F : Part → Bool} {s0 s : State} {a0} (h : Same F s0 s) (qregs : F .regs = false)
    (qnis : F .nis = false) (qerrLog : F .errLog = false) : Same F s0 (timeAnswer a0 s) := by
  unfold timeAnswer
  repeat' first
    | with_reducible assumption
    | (extract_lets +onlyGivenNames x)
    | with_reducible apply portAnswer_same
    | with_reducible apply portCpl_same
    | with_reducible apply foldl_same
    | intro _
    | split

theorem powerAnswer_same {F : Part → Bool} {s0 s : State} {a0} (h : Same F s0 s) (qregs : F .regs = false)
    (qnis : F .nis = false) (qerrLog : F .errLog = false) : Same F s0 (powerAnswer a0 s) := by
  unfold powerAnswer
  repeat' first
    | with_reducible assumption
    | (extract_lets +onlyGivenNames x)
    | with_reducible apply portAnswer_same
    | with_reducible apply pushAnswer_same
    | with_reducible apply foldl_same
    | intro _
    | split

theorem ledgerAnswer_same {F : Part → Bool} {s0 s : State} {a0} (h : Same F s0 s) (qregs : F .regs = false)
    (qnis : F .nis = false) (qerrLog : F .errLog = false) : Same F s0 (ledgerAnswer a0 s) := by
  unfold ledgerAnswer
  repeat' first
    | with_reducible assumption
    | (extract_lets +onlyGivenNames x)
    | with_reducible apply portAnswer_same
    | with_reducible apply portCpl_same
    | with_reducible apply foldl_same
    | intro _
    | split

theorem execTimePortRead_same {F : Part → Bool} {s0 s : State} {a0} (h : Same F s0 s) (qregs : F .regs = false)
    (qchans : F .chans = false) (qnis : F .nis = false) (qerrLog : F .errLog = false) : SameO F s0
    (execTimePortRead a0 s) := by
  unfold execTimePortRead
  repeat' first
    | with_reducible assumption
    | with_reducible apply next_same
    | with_reducible apply portTake_same
    | with_reducible apply timeAnswer_same
    | intro _ _ _

theorem execPowerPortRead_same {F : Part → Bool} {s0 s : State} {a0} (h : Same F s0 s)
    (qregs : F .regs = false) (qchans : F .chans = false) (qnis : F .nis = false) (qerrLog : F .errLog = false)
    : SameO F s0 (execPowerPortRead a0 s) := by
  unfold execPowerPortRead
  repeat' first
    | with_reducible assumption
    | with_reducible apply next_same
    | with_reducible apply portTake_same
    | with_reducible apply powerAnswer_same
    | intro _ _ _

theorem execLedgerPortRead_same {F : Part → Bool} {s0 s : State} {a0} (h : Same F s0 s)
    (qregs : F .regs = false) (qchans : F .chans = false) (qnis : F .nis = false) (qerrLog : F .errLog = false)
    : SameO F s0 (execLedgerPortRead a0 s) := by
  unfold execLedgerPortRead
  repeat' first
    | with_reducible assumption
    | with_reducible apply next_same
    | with_reducible apply portTiedOff_same
    | with_reducible apply consumePacket_same
    | with_reducible apply wakeN1_same
    | with_reducible apply portTake_same
    | with_reducible apply ledgerAnswer_same
    | intro _ _ _
    | split

end Sys2Proof.Machine
end

