-- ==== Sys2Proof/Laws/Memory.lean ====
section
/-! SUPPORT. The working SRAM: tables, the canonical form that every operation keeps, and what a byte reads as after a
write. -/

namespace Sys2Proof.Machine

/-! ## Tables -/

theorem tfind_tins {α : Type} (t : Tbl α) (k : Nat) (a : α) (j : Nat) :
    tfind (tins t k a) j = if k = j then some a else tfind t j := by
  induction t with
  | nil => simp [tins, tfind]
  | cons e t ih =>
    obtain ⟨i, b⟩ := e
    unfold tins
    split
    · rename_i h; subst h; simp only [tfind]; split <;> rfl
    · split
      · simp only [tfind]
      · simp only [tfind, ih]
        split
        · rename_i h1 h2 h3; subst h3; rw [if_neg (fun h => h1 h.symm)]
        · rfl

theorem tfind_tdel {α : Type} (t : Tbl α) (k j : Nat) :
    tfind (tdel t k) j = if k = j then none else tfind t j := by
  induction t with
  | nil => simp [tdel, tfind]
  | cons e t ih =>
    obtain ⟨i, b⟩ := e
    unfold tdel
    split
    · rename_i h; subst h; rw [ih]; simp only [tfind]; split <;> rfl
    · rename_i h1
      simp only [tfind, ih]
      split
      · rename_i h3; subst h3; rw [if_neg (fun h => h1 h.symm)]
      · rfl

/-- What a table reads at any key after one entry is set. -/
theorem tget_tput {α : Type} [DecidableEq α] (d : α) (t : Tbl α) (k : Nat) (a : α) (j : Nat) :
    tget d (tput d t k a) j = if k = j then a else tget d t j := by
  unfold tput tget
  split
  · rename_i h; subst h; rw [tfind_tdel]; split <;> rfl
  · rw [tfind_tins]; split <;> rfl

@[simp] theorem tget_tput_self {α : Type} [DecidableEq α] (d : α) (t : Tbl α) (k : Nat) (a : α) :
    tget d (tput d t k a) k = a := by rw [tget_tput]; simp

theorem tget_tput_ne {α : Type} [DecidableEq α] {d : α} {t : Tbl α} {k j : Nat} {a : α} (h : k ≠ j) :
    tget d (tput d t k a) j = tget d t j := by rw [tget_tput, if_neg h]

/-! ## The canonical form -/

/-- Every address of a list of cells is above a bound. -/
theorem cellsRise_cons (c : Host.Cell) (l : List Host.Cell) :
    cellsRise (c :: l) = (l.all (fun e => decide (c.1 < e.1)) && cellsRise l) := by
  induction l generalizing c with
  | nil => rfl
  | cons e l ih =>
    obtain ⟨a, x⟩ := c
    obtain ⟨b, y⟩ := e
    have h := ih (b, y)
    simp only [cellsRise, List.all_cons, h]
    by_cases hab : a < b
    · by_cases hb : l.all (fun e => decide (b < e.1)) = true
      · have : l.all (fun e => decide (a < e.1)) = true := by
          rw [List.all_eq_true] at hb ⊢
          intro e he; have := hb e he; simp only [decide_eq_true_eq] at *; omega
        simp [hab, hb, this]
      · simp [hab, hb]
    · simp [hab]

theorem cellsRise_tins (l : List Host.Cell) (a : Nat) (b : Byte) (h : cellsRise l = true) :
    cellsRise (tins l a b) = true ∧
    ∀ c : Nat, c < a → l.all (fun e => decide (c < e.1)) = true → (tins l a b).all (fun e => decide (c < e.1)) = true := by
  induction l with
  | nil => exact ⟨rfl, fun c hc _ => by simp [tins, hc]⟩
  | cons e l ih =>
    obtain ⟨i, x⟩ := e
    rw [cellsRise_cons, Bool.and_eq_true] at h
    have ⟨k1, k2⟩ := ih h.2
    unfold tins
    split
    · rename_i e; subst e
      refine ⟨by rw [cellsRise_cons, h.2, h.1]; rfl, fun c hc hl => ?_⟩
      simp only [List.all_cons, Bool.and_eq_true] at hl ⊢; exact hl
    · split
      · rename_i h1 h2
        refine ⟨?_, fun c hc hl => ?_⟩
        · rw [cellsRise_cons, cellsRise_cons, h.2, h.1]
          simp only [List.all_cons, Bool.and_true, Bool.and_eq_true, decide_eq_true_eq, h2, true_and]
          have := h.1
          rw [List.all_eq_true] at this ⊢
          intro e he; have := this e he; simp only [decide_eq_true_eq] at *; omega
        · simp only [List.all_cons, Bool.and_eq_true, decide_eq_true_eq] at hl ⊢; exact ⟨hc, hl⟩
      · refine ⟨?_, fun c hc hl => ?_⟩
        · rw [cellsRise_cons, k1, k2 i (by omega) h.1]; rfl
        · simp only [List.all_cons, Bool.and_eq_true] at hl ⊢; exact ⟨hl.1, k2 c hc hl.2⟩

theorem cellsRise_sub (l m : List Host.Cell) (hs : m.Sublist l) (h : cellsRise l = true) : cellsRise m = true := by
  induction hs with
  | slnil => rfl
  | cons c hs ih => rw [cellsRise_cons, Bool.and_eq_true] at h; exact ih h.2
  | cons_cons c hs ih =>
    rw [cellsRise_cons, Bool.and_eq_true] at h ⊢
    refine ⟨?_, ih h.2⟩
    rw [List.all_eq_true] at *
    exact fun e he => h.1 e (hs.subset he)

theorem tdel_sub {α : Type} (t : Tbl α) (k : Nat) : (tdel t k).Sublist t := by
  induction t with
  | nil => exact List.Sublist.refl _
  | cons e t ih =>
    obtain ⟨i, b⟩ := e
    unfold tdel; split
    · exact ih.cons _
    · exact ih.cons_cons _

theorem tins_mem {α : Type} (t : Tbl α) (k : Nat) (a : α) : ∀ e ∈ tins t k a, e = (k, a) ∨ e ∈ t := by
  induction t with
  | nil => intro e he; simp [tins] at he; exact .inl he
  | cons c t ih =>
    obtain ⟨i, b⟩ := c
    intro e he
    unfold tins at he
    split at he
    · simp only [List.mem_cons] at he ⊢; rcases he with he | he
      · exact .inl he
      · exact .inr (.inr he)
    · split at he
      · simp only [List.mem_cons] at he ⊢; exact he
      · simp only [List.mem_cons] at he ⊢; rcases he with he | he
        · exact .inr (.inl he)
        · rcases ih e he with h | h
          · exact .inl h
          · exact .inr (.inr h)

/-- A write keeps the canonical form of the working SRAM. -/
theorem memWf_sramPut (a : Nat) (b : Byte) (s : State) (h : memWf s = true) : memWf (sramPut a b s) = true := by
  unfold memWf at *
  rw [Bool.and_eq_true, List.all_eq_true] at h ⊢
  unfold sramPut
  dsimp only
  split
  · rename_i hl
    refine ⟨(cellsRise_tins s.mem a b h.1).1, fun e he => ?_⟩
    rcases tins_mem _ _ _ e he with rfl | he
    · simp only [hl, Bool.true_or]
    · exact h.2 e he
  · unfold tput
    split
    · exact ⟨cellsRise_sub _ _ (tdel_sub _ _) h.1, fun e he => h.2 e ((tdel_sub _ _).subset he)⟩
    · rename_i hb
      refine ⟨(cellsRise_tins s.mem a b h.1).1, fun e he => ?_⟩
      rcases tins_mem _ _ _ e he with rfl | he
      · simp only [Bool.or_eq_true, bne_iff_ne]; exact .inr hb
      · exact h.2 e he

/-- The loader's copy keeps it: what software wrote under the copied loader is no longer listed. -/
theorem memWf_loaded (s : State) (bad : Bool) (h : memWf s = true) :
    memWf { s with mem := s.mem.filter (fun c => 65536 ≤ c.1)
                   smx := { s.smx with romCopied := true, copyBad := bad } } = true := by
  unfold memWf at *
  rw [Bool.and_eq_true, List.all_eq_true] at h ⊢
  refine ⟨cellsRise_sub _ _ List.filter_sublist h.1, fun e he => ?_⟩
  have := h.2 e (List.mem_of_mem_filter he)
  have hge := (List.mem_filter.mp he).2
  simp only [decide_eq_true_eq] at hge
  simp only [Bool.or_eq_true, Bool.and_eq_true, decide_eq_true_eq] at this ⊢
  rcases this with h | h
  · omega
  · exact .inr h

/-- A word's bytes are written in the canonical form. -/
theorem memWf_sramWrite (a : Nat) (w : Word) (m : BitVec 8) (s : State) (h : memWf s = true) :
    memWf (sramWrite a w m s) = true := by
  unfold sramWrite forEach
  generalize List.range 8 = l
  induction l generalizing s with
  | nil => exact h
  | cons i l ih =>
    refine ih _ ?_
    show memWf (onlyIf _ _ s) = true
    unfold onlyIf; split
    · exact memWf_sramPut _ _ _ h
    · exact h

/-- Reset lists nothing. -/
theorem memWf_reset : memWf State.reset = true := rfl

/-- Any byte after a byte is written. -/
theorem sramByte_sramPut (a : Nat) (b : Byte) (s : State) (j : Nat) :
    sramByte (sramPut a b s) j = if a = j then b else sramByte s j := by
  unfold sramByte sramPut
  dsimp only
  split
  · unfold tget; rw [tfind_tins]; split <;> rfl
  · rename_i hl
    unfold tput
    split
    · rename_i hb
      unfold tget
      rw [tfind_tdel]
      split
      · rename_i e; subst e
        simp only [sramDefault, hl, Bool.false_eq_true, if_false, Option.getD_none, hb]
      · rfl
    · unfold tget; rw [tfind_tins]; split <;> rfl

end Sys2Proof.Machine
end

