-- ==== Sys2Proof/Laws/Keeps.lean ====
section
/-! SUPPORT. Every operation of the machine keeps the queue of commands, the invariant SysInv and the life cycle's order: one
lemma for each operation, in the order of the model's files. -/

namespace Sys2Proof.Machine

/-! ## The relation -/
theorem Keeps.refl (s : State) : Keeps s s := ⟨rfl, fun h => ⟨h, Nat.le_refl _⟩⟩

theorem Keeps.trans {a b c : State} (h : Keeps a b) (k : Keeps b c) : Keeps a c :=
  ⟨k.1.trans h.1, fun i => ⟨(k.2 (h.2 i).1).1, Nat.le_trans (h.2 i).2 (k.2 (h.2 i).1).2⟩⟩

theorem Keeps.cut {a x : State} {P : Prop} (h : Keeps a x) (k : Keeps a x → P) : P := k h

/-- A state that agrees with another on everything that Keeps speaks of. -/
theorem Keeps.view {s0 s t : State} (h : Keeps s0 s) (e1 : t.pending = s.pending) (e2 : t.errLog = s.errLog)
    (e3 : t.faults = s.faults) (e4 : t.mem = s.mem) (e5 : t.time.log = s.time.log) (e6 : t.strip.log = s.strip.log)
    (e7 : t.power.log = s.power.log) (e8 : t.fuses.lc = s.fuses.lc) (e9 : t.fuses.slots = s.fuses.slots)
    (e10 : t.fuses.bootCount = s.fuses.bootCount) (e11 : t.ledger.queue = s.ledger.queue)
    (e12 : t.lc.running = s.lc.running) (e13 : t.smx.romCopied = s.smx.romCopied) : Keeps s0 t := by
  refine h.trans ⟨e1, fun i => ⟨?_, by rw [e8]⟩⟩
  constructor
  · have := i.sram; unfold memWf at *; rw [e4, e13]; exact this
  · rw [e2]; exact i.errLog
  · rw [e5]; exact i.evtLog
  · rw [e3]; exact i.faults
  · rw [e6]; exact i.stripLog
  · rw [e7]; exact i.refLog
  · rw [e9]; exact i.slots
  · rw [e10]; exact i.boots
  · rw [e8]; exact i.lcCells
  · rw [e12, e8]; exact i.running
  · rw [e11, e8]; exact i.queue

/-- A record update of a state. -/
theorem mk_keeps {s0 s : State} {v_free v_cyc v_ticks v_sixths v_us v_mtime v_pins v_regs v_staged v_stagedNow
    v_chans v_routers
    v_rt v_rtImg v_nis v_time v_art v_fence v_artHold v_artCmd v_artWait v_artLongAt v_lookups v_swapUs v_swapTick
    v_swapStalled v_unsure v_unsureGen v_flipUs v_flipTick v_flipStalled v_swapLim v_flipLim v_rsvRun v_rsvWait v_rsvCfgChg v_stableUs
    v_slots v_power v_strip v_fuses v_ledger v_lc v_smx v_refillAt} (h : Keeps s0 s)
        (e_time_log : v_time.log = s.time.log)
        (e_strip_log : v_strip.log = s.strip.log)
        (e_power_log : v_power.log = s.power.log)
        (e_fuses_lc : v_fuses.lc = s.fuses.lc)
        (e_fuses_slots : v_fuses.slots = s.fuses.slots)
        (e_fuses_bootCount : v_fuses.bootCount = s.fuses.bootCount)
        (e_ledger_queue : v_ledger.queue = s.ledger.queue)
        (e_lc_running : v_lc.running = s.lc.running)
        (e_smx_romCopied : v_smx.romCopied = s.smx.romCopied)
        : Keeps s0 (State.mk s.pending v_free v_cyc v_ticks v_sixths v_us v_mtime v_pins v_regs v_staged
    v_stagedNow v_chans
    v_routers v_rt v_rtImg v_nis v_time v_art v_fence v_artHold v_artCmd v_artWait v_artLongAt v_lookups s.faults
    v_swapUs v_swapTick v_swapStalled v_unsure v_unsureGen v_flipUs v_flipTick v_flipStalled v_swapLim
    v_flipLim v_rsvRun v_rsvWait
    v_rsvCfgChg s.errLog v_stableUs v_slots v_power v_strip v_fuses v_ledger v_lc v_smx s.mem v_refillAt) :=
    Keeps.view h rfl rfl rfl rfl e_time_log e_strip_log e_power_log e_fuses_lc e_fuses_slots e_fuses_bootCount
    e_ledger_queue e_lc_running e_smx_romCopied

theorem next_keeps {s t : State} (h : Keeps s t) : KeepsO s (.next t) := ⟨by intro u e; cases e; exact h⟩

theorem KeepsO.of {s0 s : State} {o : Host.Outcome State Fault Refusal} (h : Keeps s0 s) (k : KeepsO s o) :
    KeepsO s0 o := ⟨fun t e => h.trans (k.next t e)⟩

/-! ## Combinators -/
theorem onlyIf_keeps {s0 s : State} {c : Bool} {f : State → State} (h : Keeps s0 s)
    (hf : ∀ t, Keeps s0 t → Keeps s0 (f t)) : Keeps s0 (onlyIf c f s) := by
  unfold onlyIf; split
  · exact hf s h
  · exact h

theorem foldl_keeps {α : Type} {s0 : State} {f : State → α → State} (hf : ∀ t a, Keeps s0 t → Keeps s0 (f t a)) :
    ∀ {l : List α} {s : State}, Keeps s0 s → Keeps s0 (l.foldl f s) := by
  intro l
  induction l with
  | nil => intro s h; exact h
  | cons a l ih => intro s h; exact ih (hf s a h)

theorem forEach_keeps {α : Type} {s0 s : State} {l : List α} {f : α → State → State} (h : Keeps s0 s)
    (hf : ∀ a t, Keeps s0 t → Keeps s0 (f a t)) : Keeps s0 (forEach l f s) :=
  foldl_keeps (fun t a ht => hf a t ht) h

theorem nextOr_keeps {s0 s : State} {o : Out} (ho : KeepsO s0 o) (h : Keeps s0 s) : Keeps s0 (nextOr o s) := by
  unfold nextOr; split
  · exact ho.next _ rfl
  · exact h

theorem foldl_frame {α β : Type} (g : State → β) {f : State → α → State} (hf : ∀ t a, g (f t a) = g t) :
    ∀ {l : List α} {s : State}, g (l.foldl f s) = g s := by
  intro l
  induction l with
  | nil => intro s; rfl
  | cons a l ih => intro s; exact (ih (s := f s a)).trans (hf s a)

theorem forEach_frame {α β : Type} (g : State → β) {l : List α} {f : α → State → State} {s : State}
    (hf : ∀ a t, g (f a t) = g t) : g (forEach l f s) = g s := foldl_frame g (fun t a => hf a t)

theorem fset_keeps {s0 s : State} {a0 a1 a2 a4} (h : Keeps s0 s) : Keeps s0 (fset a0 a1 a2 s a4) := by
  unfold fset
  repeat' first
    | with_reducible assumption
    | (with_reducible apply mk_keeps; with_reducible assumption; all_goals with_reducible rfl)

theorem fsetB_keeps {s0 s : State} {a0 a1 a2 a4} (h : Keeps s0 s) : Keeps s0 (fsetB a0 a1 a2 s a4) := by
  unfold fsetB
  repeat' first
    | with_reducible assumption
    | with_reducible apply fset_keeps

theorem sset_keeps {s0 s : State} {a0 a1 a2 a4} (h : Keeps s0 s) : Keeps s0 (sset a0 a1 a2 s a4) := by
  unfold sset
  repeat' first
    | with_reducible assumption
    | (extract_lets +onlyGivenNames x; refine Keeps.cut (a := s0) (x := x) ?_ (fun hx => ?_); (on_goal 1 => (unfold x; clear x)); (on_goal 2 => clear_value x))
    | with_reducible apply fset_keeps
    | (with_reducible apply mk_keeps; with_reducible assumption; all_goals with_reducible rfl)

theorem mergeStaged_keeps {s0 s : State} {a0} (h : Keeps s0 s) : Keeps s0 (mergeStaged a0 s) := by
  unfold mergeStaged
  repeat' first
    | with_reducible assumption
    | (with_reducible apply mk_keeps; with_reducible assumption; all_goals with_reducible rfl)

theorem dropStaged_keeps {s0 s : State} {a0} (h : Keeps s0 s) : Keeps s0 (dropStaged a0 s) := by
  unfold dropStaged
  repeat' first
    | with_reducible assumption
    | (with_reducible apply mk_keeps; with_reducible assumption; all_goals with_reducible rfl)

theorem clearFields_keeps {s0 s : State} {a0 a1} (h : Keeps s0 s) : Keeps s0 (clearFields a0 a1 s) := by
  unfold clearFields
  repeat' first
    | with_reducible assumption
    | (with_reducible apply mk_keeps; with_reducible assumption; all_goals with_reducible rfl)

theorem fclear_keeps {s0 s : State} {a0 a1 a3} (h : Keeps s0 s) : Keeps s0 (fclear a0 a1 s a3) := by
  unfold fclear
  repeat' first
    | with_reducible assumption
    | (with_reducible apply mk_keeps; with_reducible assumption; all_goals with_reducible rfl)

theorem setChan_keeps {s0 s : State} {a0 a1} (h : Keeps s0 s) : Keeps s0 (setChan a0 a1 s) := by
  unfold setChan
  repeat' first
    | with_reducible assumption
    | (with_reducible apply mk_keeps; with_reducible assumption; all_goals with_reducible rfl)

theorem modChan_keeps {s0 s : State} {a0 a1} (h : Keeps s0 s) : Keeps s0 (modChan a0 a1 s) := by
  unfold modChan
  repeat' first
    | with_reducible assumption
    | with_reducible apply setChan_keeps

theorem setRouter_keeps {s0 s : State} {a0 a1} (h : Keeps s0 s) : Keeps s0 (setRouter a0 a1 s) := by
  unfold setRouter
  repeat' first
    | with_reducible assumption
    | (with_reducible apply mk_keeps; with_reducible assumption; all_goals with_reducible rfl)

theorem modRouter_keeps {s0 s : State} {a0 a1} (h : Keeps s0 s) : Keeps s0 (modRouter a0 a1 s) := by
  unfold modRouter
  repeat' first
    | with_reducible assumption
    | with_reducible apply setRouter_keeps

theorem setNi_keeps {s0 s : State} {a0 a1} (h : Keeps s0 s) : Keeps s0 (setNi a0 a1 s) := by
  unfold setNi
  repeat' first
    | with_reducible assumption
    | (with_reducible apply mk_keeps; with_reducible assumption; all_goals with_reducible rfl)

theorem modNi_keeps {s0 s : State} {a0 a1} (h : Keeps s0 s) : Keeps s0 (modNi a0 a1 s) := by
  unfold modNi
  repeat' first
    | with_reducible assumption
    | with_reducible apply setNi_keeps

theorem modVc_keeps {s0 s : State} {a0 a1 a2} (h : Keeps s0 s) : Keeps s0 (modVc a0 a1 a2 s) := by
  unfold modVc
  repeat' first
    | with_reducible assumption
    | with_reducible apply modChan_keeps

theorem setEntry_keeps {s0 s : State} {a0 a1 a2} (h : Keeps s0 s) : Keeps s0 (setEntry a0 a1 a2 s) := by
  unfold setEntry
  repeat' first
    | with_reducible assumption
    | with_reducible apply modNi_keeps

theorem modEntry_keeps {s0 s : State} {a0 a1 a2} (h : Keeps s0 s) : Keeps s0 (modEntry a0 a1 a2 s) := by
  unfold modEntry
  repeat' first
    | with_reducible assumption
    | with_reducible apply setEntry_keeps

theorem draw_keeps {s0 s : State} (h : Keeps s0 s) : Keeps s0 (draw s).2 := by
  simp only [draw]; exact Keeps.view h rfl rfl rfl rfl rfl rfl rfl rfl rfl rfl rfl rfl rfl

theorem draw_pair {s0 s t : State} {d : Nat} (h : Keeps s0 s) (e : draw s = (d, t)) : Keeps s0 t := by
  have k := draw_keeps h; rw [e] at k; exact k

theorem sramPut_keeps {s0 s : State} {a b} (h : Keeps s0 s) : Keeps s0 (sramPut a b s) :=
  h.trans ⟨rfl, fun i => ⟨{ i with sram := memWf_sramPut a b s i.sram }, Nat.le_refl _⟩⟩

theorem sramWrite_keeps {s0 s : State} {a0 a1 a2} (h : Keeps s0 s) : Keeps s0 (sramWrite a0 a1 a2 s) := by
  unfold sramWrite
  repeat' first
    | with_reducible assumption
    | with_reducible apply forEach_keeps
    | with_reducible apply onlyIf_keeps
    | with_reducible apply sramPut_keeps
    | intro _ _ _
    | intro _ _

theorem satAdd_keeps {s0 s : State} {a0 a1 a2 a4} (h : Keeps s0 s) : Keeps s0 (satAdd a0 a1 a2 s a4) := by
  unfold satAdd
  repeat' first
    | with_reducible assumption
    | with_reducible apply fset_keeps

theorem wrapAdd_keeps {s0 s : State} {a0 a1 a2 a4} (h : Keeps s0 s) : Keeps s0 (wrapAdd a0 a1 a2 s a4) := by
  unfold wrapAdd
  repeat' first
    | with_reducible assumption
    | with_reducible apply fset_keeps

theorem maxIn_keeps {s0 s : State} {a0 a1 a2 a4} (h : Keeps s0 s) : Keeps s0 (maxIn a0 a1 a2 s a4) := by
  unfold maxIn
  repeat' first
    | with_reducible assumption
    | with_reducible apply fset_keeps

theorem flag_keeps {s0 s : State} {a0 a1 a3} (h : Keeps s0 s) : Keeps s0 (flag a0 a1 s a3) := by
  unfold flag
  repeat' first
    | with_reducible assumption
    | with_reducible apply fset_keeps

theorem flagBit_keeps {s0 s : State} {a0 a1 a2} (h : Keeps s0 s) : Keeps s0 (flagBit a0 a1 a2 s) := by
  unfold flagBit
  repeat' first
    | with_reducible assumption
    | with_reducible apply fset_keeps

theorem unflagBit_keeps {s0 s : State} {a0 a1 a2} (h : Keeps s0 s) : Keeps s0 (unflagBit a0 a1 a2 s) := by
  unfold unflagBit
  repeat' first
    | with_reducible assumption
    | with_reducible apply fset_keeps

theorem irqHold_keeps {s0 s : State} {a0 a1} (h : Keeps s0 s) : Keeps s0 (irqHold a0 a1 s) := by
  unfold irqHold
  repeat' first
    | with_reducible assumption
    | with_reducible apply flagBit_keeps

theorem pageErr_keeps {s0 s : State} {a0 a1 a2} (h : Keeps s0 s) : Keeps s0 (pageErr a0 a1 a2 s) := by
  unfold pageErr
  repeat' first
    | with_reducible assumption
    | with_reducible apply irqHold_keeps
    | with_reducible apply flag_keeps
    | with_reducible apply onlyIf_keeps
    | with_reducible apply fset_keeps
    | intro _ _

theorem errReserved_keeps {s0 s : State} {a0 a1} (h : Keeps s0 s) : Keeps s0 (errReserved a0 a1 s) := by
  unfold errReserved
  repeat' first
    | with_reducible assumption
    | with_reducible apply pageErr_keeps

theorem errState_keeps {s0 s : State} {a0 a1} (h : Keeps s0 s) : Keeps s0 (errState a0 a1 s) := by
  unfold errState
  repeat' first
    | with_reducible assumption
    | with_reducible apply pageErr_keeps

theorem errRecord_keeps {s0 s : State} {a0 a1 a2 a3 a4 a5} (h : Keeps s0 s) :
    Keeps s0 (errRecord a0 a1 a2 a3 a4 a5 s) := by
  unfold errRecord
  split
  · exact flag_keeps (satAdd_keeps h)
  · rename_i hl
    exact flag_keeps (h.trans ⟨rfl, fun i => ⟨{ i with errLog := by simp; omega }, Nat.le_refl _⟩⟩)

theorem errQ0_keeps {s0 s : State} {a0 a1 a2 a3 a4} (h : Keeps s0 s) : Keeps s0 (errQ0 a0 a1 a2 a3 a4 s) := by
  unfold errQ0
  repeat' first
    | with_reducible assumption
    | with_reducible apply errRecord_keeps

theorem errNi_keeps {s0 s : State} {a0 a1 a2} (h : Keeps s0 s) : Keeps s0 (errNi a0 a1 a2 s) := by
  unfold errNi
  repeat' first
    | with_reducible assumption
    | with_reducible apply errQ0_keeps

theorem logFiring_keeps {s0 s : State} {a0 a1} (h : Keeps s0 s) : Keeps s0 (logFiring a0 a1 s) := by
  unfold logFiring
  extract_lets +onlyGivenNames q t
  have ht : Keeps s0 t := Keeps.view h rfl rfl rfl rfl rfl rfl rfl rfl rfl rfl rfl rfl rfl
  clear_value t
  split
  · exact ht
  · extract_lets u v
    have hu : Keeps s0 u := onlyIf_keeps ht (fun t k => flag_keeps (satAdd_keeps k))
    clear_value u
    have hv : Keeps s0 v := onlyIf_keeps hu (fun t k => flag_keeps k)
    clear_value v
    split
    · exact flag_keeps (satAdd_keeps hv)
    · exact hv.trans ⟨rfl, fun i => ⟨{ i with evtLog := by simp; omega }, Nat.le_refl _⟩⟩

theorem markArm_keeps {s0 s : State} {a0 a1} (h : Keeps s0 s) : Keeps s0 (markArm a0 a1 s) := by
  unfold markArm
  repeat' first
    | with_reducible assumption
    | (with_reducible apply mk_keeps; with_reducible assumption; all_goals with_reducible rfl)

theorem queueRsv_keeps {s0 s : State} {a0} (h : Keeps s0 s) : Keeps s0 (queueRsv a0 s) := by
  unfold queueRsv
  repeat' first
    | with_reducible assumption
    | (with_reducible apply mk_keeps; with_reducible assumption; all_goals with_reducible rfl)
    | split

theorem queueRecheck_keeps {s0 s : State} {a0} (h : Keeps s0 s) : Keeps s0 (queueRecheck a0 s) := by
  unfold queueRecheck
  repeat' first
    | with_reducible assumption
    | with_reducible apply queueRsv_keeps

theorem linkChange_keeps {s0 s : State} {a0} (h : Keeps s0 s) : Keeps s0 (linkChange a0 s) := by
  unfold linkChange
  repeat' first
    | with_reducible assumption
    | with_reducible apply irqHold_keeps

theorem noteLink_keeps {s0 s : State} {a0 a1} (h : Keeps s0 s) : Keeps s0 (noteLink a0 a1 s) := by
  unfold noteLink
  repeat' first
    | with_reducible assumption
    | with_reducible apply onlyIf_keeps
    | with_reducible apply linkChange_keeps
    | intro _ _

theorem sendFlit_keeps {s0 s : State} {a0 a1 a2 a3} (h : Keeps s0 s) : Keeps s0 (sendFlit a0 a1 a2 a3 s) := by
  unfold sendFlit
  repeat' first
    | with_reducible assumption
    | with_reducible apply setChan_keeps
    | with_reducible apply modChan_keeps

theorem returnCredit_keeps {s0 s : State} {a0 a1 a2} (h : Keeps s0 s) : Keeps s0 (returnCredit a0 a1 a2 s) := by
  unfold returnCredit
  repeat' first
    | with_reducible assumption
    | with_reducible apply modChan_keeps

theorem ackFree_keeps {s0 s : State} {a0 a1} (h : Keeps s0 s) : Keeps s0 (ackFree a0 a1 s) := by
  unfold ackFree
  repeat' first
    | with_reducible assumption
    | with_reducible apply modChan_keeps

theorem resend_keeps {s0 s : State} {a0} (h : Keeps s0 s) : Keeps s0 (resend a0 s) := by
  unfold resend
  repeat' first
    | with_reducible assumption
    | with_reducible rfl
    | (extract_lets +onlyGivenNames x; refine Keeps.cut (a := s0) (x := x) ?_ (fun hx => ?_); (on_goal 1 => (unfold x; clear x)); (on_goal 2 => clear_value x))
    | (extract_lets +onlyGivenNames x)
    | with_reducible apply onlyIf_keeps
    | with_reducible apply modNi_keeps
    | with_reducible apply modChan_keeps
    | with_reducible apply foldl_keeps
    | (with_reducible apply mk_keeps; with_reducible assumption; all_goals with_reducible rfl)
    | intro _ _ _
    | intro _ _

theorem startRetrain_keeps {s0 s : State} {a0} (h : Keeps s0 s) : Keeps s0 (startRetrain a0 s) := by
  unfold startRetrain
  repeat' first
    | with_reducible assumption
    | (extract_lets +onlyGivenNames x; refine Keeps.cut (a := s0) (x := x) ?_ (fun hx => ?_); (on_goal 1 => (unfold x; clear x)); (on_goal 2 => clear_value x))
    | with_reducible apply modChan_keeps
    | with_reducible apply satAdd_keeps
    | with_reducible apply noteLink_keeps
    | with_reducible apply onlyIf_keeps
    | intro _ _

theorem replayChan_keeps {s0 s : State} {a0} (h : Keeps s0 s) : Keeps s0 (replayChan a0 s) := by
  unfold replayChan
  repeat' first
    | with_reducible assumption
    | (extract_lets +onlyGivenNames x; refine Keeps.cut (a := s0) (x := x) ?_ (fun hx => ?_); (on_goal 1 => (unfold x; clear x)); (on_goal 2 => clear_value x))
    | (extract_lets +onlyGivenNames x)
    | with_reducible apply satAdd_keeps
    | with_reducible apply modChan_keeps
    | with_reducible apply startRetrain_keeps
    | with_reducible apply resend_keeps
    | split

theorem refuseFlit_keeps {s0 s : State} {a0} (h : Keeps s0 s) : Keeps s0 (refuseFlit a0 s) := by
  unfold refuseFlit
  repeat' first
    | with_reducible assumption
    | with_reducible apply modChan_keeps

theorem takeAck_keeps {s0 s : State} {a0 a1} (h : Keeps s0 s) : Keeps s0 (takeAck a0 a1 s) := by
  unfold takeAck
  repeat' first
    | with_reducible assumption
    | (extract_lets +onlyGivenNames x; refine Keeps.cut (a := s0) (x := x) ?_ (fun hx => ?_); (on_goal 1 => (unfold x; clear x)); (on_goal 2 => clear_value x))
    | with_reducible apply ackFree_keeps
    | with_reducible apply onlyIf_keeps
    | with_reducible apply modChan_keeps
    | intro _ _
    | split

theorem takeCredit_keeps {s0 s : State} {a0 a1} (h : Keeps s0 s) : Keeps s0 (takeCredit a0 a1 s) := by
  unfold takeCredit
  repeat' first
    | with_reducible assumption
    | with_reducible apply modChan_keeps
    | split

theorem takeBody_keeps {s0 s : State} {a0 a1} (h : Keeps s0 s) : Keeps s0 (takeBody a0 a1 s) := by
  unfold takeBody
  repeat' first
    | with_reducible assumption
    | with_reducible apply modVc_keeps
    | with_reducible apply returnCredit_keeps
    | split

theorem consumePacket_keeps {s0 s : State} {a0 a1 a2} (h : Keeps s0 s) : Keeps s0 (consumePacket a0 a1 a2 s) := by
  unfold consumePacket
  repeat' first
    | with_reducible assumption
    | with_reducible apply returnCredit_keeps
    | with_reducible apply modVc_keeps

theorem modPower_keeps {s0 s : State} {f} (h : Keeps s0 s) (hf : ∀ x, (f x).log = x.log) : Keeps s0
    (modPower f s) := by
  unfold modPower; exact Keeps.view h rfl rfl rfl rfl rfl rfl (hf _) rfl rfl rfl rfl rfl rfl

theorem refRecord_keeps {s0 s : State} {a0 a1 a2 a3 a4 a5 a6} (h : Keeps s0 s) :
    Keeps s0 (refRecord a0 a1 a2 a3 a4 a5 a6 s) := by
  unfold refRecord
  extract_lets w t
  have ht : Keeps s0 t :=
    h.trans ⟨rfl, fun i => ⟨{ i with refLog := by simp [t, modPower] }, Nat.le_refl _⟩⟩
  clear_value t
  split
  · exact flag_keeps (satAdd_keeps ht)
  · exact flag_keeps (satAdd_keeps ht)

theorem dropEntry_keeps {s0 s : State} {a0} (h : Keeps s0 s) : Keeps s0 (dropEntry a0 s) := by
  unfold dropEntry
  repeat' first
    | with_reducible assumption
    | with_reducible apply fset_keeps
    | with_reducible apply modNi_keeps

theorem abortF3_keeps {s0 s : State} {a0 a1 a2 a3} (h : Keeps s0 s) : Keeps s0 (abortF3 a0 a1 a2 a3 s) := by
  unfold abortF3
  repeat' first
    | with_reducible assumption
    | (extract_lets +onlyGivenNames x; refine Keeps.cut (a := s0) (x := x) ?_ (fun hx => ?_); (on_goal 1 => (unfold x; clear x)); (on_goal 2 => clear_value x))
    | with_reducible apply forEach_keeps
    | with_reducible apply onlyIf_keeps
    | with_reducible apply dropEntry_keeps
    | with_reducible apply refRecord_keeps
    | with_reducible apply fset_keeps
    | intro _ _ _
    | intro _ _

theorem abortEntry_keeps {s0 s : State} {a0 a1 a2 a3 a4} (h : Keeps s0 s) : Keeps s0
    (abortEntry a0 a1 a2 a3 a4 s) := by
  unfold abortEntry
  repeat' first
    | with_reducible assumption
    | (extract_lets +onlyGivenNames x; refine Keeps.cut (a := s0) (x := x) ?_ (fun hx => ?_); (on_goal 1 => (unfold x; clear x)); (on_goal 2 => clear_value x))
    | with_reducible apply abortF3_keeps
    | with_reducible apply onlyIf_keeps
    | with_reducible apply fset_keeps
    | with_reducible apply refRecord_keeps
    | with_reducible apply dropEntry_keeps
    | intro _ _
    | split

theorem headToNi_keeps {s0 s : State} {a0 a1} (h : Keeps s0 s) : Keeps s0 (headToNi a0 a1 s) := by
  unfold headToNi
  repeat' first
    | with_reducible assumption
    | (extract_lets +onlyGivenNames x; refine Keeps.cut (a := s0) (x := x) ?_ (fun hx => ?_); (on_goal 1 => (unfold x; clear x)); (on_goal 2 => clear_value x))
    | with_reducible apply abortEntry_keeps
    | with_reducible apply onlyIf_keeps
    | with_reducible apply fset_keeps
    | with_reducible apply modNi_keeps
    | intro _ _

theorem addInj_keeps {s0 s : State} {a0 a1} (h : Keeps s0 s) : Keeps s0 (addInj a0 a1 s) := by
  unfold addInj
  repeat' first
    | with_reducible assumption
    | with_reducible apply modRouter_keeps

theorem addRem_keeps {s0 s : State} {a0 a1} (h : Keeps s0 s) : Keeps s0 (addRem a0 a1 s) := by
  unfold addRem
  repeat' first
    | with_reducible assumption
    | with_reducible apply modRouter_keeps

theorem removePacket_keeps {s0 s : State} {a0 a1 a2 a3 a4} (h : Keeps s0 s) : Keeps s0
    (removePacket a0 a1 a2 a3 a4 s) := by
  unfold removePacket
  repeat' first
    | with_reducible assumption
    | with_reducible rfl
    | (extract_lets +onlyGivenNames x)
    | with_reducible apply onlyIf_keeps
    | with_reducible apply addRem_keeps
    | with_reducible apply consumePacket_keeps
    | with_reducible apply foldl_keeps
    | (with_reducible apply mk_keeps; with_reducible assumption; all_goals with_reducible rfl)
    | intro _ _ _
    | intro _ _

theorem logDisposal_keeps {s0 s : State} {a0 a1 a2 a3} (h : Keeps s0 s) : Keeps s0 (logDisposal a0 a1 a2 a3 s) := by
  unfold logDisposal
  repeat' first
    | with_reducible assumption
    | with_reducible apply errQ0_keeps
    | with_reducible apply satAdd_keeps

theorem fileAnswer_keeps {s0 s : State} {a0 a1 a2} (h : Keeps s0 s) : Keeps s0 (fileAnswer a0 a1 a2 s) := by
  unfold fileAnswer
  repeat' first
    | with_reducible assumption
    | (extract_lets +onlyGivenNames x; refine Keeps.cut (a := s0) (x := x) ?_ (fun hx => ?_); (on_goal 1 => (unfold x; clear x)); (on_goal 2 => clear_value x))
    | (extract_lets +onlyGivenNames x)
    | with_reducible apply addInj_keeps
    | with_reducible apply addRem_keeps
    | with_reducible apply logDisposal_keeps
    | with_reducible apply modRouter_keeps
    | split

theorem dispose_keeps {s0 s : State} {a0 a1 a2 a3 a4 a5} (h : Keeps s0 s) : Keeps s0
    (dispose a0 a1 a2 a3 a4 a5 s) := by
  unfold dispose
  repeat' first
    | with_reducible assumption
    | with_reducible rfl
    | (extract_lets +onlyGivenNames x; refine Keeps.cut (a := s0) (x := x) ?_ (fun hx => ?_); (on_goal 1 => (unfold x; clear x)); (on_goal 2 => clear_value x))
    | (extract_lets +onlyGivenNames x)
    | with_reducible apply logDisposal_keeps
    | with_reducible apply removePacket_keeps
    | with_reducible apply fileAnswer_keeps
    | with_reducible apply foldl_keeps
    | (with_reducible apply mk_keeps; with_reducible assumption; all_goals with_reducible rfl)
    | intro _
    | split

theorem absorbPacket_keeps {s0 s : State} {a0 a1 a2 a3} (h : Keeps s0 s) : Keeps s0 (absorbPacket a0 a1 a2 a3 s) := by
  unfold absorbPacket
  repeat' first
    | with_reducible assumption
    | with_reducible apply fileAnswer_keeps
    | with_reducible apply satAdd_keeps
    | split

theorem absorbHanded_keeps {s0 s : State} {a0 a1} (h : Keeps s0 s) : Keeps s0 (absorbHanded a0 a1 s) := by
  unfold absorbHanded
  repeat' first
    | with_reducible assumption
    | with_reducible apply absorbPacket_keeps
    | with_reducible apply onlyIf_keeps
    | with_reducible apply addRem_keeps
    | intro _ _

theorem hand_keeps {s0 s : State} {a0 a1} (h : Keeps s0 s) : Keeps s0 (hand a0 a1 s) := by
  unfold hand
  repeat' first
    | with_reducible assumption
    | with_reducible apply modRouter_keeps
    | with_reducible apply absorbHanded_keeps
    | split

theorem retryHanded_keeps {s0 s : State} {a0} (h : Keeps s0 s) : Keeps s0 (retryHanded a0 s) := by
  unfold retryHanded
  repeat' first
    | with_reducible assumption
    | with_reducible apply forEach_keeps
    | with_reducible apply hand_keeps
    | with_reducible apply modRouter_keeps
    | intro _ _ _

theorem execHeadArrive_keeps {s0 s : State} {a0 a1 a2} (h : Keeps s0 s) : KeepsO s0 (execHeadArrive a0 a1 a2 s) := by
  unfold execHeadArrive
  repeat' first
    | with_reducible assumption
    | (extract_lets +onlyGivenNames x; refine Keeps.cut (a := s0) (x := x) ?_ (fun hx => ?_); (on_goal 1 => (unfold x; clear x)); (on_goal 2 => clear_value x))
    | (extract_lets +onlyGivenNames x; clear_value x)
    | with_reducible apply next_keeps
    | with_reducible apply modVc_keeps
    | with_reducible apply dispose_keeps
    | split

theorem execBuildStoreConsume_keeps {s0 s : State} {a0 a1 a2} (h : Keeps s0 s) : KeepsO s0
    (execBuildStoreConsume a0 a1 a2 s) := by
  unfold execBuildStoreConsume
  repeat' first
    | with_reducible assumption
    | with_reducible apply next_keeps
    | with_reducible apply dispose_keeps
    | split

theorem dropBuilt_keeps {s0 s : State} {a0 a1} (h : Keeps s0 s) : Keeps s0 (dropBuilt a0 a1 s) := by
  unfold dropBuilt
  repeat' first
    | with_reducible assumption
    | with_reducible apply modRouter_keeps

theorem execAbsorb_keeps {s0 s : State} {a0 a1 a2} (h : Keeps s0 s) : KeepsO s0 (execAbsorb a0 a1 a2 s) := by
  unfold execAbsorb
  repeat' first
    | with_reducible assumption
    | with_reducible rfl
    | (extract_lets +onlyGivenNames x)
    | with_reducible apply next_keeps
    | with_reducible apply absorbPacket_keeps
    | with_reducible apply addRem_keeps
    | with_reducible apply dropBuilt_keeps
    | with_reducible apply removePacket_keeps
    | with_reducible apply foldl_keeps
    | (with_reducible apply mk_keeps; with_reducible assumption; all_goals with_reducible rfl)
    | intro _
    | split

theorem countStarve_keeps {s0 s : State} {a0 a1} (h : Keeps s0 s) : Keeps s0 (countStarve a0 a1 s) := by
  unfold countStarve
  repeat' first
    | with_reducible assumption
    | with_reducible apply modRouter_keeps
    | with_reducible apply modVc_keeps
    | split

theorem beginCycle_keeps {s0 s : State} {a0} (h : Keeps s0 s) : Keeps s0 (beginCycle a0 s) := by
  unfold beginCycle
  repeat' first
    | with_reducible assumption
    | with_reducible apply forEach_keeps
    | with_reducible apply countStarve_keeps
    | with_reducible apply modRouter_keeps
    | intro _ _ _
    | split

theorem noteGrant_keeps {s0 s : State} {a0 a1} (h : Keeps s0 s) : Keeps s0 (noteGrant a0 a1 s) := by
  unfold noteGrant
  repeat' first
    | with_reducible assumption
    | (extract_lets +onlyGivenNames x; refine Keeps.cut (a := s0) (x := x) ?_ (fun hx => ?_); (on_goal 1 => (unfold x; clear x)); (on_goal 2 => clear_value x))
    | with_reducible apply modRouter_keeps
    | with_reducible apply onlyIf_keeps
    | with_reducible apply wrapAdd_keeps
    | intro _ _

theorem holdFlit_keeps {s0 s : State} {a0 a1 a2 a3} (h : Keeps s0 s) : Keeps s0 (holdFlit a0 a1 a2 a3 s) := by
  unfold holdFlit
  repeat' first
    | with_reducible assumption
    | with_reducible apply errNi_keeps
    | with_reducible apply modNi_keeps
    | split

theorem emit_keeps {s0 s : State} {a0 a1 a2 a3 a4 a5} (h : Keeps s0 s) : Keeps s0 (emit a0 a1 a2 a3 a4 a5 s) := by
  unfold emit
  repeat' first
    | with_reducible assumption
    | (extract_lets +onlyGivenNames x; refine Keeps.cut (a := s0) (x := x) ?_ (fun hx => ?_); (on_goal 1 => (unfold x; clear x)); (on_goal 2 => clear_value x))
    | (extract_lets +onlyGivenNames x)
    | with_reducible apply holdFlit_keeps
    | with_reducible apply headToNi_keeps
    | with_reducible apply sendFlit_keeps
    | with_reducible apply addRem_keeps
    | split

theorem grantIn_keeps {s0 s : State} {a0 a1} (h : Keeps s0 s) : Keeps s0 (grantIn a0 a1 s) := by
  unfold grantIn
  repeat' first
    | with_reducible assumption
    | (extract_lets +onlyGivenNames x; refine Keeps.cut (a := s0) (x := x) ?_ (fun hx => ?_); (on_goal 1 => (unfold x; clear x)); (on_goal 2 => clear_value x))
    | (extract_lets +onlyGivenNames x)
    | with_reducible apply modVc_keeps
    | with_reducible apply returnCredit_keeps
    | with_reducible apply emit_keeps
    | split

theorem grant14_keeps {s0 s : State} {a0 a1} (h : Keeps s0 s) : Keeps s0 (grant14 a0 a1 s) := by
  unfold grant14
  repeat' first
    | with_reducible assumption
    | with_reducible apply modRouter_keeps
    | with_reducible apply emit_keeps
    | split

theorem grantRouter_keeps {s0 s : State} {a0 a1} (h : Keeps s0 s) : Keeps s0 (grantRouter a0 a1 s) := by
  unfold grantRouter
  repeat' first
    | with_reducible assumption
    | (extract_lets +onlyGivenNames x; refine Keeps.cut (a := s0) (x := x) ?_ (fun hx => ?_); (on_goal 1 => (unfold x; clear x)); (on_goal 2 => clear_value x))
    | with_reducible apply beginCycle_keeps
    | with_reducible apply grant14_keeps
    | with_reducible apply grantIn_keeps
    | with_reducible apply noteGrant_keeps
    | split

theorem smxComplete_keeps {s0 s : State} {a0 a1 a2 a3 a4} (h : Keeps s0 s) : Keeps s0
    (smxComplete a0 a1 a2 a3 a4 s) := by
  unfold smxComplete
  repeat' first
    | with_reducible assumption
    | (refine draw_pair ?_ (by with_reducible assumption))
    | with_reducible apply draw_keeps
    | with_reducible apply draw_keeps
    | (with_reducible apply mk_keeps; with_reducible assumption; all_goals with_reducible rfl)
    | split
    | dsimp only
    | with_reducible apply mk_keeps

theorem smxErrRecord_keeps {s0 s : State} {a0 a1 a2 a3 a4 a5} (h : Keeps s0 s) : Keeps s0
    (smxErrRecord a0 a1 a2 a3 a4 a5 s) := by
  unfold smxErrRecord
  repeat' first
    | with_reducible assumption
    | (extract_lets +onlyGivenNames x; refine Keeps.cut (a := s0) (x := x) ?_ (fun hx => ?_); (on_goal 1 => (unfold x; clear x)); (on_goal 2 => clear_value x))
    | with_reducible apply fset_keeps
    | with_reducible apply fsetB_keeps

theorem smxError_keeps {s0 s : State} {a0 a1 a2 a3 a4 a5} (h : Keeps s0 s) : Keeps s0
    (smxError a0 a1 a2 a3 a4 a5 s) := by
  unfold smxError
  repeat' first
    | with_reducible assumption
    | (extract_lets +onlyGivenNames x; refine Keeps.cut (a := s0) (x := x) ?_ (fun hx => ?_); (on_goal 1 => (unfold x; clear x)); (on_goal 2 => clear_value x))
    | with_reducible apply satAdd_keeps
    | with_reducible apply onlyIf_keeps
    | with_reducible apply smxErrRecord_keeps
    | with_reducible apply smxComplete_keeps
    | with_reducible apply flag_keeps
    | intro _ _

theorem finishAccess_keeps {s0 s : State} {a0} (h : Keeps s0 s) : Keeps s0 (finishAccess a0 s) := by
  unfold finishAccess
  repeat' first
    | with_reducible assumption
    | with_reducible apply smxComplete_keeps
    | with_reducible apply smxError_keeps
    | split

theorem drainBridge_keeps {s0 s : State} {a0} (h : Keeps s0 s) : Keeps s0 (drainBridge a0 s) := by
  unfold drainBridge
  repeat' first
    | with_reducible assumption
    | with_reducible apply finishAccess_keeps
    | with_reducible apply foldl_keeps
    | (with_reducible apply mk_keeps; with_reducible assumption; all_goals with_reducible rfl)

theorem bridgeResult_keeps {s0 s : State} {a0 a1 a2} (h : Keeps s0 s) : Keeps s0 (bridgeResult a0 a1 a2 s) := by
  unfold bridgeResult
  repeat' first
    | with_reducible assumption
    | with_reducible apply drainBridge_keeps
    | (with_reducible apply mk_keeps; with_reducible assumption; all_goals with_reducible rfl)
    | split

theorem accAdd_keeps {s0 s : State} {a0 a1 a2 a3} (h : Keeps s0 s) : Keeps s0 (accAdd a0 a1 a2 a3 s) := by
  unfold accAdd
  repeat' first
    | with_reducible assumption
    | with_reducible apply modNi_keeps
    | split

theorem takeEntry_keeps {s0 s : State} {a0 a1 a2} (h : Keeps s0 s) : Keeps s0 (takeEntry a0 a1 a2 s) := by
  unfold takeEntry
  repeat' first
    | with_reducible assumption
    | (extract_lets +onlyGivenNames x; refine Keeps.cut (a := s0) (x := x) ?_ (fun hx => ?_); (on_goal 1 => (unfold x; clear x)); (on_goal 2 => clear_value x))
    | with_reducible apply setEntry_keeps
    | with_reducible apply modNi_keeps
    | with_reducible apply maxIn_keeps

theorem quotaCheck_keeps {s0 s : State} {a0 a1} (h : Keeps s0 s) : Keeps s0 (quotaCheck a0 a1 s) := by
  unfold quotaCheck
  repeat' first
    | with_reducible assumption
    | with_reducible apply onlyIf_keeps
    | with_reducible apply fset_keeps
    | intro _ _
    | split

theorem freeEntry_keeps {s0 s : State} {a0 a1} (h : Keeps s0 s) : Keeps s0 (freeEntry a0 a1 s) := by
  unfold freeEntry
  repeat' first
    | with_reducible assumption
    | (extract_lets +onlyGivenNames x; refine Keeps.cut (a := s0) (x := x) ?_ (fun hx => ?_); (on_goal 1 => (unfold x; clear x)); (on_goal 2 => clear_value x))
    | with_reducible apply onlyIf_keeps
    | with_reducible apply accAdd_keeps
    | with_reducible apply quotaCheck_keeps
    | with_reducible apply setEntry_keeps
    | intro _ _
    | split

theorem closeEntry_keeps {s0 s : State} {a0 a1} (h : Keeps s0 s) : Keeps s0 (closeEntry a0 a1 s) := by
  unfold closeEntry
  repeat' first
    | with_reducible assumption
    | with_reducible apply quotaCheck_keeps
    | with_reducible apply setEntry_keeps
    | split

theorem noteUnsure_keeps {s0 s : State} {a0} (h : Keeps s0 s) : Keeps s0 (noteUnsure a0 s) := by
  unfold noteUnsure
  repeat' first
    | with_reducible assumption
    | (with_reducible apply mk_keeps; with_reducible assumption; all_goals with_reducible rfl)
    | split

theorem pushReady_keeps {s0 s : State} {a0 a1 a2 a3} (h : Keeps s0 s) : Keeps s0 (pushReady a0 a1 a2 a3 s) := by
  unfold pushReady
  repeat' first
    | with_reducible assumption
    | with_reducible apply modNi_keeps

theorem pushBuilt_keeps {s0 s : State} {a0 a1 a2 a3} (h : Keeps s0 s) : Keeps s0 (pushBuilt a0 a1 a2 a3 s) := by
  unfold pushBuilt
  repeat' first
    | with_reducible assumption
    | with_reducible rfl
    | (extract_lets +onlyGivenNames x)
    | with_reducible apply pushReady_keeps

theorem pushAnswer_keeps {s0 s : State} {a0 a1 a2 a3} (h : Keeps s0 s) : Keeps s0 (pushAnswer a0 a1 a2 a3 s) := by
  unfold pushAnswer
  repeat' first
    | with_reducible assumption
    | with_reducible rfl
    | (extract_lets +onlyGivenNames x; refine Keeps.cut (a := s0) (x := x) ?_ (fun hx => ?_); (on_goal 1 => (unfold x; clear x)); (on_goal 2 => clear_value x))
    | (extract_lets +onlyGivenNames x)
    | with_reducible apply errNi_keeps
    | with_reducible apply pushBuilt_keeps
    | with_reducible apply foldl_keeps
    | intro _ _ _
    | intro _ _
    | intro _
    | split

theorem freeReceipt_keeps {s0 s : State} {a0 a1 a2} (h : Keeps s0 s) : Keeps s0 (freeReceipt a0 a1 a2 s) := by
  unfold freeReceipt
  repeat' first
    | with_reducible assumption
    | with_reducible apply modNi_keeps

theorem markAnswered_keeps {s0 s : State} {a0 a1 a2} (h : Keeps s0 s) : Keeps s0 (markAnswered a0 a1 a2 s) := by
  unfold markAnswered
  repeat' first
    | with_reducible assumption
    | with_reducible apply modNi_keeps

theorem answerReceipt_keeps {s0 s : State} {a0 a1 a2} (h : Keeps s0 s) : Keeps s0 (answerReceipt a0 a1 a2 s) := by
  unfold answerReceipt
  repeat' first
    | with_reducible assumption
    | (extract_lets +onlyGivenNames x; refine Keeps.cut (a := s0) (x := x) ?_ (fun hx => ?_); (on_goal 1 => (unfold x; clear x)); (on_goal 2 => clear_value x))
    | with_reducible apply pushAnswer_keeps
    | with_reducible apply modNi_keeps
    | with_reducible apply satAdd_keeps
    | with_reducible apply markAnswered_keeps

theorem countLate_keeps {s0 s : State} {a0 a1} (h : Keeps s0 s) : Keeps s0 (countLate a0 a1 s) := by
  unfold countLate
  repeat' first
    | with_reducible assumption
    | with_reducible apply satAdd_keeps
    | with_reducible apply maxIn_keeps
    | split

theorem judgeFrom_keeps {s0 s : State} {a0 a1 a2 a3} (h : Keeps s0 s) : Keeps s0 (judgeFrom a0 a1 a2 a3 s) := by
  induction a2 generalizing a3 s with
  | nil => exact h
  | cons x t ih =>
    obtain ⟨g, tl, d, body⟩ := x
    unfold judgeFrom
    extract_lets put whole late
    have hp : ∀ d, Keeps s0 (put d s) := fun _ => countLate_keeps (modVc_keeps h)
    repeat' first
      | exact h
      | exact ih h
      | exact ih (hp _)
      | split

theorem judgeRx_keeps {s0 s : State} {a0} (h : Keeps s0 s) : Keeps s0 (judgeRx a0 s) := by
  unfold judgeRx
  repeat' first
    | with_reducible assumption
    | with_reducible rfl
    | (extract_lets +onlyGivenNames x)
    | with_reducible apply onlyIf_keeps
    | with_reducible apply forEach_keeps
    | with_reducible apply judgeFrom_keeps
    | with_reducible apply foldl_keeps
    | intro _ _ _
    | intro _ _

theorem countBytes_keeps {s0 s : State} {a0 a1 a2} (h : Keeps s0 s) : Keeps s0 (countBytes a0 a1 a2 s) := by
  unfold countBytes
  repeat' first
    | with_reducible assumption
    | (extract_lets +onlyGivenNames x)
    | with_reducible apply accAdd_keeps
    | split

theorem completeAccess_keeps {s0 s : State} {a0 a1 a2 a3} (h : Keeps s0 s) : Keeps s0
    (completeAccess a0 a1 a2 a3 s) := by
  unfold completeAccess
  repeat' first
    | with_reducible assumption
    | (extract_lets +onlyGivenNames x; refine Keeps.cut (a := s0) (x := x) ?_ (fun hx => ?_); (on_goal 1 => (unfold x; clear x)); (on_goal 2 => clear_value x))
    | with_reducible apply freeEntry_keeps
    | with_reducible apply countBytes_keeps
    | with_reducible apply bridgeResult_keeps
    | (with_reducible apply mk_keeps; with_reducible assumption; all_goals with_reducible rfl)
    | split

theorem wakeN1_keeps {s0 s : State} {a0} (h : Keeps s0 s) : Keeps s0 (wakeN1 a0 s) := by
  unfold wakeN1
  repeat' first
    | with_reducible assumption
    | with_reducible apply modNi_keeps
    | with_reducible apply onlyIf_keeps
    | with_reducible apply fset_keeps
    | intro _ _

theorem toFifoAt_keeps {s0 s : State} {a0 a1 a2} (h : Keeps s0 s) : Keeps s0 (toFifoAt a0 a1 a2 s) := by
  unfold toFifoAt
  repeat' first
    | with_reducible assumption
    | (extract_lets +onlyGivenNames x; refine Keeps.cut (a := s0) (x := x) ?_ (fun hx => ?_); (on_goal 1 => (unfold x; clear x)); (on_goal 2 => clear_value x))
    | (extract_lets +onlyGivenNames x)
    | with_reducible apply countLate_keeps
    | with_reducible apply wakeN1_keeps
    | with_reducible apply modNi_keeps
    | with_reducible apply completeAccess_keeps
    | split

theorem toFifo_keeps {s0 s : State} {a0 a1} (h : Keeps s0 s) : Keeps s0 (toFifo a0 a1 s) := by
  unfold toFifo
  repeat' first
    | with_reducible assumption
    | with_reducible apply toFifoAt_keeps

theorem refuseToEp_keeps {s0 s : State} {a0 a1 a2 a3} (h : Keeps s0 s) : Keeps s0 (refuseToEp a0 a1 a2 a3 s) := by
  unfold refuseToEp
  repeat' first
    | with_reducible assumption
    | with_reducible apply toFifo_keeps

theorem strayResponse_keeps {s0 s : State} {a0 a1} (h : Keeps s0 s) : Keeps s0 (strayResponse a0 a1 s) := by
  unfold strayResponse
  repeat' first
    | with_reducible assumption
    | with_reducible apply satAdd_keeps
    | with_reducible apply errNi_keeps
    | with_reducible apply onlyIf_keeps
    | with_reducible apply flag_keeps
    | intro _ _

theorem workingRegs_keeps {s0 s : State} {a1} (h : Keeps s0 s) : Keeps s0 (workingRegs s a1) := by
  unfold workingRegs
  repeat' first
    | with_reducible assumption
    | with_reducible rfl
    | (extract_lets +onlyGivenNames x)
    | with_reducible apply foldl_keeps
    | (with_reducible apply mk_keeps; with_reducible assumption; all_goals with_reducible rfl)
    | intro _ _ _
    | intro _ _
    | intro _
    | split

theorem exportGates_keeps {s0 s : State} {a0} (h : Keeps s0 s) : Keeps s0 (exportGates a0 s) := by
  unfold exportGates
  repeat' first
    | with_reducible assumption
    | with_reducible apply modNi_keeps

theorem execGateEdge_keeps {s0 s : State} {a0} (h : Keeps s0 s) : KeepsO s0 (execGateEdge a0 s) := by
  unfold execGateEdge
  repeat' first
    | with_reducible assumption
    | (extract_lets +onlyGivenNames x; refine Keeps.cut (a := s0) (x := x) ?_ (fun hx => ?_); (on_goal 1 => (unfold x; clear x)); (on_goal 2 => clear_value x))
    | (extract_lets +onlyGivenNames x)
    | with_reducible apply next_keeps
    | with_reducible apply onlyIf_keeps
    | with_reducible apply flag_keeps
    | with_reducible apply satAdd_keeps
    | with_reducible apply exportGates_keeps
    | intro _ _
    | split

theorem execGateLead_keeps {s0 s : State} {a0} (h : Keeps s0 s) : KeepsO s0 (execGateLead a0 s) := by
  unfold execGateLead
  repeat' first
    | with_reducible assumption
    | with_reducible apply next_keeps
    | with_reducible apply onlyIf_keeps
    | with_reducible apply modNi_keeps
    | intro _ _

theorem stageKey_keeps {s0 s : State} {a0 a1} (h : Keeps s0 s) : Keeps s0 (stageKey a0 a1 s) := by
  unfold stageKey
  repeat' first
    | with_reducible assumption
    | with_reducible rfl
    | (extract_lets +onlyGivenNames x)
    | with_reducible apply foldl_keeps
    | (with_reducible apply mk_keeps; with_reducible assumption; all_goals with_reducible rfl)

theorem stageWrote_keeps {s0 s : State} {a0} (h : Keeps s0 s) : Keeps s0 (stageWrote a0 s) := by
  unfold stageWrote
  repeat' first
    | with_reducible assumption
    | with_reducible rfl
    | (extract_lets +onlyGivenNames x)
    | with_reducible apply forEach_keeps
    | with_reducible apply stageKey_keeps
    | with_reducible apply fset_keeps
    | with_reducible apply modNi_keeps
    | with_reducible apply foldl_keeps
    | intro _ _ _
    | intro _ _
    | intro _
    | split

theorem takeOver_keeps {s0 s : State} {a0} (h : Keeps s0 s) : Keeps s0 (takeOver a0 s) := by
  unfold takeOver
  repeat' first
    | with_reducible assumption
    | with_reducible rfl
    | (extract_lets +onlyGivenNames x; refine Keeps.cut (a := s0) (x := x) ?_ (fun hx => ?_); (on_goal 1 => (unfold x; clear x)); (on_goal 2 => clear_value x))
    | (extract_lets +onlyGivenNames x)
    | with_reducible apply modNi_keeps
    | with_reducible apply flag_keeps
    | with_reducible apply wrapAdd_keeps
    | with_reducible apply stageWrote_keeps
    | with_reducible apply foldl_keeps
    | (with_reducible apply mk_keeps; with_reducible assumption; all_goals with_reducible rfl)

theorem execTakeover_keeps {s0 s : State} {a0} (h : Keeps s0 s) : KeepsO s0 (execTakeover a0 s) := by
  unfold execTakeover
  repeat' first
    | with_reducible assumption
    | (extract_lets +onlyGivenNames x)
    | with_reducible apply next_keeps
    | with_reducible apply takeOver_keeps
    | split

theorem stepLists_keeps {s0 s : State} {a0} (h : Keeps s0 s) : Keeps s0 (stepLists a0 s) := by
  unfold stepLists
  repeat' first
    | with_reducible assumption
    | (extract_lets +onlyGivenNames x; refine Keeps.cut (a := s0) (x := x) ?_ (fun hx => ?_); (on_goal 1 => (unfold x; clear x)); (on_goal 2 => clear_value x))
    | with_reducible apply forEach_keeps
    | with_reducible apply onlyIf_keeps
    | with_reducible apply flag_keeps
    | with_reducible apply modNi_keeps
    | intro _ _ _
    | intro _ _

theorem modTime_keeps {s0 s : State} {f} (h : Keeps s0 s) (hf : ∀ x, (f x).log = x.log) : Keeps s0 (modTime f s) := by
  unfold modTime; exact Keeps.view h rfl rfl rfl rfl (hf _) rfl rfl rfl rfl rfl rfl rfl rfl

theorem enterState_keeps {s0 s : State} {a0} (h : Keeps s0 s) : Keeps s0 (enterState a0 s) := by
  unfold enterState
  repeat' first
    | with_reducible assumption
    | with_reducible rfl
    | with_reducible apply modTime_keeps
    | with_reducible apply fset_keeps
    | with_reducible apply onlyIf_keeps
    | with_reducible apply flag_keeps
    | intro _

theorem enterHoldover_keeps {s0 s : State} (h : Keeps s0 s) : Keeps s0 (enterHoldover s) := by
  unfold enterHoldover
  repeat' first
    | with_reducible assumption
    | with_reducible rfl
    | (extract_lets +onlyGivenNames x; refine Keeps.cut (a := s0) (x := x) ?_ (fun hx => ?_); (on_goal 1 => (unfold x; clear x)); (on_goal 2 => clear_value x))
    | with_reducible apply fset_keeps
    | with_reducible apply wrapAdd_keeps
    | with_reducible apply flag_keeps
    | with_reducible apply modTime_keeps
    | intro _

theorem doStep_keeps {s0 s : State} {a0} (h : Keeps s0 s) : Keeps s0 (doStep a0 s) := by
  unfold doStep
  repeat' first
    | with_reducible assumption
    | with_reducible rfl
    | with_reducible apply modTime_keeps
    | with_reducible apply fset_keeps
    | with_reducible apply flag_keeps
    | with_reducible apply stepLists_keeps
    | (with_reducible apply mk_keeps; with_reducible assumption; all_goals with_reducible rfl)
    | intro _

theorem setOffset_keeps {s0 s : State} {a0} (h : Keeps s0 s) : Keeps s0 (setOffset a0 s) := by
  unfold setOffset
  repeat' first
    | with_reducible assumption
    | with_reducible rfl
    | with_reducible apply modTime_keeps
    | intro _

theorem cancelSlew_keeps {s0 s : State} (h : Keeps s0 s) : Keeps s0 (cancelSlew s) := by
  unfold cancelSlew
  repeat' first
    | with_reducible assumption
    | with_reducible rfl
    | (extract_lets +onlyGivenNames x)
    | with_reducible apply modTime_keeps
    | with_reducible apply setOffset_keeps
    | with_reducible apply foldl_keeps
    | intro _ _ _
    | intro _ _
    | intro _

theorem alignBy_keeps {s0 s : State} {a0 a1} (h : Keeps s0 s) : Keeps s0 (alignBy a0 a1 s) := by
  unfold alignBy
  repeat' first
    | with_reducible assumption
    | (extract_lets +onlyGivenNames x)
    | with_reducible apply enterState_keeps
    | with_reducible apply setOffset_keeps
    | with_reducible apply doStep_keeps
    | split

theorem learnRatio_keeps {s0 s : State} (h : Keeps s0 s) : Keeps s0 (learnRatio s) := by
  unfold learnRatio
  repeat' first
    | with_reducible assumption
    | with_reducible rfl
    | with_reducible apply modTime_keeps
    | intro _
    | split

theorem refPresent_keeps {s0 s : State} (h : Keeps s0 s) : Keeps s0 (refPresent s) := by
  unfold refPresent
  repeat' first
    | with_reducible assumption
    | with_reducible rfl
    | (extract_lets +onlyGivenNames x)
    | with_reducible apply modTime_keeps
    | with_reducible apply foldl_keeps
    | (with_reducible apply mk_keeps; with_reducible assumption; all_goals with_reducible rfl)
    | intro _ _ _
    | intro _ _
    | intro _
    | split

theorem execAcquire_keeps {s0 s : State} {a1} (h : Keeps s0 s) : KeepsO s0 (execAcquire s a1) := by
  unfold execAcquire
  repeat' first
    | with_reducible assumption
    | with_reducible rfl
    | (extract_lets +onlyGivenNames x; refine Keeps.cut (a := s0) (x := x) ?_ (fun hx => ?_); (on_goal 1 => (unfold x; clear x)); (on_goal 2 => clear_value x))
    | (extract_lets +onlyGivenNames x)
    | with_reducible apply next_keeps
    | with_reducible apply refPresent_keeps
    | with_reducible apply modTime_keeps
    | with_reducible apply fset_keeps
    | with_reducible apply foldl_keeps
    | intro _ _ _
    | intro _ _
    | intro _
    | split

theorem execTbRefLoss_keeps {s0 s : State} {a1} (h : Keeps s0 s) : KeepsO s0 (execTbRefLoss s a1) := by
  unfold execTbRefLoss
  repeat' first
    | with_reducible assumption
    | with_reducible rfl
    | (extract_lets +onlyGivenNames x; refine Keeps.cut (a := s0) (x := x) ?_ (fun hx => ?_); (on_goal 1 => (unfold x; clear x)); (on_goal 2 => clear_value x))
    | (extract_lets +onlyGivenNames x)
    | with_reducible apply next_keeps
    | with_reducible apply flag_keeps
    | with_reducible apply enterHoldover_keeps
    | with_reducible apply fset_keeps
    | with_reducible apply foldl_keeps
    | (with_reducible apply mk_keeps; with_reducible assumption; all_goals with_reducible rfl)
    | intro _ _ _
    | intro _ _
    | intro _
    | split

theorem takeFrame_keeps {s0 s : State} {a0} (h : Keeps s0 s) : Keeps s0 (takeFrame a0 s) := by
  unfold takeFrame
  repeat' first
    | with_reducible assumption
    | with_reducible rfl
    | (extract_lets +onlyGivenNames x; refine Keeps.cut (a := s0) (x := x) ?_ (fun hx => ?_); (on_goal 1 => (unfold x; clear x)); (on_goal 2 => clear_value x))
    | (extract_lets +onlyGivenNames x)
    | with_reducible apply modTime_keeps
    | with_reducible apply satAdd_keeps
    | with_reducible apply fset_keeps
    | with_reducible apply onlyIf_keeps
    | with_reducible apply flag_keeps
    | intro _
    | split

theorem execTbFrame_keeps {s0 s : State} {a0} (h : Keeps s0 s) : KeepsO s0 (execTbFrame a0 s) := by
  unfold execTbFrame
  repeat' first
    | with_reducible assumption
    | with_reducible rfl
    | with_reducible apply next_keeps
    | with_reducible apply modTime_keeps
    | with_reducible apply takeFrame_keeps
    | intro _
    | split

theorem execCodeLoss_keeps {s0 s : State} (h : Keeps s0 s) : KeepsO s0 (execCodeLoss s) := by
  unfold execCodeLoss
  repeat' first
    | with_reducible assumption
    | with_reducible apply next_keeps
    | with_reducible apply enterHoldover_keeps
    | with_reducible apply flag_keeps
    | split

theorem execAcqFail_keeps {s0 s : State} (h : Keeps s0 s) : KeepsO s0 (execAcqFail s) := by
  unfold execAcqFail
  repeat' first
    | with_reducible assumption
    | with_reducible apply next_keeps
    | with_reducible apply flag_keeps
    | with_reducible apply fset_keeps
    | split

theorem execAlign_keeps {s0 s : State} (h : Keeps s0 s) : KeepsO s0 (execAlign s) := by
  unfold execAlign
  repeat' first
    | with_reducible assumption
    | with_reducible rfl
    | (extract_lets +onlyGivenNames x; refine Keeps.cut (a := s0) (x := x) ?_ (fun hx => ?_); (on_goal 1 => (unfold x; clear x)); (on_goal 2 => clear_value x))
    | (extract_lets +onlyGivenNames x)
    | with_reducible apply next_keeps
    | with_reducible apply cancelSlew_keeps
    | with_reducible apply modTime_keeps
    | with_reducible apply enterState_keeps
    | with_reducible apply doStep_keeps
    | with_reducible apply alignBy_keeps
    | with_reducible apply foldl_keeps
    | intro _ _ _
    | intro _ _
    | intro _
    | split

theorem execDelayChange_keeps {s0 s : State} (h : Keeps s0 s) : KeepsO s0 (execDelayChange s) := by
  unfold execDelayChange
  repeat' first
    | with_reducible assumption
    | with_reducible rfl
    | with_reducible apply next_keeps
    | with_reducible apply alignBy_keeps
    | with_reducible apply modTime_keeps
    | intro _
    | split

theorem execStepAnnounced_keeps {s0 s : State} (h : Keeps s0 s) : KeepsO s0 (execStepAnnounced s) := by
  unfold execStepAnnounced
  repeat' first
    | with_reducible assumption
    | with_reducible rfl
    | (extract_lets +onlyGivenNames x; refine Keeps.cut (a := s0) (x := x) ?_ (fun hx => ?_); (on_goal 1 => (unfold x; clear x)); (on_goal 2 => clear_value x))
    | (extract_lets +onlyGivenNames x)
    | with_reducible apply next_keeps
    | with_reducible apply cancelSlew_keeps
    | with_reducible apply modTime_keeps
    | with_reducible apply flag_keeps
    | with_reducible apply enterState_keeps
    | with_reducible apply doStep_keeps
    | with_reducible apply foldl_keeps
    | intro _ _ _
    | intro _ _
    | intro _
    | split

theorem execSlewStep_keeps {s0 s : State} (h : Keeps s0 s) : KeepsO s0 (execSlewStep s) := by
  unfold execSlewStep
  repeat' first
    | with_reducible assumption
    | with_reducible rfl
    | (extract_lets +onlyGivenNames x; refine Keeps.cut (a := s0) (x := x) ?_ (fun hx => ?_); (on_goal 1 => (unfold x; clear x)); (on_goal 2 => clear_value x))
    | (extract_lets +onlyGivenNames x)
    | with_reducible apply next_keeps
    | with_reducible apply modTime_keeps
    | with_reducible apply onlyIf_keeps
    | with_reducible apply enterState_keeps
    | (with_reducible apply mk_keeps; with_reducible assumption; all_goals with_reducible rfl)
    | intro _
    | split

theorem execSwFreq_keeps {s0 s : State} {a0} (h : Keeps s0 s) : KeepsO s0 (execSwFreq a0 s) := by
  unfold execSwFreq
  repeat' first
    | with_reducible assumption
    | with_reducible rfl
    | (extract_lets +onlyGivenNames x; refine Keeps.cut (a := s0) (x := x) ?_ (fun hx => ?_); (on_goal 1 => (unfold x; clear x)); (on_goal 2 => clear_value x))
    | (extract_lets +onlyGivenNames x)
    | with_reducible apply next_keeps
    | with_reducible apply errState_keeps
    | with_reducible apply errReserved_keeps
    | with_reducible apply modTime_keeps
    | with_reducible apply fset_keeps
    | with_reducible apply onlyIf_keeps
    | with_reducible apply enterState_keeps
    | intro _
    | split

theorem execSwPhase_keeps {s0 s : State} {a0} (h : Keeps s0 s) : KeepsO s0 (execSwPhase a0 s) := by
  unfold execSwPhase
  repeat' first
    | with_reducible assumption
    | with_reducible rfl
    | with_reducible apply next_keeps
    | with_reducible apply errState_keeps
    | with_reducible apply setOffset_keeps
    | with_reducible apply modTime_keeps
    | intro _
    | split

theorem execSwWdogExpired_keeps {s0 s : State} (h : Keeps s0 s) : KeepsO s0 (execSwWdogExpired s) := by
  unfold execSwWdogExpired
  repeat' first
    | with_reducible assumption
    | with_reducible apply next_keeps
    | with_reducible apply enterHoldover_keeps
    | with_reducible apply flag_keeps
    | split

theorem execMtimeSet_keeps {s0 s : State} {a0} (h : Keeps s0 s) : KeepsO s0 (execMtimeSet a0 s) := by
  unfold execMtimeSet
  repeat' first
    | with_reducible assumption
    | with_reducible rfl
    | (extract_lets +onlyGivenNames x)
    | with_reducible apply next_keeps
    | with_reducible apply pageErr_keeps
    | with_reducible apply enterState_keeps
    | with_reducible apply doStep_keeps
    | with_reducible apply cancelSlew_keeps
    | with_reducible apply fset_keeps
    | with_reducible apply errState_keeps
    | with_reducible apply foldl_keeps
    | intro _ _ _
    | intro _ _
    | intro _
    | split

theorem execHoldoverLong_keeps {s0 s : State} (h : Keeps s0 s) : KeepsO s0 (execHoldoverLong s) := by
  unfold execHoldoverLong
  repeat' first
    | with_reducible assumption
    | with_reducible rfl
    | with_reducible apply next_keeps
    | with_reducible apply modTime_keeps
    | with_reducible apply flag_keeps
    | intro _
    | split

theorem execTbSnap_keeps {s0 s : State} (h : Keeps s0 s) : KeepsO s0 (execTbSnap s) := by
  unfold execTbSnap
  repeat' first
    | with_reducible assumption
    | with_reducible rfl
    | (extract_lets +onlyGivenNames x)
    | with_reducible apply next_keeps
    | with_reducible apply modTime_keeps
    | with_reducible apply flag_keeps
    | with_reducible apply fset_keeps
    | intro _
    | split

theorem timerFields_keeps {s0 s : State} {a0 a1} (h : Keeps s0 s) : Keeps s0 (timerFields a0 a1 s) := by
  unfold timerFields
  repeat' first
    | with_reducible assumption
    | (extract_lets +onlyGivenNames x)
    | with_reducible apply errReserved_keeps
    | with_reducible apply fset_keeps
    | with_reducible apply fsetB_keeps
    | split

theorem timerDisarm_keeps {s0 s : State} {a0} (h : Keeps s0 s) : Keeps s0 (timerDisarm a0 s) := by
  unfold timerDisarm
  repeat' first
    | with_reducible assumption
    | with_reducible rfl
    | with_reducible apply modTime_keeps
    | with_reducible apply fset_keeps
    | intro _

theorem timerArm_keeps {s0 s : State} {a0} (h : Keeps s0 s) : Keeps s0 (timerArm a0 s) := by
  unfold timerArm
  repeat' first
    | with_reducible assumption
    | with_reducible rfl
    | with_reducible apply modTime_keeps
    | with_reducible apply markArm_keeps
    | with_reducible apply fset_keeps
    | intro _

theorem execTimerArm_keeps {s0 s : State} {a0 a1} (h : Keeps s0 s) : KeepsO s0 (execTimerArm a0 a1 s) := by
  unfold execTimerArm
  repeat' first
    | with_reducible assumption
    | with_reducible apply next_keeps
    | with_reducible apply timerArm_keeps
    | with_reducible apply timerFields_keeps

theorem execTimerDisarm_keeps {s0 s : State} {a0 a1} (h : Keeps s0 s) : KeepsO s0 (execTimerDisarm a0 a1 s) := by
  unfold execTimerDisarm
  repeat' first
    | with_reducible assumption
    | with_reducible apply next_keeps
    | with_reducible apply timerDisarm_keeps
    | with_reducible apply timerFields_keeps

theorem execTimerRearm_keeps {s0 s : State} {a0 a1} (h : Keeps s0 s) : KeepsO s0 (execTimerRearm a0 a1 s) := by
  unfold execTimerRearm
  repeat' first
    | with_reducible assumption
    | with_reducible apply next_keeps
    | with_reducible apply timerArm_keeps
    | with_reducible apply timerDisarm_keeps
    | with_reducible apply timerFields_keeps

theorem execTimerFire_keeps {s0 s : State} {a0} (h : Keeps s0 s) : KeepsO s0 (execTimerFire a0 s) := by
  unfold execTimerFire
  repeat' first
    | with_reducible assumption
    | with_reducible rfl
    | (extract_lets +onlyGivenNames x; refine Keeps.cut (a := s0) (x := x) ?_ (fun hx => ?_); (on_goal 1 => (unfold x; clear x)); (on_goal 2 => clear_value x))
    | (extract_lets +onlyGivenNames x)
    | with_reducible apply next_keeps
    | with_reducible apply flagBit_keeps
    | with_reducible apply logFiring_keeps
    | with_reducible apply timerDisarm_keeps
    | with_reducible apply modTime_keeps
    | intro _
    | split

theorem execEvtLogPop_keeps {s0 s : State} (h : Keeps s0 s) : KeepsO s0 (execEvtLogPop s) :=
  next_keeps (h.trans ⟨rfl, fun i =>
    ⟨{ i with evtLog := by have := i.evtLog; simp [modTime]; omega }, Nat.le_refl _⟩⟩)

theorem quiesceTime_keeps {s0 s : State} (h : Keeps s0 s) : Keeps s0 (quiesceTime s) := by
  unfold quiesceTime
  repeat' first
    | with_reducible assumption
    | with_reducible apply fset_keeps
    | with_reducible apply enterHoldover_keeps
    | split

theorem commitDelay_keeps {s0 s : State} (h : Keeps s0 s) : Keeps s0 (commitDelay s) := by
  unfold commitDelay
  repeat' first
    | with_reducible assumption
    | with_reducible rfl
    | with_reducible apply modTime_keeps
    | intro _
    | split

theorem refuseFlip_keeps {s0 s : State} {a0} (h : Keeps s0 s) : Keeps s0 (refuseFlip a0 s) := by
  unfold refuseFlip
  repeat' first
    | with_reducible assumption
    | with_reducible apply flag_keeps
    | with_reducible apply fset_keeps

theorem armFlip_keeps {s0 s : State} (h : Keeps s0 s) : Keeps s0 (armFlip s) := by
  unfold armFlip
  repeat' first
    | with_reducible assumption
    | with_reducible rfl
    | (extract_lets +onlyGivenNames x)
    | with_reducible apply refuseFlip_keeps
    | with_reducible apply markArm_keeps
    | with_reducible apply fset_keeps
    | with_reducible apply modTime_keeps
    | intro _
    | split

theorem disarmFlip_keeps {s0 s : State} (h : Keeps s0 s) : Keeps s0 (disarmFlip s) := by
  unfold disarmFlip
  repeat' first
    | with_reducible assumption
    | with_reducible rfl
    | with_reducible apply fset_keeps
    | with_reducible apply modTime_keeps
    | intro _

theorem execFlipArm_keeps {s0 s : State} (h : Keeps s0 s) : KeepsO s0 (execFlipArm s) := by
  unfold execFlipArm
  repeat' first
    | with_reducible assumption
    | with_reducible apply next_keeps
    | with_reducible apply armFlip_keeps

theorem execFlipDisarm_keeps {s0 s : State} (h : Keeps s0 s) : KeepsO s0 (execFlipDisarm s) := by
  unfold execFlipDisarm
  repeat' first
    | with_reducible assumption
    | with_reducible apply next_keeps
    | with_reducible apply disarmFlip_keeps

theorem execFlipRearm_keeps {s0 s : State} (h : Keeps s0 s) : KeepsO s0 (execFlipRearm s) := by
  unfold execFlipRearm
  repeat' first
    | with_reducible assumption
    | with_reducible apply next_keeps
    | with_reducible apply armFlip_keeps
    | with_reducible apply disarmFlip_keeps

theorem execRouteFlip_keeps {s0 s : State} (h : Keeps s0 s) : KeepsO s0 (execRouteFlip s) := by
  unfold execRouteFlip
  repeat' first
    | with_reducible assumption
    | (extract_lets +onlyGivenNames x; refine Keeps.cut (a := s0) (x := x) ?_ (fun hx => ?_); (on_goal 1 => (unfold x; clear x)); (on_goal 2 => clear_value x))
    | (extract_lets +onlyGivenNames x)
    | with_reducible apply next_keeps
    | with_reducible apply disarmFlip_keeps
    | with_reducible apply logFiring_keeps
    | with_reducible apply fsetB_keeps
    | with_reducible apply fset_keeps
    | with_reducible apply wrapAdd_keeps
    | with_reducible apply irqHold_keeps
    | with_reducible apply onlyIf_keeps
    | with_reducible apply flag_keeps
    | (with_reducible apply mk_keeps; with_reducible assumption; all_goals with_reducible rfl)
    | intro _ _
    | split

theorem execDrainSample_keeps {s0 s : State} (h : Keeps s0 s) : KeepsO s0 (execDrainSample s) := by
  unfold execDrainSample
  repeat' first
    | with_reducible assumption
    | with_reducible rfl
    | (extract_lets +onlyGivenNames x; refine Keeps.cut (a := s0) (x := x) ?_ (fun hx => ?_); (on_goal 1 => (unfold x; clear x)); (on_goal 2 => clear_value x))
    | (extract_lets +onlyGivenNames x)
    | with_reducible apply next_keeps
    | with_reducible apply fset_keeps
    | with_reducible apply irqHold_keeps
    | with_reducible apply foldl_keeps
    | (with_reducible apply mk_keeps; with_reducible assumption; all_goals with_reducible rfl)
    | intro _
    | split

theorem execDrainStall_keeps {s0 s : State} (h : Keeps s0 s) : KeepsO s0 (execDrainStall s) := by
  unfold execDrainStall
  repeat' first
    | with_reducible assumption
    | (extract_lets +onlyGivenNames x; refine Keeps.cut (a := s0) (x := x) ?_ (fun hx => ?_); (on_goal 1 => (unfold x; clear x)); (on_goal 2 => clear_value x))
    | with_reducible apply next_keeps
    | with_reducible apply flag_keeps
    | (with_reducible apply mk_keeps; with_reducible assumption; all_goals with_reducible rfl)
    | split

theorem setInForce_keeps {s0 s : State} {a0 a1} (h : Keeps s0 s) : Keeps s0 (setInForce a0 a1 s) := by
  unfold setInForce
  repeat' first
    | with_reducible assumption
    | (extract_lets +onlyGivenNames x; refine Keeps.cut (a := s0) (x := x) ?_ (fun hx => ?_); (on_goal 1 => (unfold x; clear x)); (on_goal 2 => clear_value x))
    | with_reducible apply fset_keeps

theorem markFailed_keeps {s0 s : State} {a0} (h : Keeps s0 s) : Keeps s0 (markFailed a0 s) := by
  unfold markFailed
  repeat' first
    | with_reducible assumption
    | with_reducible rfl
    | (extract_lets +onlyGivenNames x)
    | with_reducible apply flagBit_keeps
    | with_reducible apply flag_keeps

theorem failBank16_keeps {s0 s : State} (h : Keeps s0 s) : Keeps s0 (failBank16 s) := by
  unfold failBank16
  repeat' first
    | with_reducible assumption
    | with_reducible apply forEach_keeps
    | with_reducible apply fset_keeps
    | intro _ _ _

theorem readBank16_keeps {s0 s : State} {a0} (h : Keeps s0 s) : Keeps s0 (readBank16 a0 s) := by
  unfold readBank16
  repeat' first
    | with_reducible assumption
    | with_reducible rfl
    | (extract_lets +onlyGivenNames x)
    | with_reducible apply onlyIf_keeps
    | with_reducible apply failBank16_keeps
    | with_reducible apply markFailed_keeps
    | with_reducible apply foldl_keeps
    | intro _ _ _
    | intro _ _

theorem failRow_keeps {s0 s : State} {a0} (h : Keeps s0 s) : Keeps s0 (failRow a0 s) := by
  unfold failRow
  repeat' first
    | with_reducible assumption
    | with_reducible rfl
    | (extract_lets +onlyGivenNames x)
    | with_reducible apply onlyIf_keeps
    | with_reducible apply queueRecheck_keeps
    | with_reducible apply foldl_keeps
    | (with_reducible apply mk_keeps; with_reducible assumption; all_goals with_reducible rfl)
    | intro _ _ _
    | intro _ _

theorem failRoutes_keeps {s0 s : State} {a0} (h : Keeps s0 s) : Keeps s0 (failRoutes a0 s) := by
  unfold failRoutes
  repeat' first
    | with_reducible assumption
    | with_reducible rfl
    | (extract_lets +onlyGivenNames x)
    | with_reducible apply failRow_keeps
    | with_reducible apply markFailed_keeps

theorem readRoutes_keeps {s0 s : State} {a0 a1} (h : Keeps s0 s) : Keeps s0 (readRoutes a0 a1 s) := by
  unfold readRoutes
  repeat' first
    | with_reducible assumption
    | with_reducible rfl
    | (extract_lets +onlyGivenNames x)
    | with_reducible apply forEach_keeps
    | with_reducible apply failRoutes_keeps
    | with_reducible apply foldl_keeps
    | (with_reducible apply mk_keeps; with_reducible assumption; all_goals with_reducible rfl)
    | intro _ _ _

theorem rsvResult_keeps {s0 s : State} {a0 a1} (h : Keeps s0 s) : Keeps s0 (rsvResult a0 a1 s) := by
  unfold rsvResult
  repeat' first
    | with_reducible assumption
    | (extract_lets +onlyGivenNames x; refine Keeps.cut (a := s0) (x := x) ?_ (fun hx => ?_); (on_goal 1 => (unfold x; clear x)); (on_goal 2 => clear_value x))
    | with_reducible apply fset_keeps
    | with_reducible apply flag_keeps

theorem rsvNext_keeps {s0 s : State} (h : Keeps s0 s) : Keeps s0 (rsvNext s) := by
  unfold rsvNext
  repeat' first
    | with_reducible assumption
    | (with_reducible apply mk_keeps; with_reducible assumption; all_goals with_reducible rfl)
    | split

theorem finishAdmit_keeps {s0 s : State} {a0} (h : Keeps s0 s) : Keeps s0 (finishAdmit a0 s) := by
  unfold finishAdmit
  repeat' first
    | with_reducible assumption
    | with_reducible apply fset_keeps
    | with_reducible apply setInForce_keeps
    | with_reducible apply rsvResult_keeps
    | split

theorem finishRelease_keeps {s0 s : State} {a0} (h : Keeps s0 s) : Keeps s0 (finishRelease a0 s) := by
  unfold finishRelease
  repeat' first
    | with_reducible assumption
    | (extract_lets +onlyGivenNames x; refine Keeps.cut (a := s0) (x := x) ?_ (fun hx => ?_); (on_goal 1 => (unfold x; clear x)); (on_goal 2 => clear_value x))
    | with_reducible apply onlyIf_keeps
    | with_reducible apply fset_keeps
    | with_reducible apply rsvResult_keeps
    | intro _ _

theorem rsvCommand_keeps {s0 s : State} {a0 a1} (h : Keeps s0 s) : Keeps s0 (rsvCommand a0 a1 s) := by
  unfold rsvCommand
  repeat' first
    | with_reducible assumption
    | with_reducible apply errReserved_keeps
    | with_reducible apply rsvResult_keeps
    | with_reducible apply queueRsv_keeps
    | split

theorem execRsvAdmit_keeps {s0 s : State} {a0} (h : Keeps s0 s) : KeepsO s0 (execRsvAdmit a0 s) := by
  unfold execRsvAdmit
  repeat' first
    | with_reducible assumption
    | with_reducible apply next_keeps
    | with_reducible apply rsvCommand_keeps

theorem execRsvRelease_keeps {s0 s : State} {a0} (h : Keeps s0 s) : KeepsO s0 (execRsvRelease a0 s) := by
  unfold execRsvRelease
  repeat' first
    | with_reducible assumption
    | with_reducible apply next_keeps
    | with_reducible apply rsvCommand_keeps

theorem execRsvCmdDone_keeps {s0 s : State} {a1 a2} (h : Keeps s0 s) : KeepsO s0 (execRsvCmdDone s a1 a2) := by
  unfold execRsvCmdDone
  repeat' first
    | with_reducible assumption
    | with_reducible rfl
    | (extract_lets +onlyGivenNames x)
    | with_reducible apply next_keeps
    | with_reducible apply rsvNext_keeps
    | with_reducible apply readBank16_keeps
    | with_reducible apply finishAdmit_keeps
    | with_reducible apply readRoutes_keeps
    | with_reducible apply finishRelease_keeps
    | with_reducible apply foldl_keeps
    | (with_reducible apply mk_keeps; with_reducible assumption; all_goals with_reducible rfl)
    | intro _
    | split

theorem demote_keeps {s0 s : State} {a0 a1} (h : Keeps s0 s) : Keeps s0 (demote a0 a1 s) := by
  unfold demote
  repeat' first
    | with_reducible assumption
    | (extract_lets +onlyGivenNames x; refine Keeps.cut (a := s0) (x := x) ?_ (fun hx => ?_); (on_goal 1 => (unfold x; clear x)); (on_goal 2 => clear_value x))
    | with_reducible apply fset_keeps
    | with_reducible apply flag_keeps
    | with_reducible apply satAdd_keeps

theorem recheckAt_keeps {s0 s : State} {a0} (h : Keeps s0 s) : Keeps s0 (recheckAt a0 s) := by
  unfold recheckAt
  repeat' first
    | with_reducible assumption
    | with_reducible rfl
    | (extract_lets +onlyGivenNames x)
    | with_reducible apply onlyIf_keeps
    | with_reducible apply fset_keeps
    | with_reducible apply foldl_keeps
    | intro _ _ _
    | intro _ _

theorem recheck_keeps {s0 s : State} {a0} (h : Keeps s0 s) : Keeps s0 (recheck a0 s) := by
  unfold recheck
  repeat' first
    | with_reducible assumption
    | with_reducible rfl
    | with_reducible apply flag_keeps
    | with_reducible apply forEach_keeps
    | with_reducible apply demote_keeps
    | with_reducible apply onlyIf_keeps
    | with_reducible apply modPower_keeps
    | intro _

theorem execRecheck_keeps {s0 s : State} {a1 a2} (h : Keeps s0 s) : KeepsO s0 (execRecheck s a1 a2) := by
  unfold execRecheck
  repeat' first
    | with_reducible assumption
    | with_reducible rfl
    | (extract_lets +onlyGivenNames x)
    | with_reducible apply next_keeps
    | with_reducible apply rsvNext_keeps
    | with_reducible apply recheck_keeps
    | with_reducible apply readRoutes_keeps
    | with_reducible apply readBank16_keeps
    | with_reducible apply foldl_keeps
    | (with_reducible apply mk_keeps; with_reducible assumption; all_goals with_reducible rfl)
    | intro _
    | split

theorem execLoadHeldClear_keeps {s0 s : State} {a0} (h : Keeps s0 s) : KeepsO s0 (execLoadHeldClear a0 s) := by
  unfold execLoadHeldClear
  repeat' first
    | with_reducible assumption
    | with_reducible apply next_keeps
    | with_reducible apply fset_keeps
    | split

theorem writeRt_keeps {s0 s : State} {a0 a1 a2 a3 a4} (h : Keeps s0 s) : Keeps s0 (writeRt a0 a1 a2 a3 a4 s) := by
  unfold writeRt
  repeat' first
    | with_reducible assumption
    | (extract_lets +onlyGivenNames x; refine Keeps.cut (a := s0) (x := x) ?_ (fun hx => ?_); (on_goal 1 => (unfold x; clear x)); (on_goal 2 => clear_value x))
    | (extract_lets +onlyGivenNames x)
    | (with_reducible apply mk_keeps; with_reducible assumption; all_goals with_reducible rfl)
    | split

theorem execRtData_keeps {s0 s : State} {a0 a1} (h : Keeps s0 s) : KeepsO s0 (execRtData a0 a1 s) := by
  unfold execRtData
  repeat' first
    | with_reducible assumption
    | with_reducible apply next_keeps
    | with_reducible apply onlyIf_keeps
    | with_reducible apply errReserved_keeps
    | with_reducible apply flag_keeps
    | with_reducible apply errState_keeps
    | with_reducible apply queueRecheck_keeps
    | with_reducible apply writeRt_keeps
    | with_reducible apply fset_keeps
    | intro _ _
    | split

theorem dropBegun_keeps {s0 s : State} {a0 a1} (h : Keeps s0 s) : Keeps s0 (dropBegun a0 a1 s) := by
  unfold dropBegun
  repeat' first
    | with_reducible assumption
    | (extract_lets +onlyGivenNames x)
    | with_reducible apply returnCredit_keeps
    | with_reducible apply modVc_keeps
    | split

theorem answerHeld_keeps {s0 s : State} {a0 a1 a2 a3} (h : Keeps s0 s) : Keeps s0 (answerHeld a0 a1 a2 a3 s) := by
  unfold answerHeld
  repeat' first
    | with_reducible assumption
    | (extract_lets +onlyGivenNames x; refine Keeps.cut (a := s0) (x := x) ?_ (fun hx => ?_); (on_goal 1 => (unfold x; clear x)); (on_goal 2 => clear_value x))
    | with_reducible apply satAdd_keeps
    | with_reducible apply modEntry_keeps
    | with_reducible apply pushAnswer_keeps
    | split

theorem sweepVc_keeps {s0 s : State} {a0 a1 a2} (h : Keeps s0 s) : Keeps s0 (sweepVc a0 a1 a2 s) := by
  unfold sweepVc
  repeat' first
    | with_reducible assumption
    | with_reducible apply dropBegun_keeps
    | with_reducible apply forEach_keeps
    | with_reducible apply answerHeld_keeps
    | with_reducible apply consumePacket_keeps
    | intro _ _ _

theorem sweepRx_keeps {s0 s : State} {a0 a1} (h : Keeps s0 s) : Keeps s0 (sweepRx a0 a1 s) := by
  unfold sweepRx
  repeat' first
    | with_reducible assumption
    | with_reducible apply forEach_keeps
    | with_reducible apply sweepVc_keeps
    | intro _ _ _

theorem releaseHeld_keeps {s0 s : State} {a0 a1} (h : Keeps s0 s) : Keeps s0 (releaseHeld a0 a1 s) := by
  unfold releaseHeld
  repeat' first
    | with_reducible assumption
    | with_reducible apply satAdd_keeps
    | with_reducible apply forEach_keeps
    | with_reducible apply hand_keeps
    | with_reducible apply modNi_keeps
    | intro _ _ _

theorem switchOff_keeps {s0 s : State} {a0} (h : Keeps s0 s) : Keeps s0 (switchOff a0 s) := by
  unfold switchOff
  repeat' first
    | with_reducible assumption
    | with_reducible apply noteLink_keeps
    | with_reducible apply modChan_keeps
    | with_reducible apply fset_keeps
    | with_reducible apply modNi_keeps

theorem endWake_keeps {s0 s : State} {a0} (h : Keeps s0 s) : Keeps s0 (endWake a0 s) := by
  unfold endWake
  repeat' first
    | with_reducible assumption
    | (extract_lets +onlyGivenNames x; refine Keeps.cut (a := s0) (x := x) ?_ (fun hx => ?_); (on_goal 1 => (unfold x; clear x)); (on_goal 2 => clear_value x))
    | with_reducible apply fset_keeps
    | with_reducible apply switchOff_keeps
    | with_reducible apply modNi_keeps
    | split

theorem emptyFifo_keeps {s0 s : State} {a0} (h : Keeps s0 s) : Keeps s0 (emptyFifo a0 s) := by
  unfold emptyFifo
  repeat' first
    | with_reducible assumption
    | with_reducible apply modNi_keeps
    | with_reducible apply onlyIf_keeps
    | with_reducible apply satAdd_keeps
    | with_reducible apply forEach_keeps
    | with_reducible apply freeEntry_keeps
    | intro _ _

theorem freeLeg0_keeps {s0 s : State} {a0} (h : Keeps s0 s) : Keeps s0 (freeLeg0 a0 s) := by
  unfold freeLeg0
  repeat' first
    | with_reducible assumption
    | with_reducible apply forEach_keeps
    | with_reducible apply freeEntry_keeps
    | with_reducible apply noteUnsure_keeps
    | with_reducible apply modNi_keeps
    | intro _ _ _

theorem freeStale_keeps {s0 s : State} {a0} (h : Keeps s0 s) : Keeps s0 (freeStale a0 s) := by
  unfold freeStale
  repeat' first
    | with_reducible assumption
    | with_reducible rfl
    | (extract_lets +onlyGivenNames x)
    | with_reducible apply forEach_keeps
    | with_reducible apply freeEntry_keeps
    | with_reducible apply foldl_keeps
    | intro _ _ _

theorem setCheckRow_keeps {s0 s : State} {a0 a1} (h : Keeps s0 s) : Keeps s0 (setCheckRow a0 a1 s) := by
  unfold setCheckRow
  repeat' first
    | with_reducible assumption
    | (with_reducible apply mk_keeps; with_reducible assumption; all_goals with_reducible rfl)

theorem offerRow_keeps {s0 s : State} {a0} (h : Keeps s0 s) : Keeps s0 (offerRow a0 s) := by
  unfold offerRow
  repeat' first
    | with_reducible assumption
    | with_reducible apply setCheckRow_keeps

theorem dropLookups_keeps {s0 s : State} {a0} (h : Keeps s0 s) : Keeps s0 (dropLookups a0 s) := by
  unfold dropLookups
  repeat' first
    | with_reducible assumption
    | with_reducible apply offerRow_keeps
    | with_reducible apply setCheckRow_keeps

theorem answerReceipts_keeps {s0 s : State} {a0} (h : Keeps s0 s) : Keeps s0 (answerReceipts a0 s) := by
  unfold answerReceipts
  repeat' first
    | with_reducible assumption
    | with_reducible apply forEach_keeps
    | with_reducible apply answerReceipt_keeps
    | intro _ _ _

theorem endGrace_keeps {s0 s : State} {a0} (h : Keeps s0 s) : Keeps s0 (endGrace a0 s) := by
  unfold endGrace
  repeat' first
    | with_reducible assumption
    | with_reducible apply answerReceipts_keeps
    | with_reducible apply modNi_keeps

theorem isolateNow_keeps {s0 s : State} {a0 a1} (h : Keeps s0 s) : Keeps s0 (isolateNow a0 a1 s) := by
  unfold isolateNow
  repeat' first
    | with_reducible assumption
    | with_reducible rfl
    | (extract_lets +onlyGivenNames x; refine Keeps.cut (a := s0) (x := x) ?_ (fun hx => ?_); (on_goal 1 => (unfold x; clear x)); (on_goal 2 => clear_value x))
    | (extract_lets +onlyGivenNames x)
    | with_reducible apply fset_keeps
    | with_reducible apply abortEntry_keeps
    | with_reducible apply modNi_keeps
    | with_reducible apply endGrace_keeps
    | with_reducible apply fsetB_keeps
    | with_reducible apply dropLookups_keeps
    | with_reducible apply freeLeg0_keeps
    | with_reducible apply endWake_keeps
    | with_reducible apply emptyFifo_keeps
    | with_reducible apply freeStale_keeps
    | with_reducible apply sweepRx_keeps
    | with_reducible apply releaseHeld_keeps
    | with_reducible apply onlyIf_keeps
    | with_reducible apply answerReceipts_keeps
    | with_reducible apply queueRecheck_keeps
    | with_reducible apply foldl_keeps
    | intro _ _ _
    | intro _ _
    | intro _
    | split

theorem isolateMask_keeps {s0 s : State} {a0 a1} (h : Keeps s0 s) : Keeps s0 (isolateMask a0 a1 s) := by
  unfold isolateMask
  repeat' first
    | with_reducible assumption
    | (extract_lets +onlyGivenNames x; refine Keeps.cut (a := s0) (x := x) ?_ (fun hx => ?_); (on_goal 1 => (unfold x; clear x)); (on_goal 2 => clear_value x))
    | with_reducible apply fset_keeps
    | with_reducible apply modNi_keeps
    | with_reducible apply isolateNow_keeps
    | (with_reducible apply mk_keeps; with_reducible assumption; all_goals with_reducible rfl)
    | split

theorem isolate_keeps {s0 s : State} {a0 a1} (h : Keeps s0 s) : Keeps s0 (isolate a0 a1 s) := by
  unfold isolate
  repeat' first
    | with_reducible assumption
    | with_reducible apply isolateMask_keeps

theorem sweepArrival_keeps {s0 s : State} {a0} (h : Keeps s0 s) : Keeps s0 (sweepArrival a0 s) := by
  unfold sweepArrival
  repeat' first
    | with_reducible assumption
    | with_reducible apply sweepRx_keeps
    | split

theorem execIsolate_keeps {s0 s : State} {a0} (h : Keeps s0 s) : KeepsO s0 (execIsolate a0 s) := by
  unfold execIsolate
  repeat' first
    | with_reducible assumption
    | with_reducible apply next_keeps
    | with_reducible apply isolate_keeps
    | split

theorem execSwept_keeps {s0 s : State} {a0} (h : Keeps s0 s) : KeepsO s0 (execSwept a0 s) := by
  unfold execSwept
  repeat' first
    | with_reducible assumption
    | (extract_lets +onlyGivenNames x; refine Keeps.cut (a := s0) (x := x) ?_ (fun hx => ?_); (on_goal 1 => (unfold x; clear x)); (on_goal 2 => clear_value x))
    | (extract_lets +onlyGivenNames x)
    | with_reducible apply next_keeps
    | with_reducible apply fset_keeps
    | with_reducible apply errRecord_keeps
    | with_reducible apply flag_keeps
    | split

theorem execFenceGraceEnd_keeps {s0 s : State} {a0} (h : Keeps s0 s) : KeepsO s0 (execFenceGraceEnd a0 s) := by
  unfold execFenceGraceEnd
  repeat' first
    | with_reducible assumption
    | (extract_lets +onlyGivenNames x)
    | with_reducible apply next_keeps
    | with_reducible apply endGrace_keeps
    | split

theorem arriveNi_keeps {s0 s : State} {a0} (h : Keeps s0 s) : Keeps s0 (arriveNi a0 s) := by
  unfold arriveNi
  repeat' first
    | with_reducible assumption
    | with_reducible rfl
    | (extract_lets +onlyGivenNames x)
    | with_reducible apply judgeRx_keeps
    | with_reducible apply sweepArrival_keeps

theorem stirRx_keeps {s0 s : State} {a0} (h : Keeps s0 s) : Keeps s0 (stirRx a0 s) := by
  unfold stirRx
  repeat' first
    | with_reducible assumption
    | with_reducible rfl
    | (extract_lets +onlyGivenNames x)
    | with_reducible apply modNi_keeps
    | with_reducible apply foldl_keeps
    | (with_reducible apply mk_keeps; with_reducible assumption; all_goals with_reducible rfl)
    | intro _
    | split

theorem arriveRouter_keeps {s0 s : State} {a0 a1 a2} (h : Keeps s0 s) : Keeps s0 (arriveRouter a0 a1 a2 s) := by
  unfold arriveRouter
  repeat' first
    | with_reducible assumption
    | with_reducible apply addInj_keeps
    | split

theorem acceptFlit_keeps {s0 s : State} {a0 a1} (h : Keeps s0 s) : Keeps s0 (acceptFlit a0 a1 s) := by
  unfold acceptFlit
  repeat' first
    | with_reducible assumption
    | with_reducible rfl
    | (extract_lets +onlyGivenNames x; refine Keeps.cut (a := s0) (x := x) ?_ (fun hx => ?_); (on_goal 1 => (unfold x; clear x)); (on_goal 2 => clear_value x))
    | (extract_lets +onlyGivenNames x)
    | with_reducible apply modChan_keeps
    | with_reducible apply takeBody_keeps
    | with_reducible apply takeCredit_keeps
    | with_reducible apply arriveNi_keeps
    | with_reducible apply arriveRouter_keeps
    | with_reducible apply foldl_keeps
    | (with_reducible apply mk_keeps; with_reducible assumption; all_goals with_reducible rfl)
    | intro _
    | split

theorem takeFlit_keeps {s0 s : State} {a0 a1} (h : Keeps s0 s) : Keeps s0 (takeFlit a0 a1 s) := by
  unfold takeFlit
  repeat' first
    | with_reducible assumption
    | with_reducible rfl
    | (extract_lets +onlyGivenNames x; refine Keeps.cut (a := s0) (x := x) ?_ (fun hx => ?_); (on_goal 1 => (unfold x; clear x)); (on_goal 2 => clear_value x))
    | (extract_lets +onlyGivenNames x)
    | with_reducible apply onlyIf_keeps
    | with_reducible apply stirRx_keeps
    | with_reducible apply refuseFlit_keeps
    | with_reducible apply satAdd_keeps
    | with_reducible apply takeAck_keeps
    | with_reducible apply acceptFlit_keeps
    | with_reducible apply modChan_keeps
    | with_reducible apply foldl_keeps
    | (with_reducible apply mk_keeps; with_reducible assumption; all_goals with_reducible rfl)
    | intro _ _ _
    | intro _ _
    | intro _
    | split

theorem execFlitReceive_keeps {s0 s : State} {a0 a1} (h : Keeps s0 s) : KeepsO s0 (execFlitReceive a0 a1 s) := by
  unfold execFlitReceive
  repeat' first
    | with_reducible assumption
    | with_reducible rfl
    | (extract_lets +onlyGivenNames x; refine Keeps.cut (a := s0) (x := x) ?_ (fun hx => ?_); (on_goal 1 => (unfold x; clear x)); (on_goal 2 => clear_value x))
    | (extract_lets +onlyGivenNames x)
    | with_reducible apply next_keeps
    | with_reducible apply onlyIf_keeps
    | with_reducible apply modChan_keeps
    | with_reducible apply satAdd_keeps
    | with_reducible apply stirRx_keeps
    | with_reducible apply refuseFlit_keeps
    | with_reducible apply takeFlit_keeps
    | with_reducible apply foldl_keeps
    | (with_reducible apply mk_keeps; with_reducible assumption; all_goals with_reducible rfl)
    | intro _ _ _
    | intro _ _
    | intro _
    | split

theorem execReplay_keeps {s0 s : State} {a0} (h : Keeps s0 s) : KeepsO s0 (execReplay a0 s) := by
  unfold execReplay
  repeat' first
    | with_reducible assumption
    | with_reducible apply next_keeps
    | with_reducible apply onlyIf_keeps
    | with_reducible apply replayChan_keeps
    | intro _ _

theorem execReplayTo_keeps {s0 s : State} {a0} (h : Keeps s0 s) : KeepsO s0 (execReplayTo a0 s) := by
  unfold execReplayTo
  repeat' first
    | with_reducible assumption
    | with_reducible apply next_keeps
    | with_reducible apply onlyIf_keeps
    | with_reducible apply replayChan_keeps
    | intro _ _

theorem logLost_keeps {s0 s : State} {a0 a1 a2} (h : Keeps s0 s) : Keeps s0 (logLost a0 a1 a2 s) := by
  unfold logLost
  repeat' first
    | with_reducible assumption
    | with_reducible apply errQ0_keeps
    | with_reducible apply satAdd_keeps

theorem losePartial_keeps {s0 s : State} {a0 a1} (h : Keeps s0 s) : Keeps s0 (losePartial a0 a1 s) := by
  unfold losePartial
  repeat' first
    | with_reducible assumption
    | with_reducible apply consumePacket_keeps
    | with_reducible apply returnCredit_keeps
    | with_reducible apply modVc_keeps
    | with_reducible apply logLost_keeps
    | with_reducible apply hand_keeps
    | with_reducible apply onlyIf_keeps
    | with_reducible apply addRem_keeps
    | intro _ _
    | split

theorem dropGoing_keeps {s0 s : State} {a0 a1} (h : Keeps s0 s) : Keeps s0 (dropGoing a0 a1 s) := by
  unfold dropGoing
  repeat' first
    | with_reducible assumption
    | with_reducible apply modNi_keeps
    | with_reducible apply onlyIf_keeps
    | with_reducible apply addRem_keeps
    | with_reducible apply forEach_keeps
    | with_reducible apply dropBegun_keeps
    | with_reducible apply modRouter_keeps
    | intro _ _ _
    | intro _ _
    | split

theorem loseReplay_keeps {s0 s : State} {a0} (h : Keeps s0 s) : Keeps s0 (loseReplay a0 s) := by
  unfold loseReplay
  repeat' first
    | with_reducible assumption
    | with_reducible apply modChan_keeps
    | with_reducible apply forEach_keeps
    | with_reducible apply hand_keeps
    | with_reducible apply logLost_keeps
    | with_reducible apply dropGoing_keeps
    | intro _ _ _

theorem noteDown_keeps {s0 s : State} {a0} (h : Keeps s0 s) : Keeps s0 (noteDown a0 s) := by
  unfold noteDown
  repeat' first
    | with_reducible assumption
    | with_reducible apply linkChange_keeps
    | with_reducible apply errRecord_keeps
    | with_reducible apply satAdd_keeps

theorem enterDown_keeps {s0 s : State} {a0} (h : Keeps s0 s) : Keeps s0 (enterDown a0 s) := by
  unfold enterDown
  repeat' first
    | with_reducible assumption
    | (extract_lets +onlyGivenNames x; refine Keeps.cut (a := s0) (x := x) ?_ (fun hx => ?_); (on_goal 1 => (unfold x; clear x)); (on_goal 2 => clear_value x))
    | (extract_lets +onlyGivenNames x)
    | with_reducible apply loseReplay_keeps
    | with_reducible apply forEach_keeps
    | with_reducible apply losePartial_keeps
    | with_reducible apply noteDown_keeps
    | with_reducible apply onlyIf_keeps
    | with_reducible apply queueRecheck_keeps
    | with_reducible apply flag_keeps
    | with_reducible apply isolate_keeps
    | intro _ _ _
    | intro _ _
    | split

theorem replayAfter_keeps {s0 s : State} {a0} (h : Keeps s0 s) : Keeps s0 (replayAfter a0 s) := by
  unfold replayAfter
  repeat' first
    | with_reducible assumption
    | with_reducible rfl
    | (extract_lets +onlyGivenNames x)
    | with_reducible apply resend_keeps
    | with_reducible apply onlyIf_keeps
    | with_reducible apply satAdd_keeps
    | with_reducible apply foldl_keeps
    | intro _ _ _
    | intro _ _

theorem execRetrainDone_keeps {s0 s : State} {a0 a1} (h : Keeps s0 s) : KeepsO s0 (execRetrainDone a0 a1 s) := by
  unfold execRetrainDone
  repeat' first
    | with_reducible assumption
    | with_reducible rfl
    | (extract_lets +onlyGivenNames x; refine Keeps.cut (a := s0) (x := x) ?_ (fun hx => ?_); (on_goal 1 => (unfold x; clear x)); (on_goal 2 => clear_value x))
    | (extract_lets +onlyGivenNames x)
    | with_reducible apply next_keeps
    | with_reducible apply enterDown_keeps
    | with_reducible apply modChan_keeps
    | with_reducible apply noteLink_keeps
    | with_reducible apply replayAfter_keeps
    | with_reducible apply foldl_keeps
    | intro _ _ _
    | intro _ _
    | intro _
    | split

theorem execTrainDone_keeps {s0 s : State} {a0} (h : Keeps s0 s) : KeepsO s0 (execTrainDone a0 s) := by
  unfold execTrainDone
  repeat' first
    | with_reducible assumption
    | (extract_lets +onlyGivenNames x)
    | with_reducible apply next_keeps
    | with_reducible apply onlyIf_keeps
    | with_reducible apply noteLink_keeps
    | with_reducible apply modChan_keeps
    | intro _ _
    | split

theorem setBankBad_keeps {s0 s : State} {a0 a1} (h : Keeps s0 s) : Keeps s0 (setBankBad a0 a1 s) := by
  unfold setBankBad
  repeat' first
    | with_reducible assumption
    | with_reducible apply flagBit_keeps
    | with_reducible apply unflagBit_keeps
    | split

theorem recordFault_keeps {s0 s : State} {a0 a1} (h : Keeps s0 s) : Keeps s0 (recordFault a0 a1 s) := by
  unfold recordFault
  extract_lets t r l
  have ht : Keeps s0 t := by
    unfold t; split
    · exact satAdd_keeps h
    · exact satAdd_keeps h
  have hl : l.length ≤ 256 := by simp [l]
  clear_value t l r
  have hu : Keeps s0 { t with faults := l } := ht.trans ⟨rfl, fun i => ⟨{ i with faults := hl }, Nat.le_refl _⟩⟩
  split
  · exact flag_keeps (satAdd_keeps hu)
  · exact flag_keeps hu

theorem execFaultRecordPop_keeps {s0 s : State} (h : Keeps s0 s) : KeepsO s0 (execFaultRecordPop s) :=
  next_keeps (h.trans ⟨rfl, fun i => ⟨{ i with faults := by have := i.faults; simp; omega }, Nat.le_refl _⟩⟩)

theorem failBank17_keeps {s0 s : State} (h : Keeps s0 s) : Keeps s0 (failBank17 s) := by
  unfold failBank17
  extract_lets o q t u v w
  have ht : Keeps s0 t := h.trans ⟨rfl, fun i => ⟨{ i with faults := Nat.zero_le _ }, Nat.le_refl _⟩⟩
  have hu : Keeps s0 u := fset_keeps (fset_keeps ht)
  have hv : Keeps s0 v := fset_keeps hu
  have hw : Keeps s0 w := forEach_keeps hv (fun _ _ k => fset_keeps (fset_keeps k))
  exact forEach_keeps hw (fun _ _ k => clearFields_keeps k)

theorem failBank17.setLk_keeps {s0 s : State} {a0 a1 a2 a3} (h : Keeps s0 s) : Keeps s0
    (failBank17.setLk a0 a1 a2 a3 s) := by
  unfold failBank17.setLk
  repeat' first
    | with_reducible assumption
    | with_reducible apply fset_keeps

theorem failArt_keeps {s0 s : State} {a0} (h : Keeps s0 s) : Keeps s0 (failArt a0 s) := by
  unfold failArt
  repeat' first
    | with_reducible assumption
    | with_reducible rfl
    | (extract_lets +onlyGivenNames x)
    | with_reducible apply flagBit_keeps
    | with_reducible apply markFailed_keeps

theorem failControl_keeps {s0 s : State} (h : Keeps s0 s) : Keeps s0 (failControl s) := by
  unfold failControl
  repeat' first
    | with_reducible assumption
    | with_reducible rfl
    | (extract_lets +onlyGivenNames x)
    | with_reducible apply failBank17_keeps
    | with_reducible apply markFailed_keeps

theorem failBank_keeps {s0 s : State} {a0} (h : Keeps s0 s) : Keeps s0 (failBank a0 s) := by
  unfold failBank
  repeat' first
    | with_reducible assumption
    | with_reducible rfl
    | (extract_lets +onlyGivenNames x)
    | with_reducible apply failArt_keeps
    | with_reducible apply readBank16_keeps
    | with_reducible apply failControl_keeps
    | with_reducible apply failRoutes_keeps
    | with_reducible apply foldl_keeps
    | intro _ _ _
    | intro _ _
    | intro _
    | split

theorem failBanks_keeps {s0 s : State} {a0 a1} (h : Keeps s0 s) : Keeps s0 (failBanks a0 a1 s) := by
  unfold failBanks
  repeat' first
    | with_reducible assumption
    | with_reducible rfl
    | (extract_lets +onlyGivenNames x; refine Keeps.cut (a := s0) (x := x) ?_ (fun hx => ?_); (on_goal 1 => (unfold x; clear x)); (on_goal 2 => clear_value x))
    | (extract_lets +onlyGivenNames x)
    | with_reducible apply forEach_keeps
    | with_reducible apply failArt_keeps
    | with_reducible apply onlyIf_keeps
    | with_reducible apply failControl_keeps
    | with_reducible apply foldl_keeps
    | intro _ _ _

theorem cacheTouch_keeps {s0 s : State} {a0 a1} (h : Keeps s0 s) : Keeps s0 (cacheTouch a0 a1 s) := by
  unfold cacheTouch
  repeat' first
    | with_reducible assumption
    | with_reducible apply modNi_keeps

theorem present_keeps {s0 s : State} {a0} (h : Keeps s0 s) : Keeps s0 (present a0 s) := by
  unfold present
  repeat' first
    | with_reducible assumption
    | with_reducible apply offerRow_keeps
    | with_reducible apply setCheckRow_keeps

theorem failRead_keeps {s0 s : State} {a0 a1 a2} (h : Keeps s0 s) : Keeps s0 (failRead a0 a1 a2 s) := by
  unfold failRead
  repeat' first
    | with_reducible assumption
    | with_reducible rfl
    | (extract_lets +onlyGivenNames x; refine Keeps.cut (a := s0) (x := x) ?_ (fun hx => ?_); (on_goal 1 => (unfold x; clear x)); (on_goal 2 => clear_value x))
    | (extract_lets +onlyGivenNames x)
    | with_reducible apply onlyIf_keeps
    | with_reducible apply failControl_keeps
    | with_reducible apply failArt_keeps
    | with_reducible apply foldl_keeps
    | intro _ _ _
    | intro _ _
    | intro _
    | split

theorem execArtLookup_keeps {s0 s : State} {a0 a1 a2} (h : Keeps s0 s) : KeepsO s0 (execArtLookup a0 s a1 a2) := by
  unfold execArtLookup
  repeat' first
    | with_reducible assumption
    | (extract_lets +onlyGivenNames x; refine Keeps.cut (a := s0) (x := x) ?_ (fun hx => ?_); (on_goal 1 => (unfold x; clear x)); (on_goal 2 => clear_value x))
    | (extract_lets +onlyGivenNames x)
    | with_reducible apply next_keeps
    | with_reducible apply offerRow_keeps
    | with_reducible apply setCheckRow_keeps
    | with_reducible apply maxIn_keeps
    | with_reducible apply wrapAdd_keeps
    | with_reducible apply recordFault_keeps
    | with_reducible apply failRead_keeps
    | with_reducible apply onlyIf_keeps
    | with_reducible apply modNi_keeps
    | intro _ _
    | split

theorem staleVerdicts_keeps {s0 s : State} {a0} (h : Keeps s0 s) : Keeps s0 (staleVerdicts a0 s) := by
  unfold staleVerdicts
  repeat' first
    | with_reducible assumption
    | with_reducible apply modNi_keeps

theorem execFlush_keeps {s0 s : State} {a0} (h : Keeps s0 s) : KeepsO s0 (execFlush a0 s) := by
  unfold execFlush
  repeat' first
    | with_reducible assumption
    | with_reducible apply next_keeps
    | with_reducible apply staleVerdicts_keeps
    | split

theorem staleAll_keeps {s0 s : State} (h : Keeps s0 s) : Keeps s0 (staleAll s) := by
  unfold staleAll
  repeat' first
    | with_reducible assumption
    | with_reducible apply forEach_keeps
    | with_reducible apply staleVerdicts_keeps
    | intro _ _ _

theorem setBusy_keeps {s0 s : State} (h : Keeps s0 s) : Keeps s0 (setBusy s) := by
  unfold setBusy
  repeat' first
    | with_reducible assumption
    | with_reducible apply flag_keeps

theorem artwStep_keeps {s0 s : State} (h : Keeps s0 s) : Keeps s0 (artwStep s) := by
  unfold artwStep
  repeat' first
    | with_reducible assumption
    | with_reducible apply onlyIf_keeps
    | with_reducible apply fset_keeps
    | intro _ _

theorem execArtwW3_keeps {s0 s : State} {a0} (h : Keeps s0 s) : KeepsO s0 (execArtwW3 a0 s) := by
  unfold execArtwW3
  repeat' first
    | with_reducible assumption
    | (extract_lets +onlyGivenNames x)
    | with_reducible apply next_keeps
    | with_reducible apply artwStep_keeps
    | with_reducible apply setBusy_keeps
    | with_reducible apply fset_keeps
    | (with_reducible apply mk_keeps; with_reducible assumption; all_goals with_reducible rfl)
    | split

theorem writeCount_keeps {s0 s : State} {a0 a1} (h : Keeps s0 s) : Keeps s0 (writeCount a0 a1 s) := by
  unfold writeCount
  repeat' first
    | with_reducible assumption
    | with_reducible apply errReserved_keeps
    | with_reducible apply setBusy_keeps
    | with_reducible apply fset_keeps
    | split

theorem execArtCount_keeps {s0 s : State} {a0} (h : Keeps s0 s) : KeepsO s0 (execArtCount a0 s) := by
  unfold execArtCount
  repeat' first
    | with_reducible assumption
    | with_reducible apply next_keeps
    | with_reducible apply writeCount_keeps

theorem startCmd_keeps {s0 s : State} {a0} (h : Keeps s0 s) : Keeps s0 (startCmd a0 s) := by
  unfold startCmd
  repeat' first
    | with_reducible assumption
    | with_reducible apply fset_keeps
    | with_reducible apply onlyIf_keeps
    | (with_reducible apply mk_keeps; with_reducible assumption; all_goals with_reducible rfl)
    | intro _ _

theorem artCommand_keeps {s0 s : State} {a0 a1} (h : Keeps s0 s) : Keeps s0 (artCommand a0 a1 s) := by
  unfold artCommand
  repeat' first
    | with_reducible assumption
    | with_reducible apply errReserved_keeps
    | with_reducible apply setBusy_keeps
    | with_reducible apply startCmd_keeps
    | (with_reducible apply mk_keeps; with_reducible assumption; all_goals with_reducible rfl)
    | split

theorem execValidate_keeps {s0 s : State} {a0} (h : Keeps s0 s) : KeepsO s0 (execValidate a0 s) := by
  unfold execValidate
  repeat' first
    | with_reducible assumption
    | with_reducible apply next_keeps
    | with_reducible apply artCommand_keeps

theorem execCopy_keeps {s0 s : State} {a0} (h : Keeps s0 s) : KeepsO s0 (execCopy a0 s) := by
  unfold execCopy
  repeat' first
    | with_reducible assumption
    | with_reducible apply next_keeps
    | with_reducible apply artCommand_keeps

theorem execClear_keeps {s0 s : State} {a0} (h : Keeps s0 s) : KeepsO s0 (execClear a0 s) := by
  unfold execClear
  repeat' first
    | with_reducible assumption
    | with_reducible apply next_keeps
    | with_reducible apply artCommand_keeps

theorem setFences_keeps {s0 s : State} {a0} (h : Keeps s0 s) : Keeps s0 (setFences a0 s) := by
  unfold setFences
  repeat' first
    | with_reducible assumption
    | with_reducible apply forEach_keeps
    | (with_reducible apply mk_keeps; with_reducible assumption; all_goals with_reducible rfl)
    | intro _ _ _

theorem doValidate_keeps {s0 s : State} (h : Keeps s0 s) : Keeps s0 (doValidate s) := by
  unfold doValidate
  repeat' first
    | with_reducible assumption
    | (extract_lets +onlyGivenNames x; refine Keeps.cut (a := s0) (x := x) ?_ (fun hx => ?_); (on_goal 1 => (unfold x; clear x)); (on_goal 2 => clear_value x))
    | (extract_lets +onlyGivenNames x)
    | with_reducible apply setFences_keeps
    | with_reducible apply fset_keeps
    | with_reducible apply onlyIf_keeps
    | with_reducible apply flag_keeps
    | intro _ _
    | split

theorem doCopy_keeps {s0 s : State} (h : Keeps s0 s) : Keeps s0 (doCopy s) := by
  unfold doCopy
  repeat' first
    | with_reducible assumption
    | with_reducible apply fset_keeps
    | with_reducible apply forEach_keeps
    | with_reducible apply setBankBad_keeps
    | (with_reducible apply mk_keeps; with_reducible assumption; all_goals with_reducible rfl)
    | intro _ _ _

theorem doClear_keeps {s0 s : State} (h : Keeps s0 s) : Keeps s0 (doClear s) := by
  unfold doClear
  repeat' first
    | with_reducible assumption
    | with_reducible apply forEach_keeps
    | with_reducible apply setBankBad_keeps
    | with_reducible apply fset_keeps
    | (with_reducible apply mk_keeps; with_reducible assumption; all_goals with_reducible rfl)
    | intro _ _ _

theorem execCmdDone_keeps {s0 s : State} {a1} (h : Keeps s0 s) : KeepsO s0 (execCmdDone s a1) := by
  unfold execCmdDone
  repeat' first
    | with_reducible assumption
    | with_reducible rfl
    | (extract_lets +onlyGivenNames x; refine Keeps.cut (a := s0) (x := x) ?_ (fun hx => ?_); (on_goal 1 => (unfold x; clear x)); (on_goal 2 => clear_value x))
    | (extract_lets +onlyGivenNames x)
    | with_reducible apply next_keeps
    | with_reducible apply failBanks_keeps
    | with_reducible apply doValidate_keeps
    | with_reducible apply doCopy_keeps
    | with_reducible apply doClear_keeps
    | with_reducible apply flag_keeps
    | with_reducible apply fset_keeps
    | with_reducible apply startCmd_keeps
    | with_reducible apply foldl_keeps
    | (with_reducible apply mk_keeps; with_reducible assumption; all_goals with_reducible rfl)
    | intro _ _ _
    | intro _ _
    | intro _
    | split

theorem refuseSwap_keeps {s0 s : State} {a0} (h : Keeps s0 s) : Keeps s0 (refuseSwap a0 s) := by
  unfold refuseSwap
  repeat' first
    | with_reducible assumption
    | with_reducible apply flag_keeps
    | with_reducible apply fset_keeps

theorem armSwap_keeps {s0 s : State} (h : Keeps s0 s) : Keeps s0 (armSwap s) := by
  unfold armSwap
  repeat' first
    | with_reducible assumption
    | with_reducible rfl
    | (extract_lets +onlyGivenNames x)
    | with_reducible apply refuseSwap_keeps
    | with_reducible apply markArm_keeps
    | with_reducible apply fset_keeps
    | with_reducible apply modTime_keeps
    | intro _
    | split

theorem disarmSwap_keeps {s0 s : State} (h : Keeps s0 s) : Keeps s0 (disarmSwap s) := by
  unfold disarmSwap
  repeat' first
    | with_reducible assumption
    | with_reducible rfl
    | with_reducible apply fset_keeps
    | with_reducible apply modTime_keeps
    | intro _

theorem execSwapArm_keeps {s0 s : State} (h : Keeps s0 s) : KeepsO s0 (execSwapArm s) := by
  unfold execSwapArm
  repeat' first
    | with_reducible assumption
    | with_reducible apply next_keeps
    | with_reducible apply armSwap_keeps

theorem execSwapDisarm_keeps {s0 s : State} (h : Keeps s0 s) : KeepsO s0 (execSwapDisarm s) := by
  unfold execSwapDisarm
  repeat' first
    | with_reducible assumption
    | with_reducible apply next_keeps
    | with_reducible apply disarmSwap_keeps

theorem execSwapRearm_keeps {s0 s : State} (h : Keeps s0 s) : KeepsO s0 (execSwapRearm s) := by
  unfold execSwapRearm
  repeat' first
    | with_reducible assumption
    | with_reducible apply next_keeps
    | with_reducible apply armSwap_keeps
    | with_reducible apply disarmSwap_keeps

theorem execArtSwap_keeps {s0 s : State} (h : Keeps s0 s) : KeepsO s0 (execArtSwap s) := by
  unfold execArtSwap
  repeat' first
    | with_reducible assumption
    | (extract_lets +onlyGivenNames x; refine Keeps.cut (a := s0) (x := x) ?_ (fun hx => ?_); (on_goal 1 => (unfold x; clear x)); (on_goal 2 => clear_value x))
    | (extract_lets +onlyGivenNames x)
    | with_reducible apply next_keeps
    | with_reducible apply disarmSwap_keeps
    | with_reducible apply logFiring_keeps
    | with_reducible apply refuseSwap_keeps
    | with_reducible apply fset_keeps
    | with_reducible apply flag_keeps
    | with_reducible apply wrapAdd_keeps
    | with_reducible apply onlyIf_keeps
    | (with_reducible apply mk_keeps; with_reducible assumption; all_goals with_reducible rfl)
    | intro _ _
    | split

theorem execArtDrainSample_keeps {s0 s : State} (h : Keeps s0 s) : KeepsO s0 (execArtDrainSample s) := by
  unfold execArtDrainSample
  repeat' first
    | with_reducible assumption
    | (extract_lets +onlyGivenNames x; refine Keeps.cut (a := s0) (x := x) ?_ (fun hx => ?_); (on_goal 1 => (unfold x; clear x)); (on_goal 2 => clear_value x))
    | (extract_lets +onlyGivenNames x)
    | with_reducible apply next_keeps
    | with_reducible apply fset_keeps
    | with_reducible apply flag_keeps
    | with_reducible apply onlyIf_keeps
    | (with_reducible apply mk_keeps; with_reducible assumption; all_goals with_reducible rfl)
    | intro _ _
    | split

theorem execArtDrainStall_keeps {s0 s : State} (h : Keeps s0 s) : KeepsO s0 (execArtDrainStall s) := by
  unfold execArtDrainStall
  repeat' first
    | with_reducible assumption
    | (extract_lets +onlyGivenNames x; refine Keeps.cut (a := s0) (x := x) ?_ (fun hx => ?_); (on_goal 1 => (unfold x; clear x)); (on_goal 2 => clear_value x))
    | with_reducible apply next_keeps
    | with_reducible apply flag_keeps
    | (with_reducible apply mk_keeps; with_reducible assumption; all_goals with_reducible rfl)
    | split

theorem execDmW1_keeps {s0 s : State} {a0 a1} (h : Keeps s0 s) : KeepsO s0 (execDmW1 a0 a1 s) := by
  unfold execDmW1
  repeat' first
    | with_reducible assumption
    | (extract_lets +onlyGivenNames x)
    | with_reducible apply next_keeps
    | with_reducible apply errReserved_keeps
    | with_reducible apply sset_keeps
    | split

theorem classify_keeps {s0 s : State} {a0 a1 a2} (h : Keeps s0 s) : Keeps s0 (classify a0 a1 a2 s).2 := by
  unfold classify
  repeat' first
    | with_reducible assumption
    | (extract_lets +onlyGivenNames x)
    | with_reducible apply flag_keeps
    | with_reducible apply satAdd_keeps
    | split

theorem classify_pair {s0 s : State} {a0 a1 a2} {d} {t : State} (h : Keeps s0 s)
    (e : classify a0 a1 a2 s = (d, t)) : Keeps s0 t := by
  have k := classify_keeps (a0 := a0) (a1 := a1) (a2 := a2) h
  rw [e] at k; exact k

theorem execClsW1_keeps {s0 s : State} {a0 a1} (h : Keeps s0 s) : KeepsO s0 (execClsW1 a0 a1 s) := by
  unfold execClsW1
  repeat' first
    | with_reducible assumption
    | with_reducible apply next_keeps
    | with_reducible apply errReserved_keeps
    | with_reducible apply sset_keeps
    | with_reducible apply onlyIf_keeps
    | with_reducible apply fset_keeps
    | intro _ _
    | split

theorem setTokens_keeps {s0 s : State} {a0 a1 a2} (h : Keeps s0 s) : Keeps s0 (setTokens a0 a1 a2 s) := by
  unfold setTokens
  repeat' first
    | with_reducible assumption
    | with_reducible apply fset_keeps

theorem shaperRegs_keeps {s0 s : State} {a1} (h : Keeps s0 s) : Keeps s0 (shaperRegs s a1) := by
  unfold shaperRegs
  repeat' first
    | with_reducible assumption
    | with_reducible rfl
    | (extract_lets +onlyGivenNames x)
    | with_reducible apply workingRegs_keeps

theorem refill_keeps {s0 s : State} {a0 a1} (h : Keeps s0 s) : Keeps s0 (refill a0 a1 s) := by
  unfold refill
  repeat' first
    | with_reducible assumption
    | with_reducible apply fset_keeps
    | with_reducible apply setTokens_keeps

theorem refillTick_keeps {s0 s : State} (h : Keeps s0 s) : Keeps s0 (refillTick s) := by
  unfold refillTick
  repeat' first
    | with_reducible assumption
    | (extract_lets +onlyGivenNames x; refine Keeps.cut (a := s0) (x := x) ?_ (fun hx => ?_); (on_goal 1 => (unfold x; clear x)); (on_goal 2 => clear_value x))
    | (extract_lets +onlyGivenNames x)
    | with_reducible apply forEach_keeps
    | with_reducible apply refill_keeps
    | (with_reducible apply mk_keeps; with_reducible assumption; all_goals with_reducible rfl)
    | intro _ _ _
    | split

theorem execRefillTick_keeps {s0 s : State} (h : Keeps s0 s) : KeepsO s0 (execRefillTick s) := by
  unfold execRefillTick
  repeat' first
    | with_reducible assumption
    | with_reducible apply next_keeps
    | with_reducible apply refillTick_keeps

theorem resetShaper_keeps {s0 s : State} {a0 a1} (h : Keeps s0 s) : Keeps s0 (resetShaper a0 a1 s) := by
  unfold resetShaper
  repeat' first
    | with_reducible assumption
    | (extract_lets +onlyGivenNames x; refine Keeps.cut (a := s0) (x := x) ?_ (fun hx => ?_); (on_goal 1 => (unfold x; clear x)); (on_goal 2 => clear_value x))
    | (extract_lets +onlyGivenNames x)
    | with_reducible apply fset_keeps
    | with_reducible apply onlyIf_keeps
    | with_reducible apply flag_keeps
    | with_reducible apply satAdd_keeps
    | with_reducible apply setTokens_keeps
    | intro _ _
    | split

theorem beforeTest_keeps {s0 s : State} {a0 a1 a2 a3} (h : Keeps s0 s)
    (hf : ∀ t, Keeps s0 t → Keeps s0 (a3 t)): Keeps s0 (beforeTest a0 a1 a2 a3 s) := by
  unfold beforeTest
  repeat' first
    | with_reducible assumption
    | with_reducible rfl
    | (extract_lets +onlyGivenNames x)
    | with_reducible apply modNi_keeps
    | with_reducible apply refillTick_keeps
    | with_reducible apply hf
    | with_reducible apply foldl_keeps
    | intro _ _ _
    | intro _ _
    | intro _
    | split

theorem execFqRate_keeps {s0 s : State} {a0 a1} (h : Keeps s0 s) : KeepsO s0 (execFqRate a0 a1 s) := by
  unfold execFqRate
  repeat' first
    | with_reducible assumption
    | with_reducible rfl
    | (extract_lets +onlyGivenNames x)
    | with_reducible apply next_keeps
    | with_reducible apply beforeTest_keeps
    | with_reducible apply fset_keeps
    | with_reducible apply foldl_keeps
    | intro _ _ _
    | intro _ _

theorem execFqDepth_keeps {s0 s : State} {a0 a1} (h : Keeps s0 s) : KeepsO s0 (execFqDepth a0 a1 s) := by
  unfold execFqDepth
  repeat' first
    | with_reducible assumption
    | with_reducible rfl
    | (extract_lets +onlyGivenNames x; refine Keeps.cut (a := s0) (x := x) ?_ (fun hx => ?_); (on_goal 1 => (unfold x; clear x)); (on_goal 2 => clear_value x))
    | (extract_lets +onlyGivenNames x)
    | with_reducible apply next_keeps
    | with_reducible apply beforeTest_keeps
    | with_reducible apply fset_keeps
    | with_reducible apply onlyIf_keeps
    | with_reducible apply resetShaper_keeps
    | with_reducible apply foldl_keeps
    | intro _ _ _
    | intro _ _

theorem execReload_keeps {s0 s : State} {a0} (h : Keeps s0 s) : KeepsO s0 (execReload a0 s) := by
  unfold execReload
  repeat' first
    | with_reducible assumption
    | with_reducible rfl
    | (extract_lets +onlyGivenNames x)
    | with_reducible apply next_keeps
    | with_reducible apply beforeTest_keeps
    | with_reducible apply onlyIf_keeps
    | with_reducible apply resetShaper_keeps
    | with_reducible apply foldl_keeps
    | intro _ _ _
    | intro _ _

theorem writeQuota_keeps {s0 s : State} {a0 a1} (h : Keeps s0 s) : Keeps s0 (writeQuota a0 a1 s) := by
  unfold writeQuota
  repeat' first
    | with_reducible assumption
    | with_reducible rfl
    | (extract_lets +onlyGivenNames x; refine Keeps.cut (a := s0) (x := x) ?_ (fun hx => ?_); (on_goal 1 => (unfold x; clear x)); (on_goal 2 => clear_value x))
    | (extract_lets +onlyGivenNames x)
    | with_reducible apply errReserved_keeps
    | with_reducible apply fset_keeps
    | with_reducible apply flag_keeps
    | with_reducible apply quotaCheck_keeps
    | with_reducible apply foldl_keeps
    | intro _ _ _
    | intro _ _
    | intro _
    | split

theorem execFqQuota_keeps {s0 s : State} {a0 a1} (h : Keeps s0 s) : KeepsO s0 (execFqQuota a0 a1 s) := by
  unfold execFqQuota
  repeat' first
    | with_reducible assumption
    | with_reducible rfl
    | (extract_lets +onlyGivenNames x)
    | with_reducible apply next_keeps
    | with_reducible apply beforeTest_keeps
    | with_reducible apply writeQuota_keeps
    | with_reducible apply foldl_keeps
    | intro _ _ _
    | intro _ _

theorem clearMax_keeps {s0 s : State} {a0 a1} (h : Keeps s0 s) : Keeps s0 (clearMax a0 a1 s) := by
  unfold clearMax
  repeat' first
    | with_reducible assumption
    | with_reducible apply fset_keeps

theorem execClrMax_keeps {s0 s : State} {a0} (h : Keeps s0 s) : KeepsO s0 (execClrMax a0 s) := by
  unfold execClrMax
  repeat' first
    | with_reducible assumption
    | with_reducible apply next_keeps
    | with_reducible apply onlyIf_keeps
    | with_reducible apply clearMax_keeps
    | intro _ _

theorem execClrAllMax_keeps {s0 s : State} {a0} (h : Keeps s0 s) : KeepsO s0 (execClrAllMax a0 s) := by
  unfold execClrAllMax
  repeat' first
    | with_reducible assumption
    | with_reducible apply next_keeps
    | with_reducible apply onlyIf_keeps
    | with_reducible apply forEach_keeps
    | with_reducible apply clearMax_keeps
    | intro _ _

theorem sampleQueue_keeps {s0 s : State} {a0 a1 a2} (h : Keeps s0 s) : Keeps s0 (sampleQueue a0 a1 a2 s) := by
  unfold sampleQueue
  repeat' first
    | with_reducible assumption
    | with_reducible apply fset_keeps

theorem execTelemetrySample_keeps {s0 s : State} {a0} (h : Keeps s0 s) : KeepsO s0 (execTelemetrySample a0 s) := by
  unfold execTelemetrySample
  repeat' first
    | with_reducible assumption
    | (extract_lets +onlyGivenNames x; refine Keeps.cut (a := s0) (x := x) ?_ (fun hx => ?_); (on_goal 1 => (unfold x; clear x)); (on_goal 2 => clear_value x))
    | (extract_lets +onlyGivenNames x)
    | with_reducible apply next_keeps
    | with_reducible apply modNi_keeps
    | with_reducible apply forEach_keeps
    | with_reducible apply sampleQueue_keeps
    | with_reducible apply fset_keeps
    | with_reducible apply wrapAdd_keeps
    | with_reducible apply flag_keeps
    | with_reducible apply onlyIf_keeps
    | intro _ _
    | split

theorem countClass_keeps {s0 s : State} {a0 a1 a2 a3} (h : Keeps s0 s) : Keeps s0 (countClass a0 a1 a2 a3 s) := by
  unfold countClass
  repeat' first
    | with_reducible assumption
    | with_reducible apply wrapAdd_keeps
    | with_reducible apply satAdd_keeps
    | split

theorem submitCheck_keeps {s0 s : State} {a0 a1 a2 a3 a4} (h : Keeps s0 s) : Keeps s0
    (submitCheck a0 a1 a2 a3 a4 s).1 := by
  unfold submitCheck
  repeat' first
    | with_reducible assumption
    | with_reducible apply flag_keeps
    | with_reducible apply satAdd_keeps
    | with_reducible apply wakeN1_keeps
    | split

theorem submitCheck_pair {s0 s : State} {a0 a1 a2 a3 a4} {d} {t : State} (h : Keeps s0 s)
    (e : submitCheck a0 a1 a2 a3 a4 s = (t, d)) : Keeps s0 t := by
  have k := submitCheck_keeps (a0 := a0) (a1 := a1) (a2 := a2) (a3 := a3) (a4 := a4) h
  rw [e] at k; exact k

theorem countLocal_keeps {s0 s : State} {a0} (h : Keeps s0 s) : Keeps s0 (countLocal a0 s) := by
  unfold countLocal
  repeat' first
    | with_reducible assumption
    | with_reducible apply modNi_keeps
    | split

theorem freeServed_keeps {s0 s : State} {a0 a1} (h : Keeps s0 s) : Keeps s0 (freeServed a0 a1 s) := by
  unfold freeServed
  repeat' first
    | with_reducible assumption
    | with_reducible apply freeReceipt_keeps
    | with_reducible apply freeEntry_keeps
    | split

theorem headInjected_keeps {s0 s : State} {a0 a1 a2} (h : Keeps s0 s) : Keeps s0 (headInjected a0 a1 a2 s) := by
  unfold headInjected
  repeat' first
    | with_reducible assumption
    | with_reducible apply freeEntry_keeps
    | with_reducible apply modEntry_keeps
    | with_reducible apply freeServed_keeps
    | with_reducible apply wrapAdd_keeps
    | with_reducible apply freeReceipt_keeps
    | split

theorem noteNi_keeps {s0 s : State} {a0 a1} (h : Keeps s0 s) : Keeps s0 (noteNi a0 a1 s) := by
  unfold noteNi
  repeat' first
    | with_reducible assumption
    | with_reducible apply modNi_keeps

theorem injectFlit_keeps {s0 s : State} {a0 a1} (h : Keeps s0 s) : Keeps s0 (injectFlit a0 a1 s) := by
  unfold injectFlit
  repeat' first
    | with_reducible assumption
    | with_reducible apply modNi_keeps
    | with_reducible apply sendFlit_keeps
    | with_reducible apply onlyIf_keeps
    | with_reducible apply satAdd_keeps
    | with_reducible apply headInjected_keeps
    | intro _ _
    | split

theorem grantNi_keeps {s0 s : State} {a0 a1} (h : Keeps s0 s) : Keeps s0 (grantNi a0 a1 s) := by
  unfold grantNi
  repeat' first
    | with_reducible assumption
    | with_reducible apply injectFlit_keeps
    | with_reducible apply noteNi_keeps
    | with_reducible apply countLocal_keeps

theorem execNiInject_keeps {s0 s : State} {a0} (h : Keeps s0 s) : KeepsO s0 (execNiInject a0 s) := by
  unfold execNiInject
  repeat' first
    | with_reducible assumption
    | (extract_lets +onlyGivenNames x)
    | with_reducible apply next_keeps
    | with_reducible apply grantNi_keeps
    | split

theorem execFlitGrant_keeps {s0 s : State} {a0} (h : Keeps s0 s) : KeepsO s0 (execFlitGrant a0 s) := by
  unfold execFlitGrant
  repeat' first
    | with_reducible assumption
    | (extract_lets +onlyGivenNames x)
    | with_reducible apply next_keeps
    | with_reducible apply grantRouter_keeps
    | with_reducible apply grantNi_keeps
    | split

theorem execStarveLimit_keeps {s0 s : State} {a0 a1 a2} (h : Keeps s0 s) : KeepsO s0
    (execStarveLimit a0 a1 a2 s) := by
  unfold execStarveLimit
  repeat' first
    | with_reducible assumption
    | (extract_lets +onlyGivenNames x)
    | with_reducible apply next_keeps
    | with_reducible apply modNi_keeps
    | with_reducible apply onlyIf_keeps
    | with_reducible apply modRouter_keeps
    | with_reducible apply modVc_keeps
    | intro _ _
    | split

theorem execWaypointAccept_keeps {s0 s : State} {a0 a1} (h : Keeps s0 s) : KeepsO s0
    (execWaypointAccept a0 a1 s) := by
  unfold execWaypointAccept
  repeat' first
    | with_reducible assumption
    | with_reducible rfl
    | (extract_lets +onlyGivenNames x; refine Keeps.cut (a := s0) (x := x) ?_ (fun hx => ?_); (on_goal 1 => (unfold x; clear x)); (on_goal 2 => clear_value x))
    | (extract_lets +onlyGivenNames x)
    | with_reducible apply next_keeps
    | with_reducible apply modVc_keeps
    | with_reducible apply wakeN1_keeps
    | with_reducible apply modNi_keeps
    | with_reducible apply judgeRx_keeps
    | with_reducible apply takeEntry_keeps
    | with_reducible apply foldl_keeps
    | intro _ _ _
    | intro _ _
    | intro _
    | split

theorem answerServed_keeps {s0 s : State} {a0 a1 a2} (h : Keeps s0 s) : Keeps s0 (answerServed a0 a1 a2 s) := by
  unfold answerServed
  repeat' first
    | with_reducible assumption
    | (extract_lets +onlyGivenNames x; refine Keeps.cut (a := s0) (x := x) ?_ (fun hx => ?_); (on_goal 1 => (unfold x; clear x)); (on_goal 2 => clear_value x))
    | with_reducible apply pushAnswer_keeps
    | with_reducible apply modEntry_keeps
    | with_reducible apply markAnswered_keeps
    | split

theorem noteLateAnswer_keeps {s0 s : State} {a0 a1} (h : Keeps s0 s) : Keeps s0 (noteLateAnswer a0 a1 s) := by
  unfold noteLateAnswer
  repeat' first
    | with_reducible assumption
    | with_reducible apply modNi_keeps

theorem takeBir_keeps {s0 s : State} {a0 a1 a2 a3 a4} (h : Keeps s0 s) : Keeps s0 (takeBir a0 a1 a2 a3 a4 s) := by
  unfold takeBir
  repeat' first
    | with_reducible assumption
    | with_reducible apply strayResponse_keeps
    | with_reducible apply wrapAdd_keeps
    | with_reducible apply modEntry_keeps
    | with_reducible apply onlyIf_keeps
    | with_reducible apply closeEntry_keeps
    | with_reducible apply toFifoAt_keeps
    | intro _ _
    | split

theorem takeAnswer_keeps {s0 s : State} {a0 a1 a2 a3 a4 a5} (h : Keeps s0 s) : Keeps s0
    (takeAnswer a0 a1 a2 a3 a4 a5 s) := by
  unfold takeAnswer
  repeat' first
    | with_reducible assumption
    | with_reducible apply onlyIf_keeps
    | with_reducible apply flag_keeps
    | with_reducible apply toFifoAt_keeps
    | with_reducible apply closeEntry_keeps
    | intro _ _

theorem takeFetch_keeps {s0 s : State} {a0 a1 a2 a3 a4 a5} (h : Keeps s0 s) : Keeps s0
    (takeFetch a0 a1 a2 a3 a4 a5 s) := by
  unfold takeFetch
  repeat' first
    | with_reducible assumption
    | with_reducible apply modEntry_keeps
    | with_reducible apply onlyIf_keeps
    | with_reducible apply noteLateAnswer_keeps
    | with_reducible apply answerServed_keeps
    | with_reducible apply toFifoAt_keeps
    | intro _ _

theorem execResponseArrive_keeps {s0 s : State} {a0 a1} (h : Keeps s0 s) : KeepsO s0
    (execResponseArrive a0 a1 s) := by
  unfold execResponseArrive
  repeat' first
    | with_reducible assumption
    | (extract_lets +onlyGivenNames x)
    | with_reducible apply next_keeps
    | with_reducible apply consumePacket_keeps
    | with_reducible apply wakeN1_keeps
    | with_reducible apply strayResponse_keeps
    | with_reducible apply freeEntry_keeps
    | with_reducible apply takeFetch_keeps
    | with_reducible apply takeBir_keeps
    | with_reducible apply takeAnswer_keeps
    | split

theorem countTei_keeps {s0 s : State} {a0} (h : Keeps s0 s) : Keeps s0 (countTei a0 s) := by
  unfold countTei
  repeat' first
    | with_reducible assumption
    | with_reducible apply modNi_keeps
    | split

theorem beatFifo_keeps {s0 s : State} {a0 a1 a2 a3} (h : Keeps s0 s) : Keeps s0 (beatFifo a0 a1 a2 a3 s) := by
  unfold beatFifo
  repeat' first
    | with_reducible assumption
    | (extract_lets +onlyGivenNames x; refine Keeps.cut (a := s0) (x := x) ?_ (fun hx => ?_); (on_goal 1 => (unfold x; clear x)); (on_goal 2 => clear_value x))
    | (extract_lets +onlyGivenNames x)
    | with_reducible apply modNi_keeps
    | with_reducible apply freeEntry_keeps
    | with_reducible apply countBytes_keeps
    | split

theorem beatRequest_keeps {s0 s : State} {a0 a1} (h : Keeps s0 s) : Keeps s0 (beatRequest a0 a1 s) := by
  unfold beatRequest
  repeat' first
    | with_reducible assumption
    | (extract_lets +onlyGivenNames x; refine Keeps.cut (a := s0) (x := x) ?_ (fun hx => ?_); (on_goal 1 => (unfold x; clear x)); (on_goal 2 => clear_value x))
    | (extract_lets +onlyGivenNames x)
    | with_reducible apply modVc_keeps
    | with_reducible apply modNi_keeps
    | with_reducible apply returnCredit_keeps
    | with_reducible apply onlyIf_keeps
    | intro _ _
    | split

theorem noteBeat_keeps {s0 s : State} {a0 a1} (h : Keeps s0 s) : Keeps s0 (noteBeat a0 a1 s) := by
  unfold noteBeat
  repeat' first
    | with_reducible assumption
    | with_reducible apply modNi_keeps

theorem endStarve_keeps {s0 s : State} {a0 a1} (h : Keeps s0 s) : Keeps s0 (endStarve a0 a1 s) := by
  unfold endStarve
  repeat' first
    | with_reducible assumption
    | with_reducible apply onlyIf_keeps
    | with_reducible apply modNi_keeps
    | intro _ _

theorem execTeiDeliver_keeps {s0 s : State} {a0} (h : Keeps s0 s) : KeepsO s0 (execTeiDeliver a0 s) := by
  unfold execTeiDeliver
  repeat' first
    | with_reducible assumption
    | (extract_lets +onlyGivenNames x; refine Keeps.cut (a := s0) (x := x) ?_ (fun hx => ?_); (on_goal 1 => (unfold x; clear x)); (on_goal 2 => clear_value x))
    | (extract_lets +onlyGivenNames x)
    | with_reducible apply next_keeps
    | with_reducible apply noteBeat_keeps
    | with_reducible apply countTei_keeps
    | with_reducible apply beatFifo_keeps
    | with_reducible apply beatRequest_keeps
    | with_reducible apply endStarve_keeps
    | split

theorem execDeliveryCredit_keeps {s0 s : State} {a0 a1} (h : Keeps s0 s) : KeepsO s0
    (execDeliveryCredit a0 a1 s) := by
  unfold execDeliveryCredit
  repeat' first
    | with_reducible assumption
    | (extract_lets +onlyGivenNames x)
    | with_reducible apply next_keeps
    | with_reducible apply flag_keeps
    | with_reducible apply modNi_keeps
    | split

theorem modLedger_keeps {s0 s : State} {f} (h : Keeps s0 s) (hf : ∀ x, (f x).queue = x.queue) : Keeps s0
    (modLedger f s) := by
  unfold modLedger; exact Keeps.view h rfl rfl rfl rfl rfl rfl rfl rfl rfl rfl (hf _) rfl rfl

theorem enqueue_keeps {s0 s : State} {a0} (h : Keeps s0 s)
    (hq : SysInv s0 → s.ledger.queue.length < if s.fuses.lc < lcProduction then 16 else 17) :
    Keeps s0 (enqueue a0 s) := by
  unfold enqueue
  extract_lets t
  have ht : Keeps s0 t := ⟨h.1, fun i0 =>
    ⟨{ (h.2 i0).1 with queue := by have := hq i0; simp only [t, modLedger, List.length_append, List.length_singleton]; exact this },
      (h.2 i0).2⟩⟩
  exact onlyIf_keeps ht (fun t k => flag_keeps k)

theorem queue_room {s : State} (h : queueFull s = false) :
    s.ledger.queue.length < if s.fuses.lc < lcProduction then 16 else 17 := by
  simp [queueFull] at h; split <;> omega

theorem readyUnsigned_length (s : State) : (readyUnsigned s).ledger.queue.length = s.ledger.queue.length := by
  unfold readyUnsigned; split
  · exact List.length_map _
  · rfl

theorem readyUnsigned_fuses (s : State) : (readyUnsigned s).fuses = s.fuses := by
  unfold readyUnsigned; split <;> rfl

theorem readyUnsigned_keeps {s0 s : State} (h : Keeps s0 s) : Keeps s0 (readyUnsigned s) := by
  unfold readyUnsigned
  split
  · exact flag_keeps (h.trans ⟨rfl, fun i =>
      ⟨{ i with queue := by show List.length (List.map _ _) ≤ _; rw [List.length_map]; exact i.queue }, Nat.le_refl _⟩⟩)
  · exact h

theorem fileRecord_keeps {s0 s : State} {a0} (h : Keeps s0 s)
    (hq : SysInv s0 → s.ledger.queue.length < if s.fuses.lc < lcProduction then 16 else 17) :
    Keeps s0 (fileRecord a0 s) := by
  unfold fileRecord
  have hr : SysInv s0 → (readyUnsigned s).ledger.queue.length <
      if (readyUnsigned s).fuses.lc < lcProduction then 16 else 17 := by
    rw [readyUnsigned_length, readyUnsigned_fuses]; exact hq
  extract_lets t
  split
  · exact enqueue_keeps (readyUnsigned_keeps h) hr
  · exact flag_keeps (enqueue_keeps (readyUnsigned_keeps h) hr)

theorem fileBoot_keeps {s0 s : State} (h : Keeps s0 s)
    (hq : SysInv s0 → s.ledger.queue.length < if s.fuses.lc < lcProduction then 16 else 17) :
    Keeps s0 (fileBoot s) := fileRecord_keeps h hq

theorem fileGap_keeps {s0 s : State} {a0} (h : Keeps s0 s) : Keeps s0 (fileGap a0 s) := by
  unfold fileGap
  extract_lets t
  have ht : Keeps s0 t := flag_keeps (modLedger_keeps h (fun _ => rfl))
  clear_value t
  split
  · exact ht
  · exact fileRecord_keeps ht (fun _ => queue_room (by simp_all))

theorem execReadout_keeps {s0 s : State} (h : Keeps s0 s) : KeepsO s0 (execReadout s) := by
  unfold execReadout
  split
  · exact next_keeps h
  · split
    · exact next_keeps (flag_keeps h)
    · exact next_keeps (fileRecord_keeps h (fun _ => queue_room (by simp_all)))

theorem execPop_keeps {s0 s : State} (h : Keeps s0 s) : KeepsO s0 (execPop s) := by
  unfold execPop
  split
  · exact next_keeps h
  · exact next_keeps ((readyUnsigned_keeps h).trans ⟨rfl, fun i =>
      ⟨{ i with queue := Nat.le_trans (List.eraseP_sublist.length_le) i.queue }, Nat.le_refl _⟩⟩)

theorem readyFirst_length (g : Option (Nat × Nat)) (l : List LedgerRec) : (readyFirst g l).length = l.length := by
  induction l with
  | nil => rfl
  | cons r t ih => unfold readyFirst; split <;> simp [ih]

theorem execRecordReady_keeps {s0 s : State} (h : Keeps s0 s) : KeepsO s0 (execRecordReady s) := by
  unfold execRecordReady
  split
  · exact next_keeps h
  · split; rename_i d s1 e1
    split; rename_i sg s2 e2
    have h2 : Keeps s0 s2 := by
      split at e2 <;> cases e2
      · exact draw_pair h e1
      · exact h
    exact next_keeps (flag_keeps (h2.trans ⟨rfl, fun i =>
      ⟨{ i with queue := by have := i.queue; simp only [modLedger, readyFirst_length] at *; exact this }, Nat.le_refl _⟩⟩))

theorem moveAcc_keeps {s0 s : State} {a0 a1} (h : Keeps s0 s) : Keeps s0 (moveAcc a0 a1 s) := by
  unfold moveAcc
  repeat' first
    | with_reducible assumption
    | with_reducible apply modNi_keeps
    | split

theorem execLedgerEpoch_keeps {s0 s : State} (h : Keeps s0 s) : KeepsO s0 (execLedgerEpoch s) := by
  unfold execLedgerEpoch
  repeat' first
    | with_reducible assumption
    | with_reducible rfl
    | (extract_lets +onlyGivenNames x; refine Keeps.cut (a := s0) (x := x) ?_ (fun hx => ?_); (on_goal 1 => (unfold x; clear x)); (on_goal 2 => clear_value x))
    | (extract_lets +onlyGivenNames x)
    | with_reducible apply next_keeps
    | with_reducible apply logFiring_keeps
    | with_reducible apply forEach_keeps
    | with_reducible apply moveAcc_keeps
    | with_reducible apply modLedger_keeps
    | with_reducible apply onlyIf_keeps
    | with_reducible apply flag_keeps
    | (with_reducible apply mk_keeps; with_reducible assumption; all_goals with_reducible rfl)
    | intro _
    | split

theorem execEpochClose_keeps {s0 s : State} (h : Keeps s0 s) : KeepsO s0 (execEpochClose s) := by
  unfold execEpochClose
  repeat' first
    | with_reducible assumption
    | with_reducible rfl
    | (extract_lets +onlyGivenNames x; refine Keeps.cut (a := s0) (x := x) ?_ (fun hx => ?_); (on_goal 1 => (unfold x; clear x)); (on_goal 2 => clear_value x))
    | (extract_lets +onlyGivenNames x)
    | with_reducible apply next_keeps
    | with_reducible apply modLedger_keeps
    | with_reducible apply forEach_keeps
    | with_reducible apply modNi_keeps
    | with_reducible apply fset_keeps
    | intro _
    | split

theorem addFlush_keeps {s0 s : State} {a0} (h : Keeps s0 s) : Keeps s0 (addFlush a0 s) := by
  unfold addFlush
  repeat' first
    | with_reducible assumption
    | with_reducible rfl
    | with_reducible apply modLedger_keeps
    | intro _

theorem teiS0_keeps {s0 s : State} {a0} (h : Keeps s0 s) : Keeps s0 (teiS0 a0 s) := by
  unfold teiS0
  repeat' first
    | with_reducible assumption
    | (extract_lets +onlyGivenNames x; refine Keeps.cut (a := s0) (x := x) ?_ (fun hx => ?_); (on_goal 1 => (unfold x; clear x)); (on_goal 2 => clear_value x))
    | with_reducible apply forEach_keeps
    | with_reducible apply dropBegun_keeps
    | with_reducible apply emptyFifo_keeps
    | with_reducible apply fset_keeps
    | with_reducible apply modNi_keeps
    | intro _ _ _

theorem teiRestart_keeps {s0 s : State} {a0} (h : Keeps s0 s) : Keeps s0 (teiRestart a0 s) := by
  unfold teiRestart
  repeat' first
    | with_reducible assumption
    | (extract_lets +onlyGivenNames x; refine Keeps.cut (a := s0) (x := x) ?_ (fun hx => ?_); (on_goal 1 => (unfold x; clear x)); (on_goal 2 => clear_value x))
    | with_reducible apply teiS0_keeps
    | with_reducible apply satAdd_keeps
    | split

theorem startWake_keeps {s0 s : State} {a0} (h : Keeps s0 s) : Keeps s0 (startWake a0 s) := by
  unfold startWake
  repeat' first
    | with_reducible assumption
    | (extract_lets +onlyGivenNames x; refine Keeps.cut (a := s0) (x := x) ?_ (fun hx => ?_); (on_goal 1 => (unfold x; clear x)); (on_goal 2 => clear_value x))
    | with_reducible apply fset_keeps
    | with_reducible apply modNi_keeps
    | split

theorem powerOnRegs_keeps {s0 s : State} {a0} (h : Keeps s0 s) : Keeps s0 (powerOnRegs a0 s) := by
  unfold powerOnRegs
  repeat' first
    | with_reducible assumption
    | (extract_lets +onlyGivenNames x; refine Keeps.cut (a := s0) (x := x) ?_ (fun hx => ?_); (on_goal 1 => (unfold x; clear x)); (on_goal 2 => clear_value x))
    | with_reducible apply clearFields_keeps
    | split

theorem wakeShapers_keeps {s0 s : State} {a0} (h : Keeps s0 s) : Keeps s0 (wakeShapers a0 s) := by
  unfold wakeShapers
  repeat' first
    | with_reducible assumption
    | with_reducible apply modNi_keeps
    | with_reducible apply forEach_keeps
    | with_reducible apply resetShaper_keeps
    | with_reducible apply setTokens_keeps
    | intro _ _ _
    | split

theorem releaseOne_keeps {s0 s : State} {a0 a1} (h : Keeps s0 s) : Keeps s0 (releaseOne a0 a1 s) := by
  unfold releaseOne
  repeat' first
    | with_reducible assumption
    | with_reducible apply onlyIf_keeps
    | with_reducible apply countLate_keeps
    | with_reducible apply modVc_keeps
    | with_reducible apply modChan_keeps

theorem finishWake_keeps {s0 s : State} {a0} (h : Keeps s0 s) : Keeps s0 (finishWake a0 s) := by
  unfold finishWake
  repeat' first
    | with_reducible assumption
    | with_reducible rfl
    | (extract_lets +onlyGivenNames x; refine Keeps.cut (a := s0) (x := x) ?_ (fun hx => ?_); (on_goal 1 => (unfold x; clear x)); (on_goal 2 => clear_value x))
    | (extract_lets +onlyGivenNames x)
    | with_reducible apply fset_keeps
    | with_reducible apply flag_keeps
    | with_reducible apply wrapAdd_keeps
    | with_reducible apply modNi_keeps
    | with_reducible apply exportGates_keeps
    | with_reducible apply wakeShapers_keeps
    | with_reducible apply onlyIf_keeps
    | with_reducible apply takeOver_keeps
    | with_reducible apply judgeRx_keeps
    | with_reducible apply sweepArrival_keeps
    | with_reducible apply forEach_keeps
    | with_reducible apply releaseOne_keeps
    | with_reducible apply foldl_keeps
    | intro _ _ _
    | intro _ _
    | intro _
    | split

theorem failWake_keeps {s0 s : State} {a0 a1} (h : Keeps s0 s) : Keeps s0 (failWake a0 a1 s) := by
  unfold failWake
  repeat' first
    | with_reducible assumption
    | with_reducible rfl
    | (extract_lets +onlyGivenNames x; refine Keeps.cut (a := s0) (x := x) ?_ (fun hx => ?_); (on_goal 1 => (unfold x; clear x)); (on_goal 2 => clear_value x))
    | (extract_lets +onlyGivenNames x)
    | with_reducible apply flag_keeps
    | with_reducible apply fset_keeps
    | with_reducible apply onlyIf_keeps
    | with_reducible apply queueRecheck_keeps
    | with_reducible apply isolateMask_keeps
    | with_reducible apply endWake_keeps
    | with_reducible apply foldl_keeps
    | intro _ _ _
    | intro _ _

theorem loseConfig_keeps {s0 s : State} {a0} (h : Keeps s0 s) : Keeps s0 (loseConfig a0 s) := by
  unfold loseConfig
  repeat' first
    | with_reducible assumption
    | with_reducible apply flagBit_keeps
    | with_reducible apply flag_keeps
    | with_reducible apply fset_keeps
    | with_reducible apply clearFields_keeps
    | with_reducible apply onlyIf_keeps
    | with_reducible apply queueRecheck_keeps
    | with_reducible apply modNi_keeps
    | intro _ _

theorem goE4_keeps {s0 s : State} {a0} (h : Keeps s0 s) : Keeps s0 (goE4 a0 s) := by
  unfold goE4
  repeat' first
    | with_reducible assumption
    | with_reducible apply modNi_keeps

theorem goE3_keeps {s0 s : State} {a0} (h : Keeps s0 s) : Keeps s0 (goE3 a0 s) := by
  unfold goE3
  repeat' first
    | with_reducible assumption
    | with_reducible apply goE4_keeps
    | with_reducible apply modNi_keeps
    | split

theorem startEntry_keeps {s0 s : State} {a0 a1} (h : Keeps s0 s) : Keeps s0 (startEntry a0 a1 s) := by
  unfold startEntry
  repeat' first
    | with_reducible assumption
    | (extract_lets +onlyGivenNames x; refine Keeps.cut (a := s0) (x := x) ?_ (fun hx => ?_); (on_goal 1 => (unfold x; clear x)); (on_goal 2 => clear_value x))
    | with_reducible apply fset_keeps
    | with_reducible apply modNi_keeps
    | with_reducible apply goE3_keeps
    | split

theorem endFlush_keeps {s0 s : State} {a0} (h : Keeps s0 s) : Keeps s0 (endFlush a0 s) := by
  unfold endFlush
  repeat' first
    | with_reducible assumption
    | with_reducible apply goE4_keeps
    | split

theorem goE2_keeps {s0 s : State} {a0} (h : Keeps s0 s) : Keeps s0 (goE2 a0 s) := by
  unfold goE2
  repeat' first
    | with_reducible assumption
    | with_reducible rfl
    | (extract_lets +onlyGivenNames x)
    | with_reducible apply modNi_keeps

theorem resumeNi_keeps {s0 s : State} {a0} (h : Keeps s0 s) : Keeps s0 (resumeNi a0 s) := by
  unfold resumeNi
  repeat' first
    | with_reducible assumption
    | with_reducible rfl
    | (extract_lets +onlyGivenNames x; refine Keeps.cut (a := s0) (x := x) ?_ (fun hx => ?_); (on_goal 1 => (unfold x; clear x)); (on_goal 2 => clear_value x))
    | (extract_lets +onlyGivenNames x)
    | with_reducible apply onlyIf_keeps
    | with_reducible apply goE2_keeps
    | with_reducible apply goE3_keeps
    | with_reducible apply endFlush_keeps
    | with_reducible apply finishWake_keeps
    | with_reducible apply foldl_keeps
    | (with_reducible apply mk_keeps; with_reducible assumption; all_goals with_reducible rfl)
    | intro _ _ _
    | intro _ _
    | intro _
    | split

theorem resumeAll_keeps {s0 s : State} (h : Keeps s0 s) : Keeps s0 (resumeAll s) := by
  unfold resumeAll
  repeat' first
    | with_reducible assumption
    | with_reducible apply forEach_keeps
    | with_reducible apply resumeNi_keeps
    | intro _ _ _

theorem demandWake_keeps {s0 s : State} {a0} (h : Keeps s0 s) : Keeps s0 (demandWake a0 s) := by
  unfold demandWake
  repeat' first
    | with_reducible assumption
    | with_reducible apply startWake_keeps
    | with_reducible apply modNi_keeps
    | split

theorem dropLeg0_keeps {s0 s : State} {a0 a1} (h : Keeps s0 s) : Keeps s0 (dropLeg0 a0 a1 s) := by
  unfold dropLeg0
  repeat' first
    | with_reducible assumption
    | with_reducible apply modNi_keeps

theorem orphan_keeps {s0 s : State} {a0 a1 a2} (h : Keeps s0 s) : Keeps s0 (orphan a0 a1 a2 s) := by
  unfold orphan
  repeat' first
    | with_reducible assumption
    | with_reducible apply satAdd_keeps
    | with_reducible apply modNi_keeps
    | with_reducible apply modEntry_keeps

theorem orphanOne_keeps {s0 s : State} {a0 a1} (h : Keeps s0 s) : Keeps s0 (orphanOne a0 a1 s) := by
  unfold orphanOne
  repeat' first
    | with_reducible assumption
    | with_reducible apply freeEntry_keeps
    | with_reducible apply dropLeg0_keeps
    | with_reducible apply orphan_keeps
    | split

theorem abandonTei_keeps {s0 s : State} {a0} (h : Keeps s0 s) : Keeps s0 (abandonTei a0 s) := by
  unfold abandonTei
  repeat' first
    | with_reducible assumption
    | with_reducible rfl
    | (extract_lets +onlyGivenNames x; refine Keeps.cut (a := s0) (x := x) ?_ (fun hx => ?_); (on_goal 1 => (unfold x; clear x)); (on_goal 2 => clear_value x))
    | (extract_lets +onlyGivenNames x)
    | with_reducible apply teiRestart_keeps
    | with_reducible apply dropLookups_keeps
    | with_reducible apply modNi_keeps
    | with_reducible apply forEach_keeps
    | with_reducible apply answerReceipt_keeps
    | with_reducible apply orphanOne_keeps
    | with_reducible apply foldl_keeps
    | intro _ _ _

theorem endpointReset_keeps {s0 s : State} {a0} (h : Keeps s0 s) : Keeps s0 (endpointReset a0 s) := by
  unfold endpointReset
  repeat' first
    | with_reducible assumption
    | with_reducible rfl
    | (extract_lets +onlyGivenNames x)
    | with_reducible apply abandonTei_keeps
    | with_reducible apply flag_keeps

theorem execEpReset_keeps {s0 s : State} {a0} (h : Keeps s0 s) : KeepsO s0 (execEpReset a0 s) := by
  unfold execEpReset
  repeat' first
    | with_reducible assumption
    | (extract_lets +onlyGivenNames x; refine Keeps.cut (a := s0) (x := x) ?_ (fun hx => ?_); (on_goal 1 => (unfold x; clear x)); (on_goal 2 => clear_value x))
    | (extract_lets +onlyGivenNames x)
    | with_reducible apply next_keeps
    | with_reducible apply modNi_keeps
    | with_reducible apply onlyIf_keeps
    | with_reducible apply endpointReset_keeps
    | intro _ _
    | split

theorem execEpReadyFall_keeps {s0 s : State} {a0} (h : Keeps s0 s) : KeepsO s0 (execEpReadyFall a0 s) := by
  unfold execEpReadyFall
  repeat' first
    | with_reducible assumption
    | (extract_lets +onlyGivenNames x; refine Keeps.cut (a := s0) (x := x) ?_ (fun hx => ?_); (on_goal 1 => (unfold x; clear x)); (on_goal 2 => clear_value x))
    | (extract_lets +onlyGivenNames x)
    | with_reducible apply next_keeps
    | with_reducible apply modNi_keeps
    | with_reducible apply onlyIf_keeps
    | with_reducible apply endpointReset_keeps
    | intro _ _
    | split

theorem setEpPins_keeps {s0 s : State} {a0 a1 a2} (h : Keeps s0 s) : Keeps s0 (setEpPins a0 a1 a2 s) := by
  unfold setEpPins
  repeat' first
    | with_reducible assumption
    | with_reducible apply modNi_keeps

theorem execTeiResetRelease_keeps {s0 s : State} {a0 a2 a3} (h : Keeps s0 s) : KeepsO s0
    (execTeiResetRelease a0 s a2 a3) := by
  unfold execTeiResetRelease
  repeat' first
    | with_reducible assumption
    | with_reducible rfl
    | (extract_lets +onlyGivenNames x; refine Keeps.cut (a := s0) (x := x) ?_ (fun hx => ?_); (on_goal 1 => (unfold x; clear x)); (on_goal 2 => clear_value x))
    | (extract_lets +onlyGivenNames x)
    | with_reducible apply next_keeps
    | with_reducible apply setEpPins_keeps
    | with_reducible apply modNi_keeps
    | with_reducible apply judgeRx_keeps
    | with_reducible apply fset_keeps
    | with_reducible apply foldl_keeps
    | intro _ _ _
    | intro _ _
    | intro _
    | split

theorem execTeiUp_keeps {s0 s : State} {a0} (h : Keeps s0 s) : KeepsO s0 (execTeiUp a0 s) := by
  unfold execTeiUp
  repeat' first
    | with_reducible assumption
    | with_reducible rfl
    | (extract_lets +onlyGivenNames x; refine Keeps.cut (a := s0) (x := x) ?_ (fun hx => ?_); (on_goal 1 => (unfold x; clear x)); (on_goal 2 => clear_value x))
    | (extract_lets +onlyGivenNames x)
    | with_reducible apply next_keeps
    | with_reducible apply fset_keeps
    | with_reducible apply modNi_keeps
    | with_reducible apply finishWake_keeps
    | with_reducible apply onlyIf_keeps
    | with_reducible apply flag_keeps
    | with_reducible apply endpointReset_keeps
    | with_reducible apply judgeRx_keeps
    | with_reducible apply foldl_keeps
    | intro _ _ _
    | intro _ _
    | intro _
    | split

theorem execPwrAck_keeps {s0 s : State} {a0 a2} (h : Keeps s0 s) : KeepsO s0 (execPwrAck a0 s a2) := by
  unfold execPwrAck
  repeat' first
    | with_reducible assumption
    | with_reducible rfl
    | (extract_lets +onlyGivenNames x)
    | with_reducible apply next_keeps
    | with_reducible apply abortEntry_keeps
    | with_reducible apply modNi_keeps
    | with_reducible apply goE2_keeps
    | with_reducible apply foldl_keeps
    | intro _ _ _
    | intro _ _
    | intro _
    | split

theorem execPwrNak_keeps {s0 s : State} {a0 a1} (h : Keeps s0 s) : KeepsO s0 (execPwrNak a0 a1 s) := by
  unfold execPwrNak
  repeat' first
    | with_reducible assumption
    | with_reducible apply next_keeps
    | with_reducible apply abortEntry_keeps
    | split

theorem startF3Wake_keeps {s0 s : State} (h : Keeps s0 s) : Keeps s0 (startF3Wake s) := by
  unfold startF3Wake
  repeat' first
    | with_reducible assumption
    | with_reducible rfl
    | (extract_lets +onlyGivenNames x; refine Keeps.cut (a := s0) (x := x) ?_ (fun hx => ?_); (on_goal 1 => (unfold x; clear x)); (on_goal 2 => clear_value x))
    | with_reducible apply modPower_keeps
    | with_reducible apply fset_keeps
    | intro _
    | split

theorem execEpWakeReq_keeps {s0 s : State} {a0} (h : Keeps s0 s) : KeepsO s0 (execEpWakeReq a0 s) := by
  unfold execEpWakeReq
  repeat' first
    | with_reducible assumption
    | (extract_lets +onlyGivenNames x)
    | with_reducible apply next_keeps
    | with_reducible apply onlyIf_keeps
    | with_reducible apply modNi_keeps
    | with_reducible apply abortEntry_keeps
    | with_reducible apply startF3Wake_keeps
    | with_reducible apply demandWake_keeps
    | intro _ _
    | split

theorem execDerateAccept_keeps {s0 s : State} {a0 a1} (h : Keeps s0 s) : KeepsO s0 (execDerateAccept a0 a1 s) := by
  unfold execDerateAccept
  repeat' first
    | with_reducible assumption
    | (extract_lets +onlyGivenNames x)
    | with_reducible apply next_keeps
    | with_reducible apply onlyIf_keeps
    | with_reducible apply queueRecheck_keeps
    | with_reducible apply modNi_keeps
    | intro _ _
    | split

theorem trip_keeps {s0 s : State} {a0 a1 a2} (h : Keeps s0 s) : Keeps s0 (trip a0 a1 a2 s) := by
  unfold trip
  repeat' first
    | with_reducible assumption
    | (extract_lets +onlyGivenNames x; refine Keeps.cut (a := s0) (x := x) ?_ (fun hx => ?_); (on_goal 1 => (unfold x; clear x)); (on_goal 2 => clear_value x))
    | with_reducible apply errRecord_keeps
    | with_reducible apply isolate_keeps
    | with_reducible apply flag_keeps
    | split

theorem execWdogAccept_keeps {s0 s : State} {a0 a1} (h : Keeps s0 s) : KeepsO s0 (execWdogAccept a0 a1 s) := by
  unfold execWdogAccept
  repeat' first
    | with_reducible assumption
    | (extract_lets +onlyGivenNames x)
    | with_reducible apply next_keeps
    | with_reducible apply trip_keeps
    | with_reducible apply flag_keeps
    | with_reducible apply modNi_keeps
    | split

theorem execWdogResp_keeps {s0 s : State} {a0} (h : Keeps s0 s) : KeepsO s0 (execWdogResp a0 s) := by
  unfold execWdogResp
  repeat' first
    | with_reducible assumption
    | (extract_lets +onlyGivenNames x)
    | with_reducible apply next_keeps
    | with_reducible apply trip_keeps
    | with_reducible apply flag_keeps
    | with_reducible apply modNi_keeps
    | split

theorem tickNi_keeps {s0 s : State} {a0} (h : Keeps s0 s) : Keeps s0 (tickNi a0 s) := by
  unfold tickNi
  repeat' first
    | with_reducible assumption
    | with_reducible apply modNi_keeps
    | split

theorem tickRsv_keeps {s0 s : State} {a0} (h : Keeps s0 s) : Keeps s0 (tickRsv a0 s) := by
  unfold tickRsv
  repeat' first
    | with_reducible assumption
    | with_reducible apply accAdd_keeps

theorem execMicrosecondTick_keeps {s0 s : State} (h : Keeps s0 s) : KeepsO s0 (execMicrosecondTick s) := by
  unfold execMicrosecondTick
  repeat' first
    | with_reducible assumption
    | with_reducible rfl
    | (extract_lets +onlyGivenNames x; refine Keeps.cut (a := s0) (x := x) ?_ (fun hx => ?_); (on_goal 1 => (unfold x; clear x)); (on_goal 2 => clear_value x))
    | (extract_lets +onlyGivenNames x)
    | with_reducible apply next_keeps
    | with_reducible apply onlyIf_keeps
    | with_reducible apply satAdd_keeps
    | with_reducible apply forEach_keeps
    | with_reducible apply tickRsv_keeps
    | with_reducible apply tickNi_keeps
    | with_reducible apply learnRatio_keeps
    | with_reducible apply foldl_keeps
    | (with_reducible apply mk_keeps; with_reducible assumption; all_goals with_reducible rfl)
    | intro _ _ _
    | intro _ _
    | intro _
    | split

theorem readmitNow_keeps {s0 s : State} {a0} (h : Keeps s0 s) : Keeps s0 (readmitNow a0 s) := by
  unfold readmitNow
  repeat' first
    | with_reducible assumption
    | with_reducible apply fset_keeps
    | with_reducible apply onlyIf_keeps
    | with_reducible apply unflagBit_keeps
    | with_reducible apply teiRestart_keeps
    | with_reducible apply modNi_keeps
    | intro _ _

theorem execReadmit_keeps {s0 s : State} {a0 a1} (h : Keeps s0 s) : KeepsO s0 (execReadmit a0 a1 s) := by
  unfold execReadmit
  repeat' first
    | with_reducible assumption
    | (extract_lets +onlyGivenNames x)
    | with_reducible apply next_keeps
    | with_reducible apply readmitNow_keeps
    | with_reducible apply flag_keeps
    | with_reducible apply fset_keeps
    | split

theorem execReadmitReturn_keeps {s0 s : State} {a0} (h : Keeps s0 s) : KeepsO s0 (execReadmitReturn a0 s) := by
  unfold execReadmitReturn
  repeat' first
    | with_reducible assumption
    | (extract_lets +onlyGivenNames x; refine Keeps.cut (a := s0) (x := x) ?_ (fun hx => ?_); (on_goal 1 => (unfold x; clear x)); (on_goal 2 => clear_value x))
    | (extract_lets +onlyGivenNames x)
    | with_reducible apply next_keeps
    | with_reducible apply fset_keeps
    | with_reducible apply modNi_keeps
    | split

theorem slotChanged_keeps {s0 s : State} {a0} (h : Keeps s0 s) : Keeps s0 (slotChanged a0 s) := by
  unfold slotChanged
  repeat' first
    | with_reducible assumption
    | with_reducible apply flag_keeps
    | with_reducible apply flagBit_keeps

theorem execRemoval_keeps {s0 s : State} {a0} (h : Keeps s0 s) : KeepsO s0 (execRemoval a0 s) := by
  unfold execRemoval
  repeat' first
    | with_reducible assumption
    | (extract_lets +onlyGivenNames x; refine Keeps.cut (a := s0) (x := x) ?_ (fun hx => ?_); (on_goal 1 => (unfold x; clear x)); (on_goal 2 => clear_value x))
    | (extract_lets +onlyGivenNames x)
    | with_reducible apply next_keeps
    | with_reducible apply flagBit_keeps
    | with_reducible apply unflagBit_keeps
    | with_reducible apply slotChanged_keeps
    | with_reducible apply satAdd_keeps
    | with_reducible apply forEach_keeps
    | with_reducible apply onlyIf_keeps
    | with_reducible apply queueRecheck_keeps
    | with_reducible apply isolate_keeps
    | (with_reducible apply mk_keeps; with_reducible assumption; all_goals with_reducible rfl)
    | intro _ _ _
    | intro _ _
    | split

theorem execFence_keeps {s0 s : State} {a0 a1} (h : Keeps s0 s) : KeepsO s0 (execFence a0 s a1) := by
  unfold execFence
  repeat' first
    | with_reducible assumption
    | (extract_lets +onlyGivenNames x; refine Keeps.cut (a := s0) (x := x) ?_ (fun hx => ?_); (on_goal 1 => (unfold x; clear x)); (on_goal 2 => clear_value x))
    | (extract_lets +onlyGivenNames x)
    | with_reducible apply next_keeps
    | with_reducible apply slotChanged_keeps
    | with_reducible apply flag_keeps
    | with_reducible apply satAdd_keeps
    | with_reducible apply forEach_keeps
    | with_reducible apply isolate_keeps
    | (with_reducible apply mk_keeps; with_reducible assumption; all_goals with_reducible rfl)
    | intro _ _ _
    | split

theorem execWarnGlitches_keeps {s0 s : State} {a0 a1} (h : Keeps s0 s) : KeepsO s0 (execWarnGlitches a0 s a1) := by
  unfold execWarnGlitches
  repeat' first
    | with_reducible assumption
    | with_reducible apply next_keeps
    | with_reducible apply satAdd_keeps
    | (with_reducible apply mk_keeps; with_reducible assumption; all_goals with_reducible rfl)
    | split

theorem execFuseTrip_keeps {s0 s : State} {a0} (h : Keeps s0 s) : KeepsO s0 (execFuseTrip a0 s) := by
  unfold execFuseTrip
  repeat' first
    | with_reducible assumption
    | (extract_lets +onlyGivenNames x; refine Keeps.cut (a := s0) (x := x) ?_ (fun hx => ?_); (on_goal 1 => (unfold x; clear x)); (on_goal 2 => clear_value x))
    | (extract_lets +onlyGivenNames x)
    | with_reducible apply next_keeps
    | with_reducible apply flagBit_keeps
    | with_reducible apply slotChanged_keeps
    | with_reducible apply flag_keeps
    | with_reducible apply satAdd_keeps
    | with_reducible apply forEach_keeps
    | with_reducible apply failWake_keeps
    | with_reducible apply isolate_keeps
    | (with_reducible apply mk_keeps; with_reducible assumption; all_goals with_reducible rfl)
    | intro _ _ _
    | split

theorem execSlotInsert_keeps {s0 s : State} {a0} (h : Keeps s0 s) : KeepsO s0 (execSlotInsert a0 s) := by
  unfold execSlotInsert
  repeat' first
    | with_reducible assumption
    | (extract_lets +onlyGivenNames x; refine Keeps.cut (a := s0) (x := x) ?_ (fun hx => ?_); (on_goal 1 => (unfold x; clear x)); (on_goal 2 => clear_value x))
    | (extract_lets +onlyGivenNames x)
    | with_reducible apply next_keeps
    | with_reducible apply onlyIf_keeps
    | with_reducible apply slotChanged_keeps
    | with_reducible apply unflagBit_keeps
    | (with_reducible apply mk_keeps; with_reducible assumption; all_goals with_reducible rfl)
    | intro _ _

theorem execHoldoff_keeps {s0 s : State} {a0} (h : Keeps s0 s) : KeepsO s0 (execHoldoff a0 s) := by
  unfold execHoldoff
  repeat' first
    | with_reducible assumption
    | (extract_lets +onlyGivenNames x)
    | with_reducible apply next_keeps
    | with_reducible apply flagBit_keeps
    | split

theorem execPwrWarnNRise_keeps {s0 s : State} {a0} (h : Keeps s0 s) : KeepsO s0 (execPwrWarnNRise a0 s) := by
  unfold execPwrWarnNRise
  repeat' first
    | with_reducible assumption
    | (extract_lets +onlyGivenNames x)
    | with_reducible apply next_keeps
    | with_reducible apply slotChanged_keeps
    | (with_reducible apply mk_keeps; with_reducible assumption; all_goals with_reducible rfl)
    | split

theorem execFuseTrippedFall_keeps {s0 s : State} {a0} (h : Keeps s0 s) : KeepsO s0 (execFuseTrippedFall a0 s) := by
  unfold execFuseTrippedFall
  repeat' first
    | with_reducible assumption
    | (extract_lets +onlyGivenNames x)
    | with_reducible apply next_keeps
    | with_reducible apply slotChanged_keeps
    | with_reducible apply unflagBit_keeps
    | (with_reducible apply mk_keeps; with_reducible assumption; all_goals with_reducible rfl)
    | split

theorem execErrLogPop_keeps {s0 s : State} (h : Keeps s0 s) : KeepsO s0 (execErrLogPop s) :=
  next_keeps (h.trans ⟨rfl, fun i => ⟨{ i with errLog := by have := i.errLog; simp; omega }, Nat.le_refl _⟩⟩)

theorem pwrResult_keeps {s0 s : State} {a0 a1 a2 a3 a4} (h : Keeps s0 s) : Keeps s0 (pwrResult a0 a1 a2 a3 a4 s) := by
  unfold pwrResult
  repeat' first
    | with_reducible assumption
    | (extract_lets +onlyGivenNames x; refine Keeps.cut (a := s0) (x := x) ?_ (fun hx => ?_); (on_goal 1 => (unfold x; clear x)); (on_goal 2 => clear_value x))
    | with_reducible apply fset_keeps

theorem pwrAccept_keeps {s0 s : State} {a0} (h : Keeps s0 s) : Keeps s0 (pwrAccept a0 s) := by
  unfold pwrAccept
  repeat' first
    | with_reducible assumption
    | with_reducible apply pwrResult_keeps

theorem pwrRefuse_keeps {s0 s : State} {a0 a1 a2 a3 a4} (h : Keeps s0 s) : Keeps s0 (pwrRefuse a0 a1 a2 a3 a4 s) := by
  unfold pwrRefuse
  repeat' first
    | with_reducible assumption
    | with_reducible apply pwrResult_keeps
    | with_reducible apply refRecord_keeps

theorem execN1Entry_keeps {s0 s : State} {a0} (h : Keeps s0 s) : KeepsO s0 (execN1Entry a0 s) := by
  unfold execN1Entry
  repeat' first
    | with_reducible assumption
    | (extract_lets +onlyGivenNames x)
    | with_reducible apply next_keeps
    | with_reducible apply fset_keeps
    | split

theorem commandWake_keeps {s0 s : State} {a0} (h : Keeps s0 s) : Keeps s0 (commandWake a0 s) := by
  unfold commandWake
  repeat' first
    | with_reducible assumption
    | with_reducible apply modNi_keeps
    | with_reducible apply abortEntry_keeps
    | with_reducible apply startWake_keeps
    | split

theorem execNiWake_keeps {s0 s : State} {a0} (h : Keeps s0 s) : KeepsO s0 (execNiWake a0 s) := by
  unfold execNiWake
  repeat' first
    | with_reducible assumption
    | (extract_lets +onlyGivenNames x)
    | with_reducible apply next_keeps
    | with_reducible apply pwrRefuse_keeps
    | with_reducible apply commandWake_keeps
    | with_reducible apply pwrAccept_keeps
    | split

theorem sleepForbidden_keeps {s0 s : State} {a0} (h : Keeps s0 s) : Keeps s0 (sleepForbidden a0 s) := by
  unfold sleepForbidden
  repeat' first
    | with_reducible assumption
    | with_reducible apply commandWake_keeps
    | with_reducible apply startWake_keeps
    | with_reducible apply onlyIf_keeps
    | with_reducible apply modNi_keeps
    | intro _ _
    | split

theorem execSleepOk_keeps {s0 s : State} {a0} (h : Keeps s0 s) : KeepsO s0 (execSleepOk a0 s) := by
  unfold execSleepOk
  repeat' first
    | with_reducible assumption
    | (extract_lets +onlyGivenNames x; refine Keeps.cut (a := s0) (x := x) ?_ (fun hx => ?_); (on_goal 1 => (unfold x; clear x)); (on_goal 2 => clear_value x))
    | (extract_lets +onlyGivenNames x)
    | with_reducible apply next_keeps
    | with_reducible apply fsetB_keeps
    | with_reducible apply errReserved_keeps
    | with_reducible apply fset_keeps
    | with_reducible apply refRecord_keeps
    | with_reducible apply modNi_keeps
    | with_reducible apply sleepForbidden_keeps
    | split

theorem execNiSleep_keeps {s0 s : State} {a0} (h : Keeps s0 s) : KeepsO s0 (execNiSleep a0 s) := by
  unfold execNiSleep
  repeat' first
    | with_reducible assumption
    | with_reducible apply next_keeps
    | with_reducible apply pwrRefuse_keeps
    | with_reducible apply startEntry_keeps
    | with_reducible apply pwrAccept_keeps
    | split

theorem execNiDrained_keeps {s0 s : State} {a0} (h : Keeps s0 s) : KeepsO s0 (execNiDrained a0 s) := by
  unfold execNiDrained
  repeat' first
    | with_reducible assumption
    | (extract_lets +onlyGivenNames x)
    | with_reducible apply next_keeps
    | with_reducible apply onlyIf_keeps
    | with_reducible apply goE3_keeps
    | intro _ _
    | split

theorem execAckTimeout_keeps {s0 s : State} {a0} (h : Keeps s0 s) : KeepsO s0 (execAckTimeout a0 s) := by
  unfold execAckTimeout
  repeat' first
    | with_reducible assumption
    | (extract_lets +onlyGivenNames x)
    | with_reducible apply next_keeps
    | with_reducible apply onlyIf_keeps
    | with_reducible apply abortEntry_keeps
    | intro _ _
    | split

theorem execDrainTimeout_keeps {s0 s : State} {a0} (h : Keeps s0 s) : KeepsO s0 (execDrainTimeout a0 s) := by
  unfold execDrainTimeout
  repeat' first
    | with_reducible assumption
    | (extract_lets +onlyGivenNames x)
    | with_reducible apply next_keeps
    | with_reducible apply onlyIf_keeps
    | with_reducible apply abortEntry_keeps
    | intro _ _
    | split

theorem execFlushAck_keeps {s0 s : State} {a0} (h : Keeps s0 s) : KeepsO s0 (execFlushAck a0 s) := by
  unfold execFlushAck
  repeat' first
    | with_reducible assumption
    | (extract_lets +onlyGivenNames x)
    | with_reducible apply next_keeps
    | with_reducible apply endFlush_keeps
    | with_reducible apply modNi_keeps
    | with_reducible apply addFlush_keeps
    | split

theorem execFlushTimeout_keeps {s0 s : State} {a0} (h : Keeps s0 s) : KeepsO s0 (execFlushTimeout a0 s) := by
  unfold execFlushTimeout
  repeat' first
    | with_reducible assumption
    | (extract_lets +onlyGivenNames x)
    | with_reducible apply next_keeps
    | with_reducible apply endFlush_keeps
    | with_reducible apply fileGap_keeps
    | with_reducible apply modNi_keeps
    | split

theorem execImageCrcStored_keeps {s0 s : State} {a0 a2} (h : Keeps s0 s) : KeepsO s0
    (execImageCrcStored a0 s a2) := by
  unfold execImageCrcStored
  repeat' first
    | with_reducible assumption
    | with_reducible rfl
    | (extract_lets +onlyGivenNames x)
    | with_reducible apply next_keeps
    | with_reducible apply onlyIf_keeps
    | with_reducible apply loseConfig_keeps
    | with_reducible apply modNi_keeps
    | with_reducible apply foldl_keeps
    | (with_reducible apply mk_keeps; with_reducible assumption; all_goals with_reducible rfl)
    | intro _ _ _
    | intro _ _
    | intro _
    | split

theorem execN2Entered_keeps {s0 s : State} {a0} (h : Keeps s0 s) : KeepsO s0 (execN2Entered a0 s) := by
  unfold execN2Entered
  repeat' first
    | with_reducible assumption
    | (extract_lets +onlyGivenNames x; refine Keeps.cut (a := s0) (x := x) ?_ (fun hx => ?_); (on_goal 1 => (unfold x; clear x)); (on_goal 2 => clear_value x))
    | (extract_lets +onlyGivenNames x)
    | with_reducible apply next_keeps
    | with_reducible apply fset_keeps
    | with_reducible apply flag_keeps
    | with_reducible apply modNi_keeps
    | with_reducible apply exportGates_keeps
    | with_reducible apply switchOff_keeps
    | with_reducible apply onlyIf_keeps
    | with_reducible apply startWake_keeps
    | intro _ _
    | split

theorem execNiSupplyGood_keeps {s0 s : State} {a0} (h : Keeps s0 s) : KeepsO s0 (execNiSupplyGood a0 s) := by
  unfold execNiSupplyGood
  repeat' first
    | with_reducible assumption
    | (extract_lets +onlyGivenNames x)
    | with_reducible apply next_keeps
    | with_reducible apply onlyIf_keeps
    | with_reducible apply powerOnRegs_keeps
    | with_reducible apply modNi_keeps
    | intro _ _
    | split

theorem execImageRestore_keeps {s0 s : State} {a0 a1 a2} (h : Keeps s0 s) : KeepsO s0
    (execImageRestore a0 a1 s a2) := by
  unfold execImageRestore
  repeat' first
    | with_reducible assumption
    | (extract_lets +onlyGivenNames x; refine Keeps.cut (a := s0) (x := x) ?_ (fun hx => ?_); (on_goal 1 => (unfold x; clear x)); (on_goal 2 => clear_value x))
    | (extract_lets +onlyGivenNames x)
    | with_reducible apply next_keeps
    | with_reducible apply modNi_keeps
    | with_reducible apply teiRestart_keeps
    | with_reducible apply onlyIf_keeps
    | with_reducible apply loseConfig_keeps
    | intro _ _
    | split

theorem execWakeLinkUp_keeps {s0 s : State} {a0} (h : Keeps s0 s) : KeepsO s0 (execWakeLinkUp a0 s) := by
  unfold execWakeLinkUp
  repeat' first
    | with_reducible assumption
    | (extract_lets +onlyGivenNames x)
    | with_reducible apply next_keeps
    | with_reducible apply onlyIf_keeps
    | with_reducible apply finishWake_keeps
    | with_reducible apply modNi_keeps
    | intro _ _
    | split

theorem execWakeTimeout_keeps {s0 s : State} {a0} (h : Keeps s0 s) : KeepsO s0 (execWakeTimeout a0 s) := by
  unfold execWakeTimeout
  repeat' first
    | with_reducible assumption
    | (extract_lets +onlyGivenNames x)
    | with_reducible apply next_keeps
    | with_reducible apply onlyIf_keeps
    | with_reducible apply failWake_keeps
    | intro _ _
    | split

theorem execConfigValid_keeps {s0 s : State} (h : Keeps s0 s) : KeepsO s0 (execConfigValid s) := by
  unfold execConfigValid
  repeat' first
    | with_reducible assumption
    | (extract_lets +onlyGivenNames x; refine Keeps.cut (a := s0) (x := x) ?_ (fun hx => ?_); (on_goal 1 => (unfold x; clear x)); (on_goal 2 => clear_value x))
    | (extract_lets +onlyGivenNames x)
    | with_reducible apply next_keeps
    | with_reducible apply fset_keeps
    | with_reducible apply modNi_keeps
    | with_reducible apply onlyIf_keeps
    | with_reducible apply teiRestart_keeps
    | intro _ _
    | split

theorem execFabSleep_keeps {s0 s : State} (h : Keeps s0 s) : KeepsO s0 (execFabSleep s) := by
  unfold execFabSleep
  repeat' first
    | with_reducible assumption
    | with_reducible rfl
    | (extract_lets +onlyGivenNames x; refine Keeps.cut (a := s0) (x := x) ?_ (fun hx => ?_); (on_goal 1 => (unfold x; clear x)); (on_goal 2 => clear_value x))
    | with_reducible apply next_keeps
    | with_reducible apply pwrRefuse_keeps
    | with_reducible apply modPower_keeps
    | with_reducible apply fset_keeps
    | with_reducible apply pwrAccept_keeps
    | with_reducible apply forEach_keeps
    | with_reducible apply startEntry_keeps
    | intro _
    | split

theorem execF3NoReturn_keeps {s0 s : State} (h : Keeps s0 s) : KeepsO s0 (execF3NoReturn s) := by
  unfold execF3NoReturn
  repeat' first
    | with_reducible assumption
    | with_reducible rfl
    | (extract_lets +onlyGivenNames x)
    | with_reducible apply next_keeps
    | with_reducible apply forEach_keeps
    | with_reducible apply modNi_keeps
    | with_reducible apply modPower_keeps
    | intro _
    | split

theorem execF3Entered_keeps {s0 s : State} {a1} (h : Keeps s0 s) : KeepsO s0 (execF3Entered s a1) := by
  unfold execF3Entered
  repeat' first
    | with_reducible assumption
    | with_reducible rfl
    | (extract_lets +onlyGivenNames x; refine Keeps.cut (a := s0) (x := x) ?_ (fun hx => ?_); (on_goal 1 => (unfold x; clear x)); (on_goal 2 => clear_value x))
    | (extract_lets +onlyGivenNames x)
    | with_reducible apply next_keeps
    | with_reducible apply forEach_keeps
    | with_reducible apply failBank_keeps
    | with_reducible apply modNi_keeps
    | with_reducible apply modPower_keeps
    | with_reducible apply fset_keeps
    | with_reducible apply flag_keeps
    | with_reducible apply onlyIf_keeps
    | with_reducible apply startF3Wake_keeps
    | with_reducible apply foldl_keeps
    | (with_reducible apply mk_keeps; with_reducible assumption; all_goals with_reducible rfl)
    | intro _ _ _
    | intro _ _
    | intro _
    | split

theorem execFabWake_keeps {s0 s : State} (h : Keeps s0 s) : KeepsO s0 (execFabWake s) := by
  unfold execFabWake
  repeat' first
    | with_reducible assumption
    | with_reducible rfl
    | (extract_lets +onlyGivenNames x; refine Keeps.cut (a := s0) (x := x) ?_ (fun hx => ?_); (on_goal 1 => (unfold x; clear x)); (on_goal 2 => clear_value x))
    | with_reducible apply next_keeps
    | with_reducible apply pwrAccept_keeps
    | with_reducible apply modPower_keeps
    | with_reducible apply abortF3_keeps
    | with_reducible apply startF3Wake_keeps
    | intro _
    | split

theorem execF3PowerGood_keeps {s0 s : State} {a0 a1} (h : Keeps s0 s) : KeepsO s0 (execF3PowerGood a0 s a1) := by
  unfold execF3PowerGood
  repeat' first
    | with_reducible assumption
    | with_reducible rfl
    | (extract_lets +onlyGivenNames x; refine Keeps.cut (a := s0) (x := x) ?_ (fun hx => ?_); (on_goal 1 => (unfold x; clear x)); (on_goal 2 => clear_value x))
    | (extract_lets +onlyGivenNames x)
    | with_reducible apply next_keeps
    | with_reducible apply modPower_keeps
    | with_reducible apply forEach_keeps
    | with_reducible apply clearFields_keeps
    | with_reducible apply failBank_keeps
    | with_reducible apply startWake_keeps
    | (with_reducible apply mk_keeps; with_reducible assumption; all_goals with_reducible rfl)
    | intro _
    | split

theorem execF3WakeDone_keeps {s0 s : State} (h : Keeps s0 s) : KeepsO s0 (execF3WakeDone s) := by
  unfold execF3WakeDone
  repeat' first
    | with_reducible assumption
    | (extract_lets +onlyGivenNames x; refine Keeps.cut (a := s0) (x := x) ?_ (fun hx => ?_); (on_goal 1 => (unfold x; clear x)); (on_goal 2 => clear_value x))
    | with_reducible apply next_keeps
    | with_reducible apply flag_keeps
    | with_reducible apply fset_keeps
    | with_reducible apply forEach_keeps
    | with_reducible apply startWake_keeps
    | intro _ _ _
    | split

theorem modStrip_keeps {s0 s : State} {f} (h : Keeps s0 s) (hf : ∀ x, (f x).log = x.log) : Keeps s0
    (modStrip f s) := by
  unfold modStrip; exact Keeps.view h rfl rfl rfl rfl rfl (hf _) rfl rfl rfl rfl rfl rfl rfl

theorem setPhase_keeps {s0 s : State} {a0} (h : Keeps s0 s) : Keeps s0 (setPhase a0 s) := by
  unfold setPhase
  repeat' first
    | with_reducible assumption
    | with_reducible apply fset_keeps

theorem rearmStrip_keeps {s0 s : State} {a0} (h : Keeps s0 s) : Keeps s0 (rearmStrip a0 s) := by
  unfold rearmStrip
  repeat' first
    | with_reducible assumption
    | (extract_lets +onlyGivenNames x)
    | (with_reducible apply mk_keeps; with_reducible assumption; all_goals with_reducible rfl)
    | split

theorem moveNext_keeps {s0 s : State} {a0 a1} (h : Keeps s0 s) : Keeps s0 (moveNext a0 a1 s) := by
  unfold moveNext
  repeat' first
    | with_reducible assumption
    | (extract_lets +onlyGivenNames x; refine Keeps.cut (a := s0) (x := x) ?_ (fun hx => ?_); (on_goal 1 => (unfold x; clear x)); (on_goal 2 => clear_value x))
    | with_reducible apply fset_keeps
    | with_reducible apply onlyIf_keeps
    | with_reducible apply flag_keeps
    | with_reducible apply satAdd_keeps
    | intro _ _

theorem advanceNext_keeps {s0 s : State} {a0} (h : Keeps s0 s) : Keeps s0 (advanceNext a0 s) := by
  unfold advanceNext
  repeat' first
    | with_reducible assumption
    | with_reducible apply moveNext_keeps
    | split

theorem logSlice_keeps {s0 s : State} {a0 a1 a2 a3} (h : Keeps s0 s) : Keeps s0 (logSlice a0 a1 a2 a3 s) := by
  unfold logSlice
  split
  · exact satAdd_keeps h
  · exact h.trans ⟨rfl, fun i => ⟨{ i with stripLog := by simp [modStrip]; omega }, Nat.le_refl _⟩⟩

theorem execTsLogPop_keeps {s0 s : State} (h : Keeps s0 s) : KeepsO s0 (execTsLogPop s) :=
  next_keeps (h.trans ⟨rfl, fun i =>
    ⟨{ i with stripLog := by have := i.stripLog; simp [modStrip]; omega }, Nat.le_refl _⟩⟩)

theorem endPrepare_keeps {s0 s : State} (h : Keeps s0 s) : Keeps s0 (endPrepare s) := by
  unfold endPrepare
  repeat' first
    | with_reducible assumption
    | with_reducible rfl
    | with_reducible apply modStrip_keeps
    | with_reducible apply modNi_keeps
    | intro _
    | split

theorem endHold_keeps {s0 s : State} (h : Keeps s0 s) : Keeps s0 (endHold s) := by
  unfold endHold
  repeat' first
    | with_reducible assumption
    | with_reducible rfl
    | with_reducible apply modStrip_keeps
    | intro _

theorem skipSlice_keeps {s0 s : State} {a0 a1} (h : Keeps s0 s) : Keeps s0 (skipSlice a0 a1 s) := by
  unfold skipSlice
  repeat' first
    | with_reducible assumption
    | with_reducible rfl
    | (extract_lets +onlyGivenNames x; refine Keeps.cut (a := s0) (x := x) ?_ (fun hx => ?_); (on_goal 1 => (unfold x; clear x)); (on_goal 2 => clear_value x))
    | with_reducible apply endPrepare_keeps
    | with_reducible apply setPhase_keeps
    | with_reducible apply modStrip_keeps
    | with_reducible apply onlyIf_keeps
    | with_reducible apply endHold_keeps
    | with_reducible apply flag_keeps
    | with_reducible apply satAdd_keeps
    | with_reducible apply logSlice_keeps
    | with_reducible apply advanceNext_keeps
    | intro _
    | split

theorem raiseHold_keeps {s0 s : State} {a0} (h : Keeps s0 s) : Keeps s0 (raiseHold a0 s) := by
  unfold raiseHold
  repeat' first
    | with_reducible assumption
    | with_reducible apply modNi_keeps
    | split

theorem execSlicePrepare_keeps {s0 s : State} (h : Keeps s0 s) : KeepsO s0 (execSlicePrepare s) := by
  unfold execSlicePrepare
  repeat' first
    | with_reducible assumption
    | with_reducible rfl
    | with_reducible apply next_keeps
    | with_reducible apply raiseHold_keeps
    | with_reducible apply modNi_keeps
    | with_reducible apply modStrip_keeps
    | intro _
    | split

theorem startHold_keeps {s0 s : State} {a0 a1} (h : Keeps s0 s) : Keeps s0 (startHold a0 a1 s) := by
  unfold startHold
  repeat' first
    | with_reducible assumption
    | with_reducible rfl
    | with_reducible apply modStrip_keeps
    | intro _
    | split

theorem passOver_keeps {s0 s : State} {a0} (h : Keeps s0 s) : Keeps s0 (passOver a0 s) := by
  unfold passOver
  repeat' first
    | with_reducible assumption
    | (extract_lets +onlyGivenNames x)
    | with_reducible apply moveNext_keeps
    | split

theorem openWindow_keeps {s0 s : State} {a0} (h : Keeps s0 s) : Keeps s0 (openWindow a0 s) := by
  unfold openWindow
  repeat' first
    | with_reducible assumption
    | with_reducible rfl
    | (extract_lets +onlyGivenNames x; refine Keeps.cut (a := s0) (x := x) ?_ (fun hx => ?_); (on_goal 1 => (unfold x; clear x)); (on_goal 2 => clear_value x))
    | (extract_lets +onlyGivenNames x; clear_value x)
    | with_reducible apply modStrip_keeps
    | with_reducible apply fset_keeps
    | with_reducible apply onlyIf_keeps
    | with_reducible apply flag_keeps
    | with_reducible apply startHold_keeps
    | with_reducible apply passOver_keeps
    | with_reducible apply endPrepare_keeps
    | with_reducible apply skipSlice_keeps
    | with_reducible apply setPhase_keeps
    | intro _
    | split

theorem execStripWindow_keeps {s0 s : State} (h : Keeps s0 s) : KeepsO s0 (execStripWindow s) := by
  unfold execStripWindow
  repeat' first
    | with_reducible assumption
    | (extract_lets +onlyGivenNames x; refine Keeps.cut (a := s0) (x := x) ?_ (fun hx => ?_); (on_goal 1 => (unfold x; clear x)); (on_goal 2 => clear_value x))
    | (extract_lets +onlyGivenNames x)
    | with_reducible apply next_keeps
    | with_reducible apply logFiring_keeps
    | with_reducible apply onlyIf_keeps
    | with_reducible apply endPrepare_keeps
    | with_reducible apply openWindow_keeps
    | (with_reducible apply mk_keeps; with_reducible assumption; all_goals with_reducible rfl)
    | split

theorem execWindowClose_keeps {s0 s : State} (h : Keeps s0 s) : KeepsO s0 (execWindowClose s) := by
  unfold execWindowClose
  repeat' first
    | with_reducible assumption
    | with_reducible rfl
    | (extract_lets +onlyGivenNames x; refine Keeps.cut (a := s0) (x := x) ?_ (fun hx => ?_); (on_goal 1 => (unfold x; clear x)); (on_goal 2 => clear_value x))
    | with_reducible apply next_keeps
    | with_reducible apply fset_keeps
    | with_reducible apply endHold_keeps
    | with_reducible apply endPrepare_keeps
    | with_reducible apply skipSlice_keeps
    | with_reducible apply flag_keeps
    | with_reducible apply modStrip_keeps
    | intro _
    | split

theorem trainLink_keeps {s0 s : State} {a0} (h : Keeps s0 s) : Keeps s0 (trainLink a0 s) := by
  unfold trainLink
  repeat' first
    | with_reducible assumption
    | with_reducible apply noteLink_keeps
    | with_reducible apply modChan_keeps

theorem markTest_keeps {s0 s : State} {a0 a1} (h : Keeps s0 s) : Keeps s0 (markTest a0 a1 s) := by
  unfold markTest
  repeat' first
    | with_reducible assumption
    | with_reducible rfl
    | with_reducible apply modRouter_keeps
    | with_reducible apply modNi_keeps
    | with_reducible apply modStrip_keeps
    | intro _
    | split

theorem noteIdle_keeps {s0 s : State} {a0} (h : Keeps s0 s) : Keeps s0 (noteIdle a0 s) := by
  unfold noteIdle
  repeat' first
    | with_reducible assumption
    | with_reducible apply onlyIf_keeps
    | with_reducible apply modNi_keeps
    | intro _ _
    | split

theorem saveStatus_keeps {s0 s : State} {a0} (h : Keeps s0 s) : Keeps s0 (saveStatus a0 s) := by
  unfold saveStatus
  repeat' first
    | with_reducible assumption
    | with_reducible rfl
    | with_reducible apply modStrip_keeps
    | intro _

theorem writeBack_keeps {s0 s : State} {a0} (h : Keeps s0 s) : Keeps s0 (writeBack a0 s) := by
  unfold writeBack
  repeat' first
    | with_reducible assumption
    | with_reducible rfl
    | with_reducible apply modStrip_keeps
    | (with_reducible apply mk_keeps; with_reducible assumption; all_goals with_reducible rfl)
    | intro _

theorem clearUnit_keeps {s0 s : State} {a0} (h : Keeps s0 s) : Keeps s0 (clearUnit a0 s) := by
  unfold clearUnit
  repeat' first
    | with_reducible assumption
    | with_reducible apply onlyIf_keeps
    | with_reducible apply staleVerdicts_keeps
    | intro _ _
    | split

theorem execSliceTest_keeps {s0 s : State} {a0} (h : Keeps s0 s) : KeepsO s0 (execSliceTest s a0) := by
  unfold execSliceTest
  repeat' first
    | with_reducible assumption
    | with_reducible rfl
    | (extract_lets +onlyGivenNames x; refine Keeps.cut (a := s0) (x := x) ?_ (fun hx => ?_); (on_goal 1 => (unfold x; clear x)); (on_goal 2 => clear_value x))
    | with_reducible apply next_keeps
    | with_reducible apply noteIdle_keeps
    | with_reducible apply clearUnit_keeps
    | with_reducible apply saveStatus_keeps
    | with_reducible apply setPhase_keeps
    | with_reducible apply modStrip_keeps
    | with_reducible apply forEach_keeps
    | with_reducible apply trainLink_keeps
    | with_reducible apply markTest_keeps
    | intro _
    | split

theorem execQuietTimeout_keeps {s0 s : State} {a0} (h : Keeps s0 s) : KeepsO s0 (execQuietTimeout s a0) := by
  unfold execQuietTimeout
  repeat' first
    | with_reducible assumption
    | (extract_lets +onlyGivenNames x; refine Keeps.cut (a := s0) (x := x) ?_ (fun hx => ?_); (on_goal 1 => (unfold x; clear x)); (on_goal 2 => clear_value x))
    | (extract_lets +onlyGivenNames x)
    | with_reducible apply next_keeps
    | with_reducible apply noteIdle_keeps
    | with_reducible apply skipSlice_keeps
    | split

theorem execTestEnd_keeps {s0 s : State} {a0} (h : Keeps s0 s) : KeepsO s0 (execTestEnd a0 s) := by
  unfold execTestEnd
  repeat' first
    | with_reducible assumption
    | with_reducible rfl
    | with_reducible apply next_keeps
    | with_reducible apply satAdd_keeps
    | with_reducible apply modStrip_keeps
    | with_reducible apply onlyIf_keeps
    | with_reducible apply fset_keeps
    | with_reducible apply setPhase_keeps
    | intro _
    | split

theorem restoreNi_keeps {s0 s : State} {a0 a1} (h : Keeps s0 s) : Keeps s0 (restoreNi a0 a1 s) := by
  unfold restoreNi
  repeat' first
    | with_reducible assumption
    | (extract_lets +onlyGivenNames x; refine Keeps.cut (a := s0) (x := x) ?_ (fun hx => ?_); (on_goal 1 => (unfold x; clear x)); (on_goal 2 => clear_value x))
    | with_reducible apply onlyIf_keeps
    | with_reducible apply modNi_keeps
    | with_reducible apply staleVerdicts_keeps
    | with_reducible apply wakeShapers_keeps
    | with_reducible apply clearFields_keeps
    | intro _ _
    | split

theorem loseImage_keeps {s0 s : State} {a0} (h : Keeps s0 s) : Keeps s0 (loseImage a0 s) := by
  unfold loseImage
  repeat' first
    | with_reducible assumption
    | with_reducible rfl
    | (extract_lets +onlyGivenNames x; refine Keeps.cut (a := s0) (x := x) ?_ (fun hx => ?_); (on_goal 1 => (unfold x; clear x)); (on_goal 2 => clear_value x))
    | (extract_lets +onlyGivenNames x)
    | with_reducible apply loseConfig_keeps
    | with_reducible apply onlyIf_keeps
    | with_reducible apply abandonTei_keeps
    | with_reducible apply foldl_keeps
    | intro _ _ _
    | intro _ _

theorem moveList_keeps {s0 s : State} {a0} (h : Keeps s0 s) : Keeps s0 (moveList a0 s) := by
  unfold moveList
  repeat' first
    | with_reducible assumption
    | with_reducible rfl
    | (extract_lets +onlyGivenNames x)
    | with_reducible apply onlyIf_keeps
    | with_reducible apply takeOver_keeps
    | with_reducible apply foldl_keeps
    | intro _ _ _
    | intro _ _

theorem reloadRt_keeps {s0 s : State} {a0} (h : Keeps s0 s) : Keeps s0 (reloadRt a0 s) := by
  unfold reloadRt
  repeat' first
    | with_reducible assumption
    | (with_reducible apply mk_keeps; with_reducible assumption; all_goals with_reducible rfl)

theorem resultFlags_keeps {s0 s : State} {a0 a1} (h : Keeps s0 s) : Keeps s0 (resultFlags a0 a1 s) := by
  unfold resultFlags
  repeat' first
    | with_reducible assumption
    | (extract_lets +onlyGivenNames x; refine Keeps.cut (a := s0) (x := x) ?_ (fun hx => ?_); (on_goal 1 => (unfold x; clear x)); (on_goal 2 => clear_value x))
    | with_reducible apply onlyIf_keeps
    | with_reducible apply flag_keeps
    | with_reducible apply satAdd_keeps
    | with_reducible apply enterDown_keeps
    | intro _ _
    | split

theorem strikeDeferred_keeps {s0 s : State} {a0} (h : Keeps s0 s) : Keeps s0 (strikeDeferred a0 s) := by
  unfold strikeDeferred
  repeat' first
    | with_reducible assumption
    | (extract_lets +onlyGivenNames x)
    | with_reducible apply isolateNow_keeps
    | with_reducible apply modNi_keeps
    | split

theorem execSliceDone_keeps {s0 s : State} {a1} (h : Keeps s0 s) : KeepsO s0 (execSliceDone s a1) := by
  unfold execSliceDone
  repeat' first
    | with_reducible assumption
    | with_reducible rfl
    | (extract_lets +onlyGivenNames x; refine Keeps.cut (a := s0) (x := x) ?_ (fun hx => ?_); (on_goal 1 => (unfold x; clear x)); (on_goal 2 => clear_value x))
    | (extract_lets +onlyGivenNames x; clear_value x)
    | (extract_lets +onlyGivenNames x)
    | with_reducible apply next_keeps
    | with_reducible apply markTest_keeps
    | with_reducible apply setPhase_keeps
    | with_reducible apply writeBack_keeps
    | with_reducible apply onlyIf_keeps
    | with_reducible apply failRoutes_keeps
    | with_reducible apply reloadRt_keeps
    | with_reducible apply loseImage_keeps
    | with_reducible apply moveList_keeps
    | with_reducible apply restoreNi_keeps
    | with_reducible apply endPrepare_keeps
    | with_reducible apply modStrip_keeps
    | with_reducible apply logSlice_keeps
    | with_reducible apply flag_keeps
    | with_reducible apply satAdd_keeps
    | with_reducible apply advanceNext_keeps
    | with_reducible apply resultFlags_keeps
    | with_reducible apply endHold_keeps
    | with_reducible apply strikeDeferred_keeps
    | with_reducible apply resumeAll_keeps
    | with_reducible apply foldl_keeps
    | intro _ _ _
    | intro _ _
    | intro _
    | split

theorem execBurn_keeps {s0 s : State} (h : Keeps s0 s) : KeepsO s0 (execBurn s) := by
  unfold execBurn
  repeat' first
    | with_reducible assumption
    | with_reducible rfl
    | (extract_lets +onlyGivenNames x)
    | with_reducible apply next_keeps
    | with_reducible apply flag_keeps
    | with_reducible apply modStrip_keeps
    | intro _
    | split

theorem execFuseDone_keeps {s0 s : State} (h : Keeps s0 s) : KeepsO s0 (execFuseDone s) := by
  unfold execFuseDone
  repeat' first
    | with_reducible assumption
    | with_reducible rfl
    | with_reducible apply next_keeps
    | with_reducible apply flag_keeps
    | with_reducible apply modStrip_keeps
    | (with_reducible apply mk_keeps; with_reducible assumption; all_goals with_reducible rfl)
    | intro _
    | split

theorem raiseZeroise_keeps {s0 s : State} (h : Keeps s0 s) : Keeps s0 (raiseZeroise s) := by
  unfold raiseZeroise
  repeat' first
    | with_reducible assumption
    | with_reducible apply forEach_keeps
    | with_reducible apply modNi_keeps
    | intro _ _ _

theorem noteAcks_keeps {s0 s : State} {a0} (h : Keeps s0 s) : Keeps s0 (noteAcks a0 s) := by
  unfold noteAcks
  repeat' first
    | with_reducible assumption
    | with_reducible apply forEach_keeps
    | with_reducible apply modNi_keeps
    | intro _ _ _

theorem zeroNi_keeps {s0 s : State} {a0} (h : Keeps s0 s) : Keeps s0 (zeroNi a0 s) := by
  unfold zeroNi
  repeat' first
    | with_reducible assumption
    | with_reducible apply modNi_keeps
    | with_reducible apply staleVerdicts_keeps

theorem execTestMode_keeps {s0 s : State} {a0 a1} (h : Keeps s0 s) : KeepsO s0 (execTestMode s a0 a1) := by
  unfold execTestMode
  repeat' first
    | with_reducible assumption
    | with_reducible rfl
    | (extract_lets +onlyGivenNames x; refine Keeps.cut (a := s0) (x := x) ?_ (fun hx => ?_); (on_goal 1 => (unfold x; clear x)); (on_goal 2 => clear_value x))
    | (extract_lets +onlyGivenNames x)
    | with_reducible apply next_keeps
    | with_reducible apply raiseZeroise_keeps
    | with_reducible apply forEach_keeps
    | with_reducible apply zeroNi_keeps
    | with_reducible apply modLedger_keeps
    | with_reducible apply modStrip_keeps
    | with_reducible apply flag_keeps
    | with_reducible apply fset_keeps
    | (with_reducible apply mk_keeps; with_reducible assumption; all_goals with_reducible rfl)
    | intro _
    | split

theorem execZeroiseWait_keeps {s0 s : State} {a0} (h : Keeps s0 s) : KeepsO s0 (execZeroiseWait s a0) := by
  unfold execZeroiseWait
  repeat' first
    | with_reducible assumption
    | (extract_lets +onlyGivenNames x; refine Keeps.cut (a := s0) (x := x) ?_ (fun hx => ?_); (on_goal 1 => (unfold x; clear x)); (on_goal 2 => clear_value x))
    | with_reducible apply next_keeps
    | with_reducible apply noteAcks_keeps
    | with_reducible apply flag_keeps
    | split

theorem execScanAllowed_keeps {s0 s : State} {a0} (h : Keeps s0 s) : KeepsO s0 (execScanAllowed s a0) := by
  unfold execScanAllowed
  repeat' first
    | with_reducible assumption
    | (extract_lets +onlyGivenNames x; refine Keeps.cut (a := s0) (x := x) ?_ (fun hx => ?_); (on_goal 1 => (unfold x; clear x)); (on_goal 2 => clear_value x))
    | with_reducible apply next_keeps
    | with_reducible apply noteAcks_keeps
    | with_reducible apply fset_keeps
    | split

theorem readEffect_keeps {s0 s : State} {a0 a1} (h : Keeps s0 s) : Keeps s0 (readEffect a0 a1 s) := by
  unfold readEffect
  repeat' first
    | with_reducible assumption
    | with_reducible apply onlyIf_keeps
    | with_reducible apply fset_keeps
    | with_reducible apply artwStep_keeps
    | with_reducible apply nextOr_keeps
    | with_reducible apply execErrLogPop_keeps
    | with_reducible apply execEvtLogPop_keeps
    | with_reducible apply execFaultRecordPop_keeps
    | with_reducible apply execTsLogPop_keeps
    | intro _ _
    | split

theorem setTrans_keeps {s0 s : State} {a0} (h : Keeps s0 s) : Keeps s0 (setTrans a0 s) := by
  unfold setTrans
  repeat' first
    | with_reducible assumption
    | with_reducible rfl
    | with_reducible apply modPower_keeps
    | intro _

theorem endTrans_keeps {s0 s : State} {a0} (h : Keeps s0 s) : Keeps s0 (endTrans a0 s) := by
  unfold endTrans
  repeat' first
    | with_reducible assumption
    | with_reducible rfl
    | with_reducible apply flag_keeps
    | with_reducible apply fset_keeps
    | with_reducible apply modPower_keeps
    | intro _

theorem startRamp_keeps {s0 s : State} {a0} (h : Keeps s0 s) : Keeps s0 (startRamp a0 s) := by
  unfold startRamp
  repeat' first
    | with_reducible assumption
    | with_reducible rfl
    | with_reducible apply modPower_keeps
    | intro _

theorem execSetLevel_keeps {s0 s : State} {a0} (h : Keeps s0 s) : KeepsO s0 (execSetLevel a0 s) := by
  unfold execSetLevel
  repeat' first
    | with_reducible assumption
    | with_reducible rfl
    | (extract_lets +onlyGivenNames x; refine Keeps.cut (a := s0) (x := x) ?_ (fun hx => ?_); (on_goal 1 => (unfold x; clear x)); (on_goal 2 => clear_value x))
    | (extract_lets +onlyGivenNames x)
    | with_reducible apply next_keeps
    | with_reducible apply pwrRefuse_keeps
    | with_reducible apply pwrAccept_keeps
    | with_reducible apply fset_keeps
    | with_reducible apply modPower_keeps
    | with_reducible apply startRamp_keeps
    | with_reducible apply queueRecheck_keeps
    | with_reducible apply setTrans_keeps
    | intro _
    | split

theorem execLevelRecheckDone_keeps {s0 s : State} (h : Keeps s0 s) : KeepsO s0 (execLevelRecheckDone s) := by
  unfold execLevelRecheckDone
  repeat' first
    | with_reducible assumption
    | with_reducible apply next_keeps
    | with_reducible apply onlyIf_keeps
    | with_reducible apply setTrans_keeps
    | intro _ _

theorem execPowerGood_keeps {s0 s : State} (h : Keeps s0 s) : KeepsO s0 (execPowerGood s) := by
  unfold execPowerGood
  repeat' first
    | with_reducible assumption
    | with_reducible apply next_keeps
    | with_reducible apply onlyIf_keeps
    | with_reducible apply setTrans_keeps
    | intro _ _

theorem execFlowHold_keeps {s0 s : State} (h : Keeps s0 s) : KeepsO s0 (execFlowHold s) := by
  unfold execFlowHold
  repeat' first
    | with_reducible assumption
    | with_reducible apply next_keeps
    | with_reducible apply onlyIf_keeps
    | with_reducible apply setTrans_keeps
    | intro _ _

theorem execPllRelock_keeps {s0 s : State} (h : Keeps s0 s) : KeepsO s0 (execPllRelock s) := by
  unfold execPllRelock
  repeat' first
    | with_reducible assumption
    | with_reducible apply next_keeps
    | with_reducible apply endTrans_keeps
    | with_reducible apply setTrans_keeps
    | split

theorem execLevelRetrain_keeps {s0 s : State} (h : Keeps s0 s) : KeepsO s0 (execLevelRetrain s) := by
  unfold execLevelRetrain
  repeat' first
    | with_reducible assumption
    | with_reducible apply next_keeps
    | with_reducible apply fset_keeps
    | with_reducible apply startRamp_keeps
    | with_reducible apply endTrans_keeps
    | with_reducible apply resumeAll_keeps
    | split

theorem execRampDownDone_keeps {s0 s : State} (h : Keeps s0 s) : KeepsO s0 (execRampDownDone s) := by
  unfold execRampDownDone
  repeat' first
    | with_reducible assumption
    | with_reducible apply next_keeps
    | with_reducible apply onlyIf_keeps
    | with_reducible apply endTrans_keeps
    | intro _ _

theorem execLevelFailed_keeps {s0 s : State} (h : Keeps s0 s) : KeepsO s0 (execLevelFailed s) := by
  unfold execLevelFailed
  repeat' first
    | with_reducible assumption
    | with_reducible apply next_keeps
    | with_reducible apply onlyIf_keeps
    | with_reducible apply endTrans_keeps
    | intro _ _

theorem noReceipt_keeps {s0 s : State} {a0 a1 a2 a3} (h : Keeps s0 s) : Keeps s0 (noReceipt a0 a1 a2 a3 s) := by
  unfold noReceipt
  repeat' first
    | with_reducible assumption
    | with_reducible apply onlyIf_keeps
    | with_reducible apply flag_keeps
    | with_reducible apply modNi_keeps
    | with_reducible apply errNi_keeps
    | intro _ _

theorem answerStray_keeps {s0 s : State} {a0} (h : Keeps s0 s) : Keeps s0 (answerStray a0 s) := by
  unfold answerStray
  repeat' first
    | with_reducible assumption
    | with_reducible apply flag_keeps

theorem badResult_keeps {s0 s : State} {a0} (h : Keeps s0 s) : Keeps s0 (badResult a0 s) := by
  unfold badResult
  repeat' first
    | with_reducible assumption
    | with_reducible apply flag_keeps

theorem sendResponse_keeps {s0 s : State} {a0 a1 a2 a3 a4} (h : Keeps s0 s) : Keeps s0
    (sendResponse a0 a1 a2 a3 a4 s) := by
  unfold sendResponse
  repeat' first
    | with_reducible assumption
    | with_reducible rfl
    | (extract_lets +onlyGivenNames x; refine Keeps.cut (a := s0) (x := x) ?_ (fun hx => ?_); (on_goal 1 => (unfold x; clear x)); (on_goal 2 => clear_value x))
    | (extract_lets +onlyGivenNames x)
    | with_reducible apply markAnswered_keeps
    | with_reducible apply pushBuilt_keeps
    | with_reducible apply onlyIf_keeps
    | with_reducible apply badResult_keeps
    | with_reducible apply errNi_keeps
    | with_reducible apply pushReady_keeps
    | with_reducible apply foldl_keeps
    | intro _ _ _
    | intro _ _
    | intro _
    | split

theorem execTeiResponse_keeps {s0 s : State} {a0 a1} (h : Keeps s0 s) : KeepsO s0 (execTeiResponse a0 a1 s) := by
  unfold execTeiResponse
  repeat' first
    | with_reducible assumption
    | (extract_lets +onlyGivenNames x; refine Keeps.cut (a := s0) (x := x) ?_ (fun hx => ?_); (on_goal 1 => (unfold x; clear x)); (on_goal 2 => clear_value x))
    | (refine submitCheck_pair ?_ (by with_reducible assumption))
    | (extract_lets +onlyGivenNames x; refine Keeps.cut (a := s0) (x := x.1) ?_ (fun hx => ?_); (on_goal 1 => (unfold x; clear x)); (on_goal 2 => clear_value x))
    | (extract_lets +onlyGivenNames x)
    | with_reducible apply next_keeps
    | with_reducible apply submitCheck_keeps
    | with_reducible apply noReceipt_keeps
    | with_reducible apply sendResponse_keeps
    | with_reducible apply answerStray_keeps
    | with_reducible apply modEntry_keeps
    | split

theorem notServed_keeps {s0 s : State} {a0 a1} (h : Keeps s0 s) : Keeps s0 (notServed a0 a1 s) := by
  unfold notServed
  repeat' first
    | with_reducible assumption
    | (extract_lets +onlyGivenNames x; refine Keeps.cut (a := s0) (x := x) ?_ (fun hx => ?_); (on_goal 1 => (unfold x; clear x)); (on_goal 2 => clear_value x))
    | with_reducible apply markAnswered_keeps
    | with_reducible apply badResult_keeps
    | with_reducible apply pushAnswer_keeps

theorem placeLeg_keeps {s0 s : State} {a0 a1 a2} (h : Keeps s0 s) : Keeps s0 (placeLeg a0 a1 a2 s).2 := by
  unfold placeLeg
  repeat' first
    | with_reducible assumption
    | with_reducible apply flag_keeps
    | with_reducible apply errNi_keeps
    | split

theorem placeLeg_pair {s0 s : State} {a0 a1 a2} {d} {t : State} (h : Keeps s0 s)
    (e : placeLeg a0 a1 a2 s = (d, t)) : Keeps s0 t := by
  have k := placeLeg_keeps (a0 := a0) (a1 := a1) (a2 := a2) h
  rw [e] at k; exact k

theorem answerEngine_keeps {s0 s : State} {a0 a1 a2 a3} (h : Keeps s0 s) : Keeps s0 (answerEngine a0 a1 a2 a3 s) := by
  unfold answerEngine
  repeat' first
    | with_reducible assumption
    | with_reducible apply toFifo_keeps

theorem relayResult_keeps {s0 s : State} {a0 a1 a2 a3} (h : Keeps s0 s) : Keeps s0 (relayResult a0 a1 a2 a3 s) := by
  unfold relayResult
  repeat' first
    | with_reducible assumption
    | (extract_lets +onlyGivenNames x; refine Keeps.cut (a := s0) (x := x) ?_ (fun hx => ?_); (on_goal 1 => (unfold x; clear x)); (on_goal 2 => clear_value x))
    | (refine placeLeg_pair ?_ (by with_reducible assumption))
    | (extract_lets +onlyGivenNames x)
    | with_reducible apply answerServed_keeps
    | with_reducible apply errNi_keeps
    | with_reducible apply badResult_keeps
    | with_reducible apply answerEngine_keeps
    | with_reducible apply placeLeg_keeps
    | with_reducible apply modEntry_keeps
    | with_reducible apply pushReady_keeps
    | with_reducible apply markAnswered_keeps
    | split

theorem fetchRefused_keeps {s0 s : State} {a0 a1 a2 a3 a4} (h : Keeps s0 s) : Keeps s0
    (fetchRefused a0 a1 a2 a3 a4 s) := by
  unfold fetchRefused
  repeat' first
    | with_reducible assumption
    | (extract_lets +onlyGivenNames x; refine Keeps.cut (a := s0) (x := x) ?_ (fun hx => ?_); (on_goal 1 => (unfold x; clear x)); (on_goal 2 => clear_value x))
    | with_reducible apply noteLateAnswer_keeps
    | with_reducible apply answerServed_keeps
    | with_reducible apply answerEngine_keeps

theorem fetchResult_keeps {s0 s : State} {a0 a1 a2 a3} (h : Keeps s0 s) : Keeps s0 (fetchResult a0 a1 a2 a3 s) := by
  unfold fetchResult
  repeat' first
    | with_reducible assumption
    | (refine placeLeg_pair ?_ (by with_reducible assumption))
    | (extract_lets +onlyGivenNames x)
    | with_reducible apply answerServed_keeps
    | with_reducible apply badResult_keeps
    | with_reducible apply fetchRefused_keeps
    | with_reducible apply errNi_keeps
    | with_reducible apply placeLeg_keeps
    | with_reducible apply pushReady_keeps
    | with_reducible apply modEntry_keeps
    | split

theorem engineResult_keeps {s0 s : State} {a0 a1 a2 a3} (h : Keeps s0 s)
    (hf : ∀ a b t, Keeps s0 t → Keeps s0 (a3 a b t)): Keeps s0 (engineResult a0 a1 a2 a3 s) := by
  unfold engineResult
  repeat' first
    | with_reducible assumption
    | (extract_lets +onlyGivenNames x; refine Keeps.cut (a := s0) (x := x) ?_ (fun hx => ?_); (on_goal 1 => (unfold x; clear x)); (on_goal 2 => clear_value x))
    | (refine submitCheck_pair ?_ (by with_reducible assumption))
    | (extract_lets +onlyGivenNames x; refine Keeps.cut (a := s0) (x := x.1) ?_ (fun hx => ?_); (on_goal 1 => (unfold x; clear x)); (on_goal 2 => clear_value x))
    | (extract_lets +onlyGivenNames x)
    | with_reducible apply submitCheck_keeps
    | with_reducible apply noReceipt_keeps
    | with_reducible apply notServed_keeps
    | with_reducible apply answerStray_keeps
    | with_reducible apply hf
    | split

theorem execTeiRelay_keeps {s0 s : State} {a0 a1} (h : Keeps s0 s) : KeepsO s0 (execTeiRelay a0 a1 s) := by
  unfold execTeiRelay
  repeat' first
    | with_reducible assumption
    | (extract_lets +onlyGivenNames x)
    | with_reducible apply next_keeps
    | with_reducible apply engineResult_keeps
    | with_reducible apply relayResult_keeps
    | intro _ _ _
    | split

theorem execTeiFetch_keeps {s0 s : State} {a0 a1} (h : Keeps s0 s) : KeepsO s0 (execTeiFetch a0 a1 s) := by
  unfold execTeiFetch
  repeat' first
    | with_reducible assumption
    | (extract_lets +onlyGivenNames x)
    | with_reducible apply next_keeps
    | with_reducible apply engineResult_keeps
    | with_reducible apply fetchResult_keeps
    | intro _ _ _
    | split

theorem noteLegacy_keeps {s0 s : State} {a0} (h : Keeps s0 s) : Keeps s0 (noteLegacy a0 s) := by
  unfold noteLegacy
  repeat' first
    | with_reducible assumption
    | (with_reducible apply mk_keeps; with_reducible assumption; all_goals with_reducible rfl)
    | split

theorem execLegacyTimeout_keeps {s0 s : State} {a0 a1} (h : Keeps s0 s) : KeepsO s0 (execLegacyTimeout a0 a1 s) := by
  unfold execLegacyTimeout
  repeat' first
    | with_reducible assumption
    | (extract_lets +onlyGivenNames x; refine Keeps.cut (a := s0) (x := x) ?_ (fun hx => ?_); (on_goal 1 => (unfold x; clear x)); (on_goal 2 => clear_value x))
    | (extract_lets +onlyGivenNames x)
    | with_reducible apply next_keeps
    | with_reducible apply modEntry_keeps
    | with_reducible apply closeEntry_keeps
    | with_reducible apply noteLegacy_keeps
    | with_reducible apply satAdd_keeps
    | with_reducible apply flag_keeps
    | with_reducible apply refuseToEp_keeps
    | split

theorem execSadWrite_keeps {s0 s : State} {a0 a1 a2 a3} (h : Keeps s0 s) : KeepsO s0
    (execSadWrite a0 a1 a2 a3 s) := by
  unfold execSadWrite
  repeat' first
    | with_reducible assumption
    | (extract_lets +onlyGivenNames x)
    | with_reducible apply next_keeps
    | with_reducible apply errReserved_keeps
    | with_reducible apply sset_keeps
    | split

theorem commitShl_keeps {s0 s : State} {a0} (h : Keeps s0 s) : Keeps s0 (commitShl a0 s) := by
  unfold commitShl
  repeat' first
    | with_reducible assumption
    | with_reducible rfl
    | (extract_lets +onlyGivenNames x; refine Keeps.cut (a := s0) (x := x) ?_ (fun hx => ?_); (on_goal 1 => (unfold x; clear x)); (on_goal 2 => clear_value x))
    | (extract_lets +onlyGivenNames x)
    | with_reducible apply fset_keeps
    | with_reducible apply mergeStaged_keeps
    | with_reducible apply modNi_keeps
    | with_reducible apply onlyIf_keeps
    | with_reducible apply takeOver_keeps
    | with_reducible apply foldl_keeps
    | (with_reducible apply mk_keeps; with_reducible assumption; all_goals with_reducible rfl)
    | intro _ _ _
    | intro _ _
    | intro _
    | split

theorem commitPage_keeps {s0 s : State} {a0} (h : Keeps s0 s) : Keeps s0 (commitPage a0 s) := by
  unfold commitPage
  repeat' first
    | with_reducible assumption
    | with_reducible rfl
    | (extract_lets +onlyGivenNames x; refine Keeps.cut (a := s0) (x := x) ?_ (fun hx => ?_); (on_goal 1 => (unfold x; clear x)); (on_goal 2 => clear_value x))
    | (extract_lets +onlyGivenNames x)
    | with_reducible apply commitShl_keeps
    | with_reducible apply fset_keeps
    | with_reducible apply commitDelay_keeps
    | with_reducible apply mergeStaged_keeps
    | with_reducible apply rearmStrip_keeps
    | with_reducible apply staleAll_keeps
    | with_reducible apply setBankBad_keeps
    | with_reducible apply wrapAdd_keeps
    | with_reducible apply onlyIf_keeps
    | with_reducible apply foldl_keeps
    | (with_reducible apply mk_keeps; with_reducible assumption; all_goals with_reducible rfl)
    | intro _ _ _
    | intro _ _
    | intro _
    | split

theorem softCommit_keeps {s0 s : State} {a0} (h : Keeps s0 s) : Keeps s0 (softCommit a0 s) := by
  unfold softCommit
  extract_lets done t
  have ht : Keeps s0 t := modTime_keeps h (fun _ => rfl)
  split
  · exact ht
  · exact commitPage_keeps ht

theorem execCommit_keeps {s0 s : State} {a0} (h : Keeps s0 s) : KeepsO s0 (execCommit a0 s) := by
  unfold execCommit
  repeat' first
    | with_reducible assumption
    | with_reducible apply next_keeps
    | with_reducible apply softCommit_keeps
    | split

theorem stageWritten_keeps {s0 s : State} {a0 a1 a2} (h : Keeps s0 s) : Keeps s0 (stageWritten a0 a1 a2 s) := by
  unfold stageWritten
  repeat' first
    | with_reducible assumption
    | with_reducible rfl
    | (extract_lets +onlyGivenNames x)
    | with_reducible apply modNi_keeps
    | with_reducible apply fset_keeps
    | with_reducible apply stageKey_keeps
    | with_reducible apply foldl_keeps
    | intro _ _ _
    | intro _ _
    | intro _
    | split

theorem gcCommit_keeps {s0 s : State} {a0} (h : Keeps s0 s) : Keeps s0 (gcCommit a0 s) := by
  unfold gcCommit
  repeat' first
    | with_reducible assumption
    | with_reducible rfl
    | (extract_lets +onlyGivenNames x; refine Keeps.cut (a := s0) (x := x) ?_ (fun hx => ?_); (on_goal 1 => (unfold x; clear x)); (on_goal 2 => clear_value x))
    | (extract_lets +onlyGivenNames x)
    | with_reducible apply commitPage_keeps
    | with_reducible apply onlyIf_keeps
    | with_reducible apply fset_keeps
    | with_reducible apply forEach_keeps
    | with_reducible apply stageWritten_keeps
    | with_reducible apply foldl_keeps
    | (with_reducible apply mk_keeps; with_reducible assumption; all_goals with_reducible rfl)
    | intro _ _ _
    | intro _ _

theorem keepCaches_keeps {s0 s : State} {a0} (h : Keeps s0 s) : Keeps s0 (keepCaches a0 s) := by
  unfold keepCaches
  repeat' first
    | with_reducible assumption
    | with_reducible rfl
    | (extract_lets +onlyGivenNames x)
    | with_reducible apply forEach_keeps
    | with_reducible apply modNi_keeps
    | with_reducible apply foldl_keeps
    | (with_reducible apply mk_keeps; with_reducible assumption; all_goals with_reducible rfl)
    | intro _ _ _

theorem restoreCache_keeps {s0 s : State} {a0} (h : Keeps s0 s) : Keeps s0 (restoreCache a0 s) := by
  unfold restoreCache
  repeat' first
    | with_reducible assumption
    | with_reducible rfl
    | (extract_lets +onlyGivenNames x; refine Keeps.cut (a := s0) (x := x) ?_ (fun hx => ?_); (on_goal 1 => (unfold x; clear x)); (on_goal 2 => clear_value x))
    | (extract_lets +onlyGivenNames x)
    | with_reducible apply modNi_keeps
    | with_reducible apply onlyIf_keeps
    | with_reducible apply forEach_keeps
    | with_reducible apply cacheTouch_keeps
    | with_reducible apply foldl_keeps
    | (with_reducible apply mk_keeps; with_reducible assumption; all_goals with_reducible rfl)
    | intro _ _ _
    | intro _ _
    | intro _
    | split

theorem gcPage_keeps {s0 s : State} {a0} (h : Keeps s0 s) : Keeps s0 (gcPage a0 s) := by
  unfold gcPage
  repeat' first
    | with_reducible assumption
    | with_reducible rfl
    | (extract_lets +onlyGivenNames x; refine Keeps.cut (a := s0) (x := x) ?_ (fun hx => ?_); (on_goal 1 => (unfold x; clear x)); (on_goal 2 => clear_value x))
    | (extract_lets +onlyGivenNames x)
    | with_reducible apply onlyIf_keeps
    | with_reducible apply keepCaches_keeps
    | with_reducible apply gcCommit_keeps
    | with_reducible apply fset_keeps
    | with_reducible apply modTime_keeps
    | with_reducible apply foldl_keeps
    | (with_reducible apply mk_keeps; with_reducible assumption; all_goals with_reducible rfl)
    | intro _ _ _
    | intro _ _
    | intro _

theorem joinGc_keeps {s0 s : State} {a0} (h : Keeps s0 s) : Keeps s0 (joinGc a0 s) := by
  unfold joinGc
  repeat' first
    | with_reducible assumption
    | with_reducible apply onlyIf_keeps
    | with_reducible apply gcPage_keeps
    | with_reducible apply fset_keeps
    | intro _ _
    | split

theorem undoCommit_keeps {s0 s : State} {a0} (h : Keeps s0 s) : Keeps s0 (undoCommit a0 s) := by
  unfold undoCommit
  repeat' first
    | with_reducible assumption
    | with_reducible rfl
    | (extract_lets +onlyGivenNames x; refine Keeps.cut (a := s0) (x := x) ?_ (fun hx => ?_); (on_goal 1 => (unfold x; clear x)); (on_goal 2 => clear_value x))
    | (extract_lets +onlyGivenNames x)
    | with_reducible apply modNi_keeps
    | with_reducible apply modTime_keeps
    | with_reducible apply forEach_keeps
    | with_reducible apply restoreCache_keeps
    | with_reducible apply onlyIf_keeps
    | with_reducible apply fset_keeps
    | with_reducible apply stageWritten_keeps
    | with_reducible apply foldl_keeps
    | (with_reducible apply mk_keeps; with_reducible assumption; all_goals with_reducible rfl)
    | intro _ _ _
    | intro _ _
    | intro _
    | split

theorem leaveGc_keeps {s0 s : State} {a0} (h : Keeps s0 s) : Keeps s0 (leaveGc a0 s) := by
  unfold leaveGc
  repeat' first
    | with_reducible assumption
    | with_reducible rfl
    | (extract_lets +onlyGivenNames x; refine Keeps.cut (a := s0) (x := x) ?_ (fun hx => ?_); (on_goal 1 => (unfold x; clear x)); (on_goal 2 => clear_value x))
    | (extract_lets +onlyGivenNames x)
    | with_reducible apply forEach_keeps
    | with_reducible apply undoCommit_keeps
    | with_reducible apply fset_keeps
    | with_reducible apply modTime_keeps
    | with_reducible apply foldl_keeps
    | intro _ _ _
    | intro _ _
    | intro _

theorem abortPage_keeps {s0 s : State} {a0} (h : Keeps s0 s) : Keeps s0 (abortPage a0 s) := by
  unfold abortPage
  repeat' first
    | with_reducible assumption
    | with_reducible rfl
    | (extract_lets +onlyGivenNames x; refine Keeps.cut (a := s0) (x := x) ?_ (fun hx => ?_); (on_goal 1 => (unfold x; clear x)); (on_goal 2 => clear_value x))
    | (extract_lets +onlyGivenNames x)
    | with_reducible apply onlyIf_keeps
    | with_reducible apply modNi_keeps
    | with_reducible apply fset_keeps
    | with_reducible apply foldl_keeps
    | (with_reducible apply mk_keeps; with_reducible assumption; all_goals with_reducible rfl)
    | intro _ _ _
    | intro _ _

theorem execAbort_keeps {s0 s : State} {a0} (h : Keeps s0 s) : KeepsO s0 (execAbort a0 s) := by
  unfold execAbort
  repeat' first
    | with_reducible assumption
    | with_reducible apply next_keeps
    | with_reducible apply abortPage_keeps
    | split

theorem noteQuiesced_keeps {s0 s : State} {a0} (h : Keeps s0 s) : Keeps s0 (noteQuiesced a0 s) := by
  unfold noteQuiesced
  repeat' first
    | with_reducible assumption
    | with_reducible apply fset_keeps
    | split

theorem setQuiesce_keeps {s0 s : State} {a0 a1 a2} (h : Keeps s0 s) : Keeps s0 (setQuiesce a0 a1 a2 s) := by
  unfold setQuiesce
  repeat' first
    | with_reducible assumption
    | (extract_lets +onlyGivenNames x; refine Keeps.cut (a := s0) (x := x) ?_ (fun hx => ?_); (on_goal 1 => (unfold x; clear x)); (on_goal 2 => clear_value x))
    | with_reducible apply fsetB_keeps
    | with_reducible apply quiesceTime_keeps
    | with_reducible apply noteQuiesced_keeps
    | with_reducible apply fset_keeps
    | with_reducible apply queueRecheck_keeps
    | (with_reducible apply mk_keeps; with_reducible assumption; all_goals with_reducible rfl)
    | split

theorem execQuiesce_keeps {s0 s : State} {a0 a1 a2} (h : Keeps s0 s) : KeepsO s0 (execQuiesce a0 a1 a2 s) := by
  unfold execQuiesce
  repeat' first
    | with_reducible assumption
    | with_reducible apply next_keeps
    | with_reducible apply setQuiesce_keeps
    | split

theorem execQuiesced_keeps {s0 s : State} {a0} (h : Keeps s0 s) : KeepsO s0 (execQuiesced a0 s) := by
  unfold execQuiesced
  repeat' first
    | with_reducible assumption
    | with_reducible apply next_keeps
    | with_reducible apply noteQuiesced_keeps
    | split

theorem execGcJoin_keeps {s0 s : State} {a0} (h : Keeps s0 s) : KeepsO s0 (execGcJoin a0 s) := by
  unfold execGcJoin
  repeat' first
    | with_reducible assumption
    | with_reducible apply next_keeps
    | with_reducible apply joinGc_keeps
    | split

theorem execGcLeave_keeps {s0 s : State} {a0} (h : Keeps s0 s) : KeepsO s0 (execGcLeave a0 s) := by
  unfold execGcLeave
  repeat' first
    | with_reducible assumption
    | with_reducible apply next_keeps
    | with_reducible apply leaveGc_keeps
    | split

theorem refuseGc_keeps {s0 s : State} {a0} (h : Keeps s0 s) : Keeps s0 (refuseGc a0 s) := by
  unfold refuseGc
  repeat' first
    | with_reducible assumption
    | with_reducible apply irqHold_keeps
    | with_reducible apply fset_keeps

theorem armGc_keeps {s0 s : State} (h : Keeps s0 s) : Keeps s0 (armGc s) := by
  unfold armGc
  repeat' first
    | with_reducible assumption
    | with_reducible rfl
    | (extract_lets +onlyGivenNames x)
    | with_reducible apply refuseGc_keeps
    | with_reducible apply markArm_keeps
    | with_reducible apply modTime_keeps
    | intro _
    | split

theorem disarmGc_keeps {s0 s : State} (h : Keeps s0 s) : Keeps s0 (disarmGc s) := by
  unfold disarmGc
  repeat' first
    | with_reducible assumption
    | with_reducible rfl
    | with_reducible apply modTime_keeps
    | intro _

theorem execGcArm_keeps {s0 s : State} (h : Keeps s0 s) : KeepsO s0 (execGcArm s) := by
  unfold execGcArm
  repeat' first
    | with_reducible assumption
    | with_reducible apply next_keeps
    | with_reducible apply armGc_keeps

theorem execGcDisarm_keeps {s0 s : State} (h : Keeps s0 s) : KeepsO s0 (execGcDisarm s) := by
  unfold execGcDisarm
  repeat' first
    | with_reducible assumption
    | with_reducible apply next_keeps
    | with_reducible apply disarmGc_keeps

theorem execGcRearm_keeps {s0 s : State} (h : Keeps s0 s) : KeepsO s0 (execGcRearm s) := by
  unfold execGcRearm
  repeat' first
    | with_reducible assumption
    | with_reducible apply next_keeps
    | with_reducible apply armGc_keeps
    | with_reducible apply disarmGc_keeps

theorem execGlobalCommit_keeps {s0 s : State} (h : Keeps s0 s) : KeepsO s0 (execGlobalCommit s) := by
  unfold execGlobalCommit
  repeat' first
    | with_reducible assumption
    | with_reducible rfl
    | with_reducible apply next_keeps
    | with_reducible apply logFiring_keeps
    | with_reducible apply forEach_keeps
    | with_reducible apply gcPage_keeps
    | with_reducible apply modTime_keeps
    | with_reducible apply wrapAdd_keeps
    | with_reducible apply onlyIf_keeps
    | with_reducible apply irqHold_keeps
    | intro _
    | split

theorem irqSet_keeps {s0 s : State} {a0 a1} (h : Keeps s0 s) : Keeps s0 (irqSet a0 a1 s) := by
  unfold irqSet
  repeat' first
    | with_reducible assumption
    | with_reducible apply forEach_keeps
    | with_reducible apply flagBit_keeps
    | with_reducible apply irqHold_keeps
    | intro _ _ _
    | split

theorem execIrqSet_keeps {s0 s : State} {a0 a1} (h : Keeps s0 s) : KeepsO s0 (execIrqSet a0 a1 s) := by
  unfold execIrqSet
  repeat' first
    | with_reducible assumption
    | with_reducible apply next_keeps
    | with_reducible apply irqSet_keeps
    | split

theorem smxValid_keeps {s0 s : State} (h : Keeps s0 s) : Keeps s0 (smxValid s) := by
  unfold smxValid
  repeat' first
    | with_reducible assumption
    | with_reducible apply fset_keeps
    | split

theorem irqClear_keeps {s0 s : State} {a0 a1} (h : Keeps s0 s) : Keeps s0 (irqClear a0 a1 s) := by
  unfold irqClear
  repeat' first
    | with_reducible assumption
    | (extract_lets +onlyGivenNames x; refine Keeps.cut (a := s0) (x := x) ?_ (fun hx => ?_); (on_goal 1 => (unfold x; clear x)); (on_goal 2 => clear_value x))
    | with_reducible apply forEach_keeps
    | with_reducible apply unflagBit_keeps
    | with_reducible apply onlyIf_keeps
    | with_reducible apply smxValid_keeps
    | with_reducible apply fset_keeps
    | intro _ _ _

theorem writeField_keeps {s0 s : State} {a0 a1 a2 a3} (h : Keeps s0 s) : Keeps s0 (writeField a0 a1 a2 a3 s) := by
  unfold writeField
  repeat' first
    | with_reducible assumption
    | (extract_lets +onlyGivenNames x; refine Keeps.cut (a := s0) (x := x) ?_ (fun hx => ?_); (on_goal 1 => (unfold x; clear x)); (on_goal 2 => clear_value x))
    | (extract_lets +onlyGivenNames x)
    | with_reducible apply errReserved_keeps
    | with_reducible apply fset_keeps
    | with_reducible apply pageErr_keeps
    | with_reducible apply sset_keeps
    | split

theorem plainWrite_keeps {s0 s : State} {a0 a1 a2} (h : Keeps s0 s) : Keeps s0 (plainWrite a0 a1 a2 s) := by
  unfold plainWrite
  repeat' first
    | with_reducible assumption
    | with_reducible apply forEach_keeps
    | with_reducible apply writeField_keeps
    | intro _ _ _

theorem armWrite_keeps {s0 s : State} {v} {f g : State → State} (h : Keeps s0 s)
    (hf : ∀ t, Keeps s0 t → Keeps s0 (f t)) (hg : ∀ t, Keeps s0 t → Keeps s0 (g t)) : Keeps s0 (armWrite v f g s) :=
  onlyIf_keeps (onlyIf_keeps h hg) hf

theorem writeCtrl_keeps {s0 s : State} {a0 a1 a2} (h : Keeps s0 s) : Keeps s0 (writeCtrl a0 a1 a2 s) := by
  unfold writeCtrl
  repeat' first
    | with_reducible assumption
    | (extract_lets +onlyGivenNames x; refine Keeps.cut (a := s0) (x := x) ?_ (fun hx => ?_); (on_goal 1 => (unfold x; clear x)); (on_goal 2 => clear_value x))
    | with_reducible apply abortPage_keeps
    | with_reducible apply onlyIf_keeps
    | with_reducible apply softCommit_keeps
    | with_reducible apply setQuiesce_keeps
    | with_reducible apply leaveGc_keeps
    | with_reducible apply joinGc_keeps
    | intro _ _
    | split

theorem writeHeader_keeps {s0 s : State} {a0 a1 a2 a3 a4} (h : Keeps s0 s) : Keeps s0
    (writeHeader a0 a1 a2 a3 a4 s) := by
  unfold writeHeader
  repeat' first
    | with_reducible assumption
    | with_reducible apply writeCtrl_keeps
    | with_reducible apply onlyIf_keeps
    | with_reducible apply fset_keeps
    | with_reducible apply irqClear_keeps
    | with_reducible apply irqSet_keeps
    | intro _ _
    | split

theorem writeGroup_keeps {s0 s : State} {a0 a1} (h : Keeps s0 s) : Keeps s0 (writeGroup a0 a1 s) := by
  unfold writeGroup
  repeat' first
    | with_reducible assumption
    | (extract_lets +onlyGivenNames x; refine Keeps.cut (a := s0) (x := x) ?_ (fun hx => ?_); (on_goal 1 => (unfold x; clear x)); (on_goal 2 => clear_value x))
    | (extract_lets +onlyGivenNames x)
    | with_reducible apply onlyIf_keeps
    | with_reducible apply errReserved_keeps
    | with_reducible apply sset_keeps
    | intro _ _
    | split

theorem writePwrCmd_keeps {s0 s : State} {a0} (h : Keeps s0 s) : Keeps s0 (writePwrCmd a0 s) := by
  unfold writePwrCmd
  repeat' first
    | with_reducible assumption
    | with_reducible apply nextOr_keeps
    | with_reducible apply execSetLevel_keeps
    | with_reducible apply execNiSleep_keeps
    | with_reducible apply execNiWake_keeps
    | with_reducible apply execFabSleep_keeps
    | with_reducible apply execFabWake_keeps
    | with_reducible apply errReserved_keeps
    | split

theorem writeArtCmd_keeps {s0 s : State} {a0} (h : Keeps s0 s) : Keeps s0 (writeArtCmd a0 s) := by
  unfold writeArtCmd
  repeat' first
    | with_reducible assumption
    | with_reducible apply artCommand_keeps
    | split

theorem writeArtw_keeps {s0 s : State} {a0 a1} (h : Keeps s0 s) : Keeps s0 (writeArtw a0 a1 s) := by
  unfold writeArtw
  repeat' first
    | with_reducible assumption
    | (extract_lets +onlyGivenNames x; refine Keeps.cut (a := s0) (x := x) ?_ (fun hx => ?_); (on_goal 1 => (unfold x; clear x)); (on_goal 2 => clear_value x))
    | (extract_lets +onlyGivenNames x)
    | with_reducible apply onlyIf_keeps
    | with_reducible apply errReserved_keeps
    | (with_reducible apply mk_keeps; with_reducible assumption; all_goals with_reducible rfl)
    | intro _ _

theorem writeRsvCfg_keeps {s0 s : State} {a0} (h : Keeps s0 s) : Keeps s0 (writeRsvCfg a0 s) := by
  unfold writeRsvCfg
  repeat' first
    | with_reducible assumption
    | (extract_lets +onlyGivenNames x; refine Keeps.cut (a := s0) (x := x) ?_ (fun hx => ?_); (on_goal 1 => (unfold x; clear x)); (on_goal 2 => clear_value x))
    | (extract_lets +onlyGivenNames x)
    | with_reducible apply plainWrite_keeps
    | (with_reducible apply mk_keeps; with_reducible assumption; all_goals with_reducible rfl)
    | split

theorem writePtr_keeps {s0 s : State} {a0} (h : Keeps s0 s) : Keeps s0 (writePtr a0 s) := by
  unfold writePtr
  repeat' first
    | with_reducible assumption
    | (extract_lets +onlyGivenNames x; refine Keeps.cut (a := s0) (x := x) ?_ (fun hx => ?_); (on_goal 1 => (unfold x; clear x)); (on_goal 2 => clear_value x))
    | with_reducible apply plainWrite_keeps
    | with_reducible apply fset_keeps
    | split

theorem writeVcCtrl_keeps {s0 s : State} {a0 a1} (h : Keeps s0 s) : Keeps s0 (writeVcCtrl a0 a1 s) := by
  unfold writeVcCtrl
  repeat' first
    | with_reducible assumption
    | (extract_lets +onlyGivenNames x; refine Keeps.cut (a := s0) (x := x) ?_ (fun hx => ?_); (on_goal 1 => (unfold x; clear x)); (on_goal 2 => clear_value x))
    | with_reducible apply plainWrite_keeps
    | with_reducible apply onlyIf_keeps
    | with_reducible apply staleVerdicts_keeps
    | with_reducible apply modNi_keeps
    | intro _ _

theorem writeIsoCtrl_keeps {s0 s : State} {a0 a1} (h : Keeps s0 s) : Keeps s0 (writeIsoCtrl a0 a1 s) := by
  unfold writeIsoCtrl
  repeat' first
    | with_reducible assumption
    | with_reducible apply nextOr_keeps
    | with_reducible apply execIsolate_keeps
    | with_reducible apply onlyIf_keeps
    | with_reducible apply execReadmit_keeps
    | intro _ _
    | split

theorem writeTimer_keeps {s0 s : State} {a0 a1} (h : Keeps s0 s) : Keeps s0 (writeTimer a0 a1 s) := by
  unfold writeTimer
  repeat' first
    | with_reducible assumption
    | with_reducible apply armWrite_keeps
    | with_reducible apply timerArm_keeps
    | with_reducible apply timerDisarm_keeps
    | with_reducible apply timerFields_keeps
    | intro _ _

theorem writeFqCmd_keeps {s0 s : State} {a0 a1} (h : Keeps s0 s) : Keeps s0 (writeFqCmd a0 a1 s) := by
  unfold writeFqCmd
  repeat' first
    | with_reducible assumption
    | (extract_lets +onlyGivenNames x; refine Keeps.cut (a := s0) (x := x) ?_ (fun hx => ?_); (on_goal 1 => (unfold x; clear x)); (on_goal 2 => clear_value x))
    | with_reducible apply onlyIf_keeps
    | with_reducible apply nextOr_keeps
    | with_reducible apply execReload_keeps
    | with_reducible apply execClrMax_keeps
    | with_reducible apply execClrAllMax_keeps
    | intro _ _

theorem writeLedgerCmd_keeps {s0 s : State} {a0} (h : Keeps s0 s) : Keeps s0 (writeLedgerCmd a0 s) := by
  unfold writeLedgerCmd
  repeat' first
    | with_reducible assumption
    | (extract_lets +onlyGivenNames x; refine Keeps.cut (a := s0) (x := x) ?_ (fun hx => ?_); (on_goal 1 => (unfold x; clear x)); (on_goal 2 => clear_value x))
    | with_reducible apply onlyIf_keeps
    | with_reducible apply nextOr_keeps
    | with_reducible apply execReadout_keeps
    | with_reducible apply execPop_keeps
    | intro _ _

theorem writeBehind_keeps {s0 s : State} {a0 a1 a2} (h : Keeps s0 s) : Keeps s0 (writeBehind a0 a1 a2 s) := by
  unfold writeBehind
  repeat' first
    | with_reducible assumption
    | with_reducible rfl
    | (extract_lets +onlyGivenNames x; refine Keeps.cut (a := s0) (x := x) ?_ (fun hx => ?_); (on_goal 1 => (unfold x; clear x)); (on_goal 2 => clear_value x))
    | (extract_lets +onlyGivenNames x)
    | with_reducible apply plainWrite_keeps
    | with_reducible apply forEach_keeps
    | with_reducible apply stageKey_keeps
    | with_reducible apply modNi_keeps
    | with_reducible apply foldl_keeps
    | (with_reducible apply mk_keeps; with_reducible assumption; all_goals with_reducible rfl)
    | intro _ _ _

theorem writeNi_keeps {s0 s : State} {a0 a1 a2} (h : Keeps s0 s) : Keeps s0 (writeNi a0 a1 a2 s) := by
  unfold writeNi
  repeat' first
    | with_reducible assumption
    | with_reducible rfl
    | (extract_lets +onlyGivenNames x)
    | with_reducible apply writeVcCtrl_keeps
    | with_reducible apply writeIsoCtrl_keeps
    | with_reducible apply nextOr_keeps
    | with_reducible apply execSadWrite_keeps
    | with_reducible apply writeBehind_keeps
    | with_reducible apply flag_keeps
    | with_reducible apply plainWrite_keeps
    | with_reducible apply foldl_keeps
    | intro _ _ _
    | intro _ _
    | intro _
    | split

theorem writeFqw_keeps {s0 s : State} {a0 a1 a2} (h : Keeps s0 s) : Keeps s0 (writeFqw a0 a1 a2 s) := by
  unfold writeFqw
  repeat' first
    | with_reducible assumption
    | with_reducible rfl
    | (extract_lets +onlyGivenNames x)
    | with_reducible apply nextOr_keeps
    | with_reducible apply execClsW1_keeps
    | with_reducible apply beforeTest_keeps
    | with_reducible apply plainWrite_keeps
    | with_reducible apply execFqRate_keeps
    | with_reducible apply execFqDepth_keeps
    | with_reducible apply execFqQuota_keeps
    | with_reducible apply writeFqCmd_keeps
    | with_reducible apply readEffect_keeps
    | with_reducible apply foldl_keeps
    | intro _ _ _
    | intro _ _
    | intro _
    | split

theorem writeLate_keeps {s0 s : State} {a0} (h : Keeps s0 s) : Keeps s0 (writeLate a0 s) := by
  unfold writeLate
  repeat' first
    | with_reducible assumption
    | with_reducible rfl
    | (extract_lets +onlyGivenNames x; refine Keeps.cut (a := s0) (x := x) ?_ (fun hx => ?_); (on_goal 1 => (unfold x; clear x)); (on_goal 2 => clear_value x))
    | (extract_lets +onlyGivenNames x)
    | with_reducible apply modNi_keeps
    | with_reducible apply fset_keeps
    | with_reducible apply forEach_keeps
    | with_reducible apply writeFqw_keeps
    | with_reducible apply foldl_keeps
    | intro _ _ _

theorem writeTime_keeps {s0 s : State} {a0 a1} (h : Keeps s0 s) : Keeps s0 (writeTime a0 a1 s) := by
  unfold writeTime
  repeat' first
    | with_reducible assumption
    | with_reducible apply nextOr_keeps
    | with_reducible apply execMtimeSet_keeps
    | with_reducible apply execSwFreq_keeps
    | with_reducible apply execSwPhase_keeps
    | with_reducible apply writeTimer_keeps
    | with_reducible apply plainWrite_keeps
    | split

theorem writeArt_keeps {s0 s : State} {a0 a1} (h : Keeps s0 s) : Keeps s0 (writeArt a0 a1 s) := by
  unfold writeArt
  repeat' first
    | with_reducible assumption
    | with_reducible apply armWrite_keeps
    | with_reducible apply armSwap_keeps
    | with_reducible apply disarmSwap_keeps
    | with_reducible apply writeArtCmd_keeps
    | with_reducible apply nextOr_keeps
    | with_reducible apply execArtCount_keeps
    | with_reducible apply execDmW1_keeps
    | with_reducible apply plainWrite_keeps
    | split

theorem modLc_keeps {s0 s : State} {f} (h : Keeps s0 s) (hf : ∀ x, (f x).running = x.running) : Keeps s0
    (modLc f s) := by
  unfold modLc; exact Keeps.view h rfl rfl rfl rfl rfl rfl rfl rfl rfl rfl rfl (hf _) rfl

theorem lcResult_keeps {s0 s : State} {a0} (h : Keeps s0 s) : Keeps s0 (lcResult a0 s) := by
  unfold lcResult
  repeat' first
    | with_reducible assumption
    | with_reducible apply fset_keeps

theorem lcRefuse_keeps {s0 s : State} {a0} (h : Keeps s0 s) : Keeps s0 (lcRefuse a0 s) := by
  unfold lcRefuse
  repeat' first
    | with_reducible assumption
    | with_reducible apply flag_keeps
    | with_reducible apply lcResult_keeps

theorem lcStart_keeps {s0 s : State} {k} (h : Keeps s0 s) (hk : s.fuses.lc < k) : Keeps s0 (lcStart k s) :=
  fset_keeps (h.trans ⟨rfl, fun i => ⟨{ i with running := by intro t e; cases e; exact hk }, Nat.le_refl _⟩⟩)

theorem lcFinish_keeps {s0 s : State} {k} (h : Keeps s0 s) (h15 : k ≤ 15) (hk : SysInv s → s.fuses.lc ≤ k) :
    Keeps s0 (lcFinish k s) := by
  unfold lcFinish
  refine flag_keeps (lcResult_keeps (fset_keeps (h.trans ⟨rfl, fun i => ⟨?_, hk i⟩⟩)))
  refine { i with lcCells := h15, running := (by intro t e; cases e), queue := ?_ }
  have hle := hk i
  have hq := i.queue
  show s.ledger.queue.length ≤ if k < lcProduction then 16 else 17
  split
  · rw [if_pos (by omega)] at hq; exact hq
  · split at hq <;> omega

theorem clearSecrets_keeps {s0 s : State} {a0} (h : Keeps s0 s) : Keeps s0 (clearSecrets a0 s) := by
  unfold clearSecrets
  repeat' first
    | with_reducible assumption
    | with_reducible apply modNi_keeps
    | with_reducible apply staleVerdicts_keeps

theorem startRma_fuses (s : State) :
    (modLedger (fun l => { l with key := none }) (forEach livePorts clearSecrets (raiseZeroise s))).fuses = s.fuses := by
  have h1 (l : List Nat) (t : State) : (forEach l clearSecrets t).fuses = t.fuses := forEach_frame (·.fuses) (fun _ _ => rfl)
  have h2 (l : List Nat) (t : State) :
      (forEach l (fun p s => modNi p (fun n => { n with zeroise := true }) s) t).fuses = t.fuses :=
    forEach_frame (·.fuses) (fun _ _ => rfl)
  have h0 (f : Ledger → Ledger) (t : State) : (modLedger f t).fuses = t.fuses := rfl
  rw [h0, h1]; unfold raiseZeroise; rw [h2]

theorem startRma_keeps {s0 s : State} (h : Keeps s0 s) (hk : s.fuses.lc < lcRma) : Keeps s0 (startRma s) :=
  lcStart_keeps (modLedger_keeps (forEach_keeps (raiseZeroise_keeps h) (fun _ _ k => clearSecrets_keeps k)) (fun _ => rfl))
    (by rw [startRma_fuses]; exact hk)

theorem tryToken_keeps {s0 s : State} (h : Keeps s0 s) (hk : s.fuses.lc < lcRma) : Keeps s0 (tryToken s) := by
  unfold tryToken
  split
  · exact lcRefuse_keeps h
  · extract_lets t
    have ht : Keeps s0 t := modLc_keeps h (fun _ => rfl)
    split
    · exact startRma_keeps ht hk
    · exact lcRefuse_keeps (flag_keeps (satAdd_keeps ht))

theorem takeKeySlot_keeps {s0 s : State} (h : Keeps s0 s)
    (hs : ledgerGone s = false → s.fuses.slots.length < 2) : Keeps s0 (takeKeySlot s) := by
  unfold takeKeySlot
  split
  · exact h
  · have hl := hs (by simp_all)
    exact h.trans ⟨rfl, fun i => ⟨{ i with slots := by simp [draw]; omega }, Nat.le_refl _⟩⟩

theorem takeKeySlot_lc (s : State) : (takeKeySlot s).fuses.lc = s.fuses.lc := by
  unfold takeKeySlot; split <;> rfl

theorem execLcRequest_keeps {s0 s : State} {a0} (h : Keeps s0 s) : KeepsO s0 (execLcRequest a0 s) := by
  unfold execLcRequest
  extract_lets target confirm
  split
  · exact next_keeps h
  split
  · exact next_keeps (lcRefuse_keeps h)
  · rename_i hp
    have hlt : s.fuses.lc < target := by
      simp [lcPermits] at hp; exact hp.2.1
    split
    · exact next_keeps (lcRefuse_keeps h)
    · split
      · rename_i e
        exact next_keeps (lcFinish_keeps h (by decide) (fun _ => by rw [e] at hlt; exact Nat.le_of_lt hlt))
      · split
        · rename_i e
          split
          · exact next_keeps (lcRefuse_keeps h)
          · split
            · exact next_keeps (lcRefuse_keeps h)
            · exact next_keeps (lcStart_keeps (takeKeySlot_keeps h (fun _ => by simp_all))
                (by rw [takeKeySlot_lc]; rw [e] at hlt; exact hlt))
        · rename_i e1 e2
          split
          · exact next_keeps (lcRefuse_keeps h)
          · refine next_keeps (tryToken_keeps h ?_)
            have : target = lcRma := by
              simp [lcPermits] at hp; have := hp.2.2; simp_all
            rw [this] at hlt; exact hlt

theorem execNonceGen_keeps {s0 s : State} (h : Keeps s0 s) : KeepsO s0 (execNonceGen s) := by
  unfold execNonceGen
  repeat' first
    | with_reducible assumption
    | with_reducible rfl
    | (refine draw_pair ?_ (by with_reducible assumption))
    | with_reducible apply next_keeps
    | with_reducible apply draw_keeps
    | with_reducible apply modLc_keeps
    | with_reducible apply draw_keeps
    | intro _
    | split

theorem fuseLk_keeps {s0 s : State} (h : Keeps s0 s) : Keeps s0 (fuseLk s) := by
  unfold fuseLk
  repeat' first
    | with_reducible assumption
    | (with_reducible apply mk_keeps; with_reducible assumption; all_goals with_reducible rfl)

theorem execProductionDone_keeps {s0 s : State} (h : Keeps s0 s) : KeepsO s0 (execProductionDone s) := by
  refine KeepsO.of h ?_
  have h := Keeps.refl s
  unfold execProductionDone
  split
  · exact next_keeps h
  · rename_i e
    have e : s.lc.running = some lcProduction := by simpa using e
    extract_lets t q u v
    have ht : Keeps s t :=
      fuseLk_keeps (lcFinish_keeps h (by decide) (fun i => Nat.le_of_lt (i.running _ e)))
    have hu : Keeps s u := Keeps.view ht rfl rfl rfl rfl rfl rfl rfl rfl rfl rfl rfl rfl rfl
    have hv : Keeps s v := fset_keeps hu
    split
    · exact next_keeps hv
    · refine next_keeps (fileBoot_keeps (modLedger_keeps hv (fun _ => rfl)) (fun i => ?_))
      have hl := i.queue
      rw [if_pos (i.running _ e)] at hl
      show s.ledger.queue.length < if lcProduction < lcProduction then 16 else 17
      rw [if_neg (Nat.lt_irrefl _)]
      omega

theorem execRmaDone_keeps {s0 s : State} {a0} (h : Keeps s0 s) : KeepsO s0 (execRmaDone s a0) := by
  unfold execRmaDone
  split
  · exact next_keeps h
  · extract_lets t f v
    have ht : Keeps s0 t := noteAcks_keeps h
    clear_value t
    split
    · exact next_keeps ht
    · have hv : Keeps s0 v :=
        lcFinish_keeps (Keeps.view ht rfl rfl rfl rfl rfl rfl rfl rfl rfl rfl rfl rfl rfl) (by decide) (fun i => i.lcCells)
      exact next_keeps (onlyIf_keeps hv (fun _ k => startF3Wake_keeps k))

theorem refuse_keeps {s0 s : State} {a0 a1 a2 a3 a4} (h : Keeps s0 s) : Keeps s0 (refuse a0 a1 a2 a3 a4 s) := by
  unfold refuse
  repeat' first
    | with_reducible assumption
    | (extract_lets +onlyGivenNames x; refine Keeps.cut (a := s0) (x := x) ?_ (fun hx => ?_); (on_goal 1 => (unfold x; clear x)); (on_goal 2 => clear_value x))
    | (refine draw_pair ?_ (by with_reducible assumption))
    | (extract_lets +onlyGivenNames x; refine Keeps.cut (a := s0) (x := x.2) ?_ (fun hx => ?_); (on_goal 1 => (unfold x; clear x)); (on_goal 2 => clear_value x))
    | (extract_lets +onlyGivenNames x)
    | with_reducible apply draw_keeps
    | with_reducible apply errNi_keeps
    | with_reducible apply refuseToEp_keeps
    | with_reducible apply setEntry_keeps
    | with_reducible apply freeEntry_keeps
    | with_reducible apply draw_keeps
    | split

theorem allowRequest_keeps {s0 s : State} {a0 a1 a2 a3} (h : Keeps s0 s) : Keeps s0 (allowRequest a0 a1 a2 a3 s) := by
  unfold allowRequest
  repeat' first
    | with_reducible assumption
    | (extract_lets +onlyGivenNames x; refine Keeps.cut (a := s0) (x := x) ?_ (fun hx => ?_); (on_goal 1 => (unfold x; clear x)); (on_goal 2 => clear_value x))
    | (extract_lets +onlyGivenNames x)
    | with_reducible apply setEntry_keeps
    | with_reducible apply refuse_keeps
    | with_reducible apply flag_keeps
    | with_reducible apply onlyIf_keeps
    | with_reducible apply maxIn_keeps
    | intro _ _
    | split

theorem chargeDenial_keeps {s0 s : State} {a0 a1} (h : Keeps s0 s) : Keeps s0 (chargeDenial a0 a1 s) := by
  unfold chargeDenial
  repeat' first
    | with_reducible assumption
    | with_reducible apply accAdd_keeps
    | (with_reducible apply mk_keeps; with_reducible assumption; all_goals with_reducible rfl)
    | split

theorem takeVerdict_keeps {s0 s : State} {a0 a1 a2} (h : Keeps s0 s) : Keeps s0 (takeVerdict a0 a1 a2 s) := by
  unfold takeVerdict
  repeat' first
    | with_reducible assumption
    | with_reducible apply allowRequest_keeps
    | with_reducible apply refuse_keeps
    | with_reducible apply chargeDenial_keeps
    | split

theorem checkArt_keeps {s0 s : State} {a0 a1 a2} (h : Keeps s0 s) : Keeps s0 (checkArt a0 a1 a2 s) := by
  unfold checkArt
  repeat' first
    | with_reducible assumption
    | (extract_lets +onlyGivenNames x; refine Keeps.cut (a := s0) (x := x) ?_ (fun hx => ?_); (on_goal 1 => (unfold x; clear x)); (on_goal 2 => clear_value x))
    | (extract_lets +onlyGivenNames x)
    | with_reducible apply cacheTouch_keeps
    | with_reducible apply wrapAdd_keeps
    | with_reducible apply takeVerdict_keeps
    | with_reducible apply onlyIf_keeps
    | with_reducible apply present_keeps
    | with_reducible apply modEntry_keeps
    | intro _ _
    | split

theorem checkRequest_keeps {s0 s : State} {a0 a1 a2 a3} (h : Keeps s0 s) : Keeps s0 (checkRequest a0 a1 a2 a3 s) := by
  unfold checkRequest
  repeat' first
    | with_reducible assumption
    | (extract_lets +onlyGivenNames x; refine Keeps.cut (a := s0) (x := x) ?_ (fun hx => ?_); (on_goal 1 => (unfold x; clear x)); (on_goal 2 => clear_value x))
    | (refine classify_pair ?_ (by with_reducible assumption))
    | (extract_lets +onlyGivenNames x; refine Keeps.cut (a := s0) (x := x.2) ?_ (fun hx => ?_); (on_goal 1 => (unfold x; clear x)); (on_goal 2 => clear_value x))
    | with_reducible apply classify_keeps
    | with_reducible apply modEntry_keeps
    | with_reducible apply refuse_keeps
    | with_reducible apply flag_keeps
    | with_reducible apply checkArt_keeps
    | with_reducible apply allowRequest_keeps
    | split

theorem execTeiRequest_keeps {s0 s : State} {a0 a1} (h : Keeps s0 s) : KeepsO s0 (execTeiRequest a0 a1 s) := by
  unfold execTeiRequest
  repeat' first
    | with_reducible assumption
    | (extract_lets +onlyGivenNames x; refine Keeps.cut (a := s0) (x := x) ?_ (fun hx => ?_); (on_goal 1 => (unfold x; clear x)); (on_goal 2 => clear_value x))
    | (refine submitCheck_pair ?_ (by with_reducible assumption))
    | (extract_lets +onlyGivenNames x; refine Keeps.cut (a := s0) (x := x.1) ?_ (fun hx => ?_); (on_goal 1 => (unfold x; clear x)); (on_goal 2 => clear_value x))
    | (extract_lets +onlyGivenNames x)
    | with_reducible apply next_keeps
    | with_reducible apply submitCheck_keeps
    | with_reducible apply checkRequest_keeps
    | with_reducible apply takeEntry_keeps
    | split

theorem execVerdictReturn_keeps {s0 s : State} {a0} (h : Keeps s0 s) : KeepsO s0 (execVerdictReturn a0 s) := by
  unfold execVerdictReturn
  repeat' first
    | with_reducible assumption
    | (extract_lets +onlyGivenNames x; refine Keeps.cut (a := s0) (x := x) ?_ (fun hx => ?_); (on_goal 1 => (unfold x; clear x)); (on_goal 2 => clear_value x))
    | (extract_lets +onlyGivenNames x)
    | with_reducible apply next_keeps
    | with_reducible apply offerRow_keeps
    | with_reducible apply modNi_keeps
    | with_reducible apply onlyIf_keeps
    | with_reducible apply cacheTouch_keeps
    | with_reducible apply takeVerdict_keeps
    | intro _ _
    | split

theorem bootDone_keeps {s0 s : State} (h : Keeps s0 s) : Keeps s0 (bootDone s) := by
  unfold bootDone
  repeat' first
    | with_reducible assumption
    | with_reducible apply flag_keeps
    | with_reducible apply fset_keeps
    | split

theorem execBootDone_keeps {s0 s : State} (h : Keeps s0 s) : KeepsO s0 (execBootDone s) := by
  unfold execBootDone
  repeat' first
    | with_reducible assumption
    | with_reducible apply next_keeps
    | with_reducible apply bootDone_keeps

theorem writeHpCfg_keeps {s0 s : State} {a0} (h : Keeps s0 s) : Keeps s0 (writeHpCfg a0 s) := by
  unfold writeHpCfg
  repeat' first
    | with_reducible assumption
    | (extract_lets +onlyGivenNames x; refine Keeps.cut (a := s0) (x := x) ?_ (fun hx => ?_); (on_goal 1 => (unfold x; clear x)); (on_goal 2 => clear_value x))
    | (extract_lets +onlyGivenNames x)
    | with_reducible apply plainWrite_keeps
    | (with_reducible apply mk_keeps; with_reducible assumption; all_goals with_reducible rfl)
    | split

theorem writeFg_keeps {s0 s : State} {a0 a1} (h : Keeps s0 s) : Keeps s0 (writeFg a0 a1 s) := by
  unfold writeFg
  repeat' first
    | with_reducible assumption
    | with_reducible apply armWrite_keeps
    | with_reducible apply armGc_keeps
    | with_reducible apply disarmGc_keeps
    | with_reducible apply armFlip_keeps
    | with_reducible apply disarmFlip_keeps
    | with_reducible apply writeHpCfg_keeps
    | with_reducible apply writeGroup_keeps
    | with_reducible apply plainWrite_keeps
    | split

theorem writeSmx_keeps {s0 s : State} {a0 a1} (h : Keeps s0 s) : Keeps s0 (writeSmx a0 a1 s) := by
  unfold writeSmx
  repeat' first
    | with_reducible assumption
    | with_reducible apply onlyIf_keeps
    | with_reducible apply bootDone_keeps
    | with_reducible apply smxValid_keeps
    | with_reducible apply plainWrite_keeps
    | split

theorem writePower_keeps {s0 s : State} {a0 a1} (h : Keeps s0 s) : Keeps s0 (writePower a0 a1 s) := by
  unfold writePower
  repeat' first
    | with_reducible assumption
    | with_reducible apply writePwrCmd_keeps
    | with_reducible apply nextOr_keeps
    | with_reducible apply execSleepOk_keeps
    | with_reducible apply onlyIf_keeps
    | with_reducible apply execConfigValid_keeps
    | with_reducible apply plainWrite_keeps
    | intro _ _
    | split

theorem writeStrip_keeps {s0 s : State} {a0 a1} (h : Keeps s0 s) : Keeps s0 (writeStrip a0 a1 s) := by
  unfold writeStrip
  repeat' first
    | with_reducible assumption
    | with_reducible apply writePtr_keeps
    | with_reducible apply onlyIf_keeps
    | with_reducible apply nextOr_keeps
    | with_reducible apply execBurn_keeps
    | with_reducible apply plainWrite_keeps
    | intro _ _
    | split

theorem writeLc_keeps {s0 s : State} {a0 a1} (h : Keeps s0 s) : Keeps s0 (writeLc a0 a1 s) := by
  unfold writeLc
  repeat' first
    | with_reducible assumption
    | with_reducible rfl
    | (extract_lets +onlyGivenNames x; refine Keeps.cut (a := s0) (x := x) ?_ (fun hx => ?_); (on_goal 1 => (unfold x; clear x)); (on_goal 2 => clear_value x))
    | with_reducible apply onlyIf_keeps
    | with_reducible apply nextOr_keeps
    | with_reducible apply execLcRequest_keeps
    | with_reducible apply execNonceGen_keeps
    | with_reducible apply modLc_keeps
    | with_reducible apply plainWrite_keeps
    | intro _ _
    | intro _
    | split

theorem writeRsv_keeps {s0 s : State} {a0 a1} (h : Keeps s0 s) : Keeps s0 (writeRsv a0 a1 s) := by
  unfold writeRsv
  repeat' first
    | with_reducible assumption
    | with_reducible apply writeRsvCfg_keeps
    | with_reducible apply nextOr_keeps
    | with_reducible apply execRsvAdmit_keeps
    | with_reducible apply onlyIf_keeps
    | with_reducible apply execRsvRelease_keeps
    | with_reducible apply plainWrite_keeps
    | intro _ _
    | split

theorem writeCp_keeps {s0 s : State} {a0 a1} (h : Keeps s0 s) : Keeps s0 (writeCp a0 a1 s) := by
  unfold writeCp
  repeat' first
    | with_reducible assumption
    | with_reducible apply onlyIf_keeps
    | with_reducible apply forEach_keeps
    | with_reducible apply fset_keeps
    | with_reducible apply plainWrite_keeps
    | intro _ _
    | split

theorem writeArtWin_keeps {s0 s : State} {a0 a1} (h : Keeps s0 s) : Keeps s0 (writeArtWin a0 a1 s) := by
  unfold writeArtWin
  repeat' first
    | with_reducible assumption
    | with_reducible apply writeArtw_keeps
    | with_reducible apply nextOr_keeps
    | with_reducible apply execArtwW3_keeps
    | with_reducible apply plainWrite_keeps
    | split

theorem regWrite_keeps {s0 s : State} {a0 a1 a2 a3} (h : Keeps s0 s) : Keeps s0 (regWrite a0 a1 a2 a3 s) := by
  unfold regWrite
  repeat' first
    | with_reducible assumption
    | with_reducible apply writeHeader_keeps
    | with_reducible apply writeFg_keeps
    | with_reducible apply writeTime_keeps
    | with_reducible apply writeSmx_keeps
    | with_reducible apply writePower_keeps
    | with_reducible apply writeStrip_keeps
    | with_reducible apply writeLc_keeps
    | with_reducible apply onlyIf_keeps
    | with_reducible apply writeLedgerCmd_keeps
    | with_reducible apply plainWrite_keeps
    | with_reducible apply writeArt_keeps
    | with_reducible apply writeArtWin_keeps
    | with_reducible apply writeRsv_keeps
    | with_reducible apply writeCp_keeps
    | with_reducible apply nextOr_keeps
    | with_reducible apply execRtData_keeps
    | with_reducible apply writeNi_keeps
    | with_reducible apply writeFqw_keeps
    | intro _ _
    | split

theorem execRegisterWrite_keeps {s0 s : State} {a0 a1 a2} (h : Keeps s0 s) : KeepsO s0
    (execRegisterWrite a0 a1 a2 s) := by
  unfold execRegisterWrite
  repeat' first
    | with_reducible assumption
    | with_reducible apply next_keeps
    | with_reducible apply regWrite_keeps
    | split

theorem countSafelight_keeps {s0 s : State} {a0 a1} (h : Keeps s0 s) : Keeps s0 (countSafelight a0 a1 s) := by
  unfold countSafelight
  repeat' first
    | with_reducible assumption
    | with_reducible rfl
    | with_reducible apply modLc_keeps
    | with_reducible apply flag_keeps
    | with_reducible apply satAdd_keeps
    | with_reducible apply onlyIf_keeps
    | intro _
    | split

theorem failUnit_keeps {s0 s : State} {a0} (h : Keeps s0 s) : Keeps s0 (failUnit a0 s) := by
  unfold failUnit
  repeat' first
    | with_reducible assumption
    | with_reducible rfl
    | (extract_lets +onlyGivenNames x)
    | with_reducible apply failBank_keeps
    | with_reducible apply loseImage_keeps
    | with_reducible apply foldl_keeps
    | (with_reducible apply mk_keeps; with_reducible assumption; all_goals with_reducible rfl)
    | intro _
    | split

theorem spineRead_keeps {s0 s : State} {a0 a1 a2} (h : Keeps s0 s) : Keeps s0 (spineRead a0 a1 a2 s) := by
  unfold spineRead
  repeat' first
    | with_reducible assumption
    | with_reducible rfl
    | (refine draw_pair ?_ (by with_reducible assumption))
    | (extract_lets +onlyGivenNames x)
    | with_reducible apply draw_keeps
    | with_reducible apply failUnit_keeps
    | with_reducible apply smxComplete_keeps

theorem smxTake_keeps {s0 s : State} {a0} (h : Keeps s0 s) : Keeps s0 (smxTake a0 s) := by
  unfold smxTake
  repeat' first
    | with_reducible assumption
    | with_reducible rfl
    | (extract_lets +onlyGivenNames x; refine Keeps.cut (a := s0) (x := x) ?_ (fun hx => ?_); (on_goal 1 => (unfold x; clear x)); (on_goal 2 => clear_value x))
    | (extract_lets +onlyGivenNames x)
    | with_reducible apply smxComplete_keeps
    | with_reducible apply sramWrite_keeps
    | with_reducible apply regWrite_keeps
    | with_reducible apply readEffect_keeps
    | with_reducible apply spineRead_keeps
    | with_reducible apply foldl_keeps
    | intro _ _ _
    | intro _ _
    | intro _
    | split

theorem bridgeDemand_keeps {s0 s : State} (h : Keeps s0 s) : Keeps s0 (bridgeDemand s) := by
  unfold bridgeDemand
  repeat' first
    | with_reducible assumption
    | (extract_lets +onlyGivenNames x; refine Keeps.cut (a := s0) (x := x) ?_ (fun hx => ?_); (on_goal 1 => (unfold x; clear x)); (on_goal 2 => clear_value x))
    | with_reducible apply onlyIf_keeps
    | with_reducible apply startF3Wake_keeps
    | with_reducible apply nextOr_keeps
    | with_reducible apply execEpWakeReq_keeps
    | intro _ _

theorem issueAccess_keeps {s0 s : State} {a0 a1 a2 a3 a4} (h : Keeps s0 s) : Keeps s0
    (issueAccess a0 a1 a2 a3 a4 s) := by
  unfold issueAccess
  repeat' first
    | with_reducible assumption
    | with_reducible apply wakeN1_keeps
    | with_reducible apply checkRequest_keeps
    | with_reducible apply takeEntry_keeps

theorem pushBridge_keeps {s0 s : State} {a0} (h : Keeps s0 s) : Keeps s0 (pushBridge a0 s) := by
  unfold pushBridge
  repeat' first
    | with_reducible assumption
    | (with_reducible apply mk_keeps; with_reducible assumption; all_goals with_reducible rfl)

theorem bridgeRefuse_keeps {s0 s : State} {a0 a1 a2} (h : Keeps s0 s) : Keeps s0 (bridgeRefuse a0 a1 a2 s) := by
  unfold bridgeRefuse
  repeat' first
    | with_reducible assumption
    | with_reducible apply drainBridge_keeps
    | with_reducible apply pushBridge_keeps

theorem bridgeTake_keeps {s0 s : State} {a0} (h : Keeps s0 s) : Keeps s0 (bridgeTake a0 s) := by
  unfold bridgeTake
  repeat' first
    | with_reducible assumption
    | (extract_lets +onlyGivenNames x)
    | with_reducible apply bridgeRefuse_keeps
    | with_reducible apply issueAccess_keeps
    | with_reducible apply pushBridge_keeps
    | split

theorem grantAccess_keeps {s0 s : State} {a0 a1} (h : Keeps s0 s) : Keeps s0 (grantAccess a0 a1 s) := by
  unfold grantAccess
  extract_lets +onlyGivenNames q t c u
  have ht : Keeps s0 t := Keeps.view h rfl rfl rfl rfl rfl rfl rfl rfl rfl rfl rfl rfl rfl
  have hu : Keeps s0 u := countSafelight_keeps ht
  clear_value u c
  split
  · split
    · exact bridgeRefuse_keeps hu
    · exact smxError_keeps hu
  · split
    · exact bridgeTake_keeps hu
    · exact smxTake_keeps hu

theorem smxCycle_keeps {s0 s : State} (h : Keeps s0 s) : Keeps s0 (smxCycle s) := by
  unfold smxCycle
  repeat' first
    | with_reducible assumption
    | with_reducible apply grantAccess_keeps
    | with_reducible apply onlyIf_keeps
    | with_reducible apply bridgeDemand_keeps
    | with_reducible apply foldl_keeps
    | intro _ _ _
    | split

theorem issueSmx_keeps {s0 s : State} {a0} (h : Keeps s0 s) : Keeps s0 (issueSmx a0 s) := by
  unfold issueSmx
  repeat' first
    | with_reducible assumption
    | (extract_lets +onlyGivenNames x; refine Keeps.cut (a := s0) (x := x) ?_ (fun hx => ?_); (on_goal 1 => (unfold x; clear x)); (on_goal 2 => clear_value x))
    | with_reducible apply onlyIf_keeps
    | with_reducible apply wrapAdd_keeps
    | with_reducible apply smxCycle_keeps
    | (with_reducible apply mk_keeps; with_reducible assumption; all_goals with_reducible rfl)
    | intro _ _
    | split

theorem execSmxAccess_keeps {s0 s : State} {a0} (h : Keeps s0 s) : KeepsO s0 (execSmxAccess a0 s) := by
  unfold execSmxAccess
  repeat' first
    | with_reducible assumption
    | with_reducible apply next_keeps
    | with_reducible apply issueSmx_keeps

theorem execSmxBridge_keeps {s0 s : State} {a0} (h : Keeps s0 s) : KeepsO s0 (execSmxBridge a0 s) := by
  unfold execSmxBridge
  repeat' first
    | with_reducible assumption
    | with_reducible apply next_keeps
    | with_reducible apply issueSmx_keeps
    | split

theorem failBridge_keeps {s0 s : State} {a0} (h : Keeps s0 s) : Keeps s0 (failBridge a0 s) := by
  unfold failBridge
  repeat' first
    | with_reducible assumption
    | with_reducible apply bridgeRefuse_keeps
    | with_reducible apply countSafelight_keeps
    | with_reducible apply foldl_keeps
    | (with_reducible apply mk_keeps; with_reducible assumption; all_goals with_reducible rfl)
    | intro _ _ _
    | split

theorem execFabWakeFailed_keeps {s0 s : State} (h : Keeps s0 s) : KeepsO s0 (execFabWakeFailed s) := by
  unfold execFabWakeFailed
  repeat' first
    | with_reducible assumption
    | (extract_lets +onlyGivenNames x; refine Keeps.cut (a := s0) (x := x) ?_ (fun hx => ?_); (on_goal 1 => (unfold x; clear x)); (on_goal 2 => clear_value x))
    | with_reducible apply next_keeps
    | with_reducible apply fset_keeps
    | with_reducible apply forEach_keeps
    | with_reducible apply failBridge_keeps
    | with_reducible apply flag_keeps
    | intro _ _ _
    | split

theorem slIssue_keeps {s0 s : State} {a0 a1 a2} (h : Keeps s0 s) : Keeps s0 (slIssue a0 a1 a2 s) := by
  unfold slIssue
  repeat' first
    | with_reducible assumption
    | with_reducible rfl
    | with_reducible apply modLc_keeps
    | with_reducible apply issueAccess_keeps
    | intro _
    | split

theorem slRetry_keeps {s0 s : State} (h : Keeps s0 s) : Keeps s0 (slRetry s) := by
  unfold slRetry
  repeat' first
    | with_reducible assumption
    | (extract_lets +onlyGivenNames x; refine Keeps.cut (a := s0) (x := x) ?_ (fun hx => ?_); (on_goal 1 => (unfold x; clear x)); (on_goal 2 => clear_value x))
    | with_reducible apply onlyIf_keeps
    | with_reducible apply nextOr_keeps
    | with_reducible apply execEpWakeReq_keeps
    | with_reducible apply slIssue_keeps
    | intro _ _
    | split

theorem slStart_keeps {s0 s : State} {a0} (h : Keeps s0 s) : Keeps s0 (slStart a0 s) := by
  unfold slStart
  repeat' first
    | with_reducible assumption
    | with_reducible rfl
    | (extract_lets +onlyGivenNames x; refine Keeps.cut (a := s0) (x := x) ?_ (fun hx => ?_); (on_goal 1 => (unfold x; clear x)); (on_goal 2 => clear_value x))
    | with_reducible apply modLc_keeps
    | with_reducible apply issueSmx_keeps
    | with_reducible apply slRetry_keeps
    | intro _
    | split

theorem tapRise_keeps {s0 s : State} {a0} (h : Keeps s0 s) : Keeps s0 (tapRise a0 s) := by
  unfold tapRise
  repeat' first
    | with_reducible assumption
    | with_reducible rfl
    | (refine draw_pair ?_ (by with_reducible assumption))
    | (extract_lets +onlyGivenNames x)
    | with_reducible apply modLc_keeps
    | with_reducible apply draw_keeps
    | with_reducible apply draw_keeps
    | intro _
    | split

theorem tapFall_keeps {s0 s : State} (h : Keeps s0 s) : Keeps s0 (tapFall s) := by
  unfold tapFall
  repeat' first
    | with_reducible assumption
    | with_reducible rfl
    | (extract_lets +onlyGivenNames x; refine Keeps.cut (a := s0) (x := x) ?_ (fun hx => ?_); (on_goal 1 => (unfold x; clear x)); (on_goal 2 => clear_value x))
    | with_reducible apply modLc_keeps
    | with_reducible apply onlyIf_keeps
    | with_reducible apply slStart_keeps
    | intro _
    | split

theorem tapClock_keeps {s0 s : State} {a1} (h : Keeps s0 s) : Keeps s0 (tapClock s a1) := by
  unfold tapClock
  repeat' first
    | with_reducible assumption
    | with_reducible rfl
    | with_reducible apply tapFall_keeps
    | with_reducible apply modLc_keeps
    | with_reducible apply tapRise_keeps
    | intro _

theorem execSlCtrl_keeps {s0 s : State} {a0 a1 a2} (h : Keeps s0 s) : KeepsO s0 (execSlCtrl a0 a1 a2 s) := by
  unfold execSlCtrl
  repeat' first
    | with_reducible assumption
    | with_reducible apply next_keeps
    | with_reducible apply tapClock_keeps
    | with_reducible apply foldl_keeps
    | split

theorem loadLk_keeps {s0 s : State} (h : Keeps s0 s) : Keeps s0 (loadLk s) := by
  unfold loadLk
  repeat' first
    | with_reducible assumption
    | with_reducible apply forEach_keeps
    | with_reducible apply fset_keeps
    | intro _ _ _
    | split

theorem heldInReset_keeps {s0 s : State} (h : Keeps s0 s) : Keeps s0 (heldInReset s) := by
  refine h.trans ⟨rfl, fun i => ⟨?_, Nat.le_refl _⟩⟩
  refine { sram := rfl, errLog := Nat.zero_le _, evtLog := Nat.zero_le _, faults := Nat.zero_le _, stripLog := Nat.zero_le _,
           refLog := Nat.zero_le _, slots := i.slots, boots := i.boots, lcCells := i.lcCells,
           running := (by intro t e; cases e), queue := ?_ }
  show 0 ≤ _; exact Nat.zero_le _

theorem resetSlots_keeps {s0 s : State} (h : Keeps s0 s) : Keeps s0 (resetSlots s) := by
  unfold resetSlots
  repeat' first
    | with_reducible assumption
    | (extract_lets +onlyGivenNames x; refine Keeps.cut (a := s0) (x := x) ?_ (fun hx => ?_); (on_goal 1 => (unfold x; clear x)); (on_goal 2 => clear_value x))
    | with_reducible apply fset_keeps
    | with_reducible apply modNi_keeps
    | with_reducible apply forEach_keeps
    | intro _ _ _

theorem loadLk_ledger (s : State) : (loadLk s).ledger = s.ledger := by
  unfold loadLk; split
  · exact forEach_frame (fun t => t.ledger) (fun _ _ => rfl)
  · rfl

theorem aonReset_keeps {s0 s : State} (h : Keeps s0 s) : Keeps s0 (aonReset s) := by
  unfold aonReset
  split; rename_i d t e
  have ht : Keeps s0 t := draw_pair (heldInReset_keeps h) e
  clear e
  extract_lets q u r v w
  have hu : Keeps s0 u := ht.trans ⟨rfl, fun i => ⟨{ i with boots := Nat.min_le_right _ _ }, Nat.le_refl _⟩⟩
  have hr : Keeps s0 r := resetSlots_keeps hu
  have hv : Keeps s0 v := loadLk_keeps (hr.trans ⟨rfl, fun i =>
    ⟨{ i with queue := Nat.zero_le _ }, Nat.le_refl _⟩⟩)
  have hw : Keeps s0 w := onlyIf_keeps hv (fun _ k => flag_keeps k)
  have hl : w.ledger.queue = [] := by
    have : w.ledger = v.ledger := by unfold w onlyIf; split <;> rfl
    rw [this]; unfold v; rw [loadLk_ledger]
  split
  · exact hw
  · refine enqueue_keeps hw (fun _ => ?_)
    rw [hl]; split <;> decide

theorem execAonReset_keeps {s0 s : State} (h : Keeps s0 s) : KeepsO s0 (execAonReset s) := by
  unfold execAonReset
  repeat' first
    | with_reducible assumption
    | with_reducible apply next_keeps
    | with_reducible apply setQuiesce_keeps
    | with_reducible apply aonReset_keeps

theorem execBootCopyDone_keeps {s0 s : State} {a0} (h : Keeps s0 s) : KeepsO s0 (execBootCopyDone a0 s) := by
  unfold execBootCopyDone
  split
  · exact next_keeps h
  · extract_lets q t u
    have ht : Keeps s0 t := h.trans ⟨rfl, fun i => ⟨{ i with sram := memWf_loaded s _ i.sram }, Nat.le_refl _⟩⟩
    have hu : Keeps s0 u := onlyIf_keeps ht (fun _ k => fset_keeps k)
    exact next_keeps (bootDone_keeps (setQuiesce_keeps hu))

theorem deadReset_keeps {s0 s : State} (h : Keeps s0 s) : Keeps s0 (deadReset s) :=
  Keeps.view (heldInReset_keeps h) rfl rfl rfl rfl rfl rfl rfl rfl rfl rfl rfl rfl rfl

theorem execTestModeFall_keeps {s0 s : State} (h : Keeps s0 s) : KeepsO s0 (execTestModeFall s) := by
  unfold execTestModeFall
  extract_lets q t
  have ht : Keeps s0 t := Keeps.view h rfl rfl rfl rfl rfl rfl rfl rfl rfl rfl rfl rfl rfl
  split
  · exact next_keeps (Keeps.view (heldInReset_keeps ht) rfl rfl rfl rfl rfl rfl rfl rfl rfl rfl rfl rfl rfl)
  · exact next_keeps ht

theorem holdFlags_keeps {s0 s : State} {a0} (h : Keeps s0 s) : Keeps s0 (holdFlags a0 s) := by
  unfold holdFlags
  repeat' first
    | with_reducible assumption
    | with_reducible apply forEach_keeps
    | with_reducible apply fsetB_keeps
    | intro _ _ _
    | split

theorem movePtr_keeps {s0 s : State} {a0 a1 a2} (h : Keeps s0 s) : Keeps s0 (movePtr a0 a1 a2 s) := by
  unfold movePtr
  repeat' first
    | with_reducible assumption
    | with_reducible apply modNi_keeps
    | split

theorem countWaits_keeps {s0 s : State} {a0 a1 a2} (h : Keeps s0 s) : Keeps s0 (countWaits a0 a1 a2 s) := by
  unfold countWaits
  repeat' first
    | with_reducible assumption
    | with_reducible apply forEach_keeps
    | with_reducible apply modEntry_keeps
    | intro _ _ _

theorem chargeRequest_keeps {s0 s : State} {a0 a1 a2} (h : Keeps s0 s) : Keeps s0 (chargeRequest a0 a1 a2 s) := by
  unfold chargeRequest
  repeat' first
    | with_reducible assumption
    | with_reducible apply countClass_keeps
    | with_reducible apply setTokens_keeps
    | with_reducible apply wrapAdd_keeps
    | with_reducible apply maxIn_keeps
    | with_reducible apply fset_keeps
    | split

theorem openEntry_keeps {s0 s : State} {a0 a1 a2} (h : Keeps s0 s) : Keeps s0 (openEntry a0 a1 a2 s) := by
  unfold openEntry
  repeat' first
    | with_reducible assumption
    | with_reducible apply chargeRequest_keeps
    | with_reducible apply forEach_keeps
    | with_reducible apply pushReady_keeps
    | with_reducible apply setEntry_keeps
    | intro _ _ _

theorem injectLeg0_keeps {s0 s : State} {a0 a1} (h : Keeps s0 s) : Keeps s0 (injectLeg0 a0 a1 s) := by
  unfold injectLeg0
  repeat' first
    | with_reducible assumption
    | with_reducible apply grantNi_keeps
    | split

theorem execAdmission_keeps {s0 s : State} {a0} (h : Keeps s0 s) : KeepsO s0 (execAdmission a0 s) := by
  unfold execAdmission
  repeat' first
    | with_reducible assumption
    | (extract_lets +onlyGivenNames x; refine Keeps.cut (a := s0) (x := x) ?_ (fun hx => ?_); (on_goal 1 => (unfold x; clear x)); (on_goal 2 => clear_value x))
    | (extract_lets +onlyGivenNames x; clear_value x)
    | with_reducible apply next_keeps
    | with_reducible apply holdFlags_keeps
    | with_reducible apply onlyIf_keeps
    | with_reducible apply refillTick_keeps
    | with_reducible apply countWaits_keeps
    | with_reducible apply movePtr_keeps
    | with_reducible apply openEntry_keeps
    | with_reducible apply modNi_keeps
    | with_reducible apply injectLeg0_keeps
    | split

theorem endRouter_keeps {s0 s : State} {a0} (h : Keeps s0 s) : Keeps s0 (endRouter a0 s) := by
  unfold endRouter
  repeat' first
    | with_reducible assumption
    | with_reducible apply retryHanded_keeps
    | with_reducible apply modRouter_keeps
    | with_reducible apply beginCycle_keeps

theorem endChans_keeps {s0 s : State} (h : Keeps s0 s) : Keeps s0 (endChans s) := by
  unfold endChans
  repeat' first
    | with_reducible assumption
    | (with_reducible apply mk_keeps; with_reducible assumption; all_goals with_reducible rfl)

theorem idleNi_keeps {s0 s : State} {a0} (h : Keeps s0 s) : Keeps s0 (idleNi a0 s) := by
  unfold idleNi
  repeat' first
    | with_reducible assumption
    | with_reducible apply modNi_keeps
    | split

theorem endNi_keeps {s0 s : State} {a0} (h : Keeps s0 s) : Keeps s0 (endNi a0 s) := by
  unfold endNi
  repeat' first
    | with_reducible assumption
    | (extract_lets +onlyGivenNames x; refine Keeps.cut (a := s0) (x := x) ?_ (fun hx => ?_); (on_goal 1 => (unfold x; clear x)); (on_goal 2 => clear_value x))
    | with_reducible apply countTei_keeps
    | with_reducible apply countLocal_keeps
    | with_reducible apply idleNi_keeps
    | with_reducible apply modNi_keeps
    | with_reducible apply holdFlags_keeps
    | split

theorem sendAck_keeps {s0 s : State} {a0} (h : Keeps s0 s) : Keeps s0 (sendAck a0 s) := by
  unfold sendAck
  repeat' first
    | with_reducible assumption
    | with_reducible apply modChan_keeps

theorem sendIdle_keeps {s0 s : State} {a0} (h : Keeps s0 s) : Keeps s0 (sendIdle a0 s) := by
  unfold sendIdle
  repeat' first
    | with_reducible assumption
    | (extract_lets +onlyGivenNames x)
    | with_reducible apply sendFlit_keeps
    | with_reducible apply sendAck_keeps
    | split

theorem passTime_keeps {s0 s : State} {a0} (h : Keeps s0 s) : Keeps s0 (passTime a0 s) := by
  unfold passTime
  repeat' first
    | with_reducible assumption
    | with_reducible rfl
    | (extract_lets +onlyGivenNames x; refine Keeps.cut (a := s0) (x := x) ?_ (fun hx => ?_); (on_goal 1 => (unfold x; clear x)); (on_goal 2 => clear_value x))
    | (extract_lets +onlyGivenNames x)
    | with_reducible apply foldl_keeps
    | (with_reducible apply mk_keeps; with_reducible assumption; all_goals with_reducible rfl)

theorem countQueued_keeps {s0 s : State} (h : Keeps s0 s) : Keeps s0 (countQueued s) := by
  unfold countQueued
  repeat' first
    | with_reducible assumption
    | with_reducible apply forEach_keeps
    | with_reducible apply wrapAdd_keeps
    | intro _ _ _
    | split

theorem endCommits_keeps {s0 s : State} (h : Keeps s0 s) : Keeps s0 (endCommits s) := by
  unfold endCommits
  repeat' first
    | with_reducible assumption
    | with_reducible rfl
    | (extract_lets +onlyGivenNames x; refine Keeps.cut (a := s0) (x := x) ?_ (fun hx => ?_); (on_goal 1 => (unfold x; clear x)); (on_goal 2 => clear_value x))
    | (extract_lets +onlyGivenNames x)
    | with_reducible apply forEach_keeps
    | with_reducible apply modNi_keeps
    | with_reducible apply modTime_keeps
    | with_reducible apply foldl_keeps
    | (with_reducible apply mk_keeps; with_reducible assumption; all_goals with_reducible rfl)
    | intro _ _ _
    | intro _ _
    | intro _

theorem wakeDemanded_keeps {s0 s : State} {a0} (h : Keeps s0 s) : Keeps s0 (wakeDemanded a0 s) := by
  unfold wakeDemanded
  repeat' first
    | with_reducible assumption
    | with_reducible apply onlyIf_keeps
    | with_reducible apply startWake_keeps
    | intro _ _

theorem idleCycle_keeps {s0 s : State} (h : Keeps s0 s) : Keeps s0 (idleCycle s) := by
  unfold idleCycle
  repeat' first
    | with_reducible assumption
    | with_reducible rfl
    | (extract_lets +onlyGivenNames x; refine Keeps.cut (a := s0) (x := x) ?_ (fun hx => ?_); (on_goal 1 => (unfold x; clear x)); (on_goal 2 => clear_value x))
    | (extract_lets +onlyGivenNames x)
    | with_reducible apply deadReset_keeps
    | with_reducible apply forEach_keeps
    | with_reducible apply endRouter_keeps
    | with_reducible apply sendIdle_keeps
    | with_reducible apply endChans_keeps
    | with_reducible apply endNi_keeps
    | with_reducible apply wakeDemanded_keeps
    | with_reducible apply countQueued_keeps
    | with_reducible apply raiseHold_keeps
    | with_reducible apply readyUnsigned_keeps
    | with_reducible apply slRetry_keeps
    | with_reducible apply smxCycle_keeps
    | with_reducible apply passTime_keeps
    | with_reducible apply endCommits_keeps
    | with_reducible apply writeLate_keeps
    | with_reducible apply foldl_keeps
    | (with_reducible apply mk_keeps; with_reducible assumption; all_goals with_reducible rfl)
    | intro _ _ _
    | intro _
    | split

theorem portAnswer_keeps {s0 s : State} {a0 a1 a2} (h : Keeps s0 s) : Keeps s0 (portAnswer a0 a1 a2 s) := by
  unfold portAnswer
  repeat' first
    | with_reducible assumption
    | with_reducible rfl
    | (extract_lets +onlyGivenNames x)
    | with_reducible apply errNi_keeps
    | with_reducible apply pushReady_keeps
    | with_reducible apply foldl_keeps
    | intro _ _ _
    | intro _ _
    | intro _
    | split

theorem portCpl_keeps {s0 s : State} {a0 a1} (h : Keeps s0 s) : Keeps s0 (portCpl a0 a1 s) := by
  unfold portCpl
  repeat' first
    | with_reducible assumption
    | with_reducible apply portAnswer_keeps

theorem portTiedOff_keeps {s0 s : State} {a0 a1} (h : Keeps s0 s) : Keeps s0 (portTiedOff a0 a1 s) := by
  unfold portTiedOff
  repeat' first
    | with_reducible assumption
    | (extract_lets +onlyGivenNames x; refine Keeps.cut (a := s0) (x := x) ?_ (fun hx => ?_); (on_goal 1 => (unfold x; clear x)); (on_goal 2 => clear_value x))
    | with_reducible apply satAdd_keeps
    | with_reducible apply errNi_keeps
    | with_reducible apply pushAnswer_keeps
    | split

theorem portDiscard_keeps {s0 s : State} {a0 a1} (h : Keeps s0 s) : Keeps s0 (portDiscard a0 a1 s) := by
  unfold portDiscard
  repeat' first
    | with_reducible assumption
    | with_reducible apply errNi_keeps

theorem portTake_keeps {s0 s : State} {a0 a1 a2} (h : Keeps s0 s) (hf : ∀ a t, Keeps s0 t → Keeps s0 (a2 a t)):
    Keeps s0 (portTake a0 a1 a2 s) := by
  unfold portTake
  repeat' first
    | with_reducible assumption
    | (extract_lets +onlyGivenNames x; refine Keeps.cut (a := s0) (x := x) ?_ (fun hx => ?_); (on_goal 1 => (unfold x; clear x)); (on_goal 2 => clear_value x))
    | with_reducible apply consumePacket_keeps
    | with_reducible apply wakeN1_keeps
    | with_reducible apply portDiscard_keeps
    | with_reducible apply portTiedOff_keeps
    | with_reducible apply hf
    | split

theorem timeAnswer_keeps {s0 s : State} {a0} (h : Keeps s0 s) : Keeps s0 (timeAnswer a0 s) := by
  unfold timeAnswer
  repeat' first
    | with_reducible assumption
    | with_reducible apply portAnswer_keeps
    | with_reducible apply portCpl_keeps
    | split

theorem powerAnswer_keeps {s0 s : State} {a0} (h : Keeps s0 s) : Keeps s0 (powerAnswer a0 s) := by
  unfold powerAnswer
  repeat' first
    | with_reducible assumption
    | with_reducible apply portAnswer_keeps
    | with_reducible apply pushAnswer_keeps
    | split

theorem ledgerAnswer_keeps {s0 s : State} {a0} (h : Keeps s0 s) : Keeps s0 (ledgerAnswer a0 s) := by
  unfold ledgerAnswer
  repeat' first
    | with_reducible assumption
    | with_reducible apply portAnswer_keeps
    | with_reducible apply portCpl_keeps
    | split

theorem execTimePortRead_keeps {s0 s : State} {a0} (h : Keeps s0 s) : KeepsO s0 (execTimePortRead a0 s) := by
  unfold execTimePortRead
  repeat' first
    | with_reducible assumption
    | with_reducible apply next_keeps
    | with_reducible apply portTake_keeps
    | with_reducible apply timeAnswer_keeps
    | intro _ _ _

theorem execPowerPortRead_keeps {s0 s : State} {a0} (h : Keeps s0 s) : KeepsO s0 (execPowerPortRead a0 s) := by
  unfold execPowerPortRead
  repeat' first
    | with_reducible assumption
    | with_reducible apply next_keeps
    | with_reducible apply portTake_keeps
    | with_reducible apply powerAnswer_keeps
    | intro _ _ _

theorem execLedgerPortRead_keeps {s0 s : State} {a0} (h : Keeps s0 s) : KeepsO s0 (execLedgerPortRead a0 s) := by
  unfold execLedgerPortRead
  repeat' first
    | with_reducible assumption
    | with_reducible apply next_keeps
    | with_reducible apply portTiedOff_keeps
    | with_reducible apply consumePacket_keeps
    | with_reducible apply wakeN1_keeps
    | with_reducible apply portTake_keeps
    | with_reducible apply ledgerAnswer_keeps
    | intro _ _ _
    | split

theorem exec_keeps {s0 s : State} {a0} (h : Keeps s0 s) : KeepsO s0 (exec a0 s) := by
  unfold exec
  repeat' first
    | with_reducible assumption
    | with_reducible rfl
    | (extract_lets +onlyGivenNames x)
    | with_reducible apply next_keeps
    | with_reducible apply execAonReset_keeps
    | with_reducible apply execBootCopyDone_keeps
    | with_reducible apply execBootDone_keeps
    | with_reducible apply execFlitReceive_keeps
    | with_reducible apply execReplay_keeps
    | with_reducible apply execReplayTo_keeps
    | with_reducible apply execRetrainDone_keeps
    | with_reducible apply execTrainDone_keeps
    | with_reducible apply execHeadArrive_keeps
    | with_reducible apply execBuildStoreConsume_keeps
    | with_reducible apply execFlitGrant_keeps
    | with_reducible apply execStarveLimit_keeps
    | with_reducible apply execAbsorb_keeps
    | with_reducible apply execFlipArm_keeps
    | with_reducible apply execFlipDisarm_keeps
    | with_reducible apply execFlipRearm_keeps
    | with_reducible apply execRouteFlip_keeps
    | with_reducible apply execDrainSample_keeps
    | with_reducible apply execDrainStall_keeps
    | with_reducible apply execRtData_keeps
    | with_reducible apply execTeiRequest_keeps
    | with_reducible apply execArtLookup_keeps
    | with_reducible apply execVerdictReturn_keeps
    | with_reducible apply execAdmission_keeps
    | with_reducible apply execNiInject_keeps
    | with_reducible apply execResponseArrive_keeps
    | with_reducible apply execTeiDeliver_keeps
    | with_reducible apply execDeliveryCredit_keeps
    | with_reducible apply execWaypointAccept_keeps
    | with_reducible apply execTeiResponse_keeps
    | with_reducible apply execTeiRelay_keeps
    | with_reducible apply execTeiFetch_keeps
    | with_reducible apply execLegacyTimeout_keeps
    | with_reducible apply execSadWrite_keeps
    | with_reducible apply execClsW1_keeps
    | with_reducible apply execDmW1_keeps
    | with_reducible apply execTbRefLoss_keeps
    | with_reducible apply execAcquire_keeps
    | with_reducible apply execTbFrame_keeps
    | with_reducible apply execCodeLoss_keeps
    | with_reducible apply execAcqFail_keeps
    | with_reducible apply execAlign_keeps
    | with_reducible apply execDelayChange_keeps
    | with_reducible apply execStepAnnounced_keeps
    | with_reducible apply execSlewStep_keeps
    | with_reducible apply execSwFreq_keeps
    | with_reducible apply execSwPhase_keeps
    | with_reducible apply execSwWdogExpired_keeps
    | with_reducible apply execMtimeSet_keeps
    | with_reducible apply execHoldoverLong_keeps
    | with_reducible apply execTbSnap_keeps
    | with_reducible apply execTimerArm_keeps
    | with_reducible apply execTimerDisarm_keeps
    | with_reducible apply execTimerRearm_keeps
    | with_reducible apply execTimerFire_keeps
    | with_reducible apply execEvtLogPop_keeps
    | with_reducible apply execTimePortRead_keeps
    | with_reducible apply execRefillTick_keeps
    | with_reducible apply execFqRate_keeps
    | with_reducible apply execFqDepth_keeps
    | with_reducible apply execReload_keeps
    | with_reducible apply execClrMax_keeps
    | with_reducible apply execClrAllMax_keeps
    | with_reducible apply execFqQuota_keeps
    | with_reducible apply execTelemetrySample_keeps
    | with_reducible apply execGateEdge_keeps
    | with_reducible apply execGateLead_keeps
    | with_reducible apply execTakeover_keeps
    | with_reducible apply execRsvAdmit_keeps
    | with_reducible apply execRsvRelease_keeps
    | with_reducible apply execRsvCmdDone_keeps
    | with_reducible apply execRecheck_keeps
    | with_reducible apply execLoadHeldClear_keeps
    | with_reducible apply execDerateAccept_keeps
    | with_reducible apply execArtwW3_keeps
    | with_reducible apply execArtCount_keeps
    | with_reducible apply execValidate_keeps
    | with_reducible apply execCopy_keeps
    | with_reducible apply execClear_keeps
    | with_reducible apply execCmdDone_keeps
    | with_reducible apply execSwapArm_keeps
    | with_reducible apply execSwapDisarm_keeps
    | with_reducible apply execSwapRearm_keeps
    | with_reducible apply execArtSwap_keeps
    | with_reducible apply execArtDrainSample_keeps
    | with_reducible apply execArtDrainStall_keeps
    | with_reducible apply execFlush_keeps
    | with_reducible apply execFaultRecordPop_keeps
    | with_reducible apply execWdogAccept_keeps
    | with_reducible apply execWdogResp_keeps
    | with_reducible apply execIsolate_keeps
    | with_reducible apply execSwept_keeps
    | with_reducible apply execFenceGraceEnd_keeps
    | with_reducible apply execReadmit_keeps
    | with_reducible apply execReadmitReturn_keeps
    | with_reducible apply execRemoval_keeps
    | with_reducible apply execFence_keeps
    | with_reducible apply execWarnGlitches_keeps
    | with_reducible apply execFuseTrip_keeps
    | with_reducible apply execSlotInsert_keeps
    | with_reducible apply execHoldoff_keeps
    | with_reducible apply execErrLogPop_keeps
    | with_reducible apply execEpReset_keeps
    | with_reducible apply execEpReadyFall_keeps
    | with_reducible apply execTeiResetRelease_keeps
    | with_reducible apply execTeiUp_keeps
    | with_reducible apply execPwrAck_keeps
    | with_reducible apply execPwrNak_keeps
    | with_reducible apply execEpWakeReq_keeps
    | with_reducible apply execSetLevel_keeps
    | with_reducible apply execLevelRecheckDone_keeps
    | with_reducible apply execPowerGood_keeps
    | with_reducible apply execFlowHold_keeps
    | with_reducible apply execPllRelock_keeps
    | with_reducible apply execLevelRetrain_keeps
    | with_reducible apply execRampDownDone_keeps
    | with_reducible apply execLevelFailed_keeps
    | with_reducible apply execN1Entry_keeps
    | with_reducible apply execSleepOk_keeps
    | with_reducible apply execNiSleep_keeps
    | with_reducible apply execNiDrained_keeps
    | with_reducible apply execAckTimeout_keeps
    | with_reducible apply execDrainTimeout_keeps
    | with_reducible apply execFlushAck_keeps
    | with_reducible apply execFlushTimeout_keeps
    | with_reducible apply execImageCrcStored_keeps
    | with_reducible apply execN2Entered_keeps
    | with_reducible apply execNiWake_keeps
    | with_reducible apply execNiSupplyGood_keeps
    | with_reducible apply execImageRestore_keeps
    | with_reducible apply execWakeLinkUp_keeps
    | with_reducible apply execWakeTimeout_keeps
    | with_reducible apply execConfigValid_keeps
    | with_reducible apply execFabSleep_keeps
    | with_reducible apply execF3NoReturn_keeps
    | with_reducible apply execF3Entered_keeps
    | with_reducible apply execFabWake_keeps
    | with_reducible apply execF3PowerGood_keeps
    | with_reducible apply execF3WakeDone_keeps
    | with_reducible apply execFabWakeFailed_keeps
    | with_reducible apply execPowerPortRead_keeps
    | with_reducible apply execStripWindow_keeps
    | with_reducible apply execWindowClose_keeps
    | with_reducible apply execSlicePrepare_keeps
    | with_reducible apply execSliceTest_keeps
    | with_reducible apply execQuietTimeout_keeps
    | with_reducible apply execTestEnd_keeps
    | with_reducible apply execSliceDone_keeps
    | with_reducible apply execBurn_keeps
    | with_reducible apply execFuseDone_keeps
    | with_reducible apply execTestMode_keeps
    | with_reducible apply execZeroiseWait_keeps
    | with_reducible apply execScanAllowed_keeps
    | with_reducible apply execLedgerEpoch_keeps
    | with_reducible apply execEpochClose_keeps
    | with_reducible apply execReadout_keeps
    | with_reducible apply execPop_keeps
    | with_reducible apply execRecordReady_keeps
    | with_reducible apply execLedgerPortRead_keeps
    | with_reducible apply execLcRequest_keeps
    | with_reducible apply execNonceGen_keeps
    | with_reducible apply execProductionDone_keeps
    | with_reducible apply execRmaDone_keeps
    | with_reducible apply execSlCtrl_keeps
    | with_reducible apply execSmxAccess_keeps
    | with_reducible apply execSmxBridge_keeps
    | with_reducible apply execCommit_keeps
    | with_reducible apply execAbort_keeps
    | with_reducible apply execQuiesce_keeps
    | with_reducible apply execQuiesced_keeps
    | with_reducible apply execGcJoin_keeps
    | with_reducible apply execGcLeave_keeps
    | with_reducible apply execGcArm_keeps
    | with_reducible apply execGcDisarm_keeps
    | with_reducible apply execGcRearm_keeps
    | with_reducible apply execGlobalCommit_keeps
    | with_reducible apply execIrqSet_keeps
    | with_reducible apply execRegisterWrite_keeps
    | with_reducible apply execPwrWarnNRise_keeps
    | with_reducible apply execFuseTrippedFall_keeps
    | with_reducible apply execTestModeFall_keeps
    | with_reducible apply execTsLogPop_keeps
    | with_reducible apply execMicrosecondTick_keeps
    | with_reducible apply foldl_keeps
    | (with_reducible apply mk_keeps; with_reducible assumption; all_goals with_reducible rfl)
    | intro _
    | split

end Sys2Proof.Machine
end

