-- ==== Sys2Proof/Laws/State.lean ====
section
/-! SUPPORT. One lemma for each field of State under each named update, so that no proof unfolds a record update. -/

namespace Sys2Proof.Machine

variable (s : State)

/-! ## fset -/

@[simp] theorem fset_pending (page : Nat) (f : Fld) (v i : Nat) : (fset page f v s i).pending = s.pending := rfl
@[simp] theorem fset_free (page : Nat) (f : Fld) (v i : Nat) : (fset page f v s i).free = s.free := rfl
@[simp] theorem fset_cyc (page : Nat) (f : Fld) (v i : Nat) : (fset page f v s i).cyc = s.cyc := rfl
@[simp] theorem fset_ticks (page : Nat) (f : Fld) (v i : Nat) : (fset page f v s i).ticks = s.ticks := rfl
@[simp] theorem fset_sixths (page : Nat) (f : Fld) (v i : Nat) : (fset page f v s i).sixths = s.sixths := rfl
@[simp] theorem fset_us (page : Nat) (f : Fld) (v i : Nat) : (fset page f v s i).us = s.us := rfl
@[simp] theorem fset_mtime (page : Nat) (f : Fld) (v i : Nat) : (fset page f v s i).mtime = s.mtime := rfl
@[simp] theorem fset_pins (page : Nat) (f : Fld) (v i : Nat) : (fset page f v s i).pins = s.pins := rfl
@[simp] theorem fset_regs (page : Nat) (f : Fld) (v i : Nat) : (fset page f v s i).regs = tput (resetOf page f i) s.regs (fkey page f i) (v % 2 ^ f.w) := rfl
@[simp] theorem fset_staged (page : Nat) (f : Fld) (v i : Nat) : (fset page f v s i).staged = s.staged := rfl
@[simp] theorem fset_stagedNow (page : Nat) (f : Fld) (v i : Nat) : (fset page f v s i).stagedNow = s.stagedNow := rfl
@[simp] theorem fset_chans (page : Nat) (f : Fld) (v i : Nat) : (fset page f v s i).chans = s.chans := rfl
@[simp] theorem fset_routers (page : Nat) (f : Fld) (v i : Nat) : (fset page f v s i).routers = s.routers := rfl
@[simp] theorem fset_rt (page : Nat) (f : Fld) (v i : Nat) : (fset page f v s i).rt = s.rt := rfl
@[simp] theorem fset_rtImg (page : Nat) (f : Fld) (v i : Nat) : (fset page f v s i).rtImg = s.rtImg := rfl
@[simp] theorem fset_nis (page : Nat) (f : Fld) (v i : Nat) : (fset page f v s i).nis = s.nis := rfl
@[simp] theorem fset_time (page : Nat) (f : Fld) (v i : Nat) : (fset page f v s i).time = s.time := rfl
@[simp] theorem fset_art (page : Nat) (f : Fld) (v i : Nat) : (fset page f v s i).art = s.art := rfl
@[simp] theorem fset_fence (page : Nat) (f : Fld) (v i : Nat) : (fset page f v s i).fence = s.fence := rfl
@[simp] theorem fset_artHold (page : Nat) (f : Fld) (v i : Nat) : (fset page f v s i).artHold = s.artHold := rfl
@[simp] theorem fset_artCmd (page : Nat) (f : Fld) (v i : Nat) : (fset page f v s i).artCmd = s.artCmd := rfl
@[simp] theorem fset_artWait (page : Nat) (f : Fld) (v i : Nat) : (fset page f v s i).artWait = s.artWait := rfl
@[simp] theorem fset_artLongAt (page : Nat) (f : Fld) (v i : Nat) : (fset page f v s i).artLongAt = s.artLongAt := rfl
@[simp] theorem fset_lookups (page : Nat) (f : Fld) (v i : Nat) : (fset page f v s i).lookups = s.lookups := rfl
@[simp] theorem fset_faults (page : Nat) (f : Fld) (v i : Nat) : (fset page f v s i).faults = s.faults := rfl
@[simp] theorem fset_swapUs (page : Nat) (f : Fld) (v i : Nat) : (fset page f v s i).swapUs = s.swapUs := rfl
@[simp] theorem fset_swapTick (page : Nat) (f : Fld) (v i : Nat) : (fset page f v s i).swapTick = s.swapTick := rfl
@[simp] theorem fset_swapStalled (page : Nat) (f : Fld) (v i : Nat) : (fset page f v s i).swapStalled = s.swapStalled := rfl
@[simp] theorem fset_unsure (page : Nat) (f : Fld) (v i : Nat) : (fset page f v s i).unsure = s.unsure := rfl
@[simp] theorem fset_unsureGen (page : Nat) (f : Fld) (v i : Nat) : (fset page f v s i).unsureGen = s.unsureGen := rfl
@[simp] theorem fset_flipUs (page : Nat) (f : Fld) (v i : Nat) : (fset page f v s i).flipUs = s.flipUs := rfl
@[simp] theorem fset_flipTick (page : Nat) (f : Fld) (v i : Nat) : (fset page f v s i).flipTick = s.flipTick := rfl
@[simp] theorem fset_flipStalled (page : Nat) (f : Fld) (v i : Nat) : (fset page f v s i).flipStalled = s.flipStalled := rfl
@[simp] theorem fset_swapLim (page : Nat) (f : Fld) (v i : Nat) : (fset page f v s i).swapLim = s.swapLim := rfl
@[simp] theorem fset_flipLim (page : Nat) (f : Fld) (v i : Nat) : (fset page f v s i).flipLim = s.flipLim := rfl
@[simp] theorem fset_rsvRun (page : Nat) (f : Fld) (v i : Nat) : (fset page f v s i).rsvRun = s.rsvRun := rfl
@[simp] theorem fset_rsvWait (page : Nat) (f : Fld) (v i : Nat) : (fset page f v s i).rsvWait = s.rsvWait := rfl
@[simp] theorem fset_rsvCfgChg (page : Nat) (f : Fld) (v i : Nat) : (fset page f v s i).rsvCfgChg = s.rsvCfgChg := rfl
@[simp] theorem fset_errLog (page : Nat) (f : Fld) (v i : Nat) : (fset page f v s i).errLog = s.errLog := rfl
@[simp] theorem fset_stableUs (page : Nat) (f : Fld) (v i : Nat) : (fset page f v s i).stableUs = s.stableUs := rfl
@[simp] theorem fset_slots (page : Nat) (f : Fld) (v i : Nat) : (fset page f v s i).slots = s.slots := rfl
@[simp] theorem fset_power (page : Nat) (f : Fld) (v i : Nat) : (fset page f v s i).power = s.power := rfl
@[simp] theorem fset_strip (page : Nat) (f : Fld) (v i : Nat) : (fset page f v s i).strip = s.strip := rfl
@[simp] theorem fset_fuses (page : Nat) (f : Fld) (v i : Nat) : (fset page f v s i).fuses = s.fuses := rfl
@[simp] theorem fset_ledger (page : Nat) (f : Fld) (v i : Nat) : (fset page f v s i).ledger = s.ledger := rfl
@[simp] theorem fset_lc (page : Nat) (f : Fld) (v i : Nat) : (fset page f v s i).lc = s.lc := rfl
@[simp] theorem fset_smx (page : Nat) (f : Fld) (v i : Nat) : (fset page f v s i).smx = s.smx := rfl
@[simp] theorem fset_mem (page : Nat) (f : Fld) (v i : Nat) : (fset page f v s i).mem = s.mem := rfl
@[simp] theorem fset_refillAt (page : Nat) (f : Fld) (v i : Nat) : (fset page f v s i).refillAt = s.refillAt := rfl

/-! ## setChan -/

@[simp] theorem setChan_pending (c : Nat) (x : Chan) : (setChan c x s).pending = s.pending := rfl
@[simp] theorem setChan_free (c : Nat) (x : Chan) : (setChan c x s).free = s.free := rfl
@[simp] theorem setChan_cyc (c : Nat) (x : Chan) : (setChan c x s).cyc = s.cyc := rfl
@[simp] theorem setChan_ticks (c : Nat) (x : Chan) : (setChan c x s).ticks = s.ticks := rfl
@[simp] theorem setChan_sixths (c : Nat) (x : Chan) : (setChan c x s).sixths = s.sixths := rfl
@[simp] theorem setChan_us (c : Nat) (x : Chan) : (setChan c x s).us = s.us := rfl
@[simp] theorem setChan_mtime (c : Nat) (x : Chan) : (setChan c x s).mtime = s.mtime := rfl
@[simp] theorem setChan_pins (c : Nat) (x : Chan) : (setChan c x s).pins = s.pins := rfl
@[simp] theorem setChan_regs (c : Nat) (x : Chan) : (setChan c x s).regs = s.regs := rfl
@[simp] theorem setChan_staged (c : Nat) (x : Chan) : (setChan c x s).staged = s.staged := rfl
@[simp] theorem setChan_stagedNow (c : Nat) (x : Chan) : (setChan c x s).stagedNow = s.stagedNow := rfl
@[simp] theorem setChan_chans (c : Nat) (x : Chan) : (setChan c x s).chans = tput {} s.chans c x := rfl
@[simp] theorem setChan_routers (c : Nat) (x : Chan) : (setChan c x s).routers = s.routers := rfl
@[simp] theorem setChan_rt (c : Nat) (x : Chan) : (setChan c x s).rt = s.rt := rfl
@[simp] theorem setChan_rtImg (c : Nat) (x : Chan) : (setChan c x s).rtImg = s.rtImg := rfl
@[simp] theorem setChan_nis (c : Nat) (x : Chan) : (setChan c x s).nis = s.nis := rfl
@[simp] theorem setChan_time (c : Nat) (x : Chan) : (setChan c x s).time = s.time := rfl
@[simp] theorem setChan_art (c : Nat) (x : Chan) : (setChan c x s).art = s.art := rfl
@[simp] theorem setChan_fence (c : Nat) (x : Chan) : (setChan c x s).fence = s.fence := rfl
@[simp] theorem setChan_artHold (c : Nat) (x : Chan) : (setChan c x s).artHold = s.artHold := rfl
@[simp] theorem setChan_artCmd (c : Nat) (x : Chan) : (setChan c x s).artCmd = s.artCmd := rfl
@[simp] theorem setChan_artWait (c : Nat) (x : Chan) : (setChan c x s).artWait = s.artWait := rfl
@[simp] theorem setChan_artLongAt (c : Nat) (x : Chan) : (setChan c x s).artLongAt = s.artLongAt := rfl
@[simp] theorem setChan_lookups (c : Nat) (x : Chan) : (setChan c x s).lookups = s.lookups := rfl
@[simp] theorem setChan_faults (c : Nat) (x : Chan) : (setChan c x s).faults = s.faults := rfl
@[simp] theorem setChan_swapUs (c : Nat) (x : Chan) : (setChan c x s).swapUs = s.swapUs := rfl
@[simp] theorem setChan_swapTick (c : Nat) (x : Chan) : (setChan c x s).swapTick = s.swapTick := rfl
@[simp] theorem setChan_swapStalled (c : Nat) (x : Chan) : (setChan c x s).swapStalled = s.swapStalled := rfl
@[simp] theorem setChan_unsure (c : Nat) (x : Chan) : (setChan c x s).unsure = s.unsure := rfl
@[simp] theorem setChan_unsureGen (c : Nat) (x : Chan) : (setChan c x s).unsureGen = s.unsureGen := rfl
@[simp] theorem setChan_flipUs (c : Nat) (x : Chan) : (setChan c x s).flipUs = s.flipUs := rfl
@[simp] theorem setChan_flipTick (c : Nat) (x : Chan) : (setChan c x s).flipTick = s.flipTick := rfl
@[simp] theorem setChan_flipStalled (c : Nat) (x : Chan) : (setChan c x s).flipStalled = s.flipStalled := rfl
@[simp] theorem setChan_swapLim (c : Nat) (x : Chan) : (setChan c x s).swapLim = s.swapLim := rfl
@[simp] theorem setChan_flipLim (c : Nat) (x : Chan) : (setChan c x s).flipLim = s.flipLim := rfl
@[simp] theorem setChan_rsvRun (c : Nat) (x : Chan) : (setChan c x s).rsvRun = s.rsvRun := rfl
@[simp] theorem setChan_rsvWait (c : Nat) (x : Chan) : (setChan c x s).rsvWait = s.rsvWait := rfl
@[simp] theorem setChan_rsvCfgChg (c : Nat) (x : Chan) : (setChan c x s).rsvCfgChg = s.rsvCfgChg := rfl
@[simp] theorem setChan_errLog (c : Nat) (x : Chan) : (setChan c x s).errLog = s.errLog := rfl
@[simp] theorem setChan_stableUs (c : Nat) (x : Chan) : (setChan c x s).stableUs = s.stableUs := rfl
@[simp] theorem setChan_slots (c : Nat) (x : Chan) : (setChan c x s).slots = s.slots := rfl
@[simp] theorem setChan_power (c : Nat) (x : Chan) : (setChan c x s).power = s.power := rfl
@[simp] theorem setChan_strip (c : Nat) (x : Chan) : (setChan c x s).strip = s.strip := rfl
@[simp] theorem setChan_fuses (c : Nat) (x : Chan) : (setChan c x s).fuses = s.fuses := rfl
@[simp] theorem setChan_ledger (c : Nat) (x : Chan) : (setChan c x s).ledger = s.ledger := rfl
@[simp] theorem setChan_lc (c : Nat) (x : Chan) : (setChan c x s).lc = s.lc := rfl
@[simp] theorem setChan_smx (c : Nat) (x : Chan) : (setChan c x s).smx = s.smx := rfl
@[simp] theorem setChan_mem (c : Nat) (x : Chan) : (setChan c x s).mem = s.mem := rfl
@[simp] theorem setChan_refillAt (c : Nat) (x : Chan) : (setChan c x s).refillAt = s.refillAt := rfl

/-! ## setRouter -/

@[simp] theorem setRouter_pending (r : Nat) (x : Router) : (setRouter r x s).pending = s.pending := rfl
@[simp] theorem setRouter_free (r : Nat) (x : Router) : (setRouter r x s).free = s.free := rfl
@[simp] theorem setRouter_cyc (r : Nat) (x : Router) : (setRouter r x s).cyc = s.cyc := rfl
@[simp] theorem setRouter_ticks (r : Nat) (x : Router) : (setRouter r x s).ticks = s.ticks := rfl
@[simp] theorem setRouter_sixths (r : Nat) (x : Router) : (setRouter r x s).sixths = s.sixths := rfl
@[simp] theorem setRouter_us (r : Nat) (x : Router) : (setRouter r x s).us = s.us := rfl
@[simp] theorem setRouter_mtime (r : Nat) (x : Router) : (setRouter r x s).mtime = s.mtime := rfl
@[simp] theorem setRouter_pins (r : Nat) (x : Router) : (setRouter r x s).pins = s.pins := rfl
@[simp] theorem setRouter_regs (r : Nat) (x : Router) : (setRouter r x s).regs = s.regs := rfl
@[simp] theorem setRouter_staged (r : Nat) (x : Router) : (setRouter r x s).staged = s.staged := rfl
@[simp] theorem setRouter_stagedNow (r : Nat) (x : Router) : (setRouter r x s).stagedNow = s.stagedNow := rfl
@[simp] theorem setRouter_chans (r : Nat) (x : Router) : (setRouter r x s).chans = s.chans := rfl
@[simp] theorem setRouter_routers (r : Nat) (x : Router) : (setRouter r x s).routers = tput {} s.routers r x := rfl
@[simp] theorem setRouter_rt (r : Nat) (x : Router) : (setRouter r x s).rt = s.rt := rfl
@[simp] theorem setRouter_rtImg (r : Nat) (x : Router) : (setRouter r x s).rtImg = s.rtImg := rfl
@[simp] theorem setRouter_nis (r : Nat) (x : Router) : (setRouter r x s).nis = s.nis := rfl
@[simp] theorem setRouter_time (r : Nat) (x : Router) : (setRouter r x s).time = s.time := rfl
@[simp] theorem setRouter_art (r : Nat) (x : Router) : (setRouter r x s).art = s.art := rfl
@[simp] theorem setRouter_fence (r : Nat) (x : Router) : (setRouter r x s).fence = s.fence := rfl
@[simp] theorem setRouter_artHold (r : Nat) (x : Router) : (setRouter r x s).artHold = s.artHold := rfl
@[simp] theorem setRouter_artCmd (r : Nat) (x : Router) : (setRouter r x s).artCmd = s.artCmd := rfl
@[simp] theorem setRouter_artWait (r : Nat) (x : Router) : (setRouter r x s).artWait = s.artWait := rfl
@[simp] theorem setRouter_artLongAt (r : Nat) (x : Router) : (setRouter r x s).artLongAt = s.artLongAt := rfl
@[simp] theorem setRouter_lookups (r : Nat) (x : Router) : (setRouter r x s).lookups = s.lookups := rfl
@[simp] theorem setRouter_faults (r : Nat) (x : Router) : (setRouter r x s).faults = s.faults := rfl
@[simp] theorem setRouter_swapUs (r : Nat) (x : Router) : (setRouter r x s).swapUs = s.swapUs := rfl
@[simp] theorem setRouter_swapTick (r : Nat) (x : Router) : (setRouter r x s).swapTick = s.swapTick := rfl
@[simp] theorem setRouter_swapStalled (r : Nat) (x : Router) : (setRouter r x s).swapStalled = s.swapStalled := rfl
@[simp] theorem setRouter_unsure (r : Nat) (x : Router) : (setRouter r x s).unsure = s.unsure := rfl
@[simp] theorem setRouter_unsureGen (r : Nat) (x : Router) : (setRouter r x s).unsureGen = s.unsureGen := rfl
@[simp] theorem setRouter_flipUs (r : Nat) (x : Router) : (setRouter r x s).flipUs = s.flipUs := rfl
@[simp] theorem setRouter_flipTick (r : Nat) (x : Router) : (setRouter r x s).flipTick = s.flipTick := rfl
@[simp] theorem setRouter_flipStalled (r : Nat) (x : Router) : (setRouter r x s).flipStalled = s.flipStalled := rfl
@[simp] theorem setRouter_swapLim (r : Nat) (x : Router) : (setRouter r x s).swapLim = s.swapLim := rfl
@[simp] theorem setRouter_flipLim (r : Nat) (x : Router) : (setRouter r x s).flipLim = s.flipLim := rfl
@[simp] theorem setRouter_rsvRun (r : Nat) (x : Router) : (setRouter r x s).rsvRun = s.rsvRun := rfl
@[simp] theorem setRouter_rsvWait (r : Nat) (x : Router) : (setRouter r x s).rsvWait = s.rsvWait := rfl
@[simp] theorem setRouter_rsvCfgChg (r : Nat) (x : Router) : (setRouter r x s).rsvCfgChg = s.rsvCfgChg := rfl
@[simp] theorem setRouter_errLog (r : Nat) (x : Router) : (setRouter r x s).errLog = s.errLog := rfl
@[simp] theorem setRouter_stableUs (r : Nat) (x : Router) : (setRouter r x s).stableUs = s.stableUs := rfl
@[simp] theorem setRouter_slots (r : Nat) (x : Router) : (setRouter r x s).slots = s.slots := rfl
@[simp] theorem setRouter_power (r : Nat) (x : Router) : (setRouter r x s).power = s.power := rfl
@[simp] theorem setRouter_strip (r : Nat) (x : Router) : (setRouter r x s).strip = s.strip := rfl
@[simp] theorem setRouter_fuses (r : Nat) (x : Router) : (setRouter r x s).fuses = s.fuses := rfl
@[simp] theorem setRouter_ledger (r : Nat) (x : Router) : (setRouter r x s).ledger = s.ledger := rfl
@[simp] theorem setRouter_lc (r : Nat) (x : Router) : (setRouter r x s).lc = s.lc := rfl
@[simp] theorem setRouter_smx (r : Nat) (x : Router) : (setRouter r x s).smx = s.smx := rfl
@[simp] theorem setRouter_mem (r : Nat) (x : Router) : (setRouter r x s).mem = s.mem := rfl
@[simp] theorem setRouter_refillAt (r : Nat) (x : Router) : (setRouter r x s).refillAt = s.refillAt := rfl

/-! ## setNi -/

@[simp] theorem setNi_pending (p : Nat) (x : Ni) : (setNi p x s).pending = s.pending := rfl
@[simp] theorem setNi_free (p : Nat) (x : Ni) : (setNi p x s).free = s.free := rfl
@[simp] theorem setNi_cyc (p : Nat) (x : Ni) : (setNi p x s).cyc = s.cyc := rfl
@[simp] theorem setNi_ticks (p : Nat) (x : Ni) : (setNi p x s).ticks = s.ticks := rfl
@[simp] theorem setNi_sixths (p : Nat) (x : Ni) : (setNi p x s).sixths = s.sixths := rfl
@[simp] theorem setNi_us (p : Nat) (x : Ni) : (setNi p x s).us = s.us := rfl
@[simp] theorem setNi_mtime (p : Nat) (x : Ni) : (setNi p x s).mtime = s.mtime := rfl
@[simp] theorem setNi_pins (p : Nat) (x : Ni) : (setNi p x s).pins = s.pins := rfl
@[simp] theorem setNi_regs (p : Nat) (x : Ni) : (setNi p x s).regs = s.regs := rfl
@[simp] theorem setNi_staged (p : Nat) (x : Ni) : (setNi p x s).staged = s.staged := rfl
@[simp] theorem setNi_stagedNow (p : Nat) (x : Ni) : (setNi p x s).stagedNow = s.stagedNow := rfl
@[simp] theorem setNi_chans (p : Nat) (x : Ni) : (setNi p x s).chans = s.chans := rfl
@[simp] theorem setNi_routers (p : Nat) (x : Ni) : (setNi p x s).routers = s.routers := rfl
@[simp] theorem setNi_rt (p : Nat) (x : Ni) : (setNi p x s).rt = s.rt := rfl
@[simp] theorem setNi_rtImg (p : Nat) (x : Ni) : (setNi p x s).rtImg = s.rtImg := rfl
@[simp] theorem setNi_nis (p : Nat) (x : Ni) : (setNi p x s).nis = tput {} s.nis p x := rfl
@[simp] theorem setNi_time (p : Nat) (x : Ni) : (setNi p x s).time = s.time := rfl
@[simp] theorem setNi_art (p : Nat) (x : Ni) : (setNi p x s).art = s.art := rfl
@[simp] theorem setNi_fence (p : Nat) (x : Ni) : (setNi p x s).fence = s.fence := rfl
@[simp] theorem setNi_artHold (p : Nat) (x : Ni) : (setNi p x s).artHold = s.artHold := rfl
@[simp] theorem setNi_artCmd (p : Nat) (x : Ni) : (setNi p x s).artCmd = s.artCmd := rfl
@[simp] theorem setNi_artWait (p : Nat) (x : Ni) : (setNi p x s).artWait = s.artWait := rfl
@[simp] theorem setNi_artLongAt (p : Nat) (x : Ni) : (setNi p x s).artLongAt = s.artLongAt := rfl
@[simp] theorem setNi_lookups (p : Nat) (x : Ni) : (setNi p x s).lookups = s.lookups := rfl
@[simp] theorem setNi_faults (p : Nat) (x : Ni) : (setNi p x s).faults = s.faults := rfl
@[simp] theorem setNi_swapUs (p : Nat) (x : Ni) : (setNi p x s).swapUs = s.swapUs := rfl
@[simp] theorem setNi_swapTick (p : Nat) (x : Ni) : (setNi p x s).swapTick = s.swapTick := rfl
@[simp] theorem setNi_swapStalled (p : Nat) (x : Ni) : (setNi p x s).swapStalled = s.swapStalled := rfl
@[simp] theorem setNi_unsure (p : Nat) (x : Ni) : (setNi p x s).unsure = s.unsure := rfl
@[simp] theorem setNi_unsureGen (p : Nat) (x : Ni) : (setNi p x s).unsureGen = s.unsureGen := rfl
@[simp] theorem setNi_flipUs (p : Nat) (x : Ni) : (setNi p x s).flipUs = s.flipUs := rfl
@[simp] theorem setNi_flipTick (p : Nat) (x : Ni) : (setNi p x s).flipTick = s.flipTick := rfl
@[simp] theorem setNi_flipStalled (p : Nat) (x : Ni) : (setNi p x s).flipStalled = s.flipStalled := rfl
@[simp] theorem setNi_swapLim (p : Nat) (x : Ni) : (setNi p x s).swapLim = s.swapLim := rfl
@[simp] theorem setNi_flipLim (p : Nat) (x : Ni) : (setNi p x s).flipLim = s.flipLim := rfl
@[simp] theorem setNi_rsvRun (p : Nat) (x : Ni) : (setNi p x s).rsvRun = s.rsvRun := rfl
@[simp] theorem setNi_rsvWait (p : Nat) (x : Ni) : (setNi p x s).rsvWait = s.rsvWait := rfl
@[simp] theorem setNi_rsvCfgChg (p : Nat) (x : Ni) : (setNi p x s).rsvCfgChg = s.rsvCfgChg := rfl
@[simp] theorem setNi_errLog (p : Nat) (x : Ni) : (setNi p x s).errLog = s.errLog := rfl
@[simp] theorem setNi_stableUs (p : Nat) (x : Ni) : (setNi p x s).stableUs = s.stableUs := rfl
@[simp] theorem setNi_slots (p : Nat) (x : Ni) : (setNi p x s).slots = s.slots := rfl
@[simp] theorem setNi_power (p : Nat) (x : Ni) : (setNi p x s).power = s.power := rfl
@[simp] theorem setNi_strip (p : Nat) (x : Ni) : (setNi p x s).strip = s.strip := rfl
@[simp] theorem setNi_fuses (p : Nat) (x : Ni) : (setNi p x s).fuses = s.fuses := rfl
@[simp] theorem setNi_ledger (p : Nat) (x : Ni) : (setNi p x s).ledger = s.ledger := rfl
@[simp] theorem setNi_lc (p : Nat) (x : Ni) : (setNi p x s).lc = s.lc := rfl
@[simp] theorem setNi_smx (p : Nat) (x : Ni) : (setNi p x s).smx = s.smx := rfl
@[simp] theorem setNi_mem (p : Nat) (x : Ni) : (setNi p x s).mem = s.mem := rfl
@[simp] theorem setNi_refillAt (p : Nat) (x : Ni) : (setNi p x s).refillAt = s.refillAt := rfl

/-! ## modTime -/

@[simp] theorem modTime_pending (f : TimeUnit → TimeUnit) : (modTime f s).pending = s.pending := rfl
@[simp] theorem modTime_free (f : TimeUnit → TimeUnit) : (modTime f s).free = s.free := rfl
@[simp] theorem modTime_cyc (f : TimeUnit → TimeUnit) : (modTime f s).cyc = s.cyc := rfl
@[simp] theorem modTime_ticks (f : TimeUnit → TimeUnit) : (modTime f s).ticks = s.ticks := rfl
@[simp] theorem modTime_sixths (f : TimeUnit → TimeUnit) : (modTime f s).sixths = s.sixths := rfl
@[simp] theorem modTime_us (f : TimeUnit → TimeUnit) : (modTime f s).us = s.us := rfl
@[simp] theorem modTime_mtime (f : TimeUnit → TimeUnit) : (modTime f s).mtime = s.mtime := rfl
@[simp] theorem modTime_pins (f : TimeUnit → TimeUnit) : (modTime f s).pins = s.pins := rfl
@[simp] theorem modTime_regs (f : TimeUnit → TimeUnit) : (modTime f s).regs = s.regs := rfl
@[simp] theorem modTime_staged (f : TimeUnit → TimeUnit) : (modTime f s).staged = s.staged := rfl
@[simp] theorem modTime_stagedNow (f : TimeUnit → TimeUnit) : (modTime f s).stagedNow = s.stagedNow := rfl
@[simp] theorem modTime_chans (f : TimeUnit → TimeUnit) : (modTime f s).chans = s.chans := rfl
@[simp] theorem modTime_routers (f : TimeUnit → TimeUnit) : (modTime f s).routers = s.routers := rfl
@[simp] theorem modTime_rt (f : TimeUnit → TimeUnit) : (modTime f s).rt = s.rt := rfl
@[simp] theorem modTime_rtImg (f : TimeUnit → TimeUnit) : (modTime f s).rtImg = s.rtImg := rfl
@[simp] theorem modTime_nis (f : TimeUnit → TimeUnit) : (modTime f s).nis = s.nis := rfl
@[simp] theorem modTime_time (f : TimeUnit → TimeUnit) : (modTime f s).time = f s.time := rfl
@[simp] theorem modTime_art (f : TimeUnit → TimeUnit) : (modTime f s).art = s.art := rfl
@[simp] theorem modTime_fence (f : TimeUnit → TimeUnit) : (modTime f s).fence = s.fence := rfl
@[simp] theorem modTime_artHold (f : TimeUnit → TimeUnit) : (modTime f s).artHold = s.artHold := rfl
@[simp] theorem modTime_artCmd (f : TimeUnit → TimeUnit) : (modTime f s).artCmd = s.artCmd := rfl
@[simp] theorem modTime_artWait (f : TimeUnit → TimeUnit) : (modTime f s).artWait = s.artWait := rfl
@[simp] theorem modTime_artLongAt (f : TimeUnit → TimeUnit) : (modTime f s).artLongAt = s.artLongAt := rfl
@[simp] theorem modTime_lookups (f : TimeUnit → TimeUnit) : (modTime f s).lookups = s.lookups := rfl
@[simp] theorem modTime_faults (f : TimeUnit → TimeUnit) : (modTime f s).faults = s.faults := rfl
@[simp] theorem modTime_swapUs (f : TimeUnit → TimeUnit) : (modTime f s).swapUs = s.swapUs := rfl
@[simp] theorem modTime_swapTick (f : TimeUnit → TimeUnit) : (modTime f s).swapTick = s.swapTick := rfl
@[simp] theorem modTime_swapStalled (f : TimeUnit → TimeUnit) : (modTime f s).swapStalled = s.swapStalled := rfl
@[simp] theorem modTime_unsure (f : TimeUnit → TimeUnit) : (modTime f s).unsure = s.unsure := rfl
@[simp] theorem modTime_unsureGen (f : TimeUnit → TimeUnit) : (modTime f s).unsureGen = s.unsureGen := rfl
@[simp] theorem modTime_flipUs (f : TimeUnit → TimeUnit) : (modTime f s).flipUs = s.flipUs := rfl
@[simp] theorem modTime_flipTick (f : TimeUnit → TimeUnit) : (modTime f s).flipTick = s.flipTick := rfl
@[simp] theorem modTime_flipStalled (f : TimeUnit → TimeUnit) : (modTime f s).flipStalled = s.flipStalled := rfl
@[simp] theorem modTime_swapLim (f : TimeUnit → TimeUnit) : (modTime f s).swapLim = s.swapLim := rfl
@[simp] theorem modTime_flipLim (f : TimeUnit → TimeUnit) : (modTime f s).flipLim = s.flipLim := rfl
@[simp] theorem modTime_rsvRun (f : TimeUnit → TimeUnit) : (modTime f s).rsvRun = s.rsvRun := rfl
@[simp] theorem modTime_rsvWait (f : TimeUnit → TimeUnit) : (modTime f s).rsvWait = s.rsvWait := rfl
@[simp] theorem modTime_rsvCfgChg (f : TimeUnit → TimeUnit) : (modTime f s).rsvCfgChg = s.rsvCfgChg := rfl
@[simp] theorem modTime_errLog (f : TimeUnit → TimeUnit) : (modTime f s).errLog = s.errLog := rfl
@[simp] theorem modTime_stableUs (f : TimeUnit → TimeUnit) : (modTime f s).stableUs = s.stableUs := rfl
@[simp] theorem modTime_slots (f : TimeUnit → TimeUnit) : (modTime f s).slots = s.slots := rfl
@[simp] theorem modTime_power (f : TimeUnit → TimeUnit) : (modTime f s).power = s.power := rfl
@[simp] theorem modTime_strip (f : TimeUnit → TimeUnit) : (modTime f s).strip = s.strip := rfl
@[simp] theorem modTime_fuses (f : TimeUnit → TimeUnit) : (modTime f s).fuses = s.fuses := rfl
@[simp] theorem modTime_ledger (f : TimeUnit → TimeUnit) : (modTime f s).ledger = s.ledger := rfl
@[simp] theorem modTime_lc (f : TimeUnit → TimeUnit) : (modTime f s).lc = s.lc := rfl
@[simp] theorem modTime_smx (f : TimeUnit → TimeUnit) : (modTime f s).smx = s.smx := rfl
@[simp] theorem modTime_mem (f : TimeUnit → TimeUnit) : (modTime f s).mem = s.mem := rfl
@[simp] theorem modTime_refillAt (f : TimeUnit → TimeUnit) : (modTime f s).refillAt = s.refillAt := rfl

/-! ## modStrip -/

@[simp] theorem modStrip_pending (f : Strip → Strip) : (modStrip f s).pending = s.pending := rfl
@[simp] theorem modStrip_free (f : Strip → Strip) : (modStrip f s).free = s.free := rfl
@[simp] theorem modStrip_cyc (f : Strip → Strip) : (modStrip f s).cyc = s.cyc := rfl
@[simp] theorem modStrip_ticks (f : Strip → Strip) : (modStrip f s).ticks = s.ticks := rfl
@[simp] theorem modStrip_sixths (f : Strip → Strip) : (modStrip f s).sixths = s.sixths := rfl
@[simp] theorem modStrip_us (f : Strip → Strip) : (modStrip f s).us = s.us := rfl
@[simp] theorem modStrip_mtime (f : Strip → Strip) : (modStrip f s).mtime = s.mtime := rfl
@[simp] theorem modStrip_pins (f : Strip → Strip) : (modStrip f s).pins = s.pins := rfl
@[simp] theorem modStrip_regs (f : Strip → Strip) : (modStrip f s).regs = s.regs := rfl
@[simp] theorem modStrip_staged (f : Strip → Strip) : (modStrip f s).staged = s.staged := rfl
@[simp] theorem modStrip_stagedNow (f : Strip → Strip) : (modStrip f s).stagedNow = s.stagedNow := rfl
@[simp] theorem modStrip_chans (f : Strip → Strip) : (modStrip f s).chans = s.chans := rfl
@[simp] theorem modStrip_routers (f : Strip → Strip) : (modStrip f s).routers = s.routers := rfl
@[simp] theorem modStrip_rt (f : Strip → Strip) : (modStrip f s).rt = s.rt := rfl
@[simp] theorem modStrip_rtImg (f : Strip → Strip) : (modStrip f s).rtImg = s.rtImg := rfl
@[simp] theorem modStrip_nis (f : Strip → Strip) : (modStrip f s).nis = s.nis := rfl
@[simp] theorem modStrip_time (f : Strip → Strip) : (modStrip f s).time = s.time := rfl
@[simp] theorem modStrip_art (f : Strip → Strip) : (modStrip f s).art = s.art := rfl
@[simp] theorem modStrip_fence (f : Strip → Strip) : (modStrip f s).fence = s.fence := rfl
@[simp] theorem modStrip_artHold (f : Strip → Strip) : (modStrip f s).artHold = s.artHold := rfl
@[simp] theorem modStrip_artCmd (f : Strip → Strip) : (modStrip f s).artCmd = s.artCmd := rfl
@[simp] theorem modStrip_artWait (f : Strip → Strip) : (modStrip f s).artWait = s.artWait := rfl
@[simp] theorem modStrip_artLongAt (f : Strip → Strip) : (modStrip f s).artLongAt = s.artLongAt := rfl
@[simp] theorem modStrip_lookups (f : Strip → Strip) : (modStrip f s).lookups = s.lookups := rfl
@[simp] theorem modStrip_faults (f : Strip → Strip) : (modStrip f s).faults = s.faults := rfl
@[simp] theorem modStrip_swapUs (f : Strip → Strip) : (modStrip f s).swapUs = s.swapUs := rfl
@[simp] theorem modStrip_swapTick (f : Strip → Strip) : (modStrip f s).swapTick = s.swapTick := rfl
@[simp] theorem modStrip_swapStalled (f : Strip → Strip) : (modStrip f s).swapStalled = s.swapStalled := rfl
@[simp] theorem modStrip_unsure (f : Strip → Strip) : (modStrip f s).unsure = s.unsure := rfl
@[simp] theorem modStrip_unsureGen (f : Strip → Strip) : (modStrip f s).unsureGen = s.unsureGen := rfl
@[simp] theorem modStrip_flipUs (f : Strip → Strip) : (modStrip f s).flipUs = s.flipUs := rfl
@[simp] theorem modStrip_flipTick (f : Strip → Strip) : (modStrip f s).flipTick = s.flipTick := rfl
@[simp] theorem modStrip_flipStalled (f : Strip → Strip) : (modStrip f s).flipStalled = s.flipStalled := rfl
@[simp] theorem modStrip_swapLim (f : Strip → Strip) : (modStrip f s).swapLim = s.swapLim := rfl
@[simp] theorem modStrip_flipLim (f : Strip → Strip) : (modStrip f s).flipLim = s.flipLim := rfl
@[simp] theorem modStrip_rsvRun (f : Strip → Strip) : (modStrip f s).rsvRun = s.rsvRun := rfl
@[simp] theorem modStrip_rsvWait (f : Strip → Strip) : (modStrip f s).rsvWait = s.rsvWait := rfl
@[simp] theorem modStrip_rsvCfgChg (f : Strip → Strip) : (modStrip f s).rsvCfgChg = s.rsvCfgChg := rfl
@[simp] theorem modStrip_errLog (f : Strip → Strip) : (modStrip f s).errLog = s.errLog := rfl
@[simp] theorem modStrip_stableUs (f : Strip → Strip) : (modStrip f s).stableUs = s.stableUs := rfl
@[simp] theorem modStrip_slots (f : Strip → Strip) : (modStrip f s).slots = s.slots := rfl
@[simp] theorem modStrip_power (f : Strip → Strip) : (modStrip f s).power = s.power := rfl
@[simp] theorem modStrip_strip (f : Strip → Strip) : (modStrip f s).strip = f s.strip := rfl
@[simp] theorem modStrip_fuses (f : Strip → Strip) : (modStrip f s).fuses = s.fuses := rfl
@[simp] theorem modStrip_ledger (f : Strip → Strip) : (modStrip f s).ledger = s.ledger := rfl
@[simp] theorem modStrip_lc (f : Strip → Strip) : (modStrip f s).lc = s.lc := rfl
@[simp] theorem modStrip_smx (f : Strip → Strip) : (modStrip f s).smx = s.smx := rfl
@[simp] theorem modStrip_mem (f : Strip → Strip) : (modStrip f s).mem = s.mem := rfl
@[simp] theorem modStrip_refillAt (f : Strip → Strip) : (modStrip f s).refillAt = s.refillAt := rfl

/-! ## modPower -/

@[simp] theorem modPower_pending (f : Power → Power) : (modPower f s).pending = s.pending := rfl
@[simp] theorem modPower_free (f : Power → Power) : (modPower f s).free = s.free := rfl
@[simp] theorem modPower_cyc (f : Power → Power) : (modPower f s).cyc = s.cyc := rfl
@[simp] theorem modPower_ticks (f : Power → Power) : (modPower f s).ticks = s.ticks := rfl
@[simp] theorem modPower_sixths (f : Power → Power) : (modPower f s).sixths = s.sixths := rfl
@[simp] theorem modPower_us (f : Power → Power) : (modPower f s).us = s.us := rfl
@[simp] theorem modPower_mtime (f : Power → Power) : (modPower f s).mtime = s.mtime := rfl
@[simp] theorem modPower_pins (f : Power → Power) : (modPower f s).pins = s.pins := rfl
@[simp] theorem modPower_regs (f : Power → Power) : (modPower f s).regs = s.regs := rfl
@[simp] theorem modPower_staged (f : Power → Power) : (modPower f s).staged = s.staged := rfl
@[simp] theorem modPower_stagedNow (f : Power → Power) : (modPower f s).stagedNow = s.stagedNow := rfl
@[simp] theorem modPower_chans (f : Power → Power) : (modPower f s).chans = s.chans := rfl
@[simp] theorem modPower_routers (f : Power → Power) : (modPower f s).routers = s.routers := rfl
@[simp] theorem modPower_rt (f : Power → Power) : (modPower f s).rt = s.rt := rfl
@[simp] theorem modPower_rtImg (f : Power → Power) : (modPower f s).rtImg = s.rtImg := rfl
@[simp] theorem modPower_nis (f : Power → Power) : (modPower f s).nis = s.nis := rfl
@[simp] theorem modPower_time (f : Power → Power) : (modPower f s).time = s.time := rfl
@[simp] theorem modPower_art (f : Power → Power) : (modPower f s).art = s.art := rfl
@[simp] theorem modPower_fence (f : Power → Power) : (modPower f s).fence = s.fence := rfl
@[simp] theorem modPower_artHold (f : Power → Power) : (modPower f s).artHold = s.artHold := rfl
@[simp] theorem modPower_artCmd (f : Power → Power) : (modPower f s).artCmd = s.artCmd := rfl
@[simp] theorem modPower_artWait (f : Power → Power) : (modPower f s).artWait = s.artWait := rfl
@[simp] theorem modPower_artLongAt (f : Power → Power) : (modPower f s).artLongAt = s.artLongAt := rfl
@[simp] theorem modPower_lookups (f : Power → Power) : (modPower f s).lookups = s.lookups := rfl
@[simp] theorem modPower_faults (f : Power → Power) : (modPower f s).faults = s.faults := rfl
@[simp] theorem modPower_swapUs (f : Power → Power) : (modPower f s).swapUs = s.swapUs := rfl
@[simp] theorem modPower_swapTick (f : Power → Power) : (modPower f s).swapTick = s.swapTick := rfl
@[simp] theorem modPower_swapStalled (f : Power → Power) : (modPower f s).swapStalled = s.swapStalled := rfl
@[simp] theorem modPower_unsure (f : Power → Power) : (modPower f s).unsure = s.unsure := rfl
@[simp] theorem modPower_unsureGen (f : Power → Power) : (modPower f s).unsureGen = s.unsureGen := rfl
@[simp] theorem modPower_flipUs (f : Power → Power) : (modPower f s).flipUs = s.flipUs := rfl
@[simp] theorem modPower_flipTick (f : Power → Power) : (modPower f s).flipTick = s.flipTick := rfl
@[simp] theorem modPower_flipStalled (f : Power → Power) : (modPower f s).flipStalled = s.flipStalled := rfl
@[simp] theorem modPower_swapLim (f : Power → Power) : (modPower f s).swapLim = s.swapLim := rfl
@[simp] theorem modPower_flipLim (f : Power → Power) : (modPower f s).flipLim = s.flipLim := rfl
@[simp] theorem modPower_rsvRun (f : Power → Power) : (modPower f s).rsvRun = s.rsvRun := rfl
@[simp] theorem modPower_rsvWait (f : Power → Power) : (modPower f s).rsvWait = s.rsvWait := rfl
@[simp] theorem modPower_rsvCfgChg (f : Power → Power) : (modPower f s).rsvCfgChg = s.rsvCfgChg := rfl
@[simp] theorem modPower_errLog (f : Power → Power) : (modPower f s).errLog = s.errLog := rfl
@[simp] theorem modPower_stableUs (f : Power → Power) : (modPower f s).stableUs = s.stableUs := rfl
@[simp] theorem modPower_slots (f : Power → Power) : (modPower f s).slots = s.slots := rfl
@[simp] theorem modPower_power (f : Power → Power) : (modPower f s).power = f s.power := rfl
@[simp] theorem modPower_strip (f : Power → Power) : (modPower f s).strip = s.strip := rfl
@[simp] theorem modPower_fuses (f : Power → Power) : (modPower f s).fuses = s.fuses := rfl
@[simp] theorem modPower_ledger (f : Power → Power) : (modPower f s).ledger = s.ledger := rfl
@[simp] theorem modPower_lc (f : Power → Power) : (modPower f s).lc = s.lc := rfl
@[simp] theorem modPower_smx (f : Power → Power) : (modPower f s).smx = s.smx := rfl
@[simp] theorem modPower_mem (f : Power → Power) : (modPower f s).mem = s.mem := rfl
@[simp] theorem modPower_refillAt (f : Power → Power) : (modPower f s).refillAt = s.refillAt := rfl

/-! ## modLedger -/

@[simp] theorem modLedger_pending (f : Ledger → Ledger) : (modLedger f s).pending = s.pending := rfl
@[simp] theorem modLedger_free (f : Ledger → Ledger) : (modLedger f s).free = s.free := rfl
@[simp] theorem modLedger_cyc (f : Ledger → Ledger) : (modLedger f s).cyc = s.cyc := rfl
@[simp] theorem modLedger_ticks (f : Ledger → Ledger) : (modLedger f s).ticks = s.ticks := rfl
@[simp] theorem modLedger_sixths (f : Ledger → Ledger) : (modLedger f s).sixths = s.sixths := rfl
@[simp] theorem modLedger_us (f : Ledger → Ledger) : (modLedger f s).us = s.us := rfl
@[simp] theorem modLedger_mtime (f : Ledger → Ledger) : (modLedger f s).mtime = s.mtime := rfl
@[simp] theorem modLedger_pins (f : Ledger → Ledger) : (modLedger f s).pins = s.pins := rfl
@[simp] theorem modLedger_regs (f : Ledger → Ledger) : (modLedger f s).regs = s.regs := rfl
@[simp] theorem modLedger_staged (f : Ledger → Ledger) : (modLedger f s).staged = s.staged := rfl
@[simp] theorem modLedger_stagedNow (f : Ledger → Ledger) : (modLedger f s).stagedNow = s.stagedNow := rfl
@[simp] theorem modLedger_chans (f : Ledger → Ledger) : (modLedger f s).chans = s.chans := rfl
@[simp] theorem modLedger_routers (f : Ledger → Ledger) : (modLedger f s).routers = s.routers := rfl
@[simp] theorem modLedger_rt (f : Ledger → Ledger) : (modLedger f s).rt = s.rt := rfl
@[simp] theorem modLedger_rtImg (f : Ledger → Ledger) : (modLedger f s).rtImg = s.rtImg := rfl
@[simp] theorem modLedger_nis (f : Ledger → Ledger) : (modLedger f s).nis = s.nis := rfl
@[simp] theorem modLedger_time (f : Ledger → Ledger) : (modLedger f s).time = s.time := rfl
@[simp] theorem modLedger_art (f : Ledger → Ledger) : (modLedger f s).art = s.art := rfl
@[simp] theorem modLedger_fence (f : Ledger → Ledger) : (modLedger f s).fence = s.fence := rfl
@[simp] theorem modLedger_artHold (f : Ledger → Ledger) : (modLedger f s).artHold = s.artHold := rfl
@[simp] theorem modLedger_artCmd (f : Ledger → Ledger) : (modLedger f s).artCmd = s.artCmd := rfl
@[simp] theorem modLedger_artWait (f : Ledger → Ledger) : (modLedger f s).artWait = s.artWait := rfl
@[simp] theorem modLedger_artLongAt (f : Ledger → Ledger) : (modLedger f s).artLongAt = s.artLongAt := rfl
@[simp] theorem modLedger_lookups (f : Ledger → Ledger) : (modLedger f s).lookups = s.lookups := rfl
@[simp] theorem modLedger_faults (f : Ledger → Ledger) : (modLedger f s).faults = s.faults := rfl
@[simp] theorem modLedger_swapUs (f : Ledger → Ledger) : (modLedger f s).swapUs = s.swapUs := rfl
@[simp] theorem modLedger_swapTick (f : Ledger → Ledger) : (modLedger f s).swapTick = s.swapTick := rfl
@[simp] theorem modLedger_swapStalled (f : Ledger → Ledger) : (modLedger f s).swapStalled = s.swapStalled := rfl
@[simp] theorem modLedger_unsure (f : Ledger → Ledger) : (modLedger f s).unsure = s.unsure := rfl
@[simp] theorem modLedger_unsureGen (f : Ledger → Ledger) : (modLedger f s).unsureGen = s.unsureGen := rfl
@[simp] theorem modLedger_flipUs (f : Ledger → Ledger) : (modLedger f s).flipUs = s.flipUs := rfl
@[simp] theorem modLedger_flipTick (f : Ledger → Ledger) : (modLedger f s).flipTick = s.flipTick := rfl
@[simp] theorem modLedger_flipStalled (f : Ledger → Ledger) : (modLedger f s).flipStalled = s.flipStalled := rfl
@[simp] theorem modLedger_swapLim (f : Ledger → Ledger) : (modLedger f s).swapLim = s.swapLim := rfl
@[simp] theorem modLedger_flipLim (f : Ledger → Ledger) : (modLedger f s).flipLim = s.flipLim := rfl
@[simp] theorem modLedger_rsvRun (f : Ledger → Ledger) : (modLedger f s).rsvRun = s.rsvRun := rfl
@[simp] theorem modLedger_rsvWait (f : Ledger → Ledger) : (modLedger f s).rsvWait = s.rsvWait := rfl
@[simp] theorem modLedger_rsvCfgChg (f : Ledger → Ledger) : (modLedger f s).rsvCfgChg = s.rsvCfgChg := rfl
@[simp] theorem modLedger_errLog (f : Ledger → Ledger) : (modLedger f s).errLog = s.errLog := rfl
@[simp] theorem modLedger_stableUs (f : Ledger → Ledger) : (modLedger f s).stableUs = s.stableUs := rfl
@[simp] theorem modLedger_slots (f : Ledger → Ledger) : (modLedger f s).slots = s.slots := rfl
@[simp] theorem modLedger_power (f : Ledger → Ledger) : (modLedger f s).power = s.power := rfl
@[simp] theorem modLedger_strip (f : Ledger → Ledger) : (modLedger f s).strip = s.strip := rfl
@[simp] theorem modLedger_fuses (f : Ledger → Ledger) : (modLedger f s).fuses = s.fuses := rfl
@[simp] theorem modLedger_ledger (f : Ledger → Ledger) : (modLedger f s).ledger = f s.ledger := rfl
@[simp] theorem modLedger_lc (f : Ledger → Ledger) : (modLedger f s).lc = s.lc := rfl
@[simp] theorem modLedger_smx (f : Ledger → Ledger) : (modLedger f s).smx = s.smx := rfl
@[simp] theorem modLedger_mem (f : Ledger → Ledger) : (modLedger f s).mem = s.mem := rfl
@[simp] theorem modLedger_refillAt (f : Ledger → Ledger) : (modLedger f s).refillAt = s.refillAt := rfl

/-! ## modLc -/

@[simp] theorem modLc_pending (f : LifeCycle → LifeCycle) : (modLc f s).pending = s.pending := rfl
@[simp] theorem modLc_free (f : LifeCycle → LifeCycle) : (modLc f s).free = s.free := rfl
@[simp] theorem modLc_cyc (f : LifeCycle → LifeCycle) : (modLc f s).cyc = s.cyc := rfl
@[simp] theorem modLc_ticks (f : LifeCycle → LifeCycle) : (modLc f s).ticks = s.ticks := rfl
@[simp] theorem modLc_sixths (f : LifeCycle → LifeCycle) : (modLc f s).sixths = s.sixths := rfl
@[simp] theorem modLc_us (f : LifeCycle → LifeCycle) : (modLc f s).us = s.us := rfl
@[simp] theorem modLc_mtime (f : LifeCycle → LifeCycle) : (modLc f s).mtime = s.mtime := rfl
@[simp] theorem modLc_pins (f : LifeCycle → LifeCycle) : (modLc f s).pins = s.pins := rfl
@[simp] theorem modLc_regs (f : LifeCycle → LifeCycle) : (modLc f s).regs = s.regs := rfl
@[simp] theorem modLc_staged (f : LifeCycle → LifeCycle) : (modLc f s).staged = s.staged := rfl
@[simp] theorem modLc_stagedNow (f : LifeCycle → LifeCycle) : (modLc f s).stagedNow = s.stagedNow := rfl
@[simp] theorem modLc_chans (f : LifeCycle → LifeCycle) : (modLc f s).chans = s.chans := rfl
@[simp] theorem modLc_routers (f : LifeCycle → LifeCycle) : (modLc f s).routers = s.routers := rfl
@[simp] theorem modLc_rt (f : LifeCycle → LifeCycle) : (modLc f s).rt = s.rt := rfl
@[simp] theorem modLc_rtImg (f : LifeCycle → LifeCycle) : (modLc f s).rtImg = s.rtImg := rfl
@[simp] theorem modLc_nis (f : LifeCycle → LifeCycle) : (modLc f s).nis = s.nis := rfl
@[simp] theorem modLc_time (f : LifeCycle → LifeCycle) : (modLc f s).time = s.time := rfl
@[simp] theorem modLc_art (f : LifeCycle → LifeCycle) : (modLc f s).art = s.art := rfl
@[simp] theorem modLc_fence (f : LifeCycle → LifeCycle) : (modLc f s).fence = s.fence := rfl
@[simp] theorem modLc_artHold (f : LifeCycle → LifeCycle) : (modLc f s).artHold = s.artHold := rfl
@[simp] theorem modLc_artCmd (f : LifeCycle → LifeCycle) : (modLc f s).artCmd = s.artCmd := rfl
@[simp] theorem modLc_artWait (f : LifeCycle → LifeCycle) : (modLc f s).artWait = s.artWait := rfl
@[simp] theorem modLc_artLongAt (f : LifeCycle → LifeCycle) : (modLc f s).artLongAt = s.artLongAt := rfl
@[simp] theorem modLc_lookups (f : LifeCycle → LifeCycle) : (modLc f s).lookups = s.lookups := rfl
@[simp] theorem modLc_faults (f : LifeCycle → LifeCycle) : (modLc f s).faults = s.faults := rfl
@[simp] theorem modLc_swapUs (f : LifeCycle → LifeCycle) : (modLc f s).swapUs = s.swapUs := rfl
@[simp] theorem modLc_swapTick (f : LifeCycle → LifeCycle) : (modLc f s).swapTick = s.swapTick := rfl
@[simp] theorem modLc_swapStalled (f : LifeCycle → LifeCycle) : (modLc f s).swapStalled = s.swapStalled := rfl
@[simp] theorem modLc_unsure (f : LifeCycle → LifeCycle) : (modLc f s).unsure = s.unsure := rfl
@[simp] theorem modLc_unsureGen (f : LifeCycle → LifeCycle) : (modLc f s).unsureGen = s.unsureGen := rfl
@[simp] theorem modLc_flipUs (f : LifeCycle → LifeCycle) : (modLc f s).flipUs = s.flipUs := rfl
@[simp] theorem modLc_flipTick (f : LifeCycle → LifeCycle) : (modLc f s).flipTick = s.flipTick := rfl
@[simp] theorem modLc_flipStalled (f : LifeCycle → LifeCycle) : (modLc f s).flipStalled = s.flipStalled := rfl
@[simp] theorem modLc_swapLim (f : LifeCycle → LifeCycle) : (modLc f s).swapLim = s.swapLim := rfl
@[simp] theorem modLc_flipLim (f : LifeCycle → LifeCycle) : (modLc f s).flipLim = s.flipLim := rfl
@[simp] theorem modLc_rsvRun (f : LifeCycle → LifeCycle) : (modLc f s).rsvRun = s.rsvRun := rfl
@[simp] theorem modLc_rsvWait (f : LifeCycle → LifeCycle) : (modLc f s).rsvWait = s.rsvWait := rfl
@[simp] theorem modLc_rsvCfgChg (f : LifeCycle → LifeCycle) : (modLc f s).rsvCfgChg = s.rsvCfgChg := rfl
@[simp] theorem modLc_errLog (f : LifeCycle → LifeCycle) : (modLc f s).errLog = s.errLog := rfl
@[simp] theorem modLc_stableUs (f : LifeCycle → LifeCycle) : (modLc f s).stableUs = s.stableUs := rfl
@[simp] theorem modLc_slots (f : LifeCycle → LifeCycle) : (modLc f s).slots = s.slots := rfl
@[simp] theorem modLc_power (f : LifeCycle → LifeCycle) : (modLc f s).power = s.power := rfl
@[simp] theorem modLc_strip (f : LifeCycle → LifeCycle) : (modLc f s).strip = s.strip := rfl
@[simp] theorem modLc_fuses (f : LifeCycle → LifeCycle) : (modLc f s).fuses = s.fuses := rfl
@[simp] theorem modLc_ledger (f : LifeCycle → LifeCycle) : (modLc f s).ledger = s.ledger := rfl
@[simp] theorem modLc_lc (f : LifeCycle → LifeCycle) : (modLc f s).lc = f s.lc := rfl
@[simp] theorem modLc_smx (f : LifeCycle → LifeCycle) : (modLc f s).smx = s.smx := rfl
@[simp] theorem modLc_mem (f : LifeCycle → LifeCycle) : (modLc f s).mem = s.mem := rfl
@[simp] theorem modLc_refillAt (f : LifeCycle → LifeCycle) : (modLc f s).refillAt = s.refillAt := rfl

/-! ## sramPut -/

@[simp] theorem sramPut_pending (a : Nat) (b : Byte) : (sramPut a b s).pending = s.pending := rfl
@[simp] theorem sramPut_free (a : Nat) (b : Byte) : (sramPut a b s).free = s.free := rfl
@[simp] theorem sramPut_cyc (a : Nat) (b : Byte) : (sramPut a b s).cyc = s.cyc := rfl
@[simp] theorem sramPut_ticks (a : Nat) (b : Byte) : (sramPut a b s).ticks = s.ticks := rfl
@[simp] theorem sramPut_sixths (a : Nat) (b : Byte) : (sramPut a b s).sixths = s.sixths := rfl
@[simp] theorem sramPut_us (a : Nat) (b : Byte) : (sramPut a b s).us = s.us := rfl
@[simp] theorem sramPut_mtime (a : Nat) (b : Byte) : (sramPut a b s).mtime = s.mtime := rfl
@[simp] theorem sramPut_pins (a : Nat) (b : Byte) : (sramPut a b s).pins = s.pins := rfl
@[simp] theorem sramPut_regs (a : Nat) (b : Byte) : (sramPut a b s).regs = s.regs := rfl
@[simp] theorem sramPut_staged (a : Nat) (b : Byte) : (sramPut a b s).staged = s.staged := rfl
@[simp] theorem sramPut_stagedNow (a : Nat) (b : Byte) : (sramPut a b s).stagedNow = s.stagedNow := rfl
@[simp] theorem sramPut_chans (a : Nat) (b : Byte) : (sramPut a b s).chans = s.chans := rfl
@[simp] theorem sramPut_routers (a : Nat) (b : Byte) : (sramPut a b s).routers = s.routers := rfl
@[simp] theorem sramPut_rt (a : Nat) (b : Byte) : (sramPut a b s).rt = s.rt := rfl
@[simp] theorem sramPut_rtImg (a : Nat) (b : Byte) : (sramPut a b s).rtImg = s.rtImg := rfl
@[simp] theorem sramPut_nis (a : Nat) (b : Byte) : (sramPut a b s).nis = s.nis := rfl
@[simp] theorem sramPut_time (a : Nat) (b : Byte) : (sramPut a b s).time = s.time := rfl
@[simp] theorem sramPut_art (a : Nat) (b : Byte) : (sramPut a b s).art = s.art := rfl
@[simp] theorem sramPut_fence (a : Nat) (b : Byte) : (sramPut a b s).fence = s.fence := rfl
@[simp] theorem sramPut_artHold (a : Nat) (b : Byte) : (sramPut a b s).artHold = s.artHold := rfl
@[simp] theorem sramPut_artCmd (a : Nat) (b : Byte) : (sramPut a b s).artCmd = s.artCmd := rfl
@[simp] theorem sramPut_artWait (a : Nat) (b : Byte) : (sramPut a b s).artWait = s.artWait := rfl
@[simp] theorem sramPut_artLongAt (a : Nat) (b : Byte) : (sramPut a b s).artLongAt = s.artLongAt := rfl
@[simp] theorem sramPut_lookups (a : Nat) (b : Byte) : (sramPut a b s).lookups = s.lookups := rfl
@[simp] theorem sramPut_faults (a : Nat) (b : Byte) : (sramPut a b s).faults = s.faults := rfl
@[simp] theorem sramPut_swapUs (a : Nat) (b : Byte) : (sramPut a b s).swapUs = s.swapUs := rfl
@[simp] theorem sramPut_swapTick (a : Nat) (b : Byte) : (sramPut a b s).swapTick = s.swapTick := rfl
@[simp] theorem sramPut_swapStalled (a : Nat) (b : Byte) : (sramPut a b s).swapStalled = s.swapStalled := rfl
@[simp] theorem sramPut_unsure (a : Nat) (b : Byte) : (sramPut a b s).unsure = s.unsure := rfl
@[simp] theorem sramPut_unsureGen (a : Nat) (b : Byte) : (sramPut a b s).unsureGen = s.unsureGen := rfl
@[simp] theorem sramPut_flipUs (a : Nat) (b : Byte) : (sramPut a b s).flipUs = s.flipUs := rfl
@[simp] theorem sramPut_flipTick (a : Nat) (b : Byte) : (sramPut a b s).flipTick = s.flipTick := rfl
@[simp] theorem sramPut_flipStalled (a : Nat) (b : Byte) : (sramPut a b s).flipStalled = s.flipStalled := rfl
@[simp] theorem sramPut_swapLim (a : Nat) (b : Byte) : (sramPut a b s).swapLim = s.swapLim := rfl
@[simp] theorem sramPut_flipLim (a : Nat) (b : Byte) : (sramPut a b s).flipLim = s.flipLim := rfl
@[simp] theorem sramPut_rsvRun (a : Nat) (b : Byte) : (sramPut a b s).rsvRun = s.rsvRun := rfl
@[simp] theorem sramPut_rsvWait (a : Nat) (b : Byte) : (sramPut a b s).rsvWait = s.rsvWait := rfl
@[simp] theorem sramPut_rsvCfgChg (a : Nat) (b : Byte) : (sramPut a b s).rsvCfgChg = s.rsvCfgChg := rfl
@[simp] theorem sramPut_errLog (a : Nat) (b : Byte) : (sramPut a b s).errLog = s.errLog := rfl
@[simp] theorem sramPut_stableUs (a : Nat) (b : Byte) : (sramPut a b s).stableUs = s.stableUs := rfl
@[simp] theorem sramPut_slots (a : Nat) (b : Byte) : (sramPut a b s).slots = s.slots := rfl
@[simp] theorem sramPut_power (a : Nat) (b : Byte) : (sramPut a b s).power = s.power := rfl
@[simp] theorem sramPut_strip (a : Nat) (b : Byte) : (sramPut a b s).strip = s.strip := rfl
@[simp] theorem sramPut_fuses (a : Nat) (b : Byte) : (sramPut a b s).fuses = s.fuses := rfl
@[simp] theorem sramPut_ledger (a : Nat) (b : Byte) : (sramPut a b s).ledger = s.ledger := rfl
@[simp] theorem sramPut_lc (a : Nat) (b : Byte) : (sramPut a b s).lc = s.lc := rfl
@[simp] theorem sramPut_smx (a : Nat) (b : Byte) : (sramPut a b s).smx = s.smx := rfl
@[simp] theorem sramPut_refillAt (a : Nat) (b : Byte) : (sramPut a b s).refillAt = s.refillAt := rfl

/-! ## The free-value counter -/

@[simp] theorem draw_pending : (draw s).2.pending = s.pending := rfl
@[simp] theorem draw_free : (draw s).2.free = s.free + 1 := rfl
@[simp] theorem draw_cyc : (draw s).2.cyc = s.cyc := rfl
@[simp] theorem draw_ticks : (draw s).2.ticks = s.ticks := rfl
@[simp] theorem draw_sixths : (draw s).2.sixths = s.sixths := rfl
@[simp] theorem draw_us : (draw s).2.us = s.us := rfl
@[simp] theorem draw_mtime : (draw s).2.mtime = s.mtime := rfl
@[simp] theorem draw_pins : (draw s).2.pins = s.pins := rfl
@[simp] theorem draw_regs : (draw s).2.regs = s.regs := rfl
@[simp] theorem draw_staged : (draw s).2.staged = s.staged := rfl
@[simp] theorem draw_stagedNow : (draw s).2.stagedNow = s.stagedNow := rfl
@[simp] theorem draw_chans : (draw s).2.chans = s.chans := rfl
@[simp] theorem draw_routers : (draw s).2.routers = s.routers := rfl
@[simp] theorem draw_rt : (draw s).2.rt = s.rt := rfl
@[simp] theorem draw_rtImg : (draw s).2.rtImg = s.rtImg := rfl
@[simp] theorem draw_nis : (draw s).2.nis = s.nis := rfl
@[simp] theorem draw_time : (draw s).2.time = s.time := rfl
@[simp] theorem draw_art : (draw s).2.art = s.art := rfl
@[simp] theorem draw_fence : (draw s).2.fence = s.fence := rfl
@[simp] theorem draw_artHold : (draw s).2.artHold = s.artHold := rfl
@[simp] theorem draw_artCmd : (draw s).2.artCmd = s.artCmd := rfl
@[simp] theorem draw_artWait : (draw s).2.artWait = s.artWait := rfl
@[simp] theorem draw_artLongAt : (draw s).2.artLongAt = s.artLongAt := rfl
@[simp] theorem draw_lookups : (draw s).2.lookups = s.lookups := rfl
@[simp] theorem draw_faults : (draw s).2.faults = s.faults := rfl
@[simp] theorem draw_swapUs : (draw s).2.swapUs = s.swapUs := rfl
@[simp] theorem draw_swapTick : (draw s).2.swapTick = s.swapTick := rfl
@[simp] theorem draw_swapStalled : (draw s).2.swapStalled = s.swapStalled := rfl
@[simp] theorem draw_unsure : (draw s).2.unsure = s.unsure := rfl
@[simp] theorem draw_unsureGen : (draw s).2.unsureGen = s.unsureGen := rfl
@[simp] theorem draw_flipUs : (draw s).2.flipUs = s.flipUs := rfl
@[simp] theorem draw_flipTick : (draw s).2.flipTick = s.flipTick := rfl
@[simp] theorem draw_flipStalled : (draw s).2.flipStalled = s.flipStalled := rfl
@[simp] theorem draw_swapLim : (draw s).2.swapLim = s.swapLim := rfl
@[simp] theorem draw_flipLim : (draw s).2.flipLim = s.flipLim := rfl
@[simp] theorem draw_rsvRun : (draw s).2.rsvRun = s.rsvRun := rfl
@[simp] theorem draw_rsvWait : (draw s).2.rsvWait = s.rsvWait := rfl
@[simp] theorem draw_rsvCfgChg : (draw s).2.rsvCfgChg = s.rsvCfgChg := rfl
@[simp] theorem draw_errLog : (draw s).2.errLog = s.errLog := rfl
@[simp] theorem draw_stableUs : (draw s).2.stableUs = s.stableUs := rfl
@[simp] theorem draw_slots : (draw s).2.slots = s.slots := rfl
@[simp] theorem draw_power : (draw s).2.power = s.power := rfl
@[simp] theorem draw_strip : (draw s).2.strip = s.strip := rfl
@[simp] theorem draw_fuses : (draw s).2.fuses = s.fuses := rfl
@[simp] theorem draw_ledger : (draw s).2.ledger = s.ledger := rfl
@[simp] theorem draw_lc : (draw s).2.lc = s.lc := rfl
@[simp] theorem draw_smx : (draw s).2.smx = s.smx := rfl
@[simp] theorem draw_mem : (draw s).2.mem = s.mem := rfl
@[simp] theorem draw_refillAt : (draw s).2.refillAt = s.refillAt := rfl

end Sys2Proof.Machine
end

