-- ==== Sys2Proof/Laws/Ops.lean ====
section
/-! SUPPORT. What a register field, a channel, a router, an NI and an SRAM byte read as after each named update. -/

namespace Sys2Proof.Machine

variable (s : State)

/-! ## Register fields -/

theorem fget_fset (page page' : Nat) (f f' : Fld) (v i i' : Nat) :
    fget (fset page f v s i) page' f' i' =
      if fkey page f i = fkey page' f' i' then
        (if v % 2 ^ f.w = resetOf page f i then resetOf page' f' i' else v % 2 ^ f.w) % 2 ^ f'.w
      else fget s page' f' i' := by
  unfold fget fset tput tget
  dsimp only
  split
  · rename_i h; rw [tfind_tdel]; split
    · rfl
    · rfl
  · rw [tfind_tins]; split
    · rfl
    · rfl

@[simp] theorem fget_fset_self (page : Nat) (f : Fld) (v i : Nat) :
    fget (fset page f v s i) page f i = v % 2 ^ f.w := by
  rw [fget_fset, if_pos rfl]; split
  · rename_i h; rw [← h, Nat.mod_mod]
  · rw [Nat.mod_mod]

/-- Writing one field leaves every other field as it was. -/
theorem fget_fset_ne {page page' : Nat} {f f' : Fld} {v i i' : Nat} (h : fkey page f i ≠ fkey page' f' i') :
    fget (fset page f v s i) page' f' i' = fget s page' f' i' := by rw [fget_fset, if_neg h]

theorem fget_regs {s t : State} (h : t.regs = s.regs) (page : Nat) (f : Fld) (i : Nat) :
    fget t page f i = fget s page f i := by unfold fget; rw [h]

@[simp] theorem fget_setChan (c : Nat) (x : Chan) (page : Nat) (f : Fld) (i : Nat) :
    fget (setChan c x s) page f i = fget s page f i := rfl
@[simp] theorem fget_setRouter (r : Nat) (x : Router) (page : Nat) (f : Fld) (i : Nat) :
    fget (setRouter r x s) page f i = fget s page f i := rfl
@[simp] theorem fget_setNi (p : Nat) (x : Ni) (page : Nat) (f : Fld) (i : Nat) :
    fget (setNi p x s) page f i = fget s page f i := rfl
@[simp] theorem fget_modTime (g : TimeUnit → TimeUnit) (page : Nat) (f : Fld) (i : Nat) :
    fget (modTime g s) page f i = fget s page f i := rfl
@[simp] theorem fget_modStrip (g : Strip → Strip) (page : Nat) (f : Fld) (i : Nat) :
    fget (modStrip g s) page f i = fget s page f i := rfl
@[simp] theorem fget_modPower (g : Power → Power) (page : Nat) (f : Fld) (i : Nat) :
    fget (modPower g s) page f i = fget s page f i := rfl
@[simp] theorem fget_modLedger (g : Ledger → Ledger) (page : Nat) (f : Fld) (i : Nat) :
    fget (modLedger g s) page f i = fget s page f i := rfl
@[simp] theorem fget_modLc (g : LifeCycle → LifeCycle) (page : Nat) (f : Fld) (i : Nat) :
    fget (modLc g s) page f i = fget s page f i := rfl

theorem fsetB_eq (page : Nat) (f : Fld) (b : Bool) (i : Nat) : fsetB page f b s i = fset page f b.toNat s i := rfl
theorem flag_eq (page : Nat) (f : Fld) (i : Nat) : flag page f s i = fset page f 1 s i := rfl
theorem satAdd_eq (page : Nat) (f : Fld) (n i : Nat) :
    satAdd page f n s i = fset page f (min (fget s page f i + n) (2 ^ f.w - 1)) s i := rfl
theorem wrapAdd_eq (page : Nat) (f : Fld) (n i : Nat) :
    wrapAdd page f n s i = fset page f (fget s page f i + n) s i := rfl

/-- A saturating counter reads the lesser of the sum and its greatest value. -/
theorem fget_satAdd_self (page : Nat) (f : Fld) (n i : Nat) :
    fget (satAdd page f n s i) page f i = min (fget s page f i + n) (2 ^ f.w - 1) := by
  rw [satAdd_eq, fget_fset_self]
  exact Nat.mod_eq_of_lt (Nat.lt_of_le_of_lt (Nat.min_le_right _ _) (Nat.sub_one_lt (Nat.two_pow_pos _).ne'))

/-! ## Which registers a change leaves alone -/

/-- Two fields of one page at places of their own do not share a key. -/
theorem fkey_ne_field {page : Nat} {f f' : Fld} {i i' : Nat} (h : f.off / 8 * 64 + f.lo ≠ f'.off / 8 * 64 + f'.lo)
    (hi : i < 4096) (hi' : i' < 4096) : fkey page f i ≠ fkey page f' i' := by
  unfold fkey; omega

/-- Two entries of one field do not share a key. -/
theorem fkey_ne_index {page : Nat} {f : Fld} {i i' : Nat} (h : i ≠ i') : fkey page f i ≠ fkey page f i' := by
  unfold fkey; omega

/-- The fields of two pages do not share a key. -/
theorem fkey_ne_page {page page' : Nat} {f f' : Fld} {i i' : Nat} (h : page ≠ page') (hf : f.off / 8 < 512)
    (hf' : f'.off / 8 < 512) (hl : f.lo < 64) (hl' : f'.lo < 64) (hi : i < 4096) (hi' : i' < 4096) :
    fkey page f i ≠ fkey page' f' i' := by
  unfold fkey; omega

theorem fget_fset_field {page : Nat} {f f' : Fld} {v i i' : Nat} (h : f.off / 8 * 64 + f.lo ≠ f'.off / 8 * 64 + f'.lo)
    (hi : i < 4096) (hi' : i' < 4096) : fget (fset page f v s i) page f' i' = fget s page f' i' :=
  fget_fset_ne s (fkey_ne_field h hi hi')

theorem fget_fset_index {page : Nat} {f : Fld} {v i i' : Nat} (h : i ≠ i') :
    fget (fset page f v s i) page f i' = fget s page f i' :=
  fget_fset_ne s (fkey_ne_index h)

theorem fget_fset_page {page page' : Nat} {f f' : Fld} {v i i' : Nat} (h : page ≠ page') (hf : f.off / 8 < 512)
    (hf' : f'.off / 8 < 512) (hl : f.lo < 64) (hl' : f'.lo < 64) (hi : i < 4096) (hi' : i' < 4096) :
    fget (fset page f v s i) page' f' i' = fget s page' f' i' :=
  fget_fset_ne s (fkey_ne_page h hf hf' hl hl' hi hi')

theorem regsKept_of_regs {ks : List Nat} {s u t : State} (h : RegsKept ks s u) (e : t.regs = u.regs) : RegsKept ks s t :=
  ⟨fun page f i hk => (fget_regs e page f i).trans (h.kept page f i hk)⟩

theorem regsKept_refl (ks : List Nat) (s : State) : RegsKept ks s s := ⟨fun _ _ _ _ => rfl⟩

theorem regsKept_fset {ks : List Nat} {s u : State} {page : Nat} {f : Fld} {v i : Nat} (h : RegsKept ks s u)
    (hk : fkey page f i ∈ ks) : RegsKept ks s (fset page f v u i) := by
  refine ⟨fun page' f' i' hn => ?_⟩
  rw [fget_fset_ne _ (fun e => hn (e ▸ hk))]
  exact h.kept page' f' i' hn

@[simp] theorem regsKept_setChan (ks : List Nat) (s u : State) (c : Nat) (x : Chan) :
    RegsKept ks s (setChan c x u) ↔ RegsKept ks s u :=
  ⟨fun h => ⟨h.kept⟩, fun h => ⟨h.kept⟩⟩
@[simp] theorem regsKept_setRouter (ks : List Nat) (s u : State) (r : Nat) (x : Router) :
    RegsKept ks s (setRouter r x u) ↔ RegsKept ks s u :=
  ⟨fun h => ⟨h.kept⟩, fun h => ⟨h.kept⟩⟩
@[simp] theorem regsKept_setNi (ks : List Nat) (s u : State) (p : Nat) (x : Ni) :
    RegsKept ks s (setNi p x u) ↔ RegsKept ks s u :=
  ⟨fun h => ⟨h.kept⟩, fun h => ⟨h.kept⟩⟩
@[simp] theorem regsKept_modChan (ks : List Nat) (s u : State) (c : Nat) (g : Chan → Chan) :
    RegsKept ks s (modChan c g u) ↔ RegsKept ks s u :=
  ⟨fun h => ⟨h.kept⟩, fun h => ⟨h.kept⟩⟩
@[simp] theorem regsKept_modRouter (ks : List Nat) (s u : State) (r : Nat) (g : Router → Router) :
    RegsKept ks s (modRouter r g u) ↔ RegsKept ks s u :=
  ⟨fun h => ⟨h.kept⟩, fun h => ⟨h.kept⟩⟩
@[simp] theorem regsKept_modNi (ks : List Nat) (s u : State) (p : Nat) (g : Ni → Ni) :
    RegsKept ks s (modNi p g u) ↔ RegsKept ks s u :=
  ⟨fun h => ⟨h.kept⟩, fun h => ⟨h.kept⟩⟩
@[simp] theorem regsKept_modVc (ks : List Nat) (s u : State) (c v : Nat) (g : VcBuf → VcBuf) :
    RegsKept ks s (modVc c v g u) ↔ RegsKept ks s u :=
  ⟨fun h => ⟨h.kept⟩, fun h => ⟨h.kept⟩⟩
@[simp] theorem regsKept_modTime (ks : List Nat) (s u : State) (g : TimeUnit → TimeUnit) :
    RegsKept ks s (modTime g u) ↔ RegsKept ks s u :=
  ⟨fun h => ⟨h.kept⟩, fun h => ⟨h.kept⟩⟩
@[simp] theorem regsKept_modStrip (ks : List Nat) (s u : State) (g : Strip → Strip) :
    RegsKept ks s (modStrip g u) ↔ RegsKept ks s u :=
  ⟨fun h => ⟨h.kept⟩, fun h => ⟨h.kept⟩⟩
@[simp] theorem regsKept_modPower (ks : List Nat) (s u : State) (g : Power → Power) :
    RegsKept ks s (modPower g u) ↔ RegsKept ks s u :=
  ⟨fun h => ⟨h.kept⟩, fun h => ⟨h.kept⟩⟩
@[simp] theorem regsKept_modLedger (ks : List Nat) (s u : State) (g : Ledger → Ledger) :
    RegsKept ks s (modLedger g u) ↔ RegsKept ks s u :=
  ⟨fun h => ⟨h.kept⟩, fun h => ⟨h.kept⟩⟩
@[simp] theorem regsKept_modLc (ks : List Nat) (s u : State) (g : LifeCycle → LifeCycle) :
    RegsKept ks s (modLc g u) ↔ RegsKept ks s u :=
  ⟨fun h => ⟨h.kept⟩, fun h => ⟨h.kept⟩⟩

theorem regsKept_trans {ks : List Nat} {s t u : State} (h : RegsKept ks s t) (k : RegsKept ks t u) : RegsKept ks s u :=
  ⟨fun page f i hn => (k.kept page f i hn).trans (h.kept page f i hn)⟩

theorem regsKept_mono {ks ls : List Nat} {s t : State} (h : RegsKept ks s t) (hk : ∀ k ∈ ks, k ∈ ls) : RegsKept ls s t :=
  ⟨fun page f i hn => h.kept page f i (fun e => hn (hk _ e))⟩

theorem regsKept_onlyIf {ks : List Nat} {s u : State} {c : Bool} {g : State → State} (h : RegsKept ks s u)
    (hg : ∀ t, RegsKept ks s t → RegsKept ks s (g t)) : RegsKept ks s (onlyIf c g u) := by
  cases c
  · exact h
  · exact hg u h

/-- A refused write changes PAGE_ERR and the page's IRQ_STAT only. -/
theorem regsKept_pageErr (page : Nat) (f : Fld) (off : Nat) (hf : fkey page f 0 ∈ pageErrKeys page) :
    RegsKept (pageErrKeys page) s (pageErr page f off s) := by
  unfold pageErr
  refine regsKept_fset (regsKept_fset (regsKept_onlyIf (regsKept_refl _ s) (fun t h => regsKept_fset h ?_)) hf) ?_
  · simp [pageErrKeys]
  · simp [pageErrKeys]

/-- A refused write sets its flag. -/
theorem fbit_pageErr (page : Nat) (f : Fld) (off : Nat) (hw : f.w = 1)
    (h : Hdr.irqStatStat.off / 8 * 64 + Hdr.irqStatStat.lo ≠ f.off / 8 * 64 + f.lo) :
    fbit (pageErr page f off s) page f = true := by
  unfold pageErr irqHold flagBit fbit
  rw [fget_fset_field _ h (by decide) (by decide), flag_eq, fget_fset_self, hw]
  rfl

/-- A firing changes the flags and counts of firings only. -/
theorem regsKept_logFiring (src : Nat) (f : Firing) : RegsKept firingKeys s (logFiring src f s) := by
  unfold logFiring
  extract_lets +onlyGivenNames a t
  have ht : RegsKept firingKeys s t := regsKept_of_regs (regsKept_refl _ s) rfl
  clear_value t
  split
  · exact ht
  · extract_lets +onlyGivenNames u v
    have hu : RegsKept firingKeys s u :=
      regsKept_onlyIf ht (fun t k => regsKept_fset (regsKept_fset k (by simp [firingKeys])) (by simp [firingKeys]))
    clear_value u
    have hv : RegsKept firingKeys s v := regsKept_onlyIf hu (fun t k => regsKept_fset k (by simp [firingKeys]))
    clear_value v
    split
    · exact regsKept_fset (regsKept_fset hv (by simp [firingKeys])) (by simp [firingKeys])
    · exact regsKept_of_regs hv rfl

/-! ## Units -/

@[simp] theorem chan_setChan_self (c : Nat) (x : Chan) : chan (setChan c x s) c = x := by simp [chan]
theorem chan_setChan_ne {c d : Nat} (h : c ≠ d) (x : Chan) : chan (setChan c x s) d = chan s d := by
  simp [chan, tget_tput_ne h]
@[simp] theorem router_setRouter_self (r : Nat) (x : Router) : router (setRouter r x s) r = x := by simp [router]
theorem router_setRouter_ne {r q : Nat} (h : r ≠ q) (x : Router) : router (setRouter r x s) q = router s q := by
  simp [router, tget_tput_ne h]
@[simp] theorem ni_setNi_self (p : Nat) (x : Ni) : ni (setNi p x s) p = x := by simp [ni]
theorem ni_setNi_ne {p q : Nat} (h : p ≠ q) (x : Ni) : ni (setNi p x s) q = ni s q := by simp [ni, tget_tput_ne h]

theorem modNi_eq (p : Nat) (f : Ni → Ni) : modNi p f s = setNi p (f (ni s p)) s := rfl
theorem modChan_eq (c : Nat) (f : Chan → Chan) : modChan c f s = setChan c (f (chan s c)) s := rfl
theorem modRouter_eq (r : Nat) (f : Router → Router) : modRouter r f s = setRouter r (f (router s r)) s := rfl

@[simp] theorem ni_modNi_self (p : Nat) (f : Ni → Ni) : ni (modNi p f s) p = f (ni s p) := by simp [modNi_eq]
@[simp] theorem chan_modChan_self (c : Nat) (f : Chan → Chan) : chan (modChan c f s) c = f (chan s c) := by
  simp [modChan_eq]
@[simp] theorem router_modRouter_self (r : Nat) (f : Router → Router) : router (modRouter r f s) r = f (router s r) := by
  simp [modRouter_eq]

theorem chan_modChan (c d : Nat) (f : Chan → Chan) :
    chan (modChan c f s) d = if c = d then f (chan s d) else chan s d := by
  simp only [modChan_eq, setChan, chan, tget_tput]; split
  · rename_i h; rw [h]
  · rfl
theorem ni_modNi (p q : Nat) (f : Ni → Ni) : ni (modNi p f s) q = if p = q then f (ni s q) else ni s q := by
  simp only [modNi_eq, setNi, ni, tget_tput]; split
  · rename_i h; rw [h]
  · rfl
theorem router_modRouter (r q : Nat) (f : Router → Router) :
    router (modRouter r f s) q = if r = q then f (router s q) else router s q := by
  simp only [modRouter_eq, setRouter, router, tget_tput]; split
  · rename_i h; rw [h]
  · rfl

@[simp] theorem ni_fset (page : Nat) (f : Fld) (v i p : Nat) : ni (fset page f v s i) p = ni s p := rfl
@[simp] theorem chan_fset (page : Nat) (f : Fld) (v i c : Nat) : chan (fset page f v s i) c = chan s c := rfl
@[simp] theorem router_fset (page : Nat) (f : Fld) (v i r : Nat) : router (fset page f v s i) r = router s r := rfl
@[simp] theorem ni_setChan (c : Nat) (x : Chan) (p : Nat) : ni (setChan c x s) p = ni s p := rfl
@[simp] theorem chan_setNi (p : Nat) (x : Ni) (c : Nat) : chan (setNi p x s) c = chan s c := rfl
@[simp] theorem router_setNi (p : Nat) (x : Ni) (r : Nat) : router (setNi p x s) r = router s r := rfl
@[simp] theorem ni_setRouter (r : Nat) (x : Router) (p : Nat) : ni (setRouter r x s) p = ni s p := rfl

/-! ## Conditional and repeated updates -/

@[simp] theorem onlyIf_true {σ : Type} (f : σ → σ) (x : σ) : onlyIf true f x = f x := rfl
@[simp] theorem onlyIf_false {σ : Type} (f : σ → σ) (x : σ) : onlyIf false f x = x := rfl

/-- What a conditional update leaves alone. -/
theorem onlyIf_frame {σ β : Type} (g : σ → β) (c : Bool) (f : σ → σ) (x : σ) (h : g (f x) = g x) :
    g (onlyIf c f x) = g x := by cases c <;> simp [h]

end Sys2Proof.Machine
end

