-- ==== Sys2Proof/Laws/PerInstr.lean ====
section
/-! SUPPORT. Which commands are well formed: those whose channels, router ports and pages exist, one lemma for each command. -/

namespace Sys2Proof.Laws.Wf

open Sys2Proof Sys2Proof.Machine

/-- The channels that a command names. -/
def chansOf : Instr → List Nat
  | .flitReceive ch _ | .replay ch | .replayTo ch | .retrainDone ch _ | .trainDone ch | .flitGrant ch => [ch.val]
  | .starveLimit ch _ _ => [ch.val]
  | _ => []

/-- The router inputs that a command names: the router and the port index. -/
def inputsOf : Instr → List (Nat × Nat)
  | .headArrive r inp _ | .buildStoreConsume r inp _ => [(r.val, inp.val)]
  | .absorb r inp _ => if inp.val = 14 then [] else [(r.val, inp.val)]
  | .starveLimit ch inp _ => if 1024 ≤ ch.val ∨ inp.val = 14 then [] else [(ch.val / 16, inp.val)]
  | _ => []

/-- The pages that a command names. -/
def pagesOf : Instr → List Nat
  | .commit page | .abort page | .quiesce page _ _ | .quiesced page | .gcJoin page | .gcLeave page | .irqSet page _
  | .registerWrite page _ _ => [page.val]
  | _ => []

/-- The offset of a register write is a whole word's. -/
def alignedOf : Instr → Prop
  | .registerWrite _ off _ => off.toNat % 8 = 0
  | _ => True

/-- A command is well formed exactly when the units it names exist. -/
def Statement (i : Instr) : Prop :=
  i.wf = true ↔ (∀ c ∈ chansOf i, hasChan c = true) ∧ (∀ x ∈ inputsOf i, hasPort x.1 x.2 = true)
    ∧ (∀ g ∈ pagesOf i, ∃ kd, kindOf g = some kd) ∧ alignedOf i

/-- A command that names no unit that could be absent. -/
theorem plain {i : Instr} (h : i.wf = true) (hc : chansOf i = []) (hi : inputsOf i = []) (hp : pagesOf i = [])
    (ha : alignedOf i) : Statement i := by
  simp [Statement, h, hc, hi, hp, ha]

/-- A command on one channel. -/
theorem ofChan {i : Instr} {c : Nat} (h : i.wf = hasChan c) (hc : chansOf i = [c]) (hi : inputsOf i = [])
    (hp : pagesOf i = []) (ha : alignedOf i) : Statement i := by
  simp [Statement, h, hc, hi, hp, ha]

/-- A command on one router input. -/
theorem ofInput {i : Instr} {r k : Nat} (h : i.wf = hasPort r k) (hc : chansOf i = []) (hi : inputsOf i = [(r, k)])
    (hp : pagesOf i = []) (ha : alignedOf i) : Statement i := by
  simp [Statement, h, hc, hi, hp, ha]

/-- A command on one page. -/
theorem ofPage {i : Instr} {g : Nat} (h : i.wf = (kindOf g).isSome) (hc : chansOf i = []) (hi : inputsOf i = [])
    (hp : pagesOf i = [g]) (ha : alignedOf i) : Statement i := by
  simp [Statement, h, hc, hi, hp, ha, Option.isSome_iff_exists]

end Sys2Proof.Laws.Wf

open Sys2Proof Sys2Proof.Machine

theorem Sys2Proof.Laws.Wf.aonReset : Sys2Proof.Laws.Wf.Statement (.aonReset) :=
  Sys2Proof.Laws.Wf.plain rfl rfl rfl rfl trivial

theorem Sys2Proof.Laws.Wf.bootCopyDone (readBackOk : Bool) : Sys2Proof.Laws.Wf.Statement (.bootCopyDone readBackOk) :=
  Sys2Proof.Laws.Wf.plain rfl rfl rfl rfl trivial

theorem Sys2Proof.Laws.Wf.bootDone : Sys2Proof.Laws.Wf.Statement (.bootDone) :=
  Sys2Proof.Laws.Wf.plain rfl rfl rfl rfl trivial

theorem Sys2Proof.Laws.Wf.flitReceive (ch : ChanId) (err : WireFlit) : Sys2Proof.Laws.Wf.Statement (.flitReceive ch err) :=
  Sys2Proof.Laws.Wf.ofChan rfl rfl rfl rfl trivial

theorem Sys2Proof.Laws.Wf.replay (ch : ChanId) : Sys2Proof.Laws.Wf.Statement (.replay ch) :=
  Sys2Proof.Laws.Wf.ofChan rfl rfl rfl rfl trivial

theorem Sys2Proof.Laws.Wf.replayTo (ch : ChanId) : Sys2Proof.Laws.Wf.Statement (.replayTo ch) :=
  Sys2Proof.Laws.Wf.ofChan rfl rfl rfl rfl trivial

theorem Sys2Proof.Laws.Wf.retrainDone (ch : ChanId) (replayOk : Bool) : Sys2Proof.Laws.Wf.Statement (.retrainDone ch replayOk) :=
  Sys2Proof.Laws.Wf.ofChan rfl rfl rfl rfl trivial

theorem Sys2Proof.Laws.Wf.trainDone (ch : ChanId) : Sys2Proof.Laws.Wf.Statement (.trainDone ch) :=
  Sys2Proof.Laws.Wf.ofChan rfl rfl rfl rfl trivial

theorem Sys2Proof.Laws.Wf.headArrive (r : RouterId) (inp : PortIdx) (vc : Vc) : Sys2Proof.Laws.Wf.Statement (.headArrive r inp vc) :=
  Sys2Proof.Laws.Wf.ofInput rfl rfl rfl rfl trivial

theorem Sys2Proof.Laws.Wf.buildStoreConsume (r : RouterId) (inp : PortIdx) (vc : Vc) : Sys2Proof.Laws.Wf.Statement (.buildStoreConsume r inp vc) :=
  Sys2Proof.Laws.Wf.ofInput rfl rfl rfl rfl trivial

theorem Sys2Proof.Laws.Wf.flitGrant (ch : ChanId) : Sys2Proof.Laws.Wf.Statement (.flitGrant ch) :=
  Sys2Proof.Laws.Wf.ofChan rfl rfl rfl rfl trivial

theorem Sys2Proof.Laws.Wf.starveLimit (ch : ChanId) (inp : Fin 15) (vc : Vc) : Sys2Proof.Laws.Wf.Statement (.starveLimit ch inp vc) :=
  by
  have h : Instr.wf (.starveLimit ch inp vc) = wfPoint ch inp := rfl
  simp only [Sys2Proof.Laws.Wf.Statement, Sys2Proof.Laws.Wf.chansOf, Sys2Proof.Laws.Wf.inputsOf, Sys2Proof.Laws.Wf.pagesOf, Sys2Proof.Laws.Wf.alignedOf, h, wfPoint, wfChan]
  by_cases h1 : 1024 ≤ ch.val <;> by_cases h2 : inp.val = 14 <;> simp [h1, h2]

theorem Sys2Proof.Laws.Wf.absorb (r : RouterId) (inp : Fin 15) (vc : Vc) : Sys2Proof.Laws.Wf.Statement (.absorb r inp vc) :=
  by
  have h : Instr.wf (.absorb r inp vc) = (inp.val == 14 || wfIn r inp.val) := rfl
  simp only [Sys2Proof.Laws.Wf.Statement, Sys2Proof.Laws.Wf.chansOf, Sys2Proof.Laws.Wf.inputsOf, Sys2Proof.Laws.Wf.pagesOf, Sys2Proof.Laws.Wf.alignedOf, h, wfIn]
  by_cases h2 : inp.val = 14 <;> simp [h2]

theorem Sys2Proof.Laws.Wf.flipArm : Sys2Proof.Laws.Wf.Statement (.flipArm) :=
  Sys2Proof.Laws.Wf.plain rfl rfl rfl rfl trivial

theorem Sys2Proof.Laws.Wf.flipDisarm : Sys2Proof.Laws.Wf.Statement (.flipDisarm) :=
  Sys2Proof.Laws.Wf.plain rfl rfl rfl rfl trivial

theorem Sys2Proof.Laws.Wf.flipRearm : Sys2Proof.Laws.Wf.Statement (.flipRearm) :=
  Sys2Proof.Laws.Wf.plain rfl rfl rfl rfl trivial

theorem Sys2Proof.Laws.Wf.routeFlip : Sys2Proof.Laws.Wf.Statement (.routeFlip) :=
  Sys2Proof.Laws.Wf.plain rfl rfl rfl rfl trivial

theorem Sys2Proof.Laws.Wf.drainSample : Sys2Proof.Laws.Wf.Statement (.drainSample) :=
  Sys2Proof.Laws.Wf.plain rfl rfl rfl rfl trivial

theorem Sys2Proof.Laws.Wf.drainStall : Sys2Proof.Laws.Wf.Statement (.drainStall) :=
  Sys2Proof.Laws.Wf.plain rfl rfl rfl rfl trivial

theorem Sys2Proof.Laws.Wf.rtData (r : RouterId) (value : Word) : Sys2Proof.Laws.Wf.Statement (.rtData r value) :=
  Sys2Proof.Laws.Wf.plain rfl rfl rfl rfl trivial

theorem Sys2Proof.Laws.Wf.teiRequest (p : Port) (sub : Submission) : Sys2Proof.Laws.Wf.Statement (.teiRequest p sub) :=
  Sys2Proof.Laws.Wf.plain rfl rfl rfl rfl trivial

theorem Sys2Proof.Laws.Wf.artLookup (engine : Fin 8) (bad17 badBank : Bool) : Sys2Proof.Laws.Wf.Statement (.artLookup engine bad17 badBank) :=
  Sys2Proof.Laws.Wf.plain rfl rfl rfl rfl trivial

theorem Sys2Proof.Laws.Wf.verdictReturn (p : Port) : Sys2Proof.Laws.Wf.Statement (.verdictReturn p) :=
  Sys2Proof.Laws.Wf.plain rfl rfl rfl rfl trivial

theorem Sys2Proof.Laws.Wf.admission (p : Port) : Sys2Proof.Laws.Wf.Statement (.admission p) :=
  Sys2Proof.Laws.Wf.plain rfl rfl rfl rfl trivial

theorem Sys2Proof.Laws.Wf.niInject (p : Port) : Sys2Proof.Laws.Wf.Statement (.niInject p) :=
  Sys2Proof.Laws.Wf.plain rfl rfl rfl rfl trivial

theorem Sys2Proof.Laws.Wf.responseArrive (p : Port) (vc : Vc) : Sys2Proof.Laws.Wf.Statement (.responseArrive p vc) :=
  Sys2Proof.Laws.Wf.plain rfl rfl rfl rfl trivial

theorem Sys2Proof.Laws.Wf.teiDeliver (p : Port) : Sys2Proof.Laws.Wf.Statement (.teiDeliver p) :=
  Sys2Proof.Laws.Wf.plain rfl rfl rfl rfl trivial

theorem Sys2Proof.Laws.Wf.deliveryCredit (p : Port) (vc : Vc) : Sys2Proof.Laws.Wf.Statement (.deliveryCredit p vc) :=
  Sys2Proof.Laws.Wf.plain rfl rfl rfl rfl trivial

theorem Sys2Proof.Laws.Wf.waypointAccept (p : Port) (vc : Vc) : Sys2Proof.Laws.Wf.Statement (.waypointAccept p vc) :=
  Sys2Proof.Laws.Wf.plain rfl rfl rfl rfl trivial

theorem Sys2Proof.Laws.Wf.teiResponse (p : Port) (sub : Submission) : Sys2Proof.Laws.Wf.Statement (.teiResponse p sub) :=
  Sys2Proof.Laws.Wf.plain rfl rfl rfl rfl trivial

theorem Sys2Proof.Laws.Wf.teiRelay (p : Port) (sub : Submission) : Sys2Proof.Laws.Wf.Statement (.teiRelay p sub) :=
  Sys2Proof.Laws.Wf.plain rfl rfl rfl rfl trivial

theorem Sys2Proof.Laws.Wf.teiFetch (p : Port) (sub : Submission) : Sys2Proof.Laws.Wf.Statement (.teiFetch p sub) :=
  Sys2Proof.Laws.Wf.plain rfl rfl rfl rfl trivial

theorem Sys2Proof.Laws.Wf.legacyTimeout (p : Port) (tag : BitVec 11) : Sys2Proof.Laws.Wf.Statement (.legacyTimeout p tag) :=
  Sys2Proof.Laws.Wf.plain rfl rfl rfl rfl trivial

theorem Sys2Proof.Laws.Wf.sadWrite (p : Port) (k : Fin 64) (word1 : Bool) (value : Word) : Sys2Proof.Laws.Wf.Statement (.sadWrite p k word1 value) :=
  Sys2Proof.Laws.Wf.plain rfl rfl rfl rfl trivial

theorem Sys2Proof.Laws.Wf.clsW1 (h : HostId) (value : Word) : Sys2Proof.Laws.Wf.Statement (.clsW1 h value) :=
  Sys2Proof.Laws.Wf.plain rfl rfl rfl rfl trivial

theorem Sys2Proof.Laws.Wf.dmW1 (k : Fin 16) (value : Word) : Sys2Proof.Laws.Wf.Statement (.dmW1 k value) :=
  Sys2Proof.Laws.Wf.plain rfl rfl rfl rfl trivial

theorem Sys2Proof.Laws.Wf.tbRefLoss (edges : Bool) : Sys2Proof.Laws.Wf.Statement (.tbRefLoss edges) :=
  Sys2Proof.Laws.Wf.plain rfl rfl rfl rfl trivial

theorem Sys2Proof.Laws.Wf.acquire (lockUs : Nat) : Sys2Proof.Laws.Wf.Statement (.acquire lockUs) :=
  Sys2Proof.Laws.Wf.plain rfl rfl rfl rfl trivial

theorem Sys2Proof.Laws.Wf.tbFrame (cells : BitVec 200) : Sys2Proof.Laws.Wf.Statement (.tbFrame cells) :=
  Sys2Proof.Laws.Wf.plain rfl rfl rfl rfl trivial

theorem Sys2Proof.Laws.Wf.codeLoss : Sys2Proof.Laws.Wf.Statement (.codeLoss) :=
  Sys2Proof.Laws.Wf.plain rfl rfl rfl rfl trivial

theorem Sys2Proof.Laws.Wf.acqFail : Sys2Proof.Laws.Wf.Statement (.acqFail) :=
  Sys2Proof.Laws.Wf.plain rfl rfl rfl rfl trivial

theorem Sys2Proof.Laws.Wf.align : Sys2Proof.Laws.Wf.Statement (.align) :=
  Sys2Proof.Laws.Wf.plain rfl rfl rfl rfl trivial

theorem Sys2Proof.Laws.Wf.delayChange : Sys2Proof.Laws.Wf.Statement (.delayChange) :=
  Sys2Proof.Laws.Wf.plain rfl rfl rfl rfl trivial

theorem Sys2Proof.Laws.Wf.stepAnnounced : Sys2Proof.Laws.Wf.Statement (.stepAnnounced) :=
  Sys2Proof.Laws.Wf.plain rfl rfl rfl rfl trivial

theorem Sys2Proof.Laws.Wf.slewStep : Sys2Proof.Laws.Wf.Statement (.slewStep) :=
  Sys2Proof.Laws.Wf.plain rfl rfl rfl rfl trivial

theorem Sys2Proof.Laws.Wf.swFreq (value : Word) : Sys2Proof.Laws.Wf.Statement (.swFreq value) :=
  Sys2Proof.Laws.Wf.plain rfl rfl rfl rfl trivial

theorem Sys2Proof.Laws.Wf.swPhase (value : Word) : Sys2Proof.Laws.Wf.Statement (.swPhase value) :=
  Sys2Proof.Laws.Wf.plain rfl rfl rfl rfl trivial

theorem Sys2Proof.Laws.Wf.swWdogExpired : Sys2Proof.Laws.Wf.Statement (.swWdogExpired) :=
  Sys2Proof.Laws.Wf.plain rfl rfl rfl rfl trivial

theorem Sys2Proof.Laws.Wf.mtimeSet (value : Word) : Sys2Proof.Laws.Wf.Statement (.mtimeSet value) :=
  Sys2Proof.Laws.Wf.plain rfl rfl rfl rfl trivial

theorem Sys2Proof.Laws.Wf.holdoverLong : Sys2Proof.Laws.Wf.Statement (.holdoverLong) :=
  Sys2Proof.Laws.Wf.plain rfl rfl rfl rfl trivial

theorem Sys2Proof.Laws.Wf.tbSnap : Sys2Proof.Laws.Wf.Statement (.tbSnap) :=
  Sys2Proof.Laws.Wf.plain rfl rfl rfl rfl trivial

theorem Sys2Proof.Laws.Wf.timerArm (k : Fin 4) (value : Word) : Sys2Proof.Laws.Wf.Statement (.timerArm k value) :=
  Sys2Proof.Laws.Wf.plain rfl rfl rfl rfl trivial

theorem Sys2Proof.Laws.Wf.timerDisarm (k : Fin 4) (value : Word) : Sys2Proof.Laws.Wf.Statement (.timerDisarm k value) :=
  Sys2Proof.Laws.Wf.plain rfl rfl rfl rfl trivial

theorem Sys2Proof.Laws.Wf.timerRearm (k : Fin 4) (value : Word) : Sys2Proof.Laws.Wf.Statement (.timerRearm k value) :=
  Sys2Proof.Laws.Wf.plain rfl rfl rfl rfl trivial

theorem Sys2Proof.Laws.Wf.timerFire (k : Fin 4) : Sys2Proof.Laws.Wf.Statement (.timerFire k) :=
  Sys2Proof.Laws.Wf.plain rfl rfl rfl rfl trivial

theorem Sys2Proof.Laws.Wf.evtLogPop : Sys2Proof.Laws.Wf.Statement (.evtLogPop) :=
  Sys2Proof.Laws.Wf.plain rfl rfl rfl rfl trivial

theorem Sys2Proof.Laws.Wf.timePortRead (vc : Vc) : Sys2Proof.Laws.Wf.Statement (.timePortRead vc) :=
  Sys2Proof.Laws.Wf.plain rfl rfl rfl rfl trivial

theorem Sys2Proof.Laws.Wf.refillTick : Sys2Proof.Laws.Wf.Statement (.refillTick) :=
  Sys2Proof.Laws.Wf.plain rfl rfl rfl rfl trivial

theorem Sys2Proof.Laws.Wf.fqRate (h : HostId) (value : Word) : Sys2Proof.Laws.Wf.Statement (.fqRate h value) :=
  Sys2Proof.Laws.Wf.plain rfl rfl rfl rfl trivial

theorem Sys2Proof.Laws.Wf.fqDepth (h : HostId) (value : Word) : Sys2Proof.Laws.Wf.Statement (.fqDepth h value) :=
  Sys2Proof.Laws.Wf.plain rfl rfl rfl rfl trivial

theorem Sys2Proof.Laws.Wf.reload (h : HostId) : Sys2Proof.Laws.Wf.Statement (.reload h) :=
  Sys2Proof.Laws.Wf.plain rfl rfl rfl rfl trivial

theorem Sys2Proof.Laws.Wf.clrMax (h : HostId) : Sys2Proof.Laws.Wf.Statement (.clrMax h) :=
  Sys2Proof.Laws.Wf.plain rfl rfl rfl rfl trivial

theorem Sys2Proof.Laws.Wf.clrAllMax (h : HostId) : Sys2Proof.Laws.Wf.Statement (.clrAllMax h) :=
  Sys2Proof.Laws.Wf.plain rfl rfl rfl rfl trivial

theorem Sys2Proof.Laws.Wf.fqQuota (h : HostId) (value : Word) : Sys2Proof.Laws.Wf.Statement (.fqQuota h value) :=
  Sys2Proof.Laws.Wf.plain rfl rfl rfl rfl trivial

theorem Sys2Proof.Laws.Wf.telemetrySample (h : HostId) : Sys2Proof.Laws.Wf.Statement (.telemetrySample h) :=
  Sys2Proof.Laws.Wf.plain rfl rfl rfl rfl trivial

theorem Sys2Proof.Laws.Wf.gateEdge (p : Port) : Sys2Proof.Laws.Wf.Statement (.gateEdge p) :=
  Sys2Proof.Laws.Wf.plain rfl rfl rfl rfl trivial

theorem Sys2Proof.Laws.Wf.gateLead (p : Port) : Sys2Proof.Laws.Wf.Statement (.gateLead p) :=
  Sys2Proof.Laws.Wf.plain rfl rfl rfl rfl trivial

theorem Sys2Proof.Laws.Wf.takeover (p : Port) : Sys2Proof.Laws.Wf.Statement (.takeover p) :=
  Sys2Proof.Laws.Wf.plain rfl rfl rfl rfl trivial

theorem Sys2Proof.Laws.Wf.rsvAdmit (value : Word) : Sys2Proof.Laws.Wf.Statement (.rsvAdmit value) :=
  Sys2Proof.Laws.Wf.plain rfl rfl rfl rfl trivial

theorem Sys2Proof.Laws.Wf.rsvRelease (value : Word) : Sys2Proof.Laws.Wf.Statement (.rsvRelease value) :=
  Sys2Proof.Laws.Wf.plain rfl rfl rfl rfl trivial

theorem Sys2Proof.Laws.Wf.rsvCmdDone (bad16 : Bool) (rows : BitVec 8) : Sys2Proof.Laws.Wf.Statement (.rsvCmdDone bad16 rows) :=
  Sys2Proof.Laws.Wf.plain rfl rfl rfl rfl trivial

theorem Sys2Proof.Laws.Wf.recheck (bad16 : Bool) (rows : BitVec 8) : Sys2Proof.Laws.Wf.Statement (.recheck bad16 rows) :=
  Sys2Proof.Laws.Wf.plain rfl rfl rfl rfl trivial

theorem Sys2Proof.Laws.Wf.loadHeldClear (k : Fin 4096) : Sys2Proof.Laws.Wf.Statement (.loadHeldClear k) :=
  Sys2Proof.Laws.Wf.plain rfl rfl rfl rfl trivial

theorem Sys2Proof.Laws.Wf.derateAccept (p : Port) (value : BitVec 3) : Sys2Proof.Laws.Wf.Statement (.derateAccept p value) :=
  Sys2Proof.Laws.Wf.plain rfl rfl rfl rfl trivial

theorem Sys2Proof.Laws.Wf.artwW3 (value : Word) : Sys2Proof.Laws.Wf.Statement (.artwW3 value) :=
  Sys2Proof.Laws.Wf.plain rfl rfl rfl rfl trivial

theorem Sys2Proof.Laws.Wf.artCount (value : Word) : Sys2Proof.Laws.Wf.Statement (.artCount value) :=
  Sys2Proof.Laws.Wf.plain rfl rfl rfl rfl trivial

theorem Sys2Proof.Laws.Wf.validate (value : Word) : Sys2Proof.Laws.Wf.Statement (.validate value) :=
  Sys2Proof.Laws.Wf.plain rfl rfl rfl rfl trivial

theorem Sys2Proof.Laws.Wf.copy (value : Word) : Sys2Proof.Laws.Wf.Statement (.copy value) :=
  Sys2Proof.Laws.Wf.plain rfl rfl rfl rfl trivial

theorem Sys2Proof.Laws.Wf.clear (value : Word) : Sys2Proof.Laws.Wf.Statement (.clear value) :=
  Sys2Proof.Laws.Wf.plain rfl rfl rfl rfl trivial

theorem Sys2Proof.Laws.Wf.cmdDone (bad : BitVec 18) : Sys2Proof.Laws.Wf.Statement (.cmdDone bad) :=
  Sys2Proof.Laws.Wf.plain rfl rfl rfl rfl trivial

theorem Sys2Proof.Laws.Wf.swapArm : Sys2Proof.Laws.Wf.Statement (.swapArm) :=
  Sys2Proof.Laws.Wf.plain rfl rfl rfl rfl trivial

theorem Sys2Proof.Laws.Wf.swapDisarm : Sys2Proof.Laws.Wf.Statement (.swapDisarm) :=
  Sys2Proof.Laws.Wf.plain rfl rfl rfl rfl trivial

theorem Sys2Proof.Laws.Wf.swapRearm : Sys2Proof.Laws.Wf.Statement (.swapRearm) :=
  Sys2Proof.Laws.Wf.plain rfl rfl rfl rfl trivial

theorem Sys2Proof.Laws.Wf.artSwap : Sys2Proof.Laws.Wf.Statement (.artSwap) :=
  Sys2Proof.Laws.Wf.plain rfl rfl rfl rfl trivial

theorem Sys2Proof.Laws.Wf.artDrainSample : Sys2Proof.Laws.Wf.Statement (.artDrainSample) :=
  Sys2Proof.Laws.Wf.plain rfl rfl rfl rfl trivial

theorem Sys2Proof.Laws.Wf.artDrainStall : Sys2Proof.Laws.Wf.Statement (.artDrainStall) :=
  Sys2Proof.Laws.Wf.plain rfl rfl rfl rfl trivial

theorem Sys2Proof.Laws.Wf.flush (p : Port) : Sys2Proof.Laws.Wf.Statement (.flush p) :=
  Sys2Proof.Laws.Wf.plain rfl rfl rfl rfl trivial

theorem Sys2Proof.Laws.Wf.faultRecordPop : Sys2Proof.Laws.Wf.Statement (.faultRecordPop) :=
  Sys2Proof.Laws.Wf.plain rfl rfl rfl rfl trivial

theorem Sys2Proof.Laws.Wf.wdogAccept (p : Port) (vc : Vc) : Sys2Proof.Laws.Wf.Statement (.wdogAccept p vc) :=
  Sys2Proof.Laws.Wf.plain rfl rfl rfl rfl trivial

theorem Sys2Proof.Laws.Wf.wdogResp (p : Port) : Sys2Proof.Laws.Wf.Statement (.wdogResp p) :=
  Sys2Proof.Laws.Wf.plain rfl rfl rfl rfl trivial

theorem Sys2Proof.Laws.Wf.isolate (p : Port) : Sys2Proof.Laws.Wf.Statement (.isolate p) :=
  Sys2Proof.Laws.Wf.plain rfl rfl rfl rfl trivial

theorem Sys2Proof.Laws.Wf.swept (p : Port) : Sys2Proof.Laws.Wf.Statement (.swept p) :=
  Sys2Proof.Laws.Wf.plain rfl rfl rfl rfl trivial

theorem Sys2Proof.Laws.Wf.fenceGraceEnd (p : Port) : Sys2Proof.Laws.Wf.Statement (.fenceGraceEnd p) :=
  Sys2Proof.Laws.Wf.plain rfl rfl rfl rfl trivial

theorem Sys2Proof.Laws.Wf.readmit (p : Port) (newAck : Bool) : Sys2Proof.Laws.Wf.Statement (.readmit p newAck) :=
  Sys2Proof.Laws.Wf.plain rfl rfl rfl rfl trivial

theorem Sys2Proof.Laws.Wf.readmitReturn (p : Port) : Sys2Proof.Laws.Wf.Statement (.readmitReturn p) :=
  Sys2Proof.Laws.Wf.plain rfl rfl rfl rfl trivial

theorem Sys2Proof.Laws.Wf.removal (c : SlotGroup) : Sys2Proof.Laws.Wf.Statement (.removal c) :=
  Sys2Proof.Laws.Wf.plain rfl rfl rfl rfl trivial

theorem Sys2Proof.Laws.Wf.fence (c : SlotGroup) (lowUs : Nat) : Sys2Proof.Laws.Wf.Statement (.fence c lowUs) :=
  Sys2Proof.Laws.Wf.plain rfl rfl rfl rfl trivial

theorem Sys2Proof.Laws.Wf.warnGlitches (c : SlotGroup) (lowUs : Nat) : Sys2Proof.Laws.Wf.Statement (.warnGlitches c lowUs) :=
  Sys2Proof.Laws.Wf.plain rfl rfl rfl rfl trivial

theorem Sys2Proof.Laws.Wf.fuseTrip (c : SlotGroup) : Sys2Proof.Laws.Wf.Statement (.fuseTrip c) :=
  Sys2Proof.Laws.Wf.plain rfl rfl rfl rfl trivial

theorem Sys2Proof.Laws.Wf.slotInsert (c : SlotGroup) : Sys2Proof.Laws.Wf.Statement (.slotInsert c) :=
  Sys2Proof.Laws.Wf.plain rfl rfl rfl rfl trivial

theorem Sys2Proof.Laws.Wf.holdoff (c : SlotGroup) : Sys2Proof.Laws.Wf.Statement (.holdoff c) :=
  Sys2Proof.Laws.Wf.plain rfl rfl rfl rfl trivial

theorem Sys2Proof.Laws.Wf.errLogPop : Sys2Proof.Laws.Wf.Statement (.errLogPop) :=
  Sys2Proof.Laws.Wf.plain rfl rfl rfl rfl trivial

theorem Sys2Proof.Laws.Wf.epReset (p : Port) : Sys2Proof.Laws.Wf.Statement (.epReset p) :=
  Sys2Proof.Laws.Wf.plain rfl rfl rfl rfl trivial

theorem Sys2Proof.Laws.Wf.epReadyFall (p : Port) : Sys2Proof.Laws.Wf.Statement (.epReadyFall p) :=
  Sys2Proof.Laws.Wf.plain rfl rfl rfl rfl trivial

theorem Sys2Proof.Laws.Wf.teiResetRelease (p : Port) (rstN ready : Bool) : Sys2Proof.Laws.Wf.Statement (.teiResetRelease p rstN ready) :=
  Sys2Proof.Laws.Wf.plain rfl rfl rfl rfl trivial

theorem Sys2Proof.Laws.Wf.teiUp (p : Port) : Sys2Proof.Laws.Wf.Statement (.teiUp p) :=
  Sys2Proof.Laws.Wf.plain rfl rfl rfl rfl trivial

theorem Sys2Proof.Laws.Wf.pwrAck (p : Port) (nak : Bool) : Sys2Proof.Laws.Wf.Statement (.pwrAck p nak) :=
  Sys2Proof.Laws.Wf.plain rfl rfl rfl rfl trivial

theorem Sys2Proof.Laws.Wf.pwrNak (p : Port) (reason : BitVec 4) : Sys2Proof.Laws.Wf.Statement (.pwrNak p reason) :=
  Sys2Proof.Laws.Wf.plain rfl rfl rfl rfl trivial

theorem Sys2Proof.Laws.Wf.epWakeReq (p : Port) : Sys2Proof.Laws.Wf.Statement (.epWakeReq p) :=
  Sys2Proof.Laws.Wf.plain rfl rfl rfl rfl trivial

theorem Sys2Proof.Laws.Wf.setLevel (level : Fin 4) : Sys2Proof.Laws.Wf.Statement (.setLevel level) :=
  Sys2Proof.Laws.Wf.plain rfl rfl rfl rfl trivial

theorem Sys2Proof.Laws.Wf.levelRecheckDone : Sys2Proof.Laws.Wf.Statement (.levelRecheckDone) :=
  Sys2Proof.Laws.Wf.plain rfl rfl rfl rfl trivial

theorem Sys2Proof.Laws.Wf.powerGood : Sys2Proof.Laws.Wf.Statement (.powerGood) :=
  Sys2Proof.Laws.Wf.plain rfl rfl rfl rfl trivial

theorem Sys2Proof.Laws.Wf.flowHold : Sys2Proof.Laws.Wf.Statement (.flowHold) :=
  Sys2Proof.Laws.Wf.plain rfl rfl rfl rfl trivial

theorem Sys2Proof.Laws.Wf.pllRelock : Sys2Proof.Laws.Wf.Statement (.pllRelock) :=
  Sys2Proof.Laws.Wf.plain rfl rfl rfl rfl trivial

theorem Sys2Proof.Laws.Wf.levelRetrain : Sys2Proof.Laws.Wf.Statement (.levelRetrain) :=
  Sys2Proof.Laws.Wf.plain rfl rfl rfl rfl trivial

theorem Sys2Proof.Laws.Wf.rampDownDone : Sys2Proof.Laws.Wf.Statement (.rampDownDone) :=
  Sys2Proof.Laws.Wf.plain rfl rfl rfl rfl trivial

theorem Sys2Proof.Laws.Wf.levelFailed : Sys2Proof.Laws.Wf.Statement (.levelFailed) :=
  Sys2Proof.Laws.Wf.plain rfl rfl rfl rfl trivial

theorem Sys2Proof.Laws.Wf.n1Entry (p : Port) : Sys2Proof.Laws.Wf.Statement (.n1Entry p) :=
  Sys2Proof.Laws.Wf.plain rfl rfl rfl rfl trivial

theorem Sys2Proof.Laws.Wf.sleepOk (value : Word) : Sys2Proof.Laws.Wf.Statement (.sleepOk value) :=
  Sys2Proof.Laws.Wf.plain rfl rfl rfl rfl trivial

theorem Sys2Proof.Laws.Wf.niSleep (p : Port) : Sys2Proof.Laws.Wf.Statement (.niSleep p) :=
  Sys2Proof.Laws.Wf.plain rfl rfl rfl rfl trivial

theorem Sys2Proof.Laws.Wf.niDrained (p : Port) : Sys2Proof.Laws.Wf.Statement (.niDrained p) :=
  Sys2Proof.Laws.Wf.plain rfl rfl rfl rfl trivial

theorem Sys2Proof.Laws.Wf.ackTimeout (p : Port) : Sys2Proof.Laws.Wf.Statement (.ackTimeout p) :=
  Sys2Proof.Laws.Wf.plain rfl rfl rfl rfl trivial

theorem Sys2Proof.Laws.Wf.drainTimeout (p : Port) : Sys2Proof.Laws.Wf.Statement (.drainTimeout p) :=
  Sys2Proof.Laws.Wf.plain rfl rfl rfl rfl trivial

theorem Sys2Proof.Laws.Wf.flushAck (p : Port) : Sys2Proof.Laws.Wf.Statement (.flushAck p) :=
  Sys2Proof.Laws.Wf.plain rfl rfl rfl rfl trivial

theorem Sys2Proof.Laws.Wf.flushTimeout (p : Port) : Sys2Proof.Laws.Wf.Statement (.flushTimeout p) :=
  Sys2Proof.Laws.Wf.plain rfl rfl rfl rfl trivial

theorem Sys2Proof.Laws.Wf.imageCrcStored (p : Port) (ecc : Bool) : Sys2Proof.Laws.Wf.Statement (.imageCrcStored p ecc) :=
  Sys2Proof.Laws.Wf.plain rfl rfl rfl rfl trivial

theorem Sys2Proof.Laws.Wf.n2Entered (p : Port) : Sys2Proof.Laws.Wf.Statement (.n2Entered p) :=
  Sys2Proof.Laws.Wf.plain rfl rfl rfl rfl trivial

theorem Sys2Proof.Laws.Wf.niWake (p : Port) : Sys2Proof.Laws.Wf.Statement (.niWake p) :=
  Sys2Proof.Laws.Wf.plain rfl rfl rfl rfl trivial

theorem Sys2Proof.Laws.Wf.niSupplyGood (p : Port) : Sys2Proof.Laws.Wf.Statement (.niSupplyGood p) :=
  Sys2Proof.Laws.Wf.plain rfl rfl rfl rfl trivial

theorem Sys2Proof.Laws.Wf.imageRestore (p : Port) (err : List (Nat × Word)) (ecc : Bool) : Sys2Proof.Laws.Wf.Statement (.imageRestore p err ecc) :=
  Sys2Proof.Laws.Wf.plain rfl rfl rfl rfl trivial

theorem Sys2Proof.Laws.Wf.wakeLinkUp (p : Port) : Sys2Proof.Laws.Wf.Statement (.wakeLinkUp p) :=
  Sys2Proof.Laws.Wf.plain rfl rfl rfl rfl trivial

theorem Sys2Proof.Laws.Wf.wakeTimeout (p : Port) : Sys2Proof.Laws.Wf.Statement (.wakeTimeout p) :=
  Sys2Proof.Laws.Wf.plain rfl rfl rfl rfl trivial

theorem Sys2Proof.Laws.Wf.configValid : Sys2Proof.Laws.Wf.Statement (.configValid) :=
  Sys2Proof.Laws.Wf.plain rfl rfl rfl rfl trivial

theorem Sys2Proof.Laws.Wf.fabSleep : Sys2Proof.Laws.Wf.Statement (.fabSleep) :=
  Sys2Proof.Laws.Wf.plain rfl rfl rfl rfl trivial

theorem Sys2Proof.Laws.Wf.f3NoReturn : Sys2Proof.Laws.Wf.Statement (.f3NoReturn) :=
  Sys2Proof.Laws.Wf.plain rfl rfl rfl rfl trivial

theorem Sys2Proof.Laws.Wf.f3Entered (ecc : BitVec 26) : Sys2Proof.Laws.Wf.Statement (.f3Entered ecc) :=
  Sys2Proof.Laws.Wf.plain rfl rfl rfl rfl trivial

theorem Sys2Proof.Laws.Wf.fabWake : Sys2Proof.Laws.Wf.Statement (.fabWake) :=
  Sys2Proof.Laws.Wf.plain rfl rfl rfl rfl trivial

theorem Sys2Proof.Laws.Wf.f3PowerGood (err : List (Nat × Nat × Word)) (ecc : BitVec 26) : Sys2Proof.Laws.Wf.Statement (.f3PowerGood err ecc) :=
  Sys2Proof.Laws.Wf.plain rfl rfl rfl rfl trivial

theorem Sys2Proof.Laws.Wf.f3WakeDone : Sys2Proof.Laws.Wf.Statement (.f3WakeDone) :=
  Sys2Proof.Laws.Wf.plain rfl rfl rfl rfl trivial

theorem Sys2Proof.Laws.Wf.fabWakeFailed : Sys2Proof.Laws.Wf.Statement (.fabWakeFailed) :=
  Sys2Proof.Laws.Wf.plain rfl rfl rfl rfl trivial

theorem Sys2Proof.Laws.Wf.powerPortRead (vc : Vc) : Sys2Proof.Laws.Wf.Statement (.powerPortRead vc) :=
  Sys2Proof.Laws.Wf.plain rfl rfl rfl rfl trivial

theorem Sys2Proof.Laws.Wf.stripWindow : Sys2Proof.Laws.Wf.Statement (.stripWindow) :=
  Sys2Proof.Laws.Wf.plain rfl rfl rfl rfl trivial

theorem Sys2Proof.Laws.Wf.windowClose : Sys2Proof.Laws.Wf.Statement (.windowClose) :=
  Sys2Proof.Laws.Wf.plain rfl rfl rfl rfl trivial

theorem Sys2Proof.Laws.Wf.slicePrepare : Sys2Proof.Laws.Wf.Statement (.slicePrepare) :=
  Sys2Proof.Laws.Wf.plain rfl rfl rfl rfl trivial

theorem Sys2Proof.Laws.Wf.sliceTest (tsIdle : Bool) : Sys2Proof.Laws.Wf.Statement (.sliceTest tsIdle) :=
  Sys2Proof.Laws.Wf.plain rfl rfl rfl rfl trivial

theorem Sys2Proof.Laws.Wf.quietTimeout (tsIdle : Bool) : Sys2Proof.Laws.Wf.Statement (.quietTimeout tsIdle) :=
  Sys2Proof.Laws.Wf.plain rfl rfl rfl rfl trivial

theorem Sys2Proof.Laws.Wf.testEnd (m : SliceMeasure) : Sys2Proof.Laws.Wf.Statement (.testEnd m) :=
  Sys2Proof.Laws.Wf.plain rfl rfl rfl rfl trivial

theorem Sys2Proof.Laws.Wf.sliceDone (bad : Bool) : Sys2Proof.Laws.Wf.Statement (.sliceDone bad) :=
  Sys2Proof.Laws.Wf.plain rfl rfl rfl rfl trivial

theorem Sys2Proof.Laws.Wf.burn : Sys2Proof.Laws.Wf.Statement (.burn) :=
  Sys2Proof.Laws.Wf.plain rfl rfl rfl rfl trivial

theorem Sys2Proof.Laws.Wf.fuseDone : Sys2Proof.Laws.Wf.Statement (.fuseDone) :=
  Sys2Proof.Laws.Wf.plain rfl rfl rfl rfl trivial

theorem Sys2Proof.Laws.Wf.testMode (scanEn : Bool) (scanIn : BitVec 32) : Sys2Proof.Laws.Wf.Statement (.testMode scanEn scanIn) :=
  Sys2Proof.Laws.Wf.plain rfl rfl rfl rfl trivial

theorem Sys2Proof.Laws.Wf.zeroiseWait (acks : BitVec 32) : Sys2Proof.Laws.Wf.Statement (.zeroiseWait acks) :=
  Sys2Proof.Laws.Wf.plain rfl rfl rfl rfl trivial

theorem Sys2Proof.Laws.Wf.scanAllowed (acks : BitVec 32) : Sys2Proof.Laws.Wf.Statement (.scanAllowed acks) :=
  Sys2Proof.Laws.Wf.plain rfl rfl rfl rfl trivial

theorem Sys2Proof.Laws.Wf.ledgerEpoch : Sys2Proof.Laws.Wf.Statement (.ledgerEpoch) :=
  Sys2Proof.Laws.Wf.plain rfl rfl rfl rfl trivial

theorem Sys2Proof.Laws.Wf.epochClose : Sys2Proof.Laws.Wf.Statement (.epochClose) :=
  Sys2Proof.Laws.Wf.plain rfl rfl rfl rfl trivial

theorem Sys2Proof.Laws.Wf.readout : Sys2Proof.Laws.Wf.Statement (.readout) :=
  Sys2Proof.Laws.Wf.plain rfl rfl rfl rfl trivial

theorem Sys2Proof.Laws.Wf.pop : Sys2Proof.Laws.Wf.Statement (.pop) :=
  Sys2Proof.Laws.Wf.plain rfl rfl rfl rfl trivial

theorem Sys2Proof.Laws.Wf.recordReady : Sys2Proof.Laws.Wf.Statement (.recordReady) :=
  Sys2Proof.Laws.Wf.plain rfl rfl rfl rfl trivial

theorem Sys2Proof.Laws.Wf.ledgerPortRead (vc : Vc) : Sys2Proof.Laws.Wf.Statement (.ledgerPortRead vc) :=
  Sys2Proof.Laws.Wf.plain rfl rfl rfl rfl trivial

theorem Sys2Proof.Laws.Wf.lcRequest (value : Word) : Sys2Proof.Laws.Wf.Statement (.lcRequest value) :=
  Sys2Proof.Laws.Wf.plain rfl rfl rfl rfl trivial

theorem Sys2Proof.Laws.Wf.nonceGen : Sys2Proof.Laws.Wf.Statement (.nonceGen) :=
  Sys2Proof.Laws.Wf.plain rfl rfl rfl rfl trivial

theorem Sys2Proof.Laws.Wf.productionDone : Sys2Proof.Laws.Wf.Statement (.productionDone) :=
  Sys2Proof.Laws.Wf.plain rfl rfl rfl rfl trivial

theorem Sys2Proof.Laws.Wf.rmaDone (acks : BitVec 32) : Sys2Proof.Laws.Wf.Statement (.rmaDone acks) :=
  Sys2Proof.Laws.Wf.plain rfl rfl rfl rfl trivial

theorem Sys2Proof.Laws.Wf.slCtrl (n tms tdi : Nat) : Sys2Proof.Laws.Wf.Statement (.slCtrl n tms tdi) :=
  Sys2Proof.Laws.Wf.plain rfl rfl rfl rfl trivial

theorem Sys2Proof.Laws.Wf.smxAccess (a : SmxAccess) : Sys2Proof.Laws.Wf.Statement (.smxAccess a) :=
  Sys2Proof.Laws.Wf.plain rfl rfl rfl rfl trivial

theorem Sys2Proof.Laws.Wf.smxBridge (a : SmxAccess) : Sys2Proof.Laws.Wf.Statement (.smxBridge a) :=
  Sys2Proof.Laws.Wf.plain rfl rfl rfl rfl trivial

theorem Sys2Proof.Laws.Wf.commit (page : PageNo) : Sys2Proof.Laws.Wf.Statement (.commit page) :=
  Sys2Proof.Laws.Wf.ofPage rfl rfl rfl rfl trivial

theorem Sys2Proof.Laws.Wf.abort (page : PageNo) : Sys2Proof.Laws.Wf.Statement (.abort page) :=
  Sys2Proof.Laws.Wf.ofPage rfl rfl rfl rfl trivial

theorem Sys2Proof.Laws.Wf.quiesce (page : PageNo) (on : Bool) (master : Fin 5) : Sys2Proof.Laws.Wf.Statement (.quiesce page on master) :=
  Sys2Proof.Laws.Wf.ofPage rfl rfl rfl rfl trivial

theorem Sys2Proof.Laws.Wf.quiesced (page : PageNo) : Sys2Proof.Laws.Wf.Statement (.quiesced page) :=
  Sys2Proof.Laws.Wf.ofPage rfl rfl rfl rfl trivial

theorem Sys2Proof.Laws.Wf.gcJoin (page : PageNo) : Sys2Proof.Laws.Wf.Statement (.gcJoin page) :=
  Sys2Proof.Laws.Wf.ofPage rfl rfl rfl rfl trivial

theorem Sys2Proof.Laws.Wf.gcLeave (page : PageNo) : Sys2Proof.Laws.Wf.Statement (.gcLeave page) :=
  Sys2Proof.Laws.Wf.ofPage rfl rfl rfl rfl trivial

theorem Sys2Proof.Laws.Wf.gcArm : Sys2Proof.Laws.Wf.Statement (.gcArm) :=
  Sys2Proof.Laws.Wf.plain rfl rfl rfl rfl trivial

theorem Sys2Proof.Laws.Wf.gcDisarm : Sys2Proof.Laws.Wf.Statement (.gcDisarm) :=
  Sys2Proof.Laws.Wf.plain rfl rfl rfl rfl trivial

theorem Sys2Proof.Laws.Wf.gcRearm : Sys2Proof.Laws.Wf.Statement (.gcRearm) :=
  Sys2Proof.Laws.Wf.plain rfl rfl rfl rfl trivial

theorem Sys2Proof.Laws.Wf.globalCommit : Sys2Proof.Laws.Wf.Statement (.globalCommit) :=
  Sys2Proof.Laws.Wf.plain rfl rfl rfl rfl trivial

theorem Sys2Proof.Laws.Wf.irqSet (page : PageNo) (value : Word) : Sys2Proof.Laws.Wf.Statement (.irqSet page value) :=
  Sys2Proof.Laws.Wf.ofPage rfl rfl rfl rfl trivial

theorem Sys2Proof.Laws.Wf.registerWrite (page : PageNo) (off : BitVec 12) (value : Word) : Sys2Proof.Laws.Wf.Statement (.registerWrite page off value) :=
  by
  have h : Instr.wf (.registerWrite page off value) = (wfPage page && off.toNat % 8 == 0) := rfl
  simp [Sys2Proof.Laws.Wf.Statement, Sys2Proof.Laws.Wf.chansOf, Sys2Proof.Laws.Wf.inputsOf, Sys2Proof.Laws.Wf.pagesOf, Sys2Proof.Laws.Wf.alignedOf, h, wfPage, Option.isSome_iff_exists]

theorem Sys2Proof.Laws.Wf.pwrWarnNRise (c : SlotGroup) : Sys2Proof.Laws.Wf.Statement (.pwrWarnNRise c) :=
  Sys2Proof.Laws.Wf.plain rfl rfl rfl rfl trivial

theorem Sys2Proof.Laws.Wf.fuseTrippedFall (c : SlotGroup) : Sys2Proof.Laws.Wf.Statement (.fuseTrippedFall c) :=
  Sys2Proof.Laws.Wf.plain rfl rfl rfl rfl trivial

theorem Sys2Proof.Laws.Wf.testModeFall : Sys2Proof.Laws.Wf.Statement (.testModeFall) :=
  Sys2Proof.Laws.Wf.plain rfl rfl rfl rfl trivial

theorem Sys2Proof.Laws.Wf.tsLogPop : Sys2Proof.Laws.Wf.Statement (.tsLogPop) :=
  Sys2Proof.Laws.Wf.plain rfl rfl rfl rfl trivial

theorem Sys2Proof.Laws.Wf.microsecondTick : Sys2Proof.Laws.Wf.Statement (.microsecondTick) :=
  Sys2Proof.Laws.Wf.plain rfl rfl rfl rfl trivial
end

