-- ==== Sys2Proof/Tests/Slice0.lean ====
section
/-! SUPPORT. The model's own tests: ill-formed commands, a few effects by hand from the spec, and for each statement of
Certificates/Slice0/Obligations.lean concrete states and operands that meet its hypotheses, clause by clause. -/

namespace Sys2Proof.Tests

open Sys2Proof Sys2Proof.Machine

/-! ## Small states -/

/-- The machine after reset. -/
def r0 : State := State.reset

/-- After reset, with the fabric in F0. -/
def f0 : State := fset pgPower Pwr.pwrStatFstate 0 r0

/-- Port p in N0, with its TEI up. -/
def awake (p : Nat) (s : State) : State :=
  fset (pgNi p) Ni.teiStatState 2 (fset pgPower Pwr.pwrNiStatNstate 0 s p)

/-- F0 with HOST port 0 awake. -/
def h0 : State := awake 0 f0

/-- A channel and its reverse up. -/
def linkUp (c : Nat) (s : State) : State :=
  modChan (revChan c) (fun x => { x with st := .up }) (modChan c (fun x => { x with st := .up }) s)

/-- A read request of port 0 for port 25, deadline valid, with no chain. -/
def rd : Header := { (default : Header) with src := 0, legSrc := 0, dst := 25, tgt := 25, wp0 := 0xFF, wp1 := 0xFF, wp2 := 0xFF, dv := true, scls := 1 }

/-- The state after a command; the same state when it stops. -/
def after (c : Instr) (s : State) : State :=
  match exec c s with
  | .next t => t
  | _ => s

/-! ## Well-formed commands -/

/-- Channel 11 would leave row 0 upward: the part has no such channel (R11). -/
theorem test_absent_channel : Instr.wf (.replay 11) = false := by decide

/-- Router 0 is in row 0 and has no port index 11 (R10). -/
theorem test_absent_port : Instr.wf (.headArrive 0 11 0) = false := by decide

/-- Page 7 is not assigned (R356). -/
theorem test_unassigned_page : Instr.wf (.commit 7) = false := by decide

/-- A register offset is a multiple of 8 (R3). -/
theorem test_misaligned_offset : Instr.wf (.registerWrite 0 0x44 0) = false := by decide

theorem test_wf_present : Instr.wf (.replay 1024) = true ∧ Instr.wf (.headArrive 0 12 0) = true
    ∧ Instr.wf (.commit 8) = true ∧ Instr.wf (.registerWrite 0 0x48 0) = true := by decide

/-! ## The machine: what each statement assumes can be met -/

/-- A state with one command waiting. -/
def w1 : State := { r0 with pending := [.tsLogPop] }

theorem test_EveryCommandCompletes_hyps :
    hasChan 11 = false ∧ Instr.replay 11 ∈ [Instr.replay 11, .replayTo 11, .retrainDone 11 true, .trainDone 11, .flitGrant 11]
      ∧ (chan r0 11).wire = [] ∧ hasPort 0 11 = false ∧ (11 : Nat) ≠ 14 ∧ 4 / 16 = 0 ∧ 4 < 1024 ∧ kindOf 7 = none ∧ Instr.commit 7 ∈ [Instr.commit 7, .abort 7] := by decide

/-- A grant of a channel that the part does not have changes nothing. -/
theorem test_absent_channel_unchanged : exec (.flitGrant 11) r0 = .next r0 := rfl

theorem test_CommandsChangeOnly_hyps : (∃ t, exec .tsLogPop r0 = .next t) ∧ Part.mem ∉ writes .tsLogPop :=
  ⟨⟨_, rfl⟩, by decide⟩

/-- Port 0's link up, with an acknowledgement to tell in the idle flit of the NI's side. -/
def toldIdle : State := modChan (revChan 1024) (fun x => { x with ackNews := true }) (linkUp 1024 h0)

theorem test_IdleStep_hyps :
    hasChan 1024 = true ∧ carries toldIdle 1024 = true ∧ (chan toldIdle 1024).sent = false ∧ (chan toldIdle (revChan 1024)).owed = []
      ∧ ((chan toldIdle (revChan 1024)).ackNews || (chan toldIdle (revChan 1024)).nakOn) = true
      ∧ toldIdle.pending = [] ∧ toldIdle.strip.deadUntilReset = false ∧ toldIdle.smx.waiting = [] ∧ toldIdle.lc.slWait = none
      ∧ (chan toldIdle (revChan 1024)).st ≠ .train
      ∧ (let c := revChan 1024; ((chan toldIdle c).sent || !carries toldIdle c || ((chan toldIdle (revChan c)).owed.isEmpty
          && !((chan toldIdle (revChan c)).ackNews || (chan toldIdle (revChan c)).nakOn))) = true)
      ∧ (∀ x, x < 64 → (router r0 x).handed = [])
      ∧ r0.pending = [] ∧ r0.strip.deadUntilReset = false ∧ r0.smx.waiting = [] ∧ r0.lc.slWait = none
      ∧ (modStrip (fun t => { t with deadUntilReset := true }) r0).strip.deadUntilReset = true := by decide

theorem test_QueueUntouched_hyps : ∃ t, exec .tsLogPop w1 = .next t := ⟨_, rfl⟩

/-- A state with the invariant whose step answers a next state. -/
theorem test_StepKeepsInvariant_hyps : SysInv w1 ∧ ∃ t, step w1 = .next t :=
  ⟨⟨by decide, by decide, by decide, by decide, by decide, by decide, by decide, by decide, by decide,
      fun _ h => (by cases h), by decide⟩, ⟨_, rfl⟩⟩

theorem test_LifeCycleOnlyRises_hyps : SysInv w1 ∧ ∃ t, step w1 = .next t := test_StepKeepsInvariant_hyps

theorem test_ResetState_hyps : isLive 0 = true := by decide

theorem test_BootCopyAndDone_hyps :
    fbit r0 pgSmx Smx.smxBootBootDone = false ∧ r0.strip.deadUntilReset = false ∧ (65535 : Nat) < 65536
      ∧ 65536 ≤ (65536 : Nat) ∧ fbit (fset pgSmx Smx.smxBootBootDone 1 r0) pgSmx Smx.smxBootBootDone = true := by decide

/-- BOOT_DONE sets BOOT_DONE and BOOT_END (R354). -/
theorem test_bootDone : fbit (after .bootDone r0) pgSmx Smx.smxBootBootDone = true
    ∧ fbit (after .bootDone r0) pgSmx Smx.smxEvtBootEnd = true := by decide

/-! ## Links -/

/-- One flit of VC 0. -/
def flit (b : FlitBody) (seq : Nat) : Flit := { body := b, vc := 0, seq := seq, ack := none, nak := false, crd := none }

/-- A flit on the wires from port 0's NI to router 0. -/
def onWire (f : Flit) : State := modChan 1024 (fun x => { x with wire := [encodeFlit f] }) (linkUp 1024 h0)

/-- The same channel with wires that spell a flit, in the state x of the channel. -/
def onChan (f : Flit) (x : Chan → Chan) : State := modChan 1024 (fun c => { x c with wire := [encodeFlit f] }) (linkUp 1024 h0)

/-- No wire inverted. -/
def noErr : WireFlit := { payload := 0, check := 0, side := 0, sideCheck := 0 }

/-- Two wires of the first quarter inverted. -/
def twoErr : WireFlit := { noErr with payload := 3 }

/-- What a flit's wires spell, with the wires that err inverts. -/
def spelt (f : Flit) (err : WireFlit) : Option Flit := decodeFlit (flipWires (encodeFlit f) err)

theorem test_FlitReceived_hyps :
    carries (onWire (flit .idle 0)) 1024 = true ∧ carries (modChan 1024 (fun x => { x with st := .down }) (onWire (flit .idle 0))) 1024 = false
      ∧ carries (linkUp 1024 h0) 1024 = true ∧ (chan (linkUp 1024 h0) 1024).wire = []
      ∧ isSequenced (flit .idle 0) = false ∧ isSequenced (flit (.head rd true) 0) = true
      ∧ ((flit (.head rd true) 0).seq == (chan (onWire (flit (.head rd true) 0)) 1024).expSeq) = true
      ∧ framingBad (onWire (flit (.head rd true) 0)) 1024 (flit (.head rd true) 0) = false
      ∧ framingBad (onWire (flit (.data 0 true) 0)) 1024 (flit (.data 0 true) 0) = true
      ∧ ((flit (.head rd true) 1).seq == (chan (onWire (flit (.head rd true) 1)) 1024).expSeq) = false
      ∧ isAhead (onWire (flit (.head rd true) 1)) 1024 (flit (.head rd true) 1) = true
      ∧ isAhead (onChan (flit (.head rd true) 0) (fun x => { x with expSeq := 1 })) 1024 (flit (.head rd true) 0) = false := by
  decide

/-- The wires spell the flit that was sent, and with one wire inverted too (R33, R34). -/
theorem test_decodeFlit_head : spelt (flit (.head rd true) 5) noErr = some (flit (.head rd true) 5)
    ∧ spelt (flit (.head rd true) 5) { noErr with payload := 1 } = some (flit (.head rd true) 5)
    ∧ spelt (flit (.head rd true) 5) { noErr with side := 8 } = some (flit (.head rd true) 5) := by decide +kernel

theorem test_decodeFlit_idle : spelt (flit .idle 0) noErr = some (flit .idle 0)
    ∧ spelt (flit (.data 5 true) 0) noErr = some (flit (.data 5 true) 0) := by decide +kernel

/-- Two wires of one quarter inverted cannot be corrected (R34). -/
theorem test_decodeFlit_double : spelt (flit .idle 0) twoErr = none := by decide +kernel

/-- An uncorrectable flit: the wire is empty, NAK repeats, and the flit is counted (R34, R76). -/
theorem test_flitReceive_uncorrectable :
    (chan (after (.flitReceive 1024 twoErr) (onWire (flit .idle 0))) 1024).nakOn = true
      ∧ fget (after (.flitReceive 1024 twoErr) (onWire (flit .idle 0))) (pgRouter 0) Rtr.linkErrCntUncorrectable 0 = 1 := by
  decide +kernel

/-- A sender with one flit in its replay buffer. -/
def sender (naked : Bool) (noAck : Nat) : State :=
  modChan 1024 (fun x => { x with replay := [(flit (.head rd true) 0, rd)], naked := naked, noAck := noAck }) (linkUp 1024 h0)

/-- The link of output 4 of router 0 in training. -/
def training : State := modChan 4 (fun x => { x with st := .train }) h0

theorem test_ReplayAndTraining_hyps :
    hasChan 1024 = true ∧ carries (sender true 0) 1024 = true ∧ flowHold (sender true 0) = false
      ∧ (chan (sender true 0) 1024).naked = true
      ∧ carries (sender false 4000) 1024 = true ∧ (chan (sender false 4000) 1024).replay ≠ []
      ∧ fget (sender false 4000) (pgRouter (txOwner 1024).1) Rtr.linkCfgReplayTo ≤ (chan (sender false 4000) 1024).noAck
      ∧ (chan (sender false 4000) 1024).naked = false
      ∧ flowHold (modPower (fun w => { w with trans := some .l5 }) (sender true 0)) = true
      ∧ (chan (modChan 1024 (fun x => { x with retraining := true }) (sender true 0)) 1024).retraining = true
      ∧ fabOn (sender true 0) = true
      ∧ (chan (sender true 0) 1024).runs + 1 < fget (sender true 0) (pgRouter (txOwner 1024).1) Rtr.linkCfgRetryLimit
      ∧ (chan h0 1024).naked = false ∧ (chan h0 1024).replay = [] ∧ carries h0 1024 = false
      ∧ txOwner 4 ≠ txOwner (revChan 4) ∧ training.strip.deadUntilReset = false
      ∧ chanEnd 4 = .inr (1, 4) ∧ chanEnd (revChan 4) = .inr (0, 4) ∧ (4 : Nat) < 1024 ∧ fabOn training = true
      ∧ hasChan 4 = true ∧ 4 ≤ 4 % 16 ∧ (chan training 4).st = .train ∧ testHolds training 4 = false
      ∧ linkCode (after (.trainDone 4) (modChan (revChan 4) (fun x => { x with st := .up }) training)) 0 4 ≠ linkCode training 0 4
      ∧ (chan (modChan 1024 (fun x => { x with st := .train }) h0) 1024).st = .train ∧ niPowered h0 0 = true
      ∧ (chan (modChan 1024 (fun x => { x with st := .train }) f0) 1024).st = .train ∧ niPowered f0 0 = false
      ∧ hasChan 0 = true ∧ 0 % 16 < 4 ∧ (chan (modChan 0 (fun x => { x with st := .train }) h0) 0).st = .train := by decide

theorem test_replay_timer :
    (chan (after (.replayTo 1024) (sender false 4000)) 1024).wire.map (fun w => (decodeFlit w).map (·.seq)) = [some 0] := by
  decide +kernel

/-! ## Routers -/

/-- Input 0 of router 0 with one packet of VC 4 in the disposition d. -/
def atInput (d : Disp) : State :=
  modVc 1024 4 (fun b => { b with slots := [.head rd true d] }) (linkUp 1024 (linkUp 4 h0))

/-- A routing entry of router 0 for port 25 in both epochs. -/
def withRoute (s : State) : State :=
  { s with rt := tput 0 (tput 0 s.rt (rtKey 0 0 25) (0x1000001044#64)) (rtKey 0 1 25) (0x1000001044#64) }

/-- The same entry of router 0 made invalid. -/
def noRoute (s : State) : State := { s with rt := tins s.rt (rtKey 0 0 25) 0x44 }

/-- The NI of port 0 with one ready packet. -/
def niReady : State :=
  modNi 0 (fun n => { n with ready := [{ hdr := { rd with mcls := 3 }, data := [], vc := 4, src := .receipt 3 0 }] }) (linkUp 1024 h0)

/-- Router 0 with a built answer in its store. -/
def stored (n : Nat) : State :=
  modRouter 0 (fun x => { x with store := List.replicate n { hdr := { rd with mcls := 3 }, data := 0, going := none } })
    (withRoute (linkUp 1024 (linkUp 4 h0)))

/-- A packet of VC 4 at input 4 of router 0 whose flits stopped on the way. -/
def severed : State := modVc (inChan 0 4) 4 (fun b => { b with openRx := true, slots := [.head rd false .unseen] }) h0

/-- Router 0 with entries back to port 0 in both epochs. -/
def routesBack : State := { h0 with rt := tins (tins [] (rtKey 0 0 0) 0x1000000210) (rtKey 0 1 0) 0x1000000210 }

theorem test_HeadsAndGrants_hyps :
    hasPort 0 0 = true ∧ fabOn (atInput .unseen) = true
      ∧ firstUnseen (packetsOf (vcBuf (atInput .unseen) (inChan 0 0) 4).slots) 0 = some (0, rd, false)
      ∧ firstUnseen (packetsOf (vcBuf h0 (inChan 0 0) 4).slots) 0 = none
      ∧ judgeHead (withRoute (atInput .unseen)) 0 0 4 (synthesise (withRoute (atInput .unseen)) 0 (hopped rd))
        = .routed (routeOf (withRoute (atInput .unseen)) 0 0 4 (hopped rd))
      ∧ judgeHead (noRoute (atInput .unseen)) 0 0 4 (synthesise (noRoute (atInput .unseen)) 0 (hopped rd)) = .build .invalidRoute
      ∧ firstBuild (packetsOf (vcBuf (atInput (.build .malformed)) (inChan 0 0) 4).slots) 0 = some (0, rd, .malformed)
      ∧ waitsStore (atInput (.build .malformed)) 0 rd = false
      ∧ waitsStore (stored 8) 0 rd = true
      ∧ arbitrate (beginCycle 0 h0) 0 4 = none
      ∧ ((arbitrate (beginCycle 0 (withRoute (atInput (.routed (.fixed 4 4))))) 0 4).map (·.pos)) = some 0
      ∧ ((arbitrate (beginCycle 0 (stored 1)) 0 4).map (·.pos)) = some 14
      ∧ (niWinner niReady 0).isSome = true ∧ niWinner h0 0 = none ∧ (1024 : Nat) ≤ 1024 ∧ hasChan 4 = true
      ∧ isAnswered rd = true ∧ isAnswered { rd with mcls := 3 } = false ∧ fabOn h0 = true
      ∧ cutShort severed (inChan 0 4) 4 0 = true ∧ cutShort (atInput .unseen) (inChan 0 0) 4 0 = false
      ∧ (routeEntry routesBack 0 { routerAnswer rd (whyStatus .malformed) with epoch := injEpoch routesBack }).valid = true
      ∧ isLive (routerAnswer rd (whyStatus .malformed)).dst.toNat = true
      ∧ (vcBuf (atInput (.routed (.fixed 4 4))) (inChan 0 0) 4).slots = [.head rd true (.routed (.fixed 4 4))]
      ∧ inChan 0 0 ≠ outChan 0 4 := by decide

/-- Router 0 with the output of port 1 on its absorber. -/
def absorbAt (s : State) : State := modNi 1 (fun n => { n with diverted := true }) s

/-- Packet of VC 4 at input 0 of router 0 with a starvation count. -/
def starving (n : Nat) : State := modVc 1024 4 (fun b => { b with starve := n }) (atInput .unseen)

/-- The TEI of port 0 with a starvation count on VC 4. -/
def teiStarving : State := modNi 0 (fun n => { n with teiStarve := [(4, 65535)] }) h0

/-- A built answer of router 0 whose output stands on the absorber. -/
def builtAbsorb : State :=
  absorbAt (modRouter 0 (fun x => { x with store := [{ hdr := { rd with mcls := 3, dst := 1 }, data := 0, going := none }] })
    { h0 with rt := tins (tins [] (rtKey 0 0 1) 0x1000000211) (rtKey 0 1 1) 0x1000000211 })

theorem test_StarvedAndAbsorbed_hyps :
    hasChan 4 = true ∧ (4 : Nat) < 1024 ∧ hasPort (4 / 16) 0 = true
      ∧ frontHeader (vcBuf (starving 65535) (inChan 0 0) 4) = some rd ∧ isBC rd = true
      ∧ starveLimit (starving 65535) ≤ (vcBuf (starving 65535) (inChan 0 0) 4).starve
      ∧ (vcBuf (starving 0) (inChan 0 0) 4).starve < starveLimit (starving 0)
      ∧ (vcBuf (absorbAt (atInput (.routed (.fixed 1 4)))) (inChan 0 0) 4).slots = [.head rd true (.routed (.fixed 1 4))]
      ∧ absorbOut (absorbAt (atInput (.routed (.fixed 1 4)))) 0 (.fixed 1 4) = some 1
      ∧ withholds (absorbAt (atInput (.routed (.fixed 1 4)))) 0 1 rd = false
      ∧ withholds (modRouter 0 (fun x => { x with absorb := tput [] x.absorb 1 ((stored 8) |> fun y => (router y 0).store) })
          (absorbAt (atInput (.routed (.fixed 1 4))))) 0 1 rd = true
      ∧ builtToAbsorb h0 0 (List.range 15) = none
      ∧ hasChan 1024 = true ∧ starveLimit teiStarving ≤ tget 0 (ni teiStarving 0).teiStarve 4
      ∧ (builtToAbsorb builtAbsorb 0 (List.range 15)).isSome = true := by decide

/-! ## Route epochs -/

/-- RT_FLIP_TIME t, at MTIME 0. -/
def flipAtTime (t : Nat) : State := fset pgFg Fg.rtFlipTimeFlipTime t f0

/-- The old epoch drains. -/
def draining : State := fset pgFg Fg.rtEpochStatDraining 1 f0

theorem test_FlipArming_hyps :
    bankIdle draining (!injEpoch draining) = false
      ∧ bankIdle (flipAtTime 1023) (!injEpoch (flipAtTime 1023)) = true
      ∧ fget (flipAtTime 1023) pgFg Fg.rtFlipTimeFlipTime < (flipAtTime 1023).mtime.toNat + 1024
      ∧ bankIdle (flipAtTime 1024) (!injEpoch (flipAtTime 1024)) = true
      ∧ (flipAtTime 1024).mtime.toNat + 1024 ≤ fget (flipAtTime 1024) pgFg Fg.rtFlipTimeFlipTime
      ∧ (flipAtTime 1024).time.flipAt = none
      ∧ (modTime (fun t => { t with flipAt := some 9 }) (flipAtTime 1024)).time.flipAt ≠ none := by decide

/-- A flip that is armed stands, and the arm is refused with cause ARMED (R90). -/
theorem test_flipArm_armed :
    fget (after .flipArm (modTime (fun t => { t with flipAt := some 9 }) (flipAtTime 1024))) pgFg Fg.rtEpochStatRefuseCause = 3
      ∧ (after .flipArm (modTime (fun t => { t with flipAt := some 9 }) (flipAtTime 1024))).time.flipAt = some 9 := by decide

/-- RT_FLIP_TIME below MTIME + 1,024 refuses the arm with cause PAST (R90). -/
theorem test_flipArm_past : fget (after .flipArm (flipAtTime 1023)) pgFg Fg.rtEpochStatRefuseCause = 2
    ∧ (after .flipArm (flipAtTime 1023)).time.flipAt = none := by decide

/-- One packet of the old epoch left in router 0. -/
def residual : State := modRouter 0 (fun x => { x with inj1 := 1 }) draining

theorem test_RouteFlips_hyps :
    due (modTime (fun t => { t with flipAt := some 0 }) f0) (some 0) = true
      ∧ dueBefore (modTime (fun t => { t with flipAt := some 0 }) f0) srcFlip = false ∧ due f0 f0.time.flipAt = false
      ∧ dueBefore (modTime (fun t => { t with flipAt := some 0, gcAt := some 0 }) f0) srcFlip = true
      ∧ fbit draining pgFg Fg.rtEpochStatDraining = true ∧ drainCount draining (!injEpoch draining) = 0
      ∧ fbit residual pgFg Fg.rtEpochStatDraining = true ∧ drainCount residual (!injEpoch residual) ≠ 0
      ∧ draining.flipStalled = false
      ∧ draining.flipLim < { draining with us := 65536 }.us - draining.flipUs
      ∧ { draining with flipStalled := true }.flipStalled = true := by decide

/-- A drain sample takes RT_DRAIN_LIMIT over, and a limit written after it waits for the next one (R93). -/
theorem test_drainLimit :
    fbit (after .drainStall { after .drainSample (fset pgFg Fg.rtDrainLimitLimitUs 5 residual) with us := 6 })
        pgFg Fg.rtEpochStatDrainStall = true
      ∧ fbit (after .drainStall { fset pgFg Fg.rtDrainLimitLimitUs 5 (after .drainSample residual) with us := 6 })
        pgFg Fg.rtEpochStatDrainStall = false := by decide

/-- At the flip INJ_EPOCH toggles and the old epoch drains (R91). -/
theorem test_routeFlip :
    injEpoch (after .routeFlip (modTime (fun t => { t with flipAt := some 0 }) f0)) = true
      ∧ fbit (after .routeFlip (modTime (fun t => { t with flipAt := some 0 }) f0)) pgFg Fg.rtEpochStatDraining = true := by
  decide

theorem test_RouteEntryWritten_hyps :
    rtEntryOk 0 (0x000000000B &&& BitVec.ofNat 64 (2 ^ 37 - 1)) = false
      ∧ rtEntryOk 0 (0x1000001044 &&& BitVec.ofNat 64 (2 ^ 37 - 1)) = true
      ∧ bankIdle f0 (fget f0 (pgRouter 0) Rtr.rtIndexBank == 1) = false ∧ fabOn f0 = true
      ∧ (router f0 0).underTest = false ∧ (router (modRouter 0 (fun x => { x with underTest := true }) f0) 0).underTest = true
      ∧ fabOn r0 = false
      ∧ bankIdle (fset (pgRouter 0) Rtr.rtIndexBank 1 f0)
          (fget (fset (pgRouter 0) Rtr.rtIndexBank 1 f0) (pgRouter 0) Rtr.rtIndexBank == 1) = true := by decide

/-- Escape port 11 does not exist at router 0: RESERVED_ENC, and nothing is written (R89). -/
theorem test_rtData_reserved : fbit (after (.rtData 0 0x0B) f0) (pgRouter 0) Hdr.pageErrReservedEnc = true
    ∧ (after (.rtData 0 0x0B) f0).rt = [] := by decide

/-- RT_INDEX of router 0 at bank 1, with AUTOINC. -/
def indexed : State := fset (pgRouter 0) Rtr.rtIndexAutoinc 1 (fset (pgRouter 0) Rtr.rtIndexBank 1 f0)

/-- An entry of the idle bank takes the value, and RT_INDEX.ENTRY advances (R89). -/
theorem test_rtData : rtWord (after (.rtData 0 0x1000001044) indexed) 0 1 0 = 0x1000001044
    ∧ fget (after (.rtData 0 0x1000001044) indexed) (pgRouter 0) Rtr.rtIndexEntry = 1 := by decide

/-! ## Transactions -/

/-- Port p awake, with submission credits granted. -/
def credits (p : Nat) (s : State) : State := modNi p (fun n => { n with reqLim := 64, rspLim := 64 }) (awake p s)

/-- A read submitted by an endpoint. -/
def sub (h : Header) (kind : BitVec 3) : Submission :=
  { (default : Submission) with hdr := h, kind := kind, framed := true }

/-- A back-invalidate of a directory that names no host. -/
def bis : Header := { (default : Header) with mcls := 4, scls := 1, wp0 := 0xFF, wp1 := 0xFF, wp2 := 0xFF }

/-- Port 3 in a step of its wake, its TEI restarted. -/
def restarted : State := modNi 3 (fun n => { n with wake := some .w2 }) (fset pgPower Pwr.pwrNiStatNstate 2 (credits 3 f0) 3)

theorem test_RequestTaken_hyps :
    isLive 0 = true ∧ 0 ≠ portBridge ∧ niPowered (credits 0 f0) 0 = true
      ∧ niPowered restarted 3 = true ∧ niOn restarted 3 = false ∧ reqAvail restarted 3 ≠ 0 ∧ isolated restarted 3 = false
      ∧ (default : Submission).framed = false
      ∧ (sub rd 0).framed = true ∧ reqAvail (credits 0 f0) 0 ≠ 0 ∧ isolated (credits 0 f0) 0 = false
      ∧ ((sub rd 0).kind == 0 && requestKind 0 (sub rd 0).hdr) = true
      ∧ freeTag (wakeN1 0 (credits 0 f0)) 0 = some 0
      ∧ isLive 3 = true ∧ 3 ≠ portBridge ∧ niPowered (credits 3 f0) 3 = true ∧ portType 3 = .dir ∧ (sub bis 0).framed = true
      ∧ reqAvail (credits 3 f0) 3 ≠ 0 ∧ isolated (credits 3 f0) 3 = false ∧ (sub bis 0).kind = 0
      ∧ (sub bis 0).hdr.mcls = 4 ∧ (sub bis 0).hdr.mcast = 0 ∧ freeTag (wakeN1 3 (credits 3 f0)) 3 = some 0 := by decide

/-- A lookup of port 0 in row 0's engine. -/
def lookup (r : Option Verdict) : Lookup :=
  { port := 0, tag := 0, addr := 0, write := false, len := 0, mid := 0, group := 0, priv := false, report := r }

/-- A verdict that denies. -/
def deny : Verdict := { allow := false, cause := 1, part := 0, ccls := 0, ord := 0, gen := false, region := none }

def looking (r : Option Verdict) : State := { h0 with lookups := [(0, { waiting := [{ lookup r with since := some 0 }] })] }

/-- The lookup of `looking`, presented in cycle 0. -/
def looks (r : Option Verdict) : Lookup := { lookup r with since := some 0 }

/-- Port 0 with an entry in CHECK and its verdict on the way. -/
def verdictWaits : State :=
  modNi 0 (fun n => { n with verdicts := [{ tag := 0, v := deny, install := none }]
                             entries := [(0, some { st := .check, hdr := rd, waitsArt := true })] }) h0

theorem test_LookupAndVerdict_hyps :
    nodeGrant (checkRow h0 0) 0 3 1 = none
      ∧ nodeGrant (checkRow (looking none) 0) 0 3 1 = some (looks none) ∧ (looks none).report = none
      ∧ nodeGrant (checkRow (looking (some deny)) 0) 0 3 1 = some (looks (some deny)) ∧ (looks (some deny)).report = some deny
      ∧ (ni verdictWaits 0).verdicts = [{ tag := 0, v := deny, install := none }]
      ∧ (ni h0 0).verdicts = [] ∧ entry (modNi 0 (fun n => { n with entries := [] }) verdictWaits) 0 0 = none
      ∧ entry verdictWaits 0 0 = some { st := .check, hdr := rd, waitsArt := true } := by decide

/-- A lookup that no region holds is denied with a verdict message (R219, R221), and recorded (R229). -/
theorem test_artLookup :
    ((ni (after (.artLookup 0 false false) (looking none)) 0).verdicts.map (fun m => (m.tag, m.v.allow))) = [(0, false)]
      ∧ (after (.artLookup 0 false false) (looking none)).faults.length = 1 := by decide +kernel

/-- Port p with an entry in HOLD. -/
def holding (p : Nat) (h : Header) : State :=
  modNi p (fun n => { n with entries := [(0, some { st := .hold, hdr := h })] }) (linkUp (niChan p) (credits p f0))

/-- A management message of a service port. -/
def msg : Header := { (default : Header) with mcls := 6, opc := 2, scls := 3, src := 14, legSrc := 14, dst := 0, tgt := 0, wp0 := 0xFF, wp1 := 0xFF, wp2 := 0xFF }

theorem test_AdmissionOpens_hyps :
    isLive 14 = true ∧ niOn (credits 14 f0) 14 = true ∧ isHost 14 = false
      ∧ eligible (holdFlags 14 (credits 14 f0)) 14 = []
      ∧ eligible (holdFlags 14 (holding 14 msg)) 14 = [(0, { st := .hold, hdr := msg })]
      ∧ isLive 0 = true ∧ niOn (holding 0 rd) 0 = true ∧ isHost 0 = true ∧ (ni (holding 0 rd) 0).admitted = false
      ∧ (pickHost (holdFlags 0 (refillTick (holding 0 rd))) 0 (eligible (holdFlags 0 (refillTick (holding 0 rd))) 0)).isSome = true
      ∧ pickHost (holdFlags 0 (refillTick h0)) 0 (eligible (holdFlags 0 (refillTick h0)) 0) = none
      ∧ (ni (modNi 0 (fun n => { n with admitted := true }) h0) 0).admitted = true ∧ niOn h0 0 = true
      ∧ niOn niReady 0 = true
      ∧ ((niWinner niReady 0).bind (headOfWinner niReady 0)) = some (.receipt 3 0)
      ∧ ((niWinner niReady 0).bind (fun w => (ni niReady 0).ready[w.out]?)).map (·.headSent) = some false := by decide

/-- A response of VC v at port p's NI, complete. -/
def arrived (p : Nat) (h : Header) (e : Option Entry) : State :=
  modNi p (fun n => { n with entries := match e with | some e => [(0, some e)] | none => [] })
    (modVc (niRxChan p) 4 (fun b => { b with slots := [.head h true (.arrived false)] })
      (linkUp (niChan p) (credits p f0)))

/-- A write completion. -/
def ndr : Header := { rd with mcls := 3, src := 25, dst := 0 }

def opened (h : Header) : Entry := { st := .opened, hdr := h, wasOpen := true }

theorem test_ResponseMatched_hyps :
    isLive 0 = true ∧ unitPort 0 = false ∧ niOn (arrived 0 ndr none) 0 = true
      ∧ packetsOf (vcBuf (arrived 0 ndr none) (niRxChan 0) 4).slots = [(ndr, true, .arrived false, [])]
      ∧ isResponse ndr = true ∧ endsTail (frontPacket (vcBuf (arrived 0 ndr none) (niRxChan 0) 4).slots).1 = true
      ∧ entry (arrived 0 ndr none) 0 ndr.tag.toNat = none
      ∧ entry (arrived 0 ndr (some { opened rd with orphan := true })) 0 ndr.tag.toNat = some { opened rd with orphan := true }
      ∧ (entry (arrived 0 ndr (some { opened rd with st := .close })) 0 ndr.tag.toNat).any (fun e => e.st == .opened) = false
      ∧ ((opened rd).st == .opened) = true ∧ (opened rd).smx = false ∧ (opened rd).sl = none
      ∧ ((opened rd).hdr.mcls == 0 && ndr.mcls == 3 && (ndr.len != (opened rd).hdr.len || ndr.tailBytes != 0)) = false
      ∧ ((opened rd).hdr.mcls == 0 && ndr.mcls == 3 && ({ ndr with len := 1 }.len != (opened rd).hdr.len || ndr.tailBytes != 0)) = true
      ∧ ((birHost { ndr with mcls := 5, src := 0 }).filter { opened bis with mask := 1 }.mask.getLsbD).isSome = true
      ∧ (birHost { ndr with mcls := 5 }).filter (opened bis).mask.getLsbD = none
      ∧ (opened rd).orphan = false ∧ ((opened rd).st == .opened) = true ∧ ((opened rd).role == .served) = false
      ∧ teiTakes (arrived 0 ndr (some (opened rd))) 0 = true ∧ (opened rd).hdr.mcls ≠ 4
      ∧ (opened bis).hdr.mcls = 4 ∧ teiTakes (arrived 3 ndr (some (opened bis))) 3 = true
      ∧ entry (arrived 4 ndr (some { opened rd with role := .served, fetch := some rd })) 4 ndr.tag.toNat
          = some { opened rd with role := .served, fetch := some rd }
      ∧ ({ opened rd with role := .served, fetch := some rd }.role == .served) = true
      ∧ teiTakes (arrived 4 ndr (some { opened rd with role := .served, fetch := some rd })) 4 = true
      ∧ (ni (arrived 4 ndr none) 4).ready = [] := by decide

/-- A response that answers no entry is stray: no entry opens (R99). -/
theorem test_responseArrive_stray : (ni (after (.responseArrive 0 4) (arrived 0 ndr none)) 0).entries = [] := by decide

/-- Port 0 with n delivery credits of VC 4 and a packet with two data beats in its TEI FIFO. -/
def tei (n : Nat) : State :=
  modNi 0 (fun x => { x with dnCrd := [(4, n)], fifo := [(4, [{ hdr := ndr, data := [1, 2], kind := 1 }])] }) h0

/-- The same with one data beat left, or none, in the packet that closes entry 0. -/
def teiLast (l : List (BitVec 512)) : State :=
  modNi 0 (fun x => { x with dnCrd := [(4, 1)], fifo := [(4, [{ hdr := ndr, data := l, kind := 1, frees := some 0 }])] }) h0

/-- Port 1 with a delivery credit and a request for its endpoint in its receive buffer. -/
def teiRequests (l : List Slot) : State :=
  modNi 1 (fun x => { x with dnCrd := [(4, 1)] }) (modVc (niRxChan 1) 4 (fun b => { b with slots := l }) (linkUp (niChan 1) (awake 1 f0)))

/-- A read for port 1, and a write of one data flit. -/
def rd1 : Header := { rd with dst := 1, tgt := 1 }

theorem test_CreditsAndBeats_hyps :
    isLive 0 = true ∧ teiAble (tei 254) 0 = true ∧ tget 0 (ni (tei 254) 0).dnCrd 4 < 255
      ∧ teiAble (tei 255) 0 = true ∧ 255 ≤ tget 0 (ni (tei 255) 0).dnCrd 4
      ∧ teiWinner h0 0 = none ∧ ((teiWinner (tei 1) 0).map (·.vc)) = some 4
      ∧ tget [] (ni (tei 1) 0).fifo 4 = [{ hdr := ndr, data := [1, 2], kind := 1 }]
      ∧ ((teiWinner (teiLast [1]) 0).map (·.vc)) = some 4 ∧ ((teiWinner (teiLast []) 0).map (·.vc)) = some 4
      ∧ tget [] (ni (teiLast [1]) 0).fifo 4 = [{ hdr := ndr, data := [1], kind := 1, frees := some 0 }]
      ∧ ((teiWinner (teiRequests [.head rd1 true .unseen]) 1).map (·.vc)) = some 4
      ∧ ((teiWinner (teiRequests [.head { rd1 with opc := 1 } false .unseen, .data 7 true]) 1).map (·.vc)) = some 4
      ∧ (vcBuf (teiRequests [.head rd1 true .unseen]) (niRxChan 1) 4).slots = [.head rd1 true .unseen]
      ∧ tget [] (ni (teiRequests [.head rd1 true .unseen]) 1).fifo 4 = [] := by decide +kernel

/-- A beat takes one delivery credit of its VC (R271, R278). -/
theorem test_teiDeliver : tget 0 (ni (after (.teiDeliver 0) (tei 1)) 0).dnCrd 4 = 0 := by decide

/-- Leg 0 of a chain that CRYPT port 4 serves. -/
def leg : Header := { rd with wp0 := 4, dst := 4 }

def legArrived : State :=
  modVc (niRxChan 4) 4 (fun b => { b with slots := [.head leg true .unseen] }) (linkUp (niChan 4) (credits 4 f0))

theorem test_WaypointServes_hyps :
    isLive 4 = true ∧ niOn legArrived 4 = true ∧ isolated legArrived 4 = false ∧ servedRoom legArrived 4 = true
      ∧ firstUnserved 4 (packetsOf (vcBuf legArrived (niRxChan 4) 4).slots) 0 = some (0, leg, .unseen)
      ∧ freeTag legArrived 4 = some 0 := by decide

/-- CRYPT port 4 with the receipt and the served entry of a leg. -/
def serving (r : Bool) (e : Bool) : State :=
  modNi 4 (fun n => { n with receipts := if r then [{ hdr := leg, age := 0 }] else []
                             entries := if e then [(0, some { opened leg with role := .served })] else [] }) (credits 4 f0)

/-- Port 0 with an entry OPEN for as long as its legacy limit. -/
def aged (en : Nat) (age : Nat) : State :=
  fset (pgNi 0) Ni.legacyCfgLegacyEn en
    (modNi 0 (fun n => { n with entries := [(0, some { opened rd with age := age, legTo := 100 })] }) h0)

theorem test_ResultsAndLegacy_hyps :
    isLive 4 = true ∧ niPowered (serving true true) 4 = true ∧ (sub ndr 1).framed = true ∧ rspAvail (serving true true) 4 ≠ 0
      ∧ isolated (serving true true) 4 = false ∧ ((sub ndr 1).kind == 1 && responseKind 4 (sub ndr 1).hdr) = true
      ∧ openReceipt (ni (wakeN1 4 (serving false false)) 4) ndr.dst.toNat ndr.tag.toNat = none
      ∧ openReceipt (ni (wakeN1 4 (serving true false)) 4) ndr.dst.toNat ndr.tag.toNat = some { hdr := leg, age := 0 }
      ∧ servedEntry (ni (wakeN1 4 (serving true false)) 4) ndr.dst.toNat ndr.tag.toNat = none
      ∧ ((sub rd 2).kind == 2 && isEngine 4) = true ∧ ((sub rd 3).kind == 3 && isEngine 4) = true
      ∧ openReceipt (ni (wakeN1 4 (serving true true)) 4) rd.src.toNat rd.tag.toNat = some { hdr := leg, age := 0 }
      ∧ servedEntry (ni (wakeN1 4 (serving true true)) 4) rd.src.toNat rd.tag.toNat = some (0, { opened leg with role := .served })
      ∧ resultStray { opened leg with role := .served } = false
      ∧ entry (aged 1 100) 0 0 = some { opened rd with age := 100, legTo := 100 }
      ∧ fbit (aged 1 100) (pgNi 0) Ni.legacyCfgLegacyEn = true ∧ (100 : Nat) ≤ 100 ∧ (99 : Nat) < 100
      ∧ fbit (aged 0 100) (pgNi 0) Ni.legacyCfgLegacyEn = false := by decide

/-! ## Staged words -/

theorem test_StagedWords_hyps :
    hasSad 0 = true ∧ sadW1Bad (0x4000001#64).toNat = false ∧ sadW0Bad (6#64).toNat = true ∧ sadW1Bad (1#64).toNat = true
      ∧ sadW0Bad (0#64).toNat = false ∧ hasSad 1 = false
      ∧ (1#64).toNat / 2 ^ 26 % 2 ^ 26 < (1#64).toNat % 2 ^ 26
      ∧ (0x4000001#64).toNat % 2 ^ 26 ≤ (0x4000001#64).toNat / 2 ^ 26 % 2 ^ 26
      ∧ (0#64).toNat % 2 ^ 46 < sget (sset pgArt Art.dmW0Start 1 r0 0) pgArt Art.dmW0Start 0
      ∧ sget (sset pgArt Art.dmW0Start 1 r0 0) pgArt Art.dmW0Start 0 ≤ (1#64).toNat % 2 ^ 46 := by decide

/-- A SAD word with a reserved KIND keeps its value and sets RESERVED_ENC (R124, R6). -/
theorem test_sadWrite_reserved : fbit (after (.sadWrite 0 0 false 6) h0) (pgNi 0) Hdr.pageErrReservedEnc = true
    ∧ (after (.sadWrite 0 0 false 6) h0).staged = [] := by decide

/-! ## Machine time -/

/-- The Time Unit in a state of R137, with tb_ref present. -/
def timeIn (st : Nat) : State := fset pgTime Tu.timeStatState st { r0 with pins := { r0.pins with tbRef := true } }

theorem test_ReferenceLost_hyps :
    (timeIn tsLocked).pins.tbRef = true ∧ inSlewLocked (timeIn tsLocked) = true ∧ inSlewLocked (timeIn tsSlew) = true
      ∧ r0.pins.tbRef = false ∧ fbit r0 pgTime Hdr.pageCtrlQuiesce = false ∧ timeState (timeIn tsSwDisc) = tsSwDisc
      ∧ timeState (timeIn tsFreerun) = tsFreerun ∧ timeState (timeIn tsHoldover) = tsHoldover
      ∧ (timeIn tsAcquire).pins.tbRef = true ∧ timeState (timeIn tsAcquire) = tsAcquire
      ∧ fget (timeIn tsLocked) pgTime Tu.timeCtrlCodeLossLimit
          ≤ (modTime (fun t => { t with badRun := fget r0 pgTime Tu.timeCtrlCodeLossLimit }) (timeIn tsLocked)).time.badRun
      ∧ inSlewLocked (modTime (fun t => { t with badRun := fget r0 pgTime Tu.timeCtrlCodeLossLimit }) (timeIn tsLocked)) = true
      ∧ timeState { timeIn tsAcquire with us := 50 } = tsAcquire
      ∧ 50 ≤ { timeIn tsAcquire with us := 50 }.us - { timeIn tsAcquire with us := 50 }.time.acqUs
      ∧ lockedInTime (modTime (fun t => { t with acqLock := 51 }) { timeIn tsAcquire with us := 50 }) = false
      ∧ lockedInTime (modTime (fun t => { t with acqLock := 50 }) { timeIn tsAcquire with us := 50 }) = true := by decide

/-- Losing tb_ref in LOCKED: HOLDOVER, TB_LOSS (R137). -/
theorem test_tbRefLoss : timeState (after .tbRefLoss (timeIn tsLocked)) = tsHoldover
    ∧ fbit (after .tbRefLoss (timeIn tsLocked)) pgTime Tu.timeEvtTbLoss = true := by decide

/-- A frame of EDGE_TIME 4,000 with the CRC over its 72 bits. -/
def frame (flags : BitVec 8) (crc : Nat) : TbFrame :=
  { sync := true, clean := true, flags := flags, edge := 4000, crc := BitVec.ofNat 16 crc }

/-- The CRC that the frame needs. -/
def good (flags : BitVec 8) : TbFrame := frame flags (crc16 (frameBits (frame flags 0)) 0xFFFF)

/-- The half-cells of a frame: SYNC, the fields, and IDLE; a cell of 1 is low, then high (R130, R131). -/
def cellsOf (f : TbFrame) : BitVec 200 :=
  let bits := frameBits f ++ (List.range 16).map (fun i => f.crc.getLsbD (15 - i)) ++ List.replicate 8 false
  BitVec.ofNat 200 (0xF + (bits.zipIdx.map (fun e => 2 ^ (2 * (4 + e.2) + e.1.toNat))).sum)

/-- The cells spell the frame. -/
theorem test_decodeFrame : decodeFrame (cellsOf (good 0x22)) = good 0x22 ∧ decodeFrame (cellsOf (frame 0x20 0)) = frame 0x20 0
    ∧ (decodeFrame (cellsOf (good 0x22) ^^^ 1)).sync = false ∧ (decodeFrame (cellsOf (good 0x22) ^^^ 256)).clean = false := by
  decide +kernel

/-- The CRC of the ASCII string of R133, as the rule gives it. -/
theorem test_crc_of_digits :
    crc16 (([0x31, 0x32, 0x33, 0x34, 0x35, 0x36, 0x37, 0x38, 0x39] : List Nat).flatMap
      (fun c => (List.range 8).map (fun i => c.testBit (7 - i)))) 0xFFFF = 0x29B1 := by decide +kernel

theorem test_TimebaseCrc_hyps :
    (0 : Nat) < 65536 ∧ (7 : Nat) < 8 ∧ (63 : Nat) < 64 ∧ (15 : Nat) < 16 ∧ srcSoftware (timeIn tsLocked) = false
      ∧ (timeIn tsLocked).pins.tbRef = true ∧ (decodeFrame (cellsOf (good 0x20))).sync = true
      ∧ (decodeFrame (cellsOf (good 0x20))).clean = true ∧ (decodeFrame (cellsOf (frame 0x20 0))).sync = true
      ∧ (decodeFrame (cellsOf (frame 0x20 0))).clean = true
      ∧ crc16 (frameBits (decodeFrame (cellsOf (frame 0x20 0)))) 0xFFFF ≠ (decodeFrame (cellsOf (frame 0x20 0))).crc.toNat
      ∧ crc16 (frameBits (decodeFrame (cellsOf (good 0x20)))) 0xFFFF = (decodeFrame (cellsOf (good 0x20))).crc.toNat := by
  decide +kernel

theorem test_Acquiring_hyps :
    (timeState (timeIn tsHoldover) == tsFreerun || timeState (timeIn tsHoldover) == tsHoldover) = true
      ∧ timeState (timeIn tsLocked) ≠ tsFreerun ∧ timeState (timeIn tsLocked) ≠ tsHoldover
      ∧ srcSoftware (fset pgTime Tu.timeCtrlSrc 1 r0) = true ∧ timeQuiesced (fset pgTime Hdr.pageCtrlQuiesce 1 r0) = true
      ∧ (timeState r0 == tsFreerun || timeState r0 == tsHoldover) = true ∧ srcSoftware r0 = false ∧ timeQuiesced r0 = false
      ∧ judgeFrame (timeIn tsAcquire) (decodeFrame (cellsOf (frame 0x20 0))) = some Tu.tbCountersCrc
      ∧ judgeFrame (timeIn tsAcquire) (decodeFrame (cellsOf (good 0x20))) = none
      ∧ (decodeFrame (cellsOf (good 0x20))).flags.getLsbD 1 = false
      ∧ timeState (timeIn tsAcquire) = tsAcquire
      ∧ judgeFrame (timeIn tsLocked) (decodeFrame (cellsOf (good 0x22))) = none
      ∧ (decodeFrame (cellsOf (good 0x22))).flags.getLsbD 1 = true
      ∧ inSlewLocked (timeIn tsLocked) = true ∧ (timeIn tsLocked).pins.tbRef = true := by decide +kernel

/-- ACQUIRE with enough good frames, from FREERUN, before the edge at 4,000. -/
def aligning : State := modTime (fun t => { t with alignAt := some 4000, goodRun := fget r0 pgTime Tu.timeCtrlAcqFrames }) (timeIn tsAcquire)

/-- The same alignment from HOLDOVER at an MTIME, with or without STEP_BACK_EN. -/
def realigning (now back : Nat) : State :=
  fset pgTime Tu.timeCtrlStepBackEn back (modTime (fun t => { t with alignAt := some 10000, origin := tsHoldover }) { aligning with mtime := BitVec.ofNat 64 now })

/-- What such an alignment would change. -/
def alignBy (now : Nat) : Int := ((10000#64 + BitVec.ofInt 64 (delayTicks (realigning now 0))).toNat : Int) - (realigning now 0).mtime.toNat

theorem test_TimeAdjusted_align_hyps :
    (∀ now ∈ [6000, 10000, 14001], (realigning now 0).time.alignAt = some 10000 ∧ timeState (realigning now 0) = tsAcquire
        ∧ detectorLocked (realigning now 0) = true ∧ (realigning now 0).time.origin = tsHoldover
        ∧ fget (realigning now 0) pgTime Tu.timeCtrlAcqFrames ≤ (realigning now 0).time.goodRun)
      ∧ alignBy 10000 = 0 ∧ alignBy 6000 = 4000 ∧ alignBy 14000 = -4000 ∧ alignBy 5999 = 4001 ∧ alignBy 14001 = -4001
      ∧ fget (realigning 0 0) pgTime Tu.timeCtrlSlewLimit = 4000
      ∧ fbit (realigning 0 0) pgTime Tu.timeCtrlStepBackEn = false ∧ fbit (realigning 0 1) pgTime Tu.timeCtrlStepBackEn = true := by
  decide +kernel

theorem test_TimeAdjusted_hyps :
    aligning.time.alignAt = some 4000 ∧ timeState aligning = tsAcquire ∧ detectorLocked aligning = true
      ∧ (modTime (fun t => { t with alignAt := none }) aligning).time.alignAt = none
      ∧ fget aligning pgTime Tu.timeCtrlAcqFrames ≤ aligning.time.goodRun ∧ aligning.time.origin = tsFreerun
      ∧ (modTime (fun t => { t with stepAt := some 4000 }) (timeIn tsLocked)).time.stepAt = some 4000
      ∧ 0 < (modTime (fun t => { t with offset := 1 }) (timeIn tsSlew)).time.offset
      ∧ (modTime (fun t => { t with offset := 1 }) (timeIn tsSlew)).time.slewAt
          ≤ (modTime (fun t => { t with offset := 1 }) (timeIn tsSlew)).mtime
      ∧ (modTime (fun t => { t with offset := -1 }) (timeIn tsSlew)).time.offset < 0
      ∧ (modTime (fun t => { t with delayChg := some 1 }) (timeIn tsLocked)).time.delayChg = some 1
      ∧ -(fget (timeIn tsLocked) pgTime Tu.timeCtrlSlewLimit : Int) ≤ 1 ∧ (1 : Int) ≤ fget (timeIn tsLocked) pgTime Tu.timeCtrlSlewLimit
      ∧ (timeIn tsLocked).time.offset = 0
      ∧ fget (timeIn tsLocked) pgTime Tu.timeCtrlSlewLimit = 4000
      ∧ fbit (timeIn tsLocked) pgTime Tu.timeCtrlStepBackEn = false
      ∧ fbit (fset pgTime Tu.timeCtrlStepBackEn 1 (timeIn tsLocked)) pgTime Tu.timeCtrlStepBackEn = true
      ∧ timeState (timeIn tsHoldover) = tsHoldover ∧ (-4001 : Int) < -4000 ∧ (4000 : Int) < 4001 ∧ r0.time.alignAt = none
      ∧ fbit (fset pgTime Hdr.pageStatQuiesced 1 (timeIn tsLocked)) pgTime Hdr.pageStatQuiesced = true
      ∧ timeState (fset pgTime Hdr.pageStatQuiesced 1 (timeIn tsLocked)) = tsLocked
      ∧ fbit (fset pgTime Hdr.pageStatQuiesced 1 r0) pgTime Hdr.pageStatQuiesced = true
      ∧ timeState (fset pgTime Hdr.pageStatQuiesced 1 r0) = tsFreerun
      ∧ fbit r0 pgTime Hdr.pageStatQuiesced = false ∧ (1#64).toNat ≠ fget r0 pgTime Tu.mtimeSetValue := by decide

/-- The first alignment puts MTIME at the announced edge (R139). -/
theorem test_align : (after .align aligning).mtime = 4000 ∧ timeState (after .align aligning) = tsLocked := by decide +kernel

/-- From HOLDOVER SLEW_LIMIT is slewed, one tick more steps; one tick more backward is slewed without STEP_BACK_EN (R139). -/
theorem test_align_holdover :
    (after .align (realigning 6000 0)).time.offset = 4000 ∧ (after .align (realigning 5999 0)).mtime = 10000
      ∧ (after .align (realigning 14001 0)).time.offset = -4001 := by decide +kernel

/-- MTIME_SET in FREERUN with the page quiesced (R142). -/
theorem test_mtimeSet : (after (.mtimeSet 77) (fset pgTime Hdr.pageStatQuiesced 1 r0)).mtime = 77 := by decide +kernel

/-- SRC = SOFTWARE in a state of R137. -/
def software (st : Nat) : State := fset pgTime Tu.timeCtrlSrc 1 (timeIn st)

theorem test_SoftwareClockAndSnap_hyps :
    srcSoftware (software tsFreerun) = true ∧ -(500 * 65536) ≤ ((0x1F40000#64).extractLsb' 0 32).toInt
      ∧ ((0x1F40000#64).extractLsb' 0 32).toInt ≤ 500 * 65536
      ∧ 500 * 65536 < ((0x1F40001#64).extractLsb' 0 32).toInt ∧ ((0xFE0BFFFF#64).extractLsb' 0 32).toInt < -(500 * 65536)
      ∧ 4000 ≤ (modTime (fun t => { t with snapAt := some 0 }) { r0 with mtime := 4000 }).mtime - (0 : Word)
      ∧ (timeState (software tsFreerun) == tsFreerun || timeState (software tsFreerun) == tsHoldover) = true
      ∧ srcSoftware r0 = false ∧ timeState (software tsSwDisc) = tsSwDisc
      ∧ fget (software tsSwDisc) pgTime Tu.timeLimitsSwWdogMs * 1000
          ≤ { software tsSwDisc with us := 65535000 }.us - (software tsSwDisc).time.swUs
      ∧ (modTime (fun t => { t with holdover := true }) r0).time.holdover = true ∧ r0.time.holdLong = false
      ∧ fget (fset pgTime Tu.timeLimitsHoAlarmMs 0 r0) pgTime Tu.timeLimitsHoAlarmMs * 1000
          ≤ fget (fset pgTime Tu.timeLimitsHoAlarmMs 0 r0) pgTime Tu.holdoverStatHoElapsedUs
      ∧ (modTime (fun t => { t with holdLong := true }) r0).time.holdLong = true
      ∧ r0.time.snapAt = none ∧ (modTime (fun t => { t with snapAt := some 0 }) { r0 with mtime := 3999 }).time.snapAt = some 0
      ∧ { r0 with mtime := 3999 }.mtime - 0 < (4000 : Word) := by
  decide

/-- TIMER k armed for a time, with a period. -/
def timer (at' per : Nat) : State := modTime (fun t => { t with timers := [(3, some (at', per))] }) r0

theorem test_TimersFire_hyps :
    (0xF9F08#64).getLsbD 3 = true ∧ ((0xF9F08#64).extractLsb' 8 32).toNat < 4000
      ∧ (0#64).getLsbD 3 = false ∧ 4000 ≤ ((0xFA008#64).extractLsb' 8 32).toNat
      ∧ tget none (timer 1 0).time.timers 3 = some (1, 0) ∧ (timer 1 0).mtime.toNat < 1
      ∧ tget none (timer 0 0).time.timers 3 = some (0, 0) ∧ 0 ≤ (timer 0 0).mtime.toNat ∧ dueBefore (timer 0 0) (srcTimer 3) = false
      ∧ dueBefore (modTime (fun t => { t with gcAt := some 0 }) (timer 0 0)) (srcTimer 3) = true ∧ tget none r0.time.timers 3 = none
      ∧ dueBefore (timer 0 4000) (srcTimer 3) = false
      ∧ tget none (timer 0 4000).time.timers 3 = some (0, 4000) := by decide

/-- A one-shot timer fires at its time and is disarmed (R143). -/
theorem test_timerFire : (fget (after (.timerFire 3) (timer 0 0)) pgTime Tu.timeEvtTimer).testBit 3 = true
    ∧ (after (.timerFire 3) (timer 0 0)).time.timers = [] := by decide

/-- A management read at the front of a unit's port. -/
def portGets (p : Nat) (h : Header) : State :=
  modVc (niRxChan p) 6 (fun b => { b with slots := [.head { h with dst := BitVec.ofNat 8 p } true (.arrived false)] })
    (linkUp (niChan p) (awake p f0))

/-- A management read there. -/
def mgt (p : Nat) : State := portGets p { msg with opc := 0 }

theorem test_ServicePorts_hyps :
    ∀ p ∈ [portTime, portPower, portLedger],
      ((portFront (mgt p) p 6).any (fun h => h.mcls == 6 && (h.opc == 0 || h.opc == 1))) = true
        ∧ ((portFront (portGets p msg) p 6).any (fun h => h.mcls == 6 && h.opc == 2)) = true
        ∧ ((portFront (portGets p rd) p 6).any (fun h => !(h.mcls == 6 && (h.opc == 0 || h.opc == 1 || h.opc == 2)))) = true
        ∧ portFront r0 p 6 = none ∧ ledgerGone (mgt p) = false ∧ isAnswered msg = false ∧ (mgt p).errLog.length < 64
        ∧ ledgerGone { mgt p with fuses := { r0.fuses with ledgerAbsent := true } } = true
        ∧ malformedNi { msg with opc := 0 } = false ∧ malformedNi { msg with ord := 3 } = true
        ∧ readsZero { msg with opc := 0 } = true := by decide

/-! ## Flow queues, shutter lists, reservations -/

/-- TOKENS of queue 0 one byte in debt. -/
def owing : State := setTokens (pgFqw 0) 0 (-1) h0

theorem test_Shapers_hyps :
    { h0 with mtime := 256 }.mtime.toNat / 256 ≠ { h0 with mtime := 256 }.refillAt ∧ h0.mtime.toNat / 256 = h0.refillAt
      ∧ hostOn h0 0 = true ∧ fget h0 (pgFqw 0) Fqw.fqDepthReloadMode (selQ h0 (pgFqw 0)) = 0
      ∧ fget (fset (pgFqw 0) Fqw.fqDepthReloadMode 1 h0 0) (pgFqw 0) Fqw.fqDepthReloadMode 0 ≠ 0
      ∧ (0xFFFFF#64).toNat / 2 ^ 20 % 2 ^ Fqw.fqDepthReloadMode.w = 0 ∧ hostOn r0 0 = false
      ∧ (0x100000#64).toNat / 2 ^ 20 % 2 ^ Fqw.fqDepthReloadMode.w ≠ 0
      ∧ shaperOn h0 0 = true ∧ (ni h0 (hostPort 0)).admitted = false ∧ (hostOn h0 0 && (ni h0 (hostPort 0)).admitted) = false
      ∧ shaperOn r0 0 = false ∧ (hostOn r0 0 && (ni r0 (hostPort 0)).admitted) = false
      ∧ shaperOn (modNi 0 (fun n => { n with underTest := true }) h0) 0 = false
      ∧ hostOn (modNi 0 (fun n => { n with admitted := true }) h0) 0 = true
      ∧ (ni (modNi 0 (fun n => { n with admitted := true }) h0) (hostPort 0)).admitted = true
      ∧ tokens (refillTick owing) (pgFqw 0) 0 < 0 ∧ shaperOn owing 0 = true ∧ 0 ≤ tokens (refillTick h0) (pgFqw 0) 0 := by decide

/-- RELOAD with RELOAD_MODE 0: TOKENS takes DEPTH (R184). -/
theorem test_reload : tokens (after (.reload 0) (fset (pgFqw 0) Fqw.fqDepthDepth 5000 h0 0)) (pgFqw 0) 0 = 5000 := by decide

theorem test_FlowQueueCommands_hyps :
    hostOn h0 0 = true ∧ shaperOn h0 0 = true ∧ shaperOn r0 0 = false ∧ (hostOn h0 0 && (ni h0 (hostPort 0)).admitted) = false
      ∧ (hostOn (modNi 0 (fun n => { n with admitted := true }) h0) 0
          && (ni (modNi 0 (fun n => { n with admitted := true }) h0) (hostPort 0)).admitted) = true
      ∧ 2048 < (2049#64).toNat % 2 ^ 12 ∧ (2048#64).toNat % 2 ^ 12 ≤ 2048
      ∧ (ni h0 (hostPort 0)).underTest = false ∧ hostOn r0 0 = false ∧ busyQueues (holding 0 rd) (hostPort 0) = [0]
      ∧ (oldest (waitingOf (holding 0 rd) (hostPort 0) 0)).isSome = true ∧ (1 : Nat) ∉ busyQueues (holding 0 rd) (hostPort 0)
      ∧ synced h0 = false ∧ fget (fset (pgFqw 0) Fqw.fqSampleDepthMax 3 h0 0) (pgFqw 0) Fqw.fqSampleDepthMax 0 ≠ 0
      ∧ ((ni (modNi 0 (fun n => { n with smpAt := samplePeriod h0 (pgFqw 0) }) h0) (hostPort 0)).smpAt == samplePeriod h0 (pgFqw 0)) = true
      ∧ ((ni { h0 with mtime := 4096000000 } (hostPort 0)).smpAt == samplePeriod { h0 with mtime := 4096000000 } (pgFqw 0)) = false := by
  decide

/-- FQ_QUOTA above 2,048 is reserved (R109). -/
theorem test_fqQuota : fget (after (.fqQuota 0 2049) h0) (pgFqw 0) Fqw.fqQuotaQuota 0 = fget h0 (pgFqw 0) Fqw.fqQuotaQuota 0
    ∧ fget (after (.fqQuota 0 2048) h0) (pgFqw 0) Fqw.fqQuotaQuota 0 = 2048 := by decide

/-- Port 0 with a shutter list of two entries of 1,000 ns: gates 1, then gates 2. -/
def shutter (gate : Nat) (valid pend : Bool) : State :=
  modNi 0 (fun n => { n with gateNow := gate, gateNext := 2, gateValid := valid, shlPend := pend, leadNs := 1000, epReady := true })
    (fset (pgNi 0) Ni.shlEntryDurNs 1000 (fset (pgNi 0) Ni.shlEntryGates 2 (fset (pgNi 0) Ni.shlEntryDurNs 1000
      (fset (pgNi 0) Ni.shlEntryGates 1 (fset (pgNi 0) Ni.shlCfgCycleNs 2000 (fset (pgNi 0) Ni.shlCfgCount 2
        (fset (pgNi 0) Ni.shlCfgEn 1 h0))) 0) 0) 1) 1)

theorem test_ShutterLists_hyps :
    isLive 0 = true ∧ (ni (shutter 15 false false) 0).gateNow ≠ gateNowNow (shutter 15 false false) 0
      ∧ (ni (shutter 15 false false) 0).epReady = true
      ∧ (ni (modNi 0 (fun n => { n with epReady := false }) (shutter 15 false false)) 0).epReady = false
      ∧ (ni (shutter 1 true false) 0).gateNow = gateNowNow (shutter 1 true false) 0
      ∧ (ni (shutter 1 true false) 0).gateNext = gateNextNow (shutter 1 true false) 0
      ∧ (ni (shutter 1 true false) 0).gateValid = gateValidNow (shutter 1 true false) 0 ∧ (ni (shutter 1 true false) 0).gateLead = false
      ∧ (ni (shutter 1 true false) 0).gateValid = true ∧ gateValidNow (shutter 1 true false) 0 = true
      ∧ nextWhere (shutter 1 true false) 0 (· != gateNowNow (shutter 1 true false) 0) = some (4000, 2)
      ∧ 4000 ≤ (ni (shutter 1 true false) 0).leadNs * 4
      ∧ (ni (modNi 0 (fun n => { n with leadNs := 999 }) (shutter 1 true false)) 0).leadNs * 4 < 4000
      ∧ evaluated (shutter 1 true true) 0 = true ∧ (ni (shutter 1 true true) 0).shlPend = true
      ∧ (ni (shutter 1 true true) 0).underTest = false ∧ (ni (shutter 1 true true) 0).shlWrote = []
      ∧ (ni (modNi 0 (fun n => { n with shlWrote := [(fkey (pgNi 0) Ni.shlEntryGates 0, 5)] }) (shutter 1 true true)) 0).shlWrote
          = [(fkey (pgNi 0) Ni.shlEntryGates 0, 5)]
      ∧ (ni (modNi 0 (fun n => { n with underTest := true }) (shutter 1 true true)) 0).underTest = true
      ∧ (ni (shutter 1 true false) 0).shlPend = false ∧ ((shutter 1 true true).staged.map (·.1)).Nodup
      ∧ takeoverAt { shutter 1 true true with mtime := 8000 } 0 ≤ { shutter 1 true true with mtime := 8000 }.mtime.toNat
      ∧ isShlKey (fkey (pgNi 0) Ni.shlEntryGates 0) = true ∧ keyPage (fkey (pgNi 0) Ni.shlEntryGates 0) = pgNi 0
      ∧ (modNi 0 (fun n => { n with shlAt := 1 }) (shutter 1 true true)).mtime.toNat
          < takeoverAt (modNi 0 (fun n => { n with shlAt := 1 }) (shutter 1 true true)) 0 := by decide

/-- The first gate edge of the list: gates 1 are exported and valid (R196, R200). -/
theorem test_gateEdge : (ni (after (.gateEdge 0) (shutter 15 false false)) 0).gateNow = 1
    ∧ (ni (after (.gateEdge 0) (shutter 15 false false)) 0).gateValid = true := by decide

theorem test_ReservationCommands_hyps :
    ((3#64).getLsbD 0 && (3#64).getLsbD 1) = true ∧ ((1#64).getLsbD 0 && (1#64).getLsbD 1) = false
      ∧ fbit r0 pgRsv Hdr.pageCtrlQuiesce = false ∧ r0.rsvRun = none
      ∧ { r0 with rsvRun := some (.recheck 1) }.rsvRun = some (.recheck 1)
      ∧ fbit (fset pgRsv Hdr.pageCtrlQuiesce 1 r0) pgRsv Hdr.pageCtrlQuiesce = true := by decide

/-- Reservation 7 of host 0 for reads of MEM port 1, with a job running for it. -/
def reserved (job : RsvJob) : State :=
  { fset pgRsv Rsv.rsvW1Tgt 1 (fset pgRsv Rsv.rsvW1Tkind 1 (fset pgRsv Rsv.rsvW0Rate 1 (fset pgRsv Rsv.rsvW0Kind 1
      (fset pgPower Pwr.pwrNiCfgSleepOk 0 (fset pgPower Pwr.pwrNiCfgSleepOk 0 (awake 1 (awake 0 f0)) 0) 1) 7) 7) 7) 7 with rsvRun := some job }

/-- Reservation 7 of host 0 admitted for MEM port 1 at a rate, with a re-check waiting. -/
def admitted7 (rate cause : Nat) : State :=
  fset pgRsv Rsv.rsvForce1Tgt 1 (fset pgRsv Rsv.rsvForce1Tkind 1 (fset pgRsv Rsv.rsvForce0Rate rate
    (fset pgRsv Rsv.rsvForce0Kind 1 (fset pgRsv Rsv.rsvStatState 1 (reserved (.recheck cause)) 7) 7) 7) 7) 7

/-- The same with its request path broken. -/
def broken7 : State := { admitted7 1 2 with rtImg := tins r0.rtImg (rtKey 0 0 1) 0x11 }

theorem test_ReservationJobs_hyps :
    (reserved (.reserve 7)).rsvRun = some (.reserve 7) ∧ (admitTest (reserved (.reserve 7)) 7).1 = 1
      ∧ (∀ j ∈ [RsvJob.reserve 7, .reserve 8, .recheck 1, .recheck 2], readRoutes 0 j (reserved j) = reserved j)
      ∧ (∀ c ∈ [1, 2], readRoutes 0 (.recheck c) (admitted7 20000 c) = admitted7 20000 c)
      ∧ readRoutes 0 (.recheck 2) broken7 = broken7
      ∧ (admitTest (readRoutes 1 (.reserve 7) (reserved (.reserve 7))) 7).1 = 1
      ∧ 0 ∈ rowsRead (reserved (.reserve 7)) (.reserve 7) ∧ 0 ∈ rowsRead broken7 (.recheck 2) ∧ (1#8).getLsbD 0 = true
      ∧ (reserved (.reserve 8)).rsvRun = some (.reserve 8) ∧ (admitTest (reserved (.reserve 8)) 8).1 ≠ 1
      ∧ (reserved (.release 7)).rsvRun = some (.release 7)
      ∧ rsvAdmitted (fset pgRsv Rsv.rsvStatState 1 (reserved (.release 7)) 7) 7 = true
      ∧ (reserved (.recheck 2)).rsvRun = some (.recheck 2)
      ∧ rsvHeld (fset pgRsv Rsv.rsvStatLoadHeld 1 r0 7) 7 = true ∧ rsvAdmitted (fset pgRsv Rsv.rsvStatLoadHeld 1 r0 7) 7 = false
      ∧ hasClassA (fset pgRsv Rsv.rsvStatLoadHeld 1 r0 7) 7 = false
      ∧ rsvAdmitted broken7 7 = true ∧ broken7.rsvRun = some (.recheck 2)
      ∧ (loadOf broken7 7 (rsvInForce broken7 7)).routed = false
      ∧ admittedList (admitted7 20000 2) = [7]
      ∧ (∀ c ∈ [1, 2], (admitted7 20000 c).rsvRun = some (.recheck c)
          ∧ (loadOf (admitted7 20000 c) 7 (rsvInForce (admitted7 20000 c) 7)).routed = true
          ∧ 1 ∈ (loadOf (admitted7 20000 c) 7 (rsvInForce (admitted7 20000 c) 7)).tgts
          ∧ targetBad (recheckAt c (admitted7 20000 c)) [loadOf (admitted7 20000 c) 7 (rsvInForce (admitted7 20000 c) 7)] 1 = true)
      ∧ (∀ k, k < 16 → rsvHeld (admitted7 20000 2) k = false) ∧ rsvHeld r0 7 = false
      ∧ isLive 1 = true ∧ isTarget 1 = true ∧ nstate (awake 1 f0) 1 ≠ 2 ∧ (ni (awake 1 f0) 1).derate < (1#3).toNat := by
  decide

/-- A well-formed reservation on awake ports that may not sleep is admitted (R206, R207). -/
theorem test_rsvCmdDone : rsvAdmitted (after .rsvCmdDone (reserved (.reserve 7))) 7 = true
    ∧ (after .rsvCmdDone (reserved (.reserve 7))).rsvRun = none := by decide

/-! ## The access rule table -/

/-- Set 1 selected in the ART window, entry 3. -/
def artSelect (set : Nat) : State := fset pgArtw Artw.artwSelEntry 3 (fset pgArtw Artw.artwSelSet set r0)

theorem test_RuleEntryWritten_hyps :
    fget (artSelect 0) pgArtw Artw.artwSelSet = activeSet (artSelect 0)
      ∧ setIdle (fset pgArt Art.artStatDraining 1 (artSelect 1)) = false
      ∧ fget (artSelect 1) pgArtw Artw.artwSelSet ≠ activeSet (artSelect 1) ∧ setIdle (artSelect 1) = true := by decide

/-- W3 writes the entry of the inactive set; on the active set SET_BUSY sets (R231). -/
theorem test_artwW3 : (tget {} (after (.artwW3 9) (artSelect 1)).art (artKey 1 3)).w3 = 9
    ∧ (after (.artwW3 9) (artSelect 0)).art = [] ∧ fbit (after (.artwW3 9) (artSelect 0)) pgArt Art.artEvtSetBusy = true := by
  decide

/-- A set drains. -/
def artDraining : State := fset pgArt Art.artStatDraining 1 r0

theorem test_RuleCommands_hyps :
    1 < (maskBits (3#64).toNat 3).length ∧ (maskBits (1#64).toNat 3).length ≤ 1 ∧ r0.artCmd = none
      ∧ fbit r0 pgArt Art.artStatDraining = false ∧ r0.time.swapAt = none ∧ fbit artDraining pgArt Art.artStatDraining = true
      ∧ (modTime (fun t => { t with swapAt := some 5 }) r0).time.swapAt ≠ none
      ∧ { r0 with artCmd := some .copy }.artCmd = some .copy := by decide

/-- One entry in the inactive set, its LAST below its FIRST. -/
def misordered : State :=
  { fset pgArt Art.artCountCountB 1 r0 with art := [(artKey 1 0, { w0 := 5 })] }

/-- A locked entry in the active set of a part in PRODUCTION, and none in the other. -/
def unlocked : State :=
  { fset pgArt Art.artCountCountA 1 r0 with art := [(artKey 0 0, { w0 := 0x200000000000000 })], fuses := { r0.fuses with lc := lcProduction } }

theorem test_RuleCommandsEnd_hyps :
    (∀ c ∈ [ArtCmd.clear, .copy, .validate], { r0 with artCmd := some c }.artCmd = some c ∧ { r0 with artCmd := some c }.artWait = [])
      ∧ firstError r0 (inactiveSet r0) (artCount r0 (inactiveSet r0)) 0 0 = none ∧ lockMissing r0 = none ∧ (0#18).getLsbD 17 = false ∧ 17 ∈ readBanks r0 .validate
      ∧ (∀ c ∈ [ArtCmd.clear, .copy, .validate], 17 ∈ readBanks r0 c) ∧ (0x20000#18).getLsbD 17 = true
      ∧ 0 ∈ readBanks r0 .copy ∧ (1#18).getLsbD 0 = true ∧ (1#18).getLsbD 17 = false
      ∧ firstError misordered (inactiveSet misordered) (artCount misordered (inactiveSet misordered)) 0 0 = some (2, 0)
      ∧ firstError unlocked (inactiveSet unlocked) (artCount unlocked (inactiveSet unlocked)) 0 0 = none ∧ (lockMissing unlocked).isSome = true
      ∧ artKey 1 0 / 131072 = inactiveSet r0 ∧ artKey 0 131071 / 131072 ≠ inactiveSet r0 ∧ (131071 : Nat) < 131072
      ∧ (0x2000000000000#64).toNat % 2 ^ 18 = artCount r0 0 ∧ activeSet r0 = 0 ∧ setIdle r0 = true
      ∧ (0x2000000000000#64).toNat / 2 ^ 32 % 2 ^ 18 ≤ 131072
      ∧ (0x2000000000000#64).toNat / 2 ^ 32 % 2 ^ 18 ≠ artCount r0 1
      ∧ activeSet (fset pgArt Art.artStatActiveSet 1 r0) = 1 ∧ setIdle (fset pgArt Art.artStatActiveSet 1 r0) = true
      ∧ (5#64).toNat / 2 ^ 32 % 2 ^ 18 = artCount (fset pgArt Art.artStatActiveSet 1 r0) 1
      ∧ (5#64).toNat % 2 ^ 18 ≠ artCount (fset pgArt Art.artStatActiveSet 1 r0) (inactiveSet (fset pgArt Art.artStatActiveSet 1 r0)) := by
  decide

/-- An armed swap that is due, with the inactive set valid or not. -/
def swapping (v : Nat) : State := modTime (fun t => { t with swapAt := some 0 }) (fset pgArt Art.artValStatus v r0)

theorem test_RuleSetSwaps_hyps :
    fbit artDraining pgArt Art.artStatDraining = true ∧ fbit r0 pgArt Art.artStatDraining = false
      ∧ (fset pgArt Art.artSwapTimeSwapTime 1024 r0).mtime.toNat + 1024
          ≤ fget (fset pgArt Art.artSwapTimeSwapTime 1024 r0) pgArt Art.artSwapTimeSwapTime
      ∧ fget r0 pgArt Art.artSwapTimeSwapTime < r0.mtime.toNat + 1024 ∧ (swapping 1).time.swapAt ≠ none ∧ valStatus r0 ≠ 1
      ∧ r0.time.swapAt = none ∧ r0.artCmd = none ∧ valStatus (fset pgArt Art.artValStatus 1 r0) = 1
      ∧ due (swapping 1) (swapping 1).time.swapAt = true ∧ due (swapping 1) (swapping 1).time.gcAt = false
      ∧ valStatus (swapping 1) = 1 ∧ due (swapping 0) (swapping 0).time.swapAt = true ∧ valStatus (swapping 0) ≠ 1 := by
  decide

/-- A swap with no valid set is refused with cause 4 (R237). -/
theorem test_artSwap_refused : activeSet (after .artSwap (swapping 0)) = 0 ∧ activeSet (after .artSwap (swapping 1)) = 1
    ∧ fget (after .artSwap (swapping 0)) pgArt Art.artStatRefuseCause = 4 := by decide

/-- The same with one verdict of the old set held. -/
def artHolding : State :=
  modNi 0 (fun n => { n with entries := [(0, some { opened rd with verdict := some { deny with allow := true, gen := true } })] }) artDraining

theorem test_RuleSetDrains_hyps :
    verdictFlying artHolding (!artGen artHolding) = false ∧ fbit artHolding pgArt Art.artStatDraining = true
      ∧ ((niPorts artHolding).map (fun p => residArt artHolding p (!artGen artHolding))).sum ≠ 0 ∧
    fbit artDraining pgArt Art.artStatDraining = true ∧ verdictFlying artDraining (!artGen artDraining) = false
      ∧ ((niPorts artDraining).map (fun p => residArt artDraining p (!artGen artDraining))).sum = 0
      ∧ verdictFlying (modNi 0 (fun n => { n with verdicts := [{ tag := 0, v := { deny with gen := true }, install := none }] }) artDraining)
          (!artGen artDraining) = true
      ∧ artDraining.swapStalled = false
      ∧ artDraining.swapLim < { artDraining with us := 65536 }.us - artDraining.swapUs
      ∧ { artDraining with swapStalled := true }.swapStalled = true ∧ isHost 0 = true := by decide

/-! ## Watchdogs, isolation, hot-plug, the endpoint boundary -/

/-- Port 1 awake with an ACCEPT wait of VC 0 and a receipt of an age. -/
def waiting (acc age : Nat) : State :=
  fset (pgNi 1) Ni.wdogCfgRespToUs 50 (fset (pgNi 1) Ni.wdogCfgAcceptToUs 50
    (modNi 1 (fun n => { n with accWait := tput 0 [] 0 acc, receipts := [{ hdr := rd, age := age }], accLim := 50, respLim := 50 })
      (awake 1 f0)))

theorem test_WatchdogsTrip_hyps :
    isLive 1 = true ∧ wdogOff (waiting 50 50) 1 = false ∧ (ni (waiting 50 50) 1).accTripped = false
      ∧ (ni (waiting 50 50) 1).accLim ≠ 0 ∧ (ni (waiting 50 50) 1).accLim ≤ tget 0 (ni (waiting 50 50) 1).accWait 0
      ∧ tget 0 (ni (waiting 49 49) 1).accWait 0 < (ni (waiting 49 49) 1).accLim
      ∧ (ni (waiting 50 50) 1).respTripped = false ∧ respOver (waiting 50 50) 1 = true ∧ respOver (waiting 49 49) 1 = false
      ∧ (waiting 50 50).errLog.length < 64 ∧ fbit (fset (pgNi 1) Ni.wdogCfgAction 0 (waiting 50 50)) (pgNi 1) Ni.wdogCfgAction = false
      ∧ fbit (waiting 50 50) (pgNi 1) Ni.wdogCfgAction = true ∧ (ni (waiting 50 50) 1).underTest = false ∧ cWdogAccept < 8 ∧ cWdogResp < 8 := by
  decide

/-- The ACCEPT watchdog trips at its limit, not before (R243). -/
theorem test_wdogAccept : fbit (after (.wdogAccept 1 0) (waiting 50 50)) (pgNi 1) Ni.wdogStatTripAccept = true
    ∧ fbit (after (.wdogAccept 1 0) (waiting 49 50)) (pgNi 1) Ni.wdogStatTripAccept = false := by decide +kernel

/-- Port 1 isolated. -/
def isolatedAt (swept : Nat) : State := fset (pgNi 1) Ni.isoStatSwept swept (fset (pgNi 1) Ni.isoStatIsolated 1 (awake 1 f0))

def inGrace : State := modNi 1 (fun n => { n with grace := true }) (isolatedAt 0)

theorem test_IsolationBySoftware_hyps :
    isLive 1 = true ∧ (ni (isolatedAt 0) 1).underTest = false ∧ isolated (isolatedAt 0) 1 = true
      ∧ (ni (isolatedAt 0) 1).entry = none ∧ (ni (isolatedAt 0) 1).grace = false ∧ isolated (awake 1 f0) 1 = false
      ∧ fbit (isolatedAt 0) (pgNi 1) Ni.isoStatSwept = false ∧ nothingHeld (isolatedAt 0) 1 = true
      ∧ flowHold (isolatedAt 0) = false ∧ flowHold (modPower (fun w => { w with trans := some .l3 }) (isolatedAt 0)) = true
      ∧ (isolatedAt 0).errLog.length < 64 ∧ (ni inGrace 1).grace = true
      ∧ (ni (modNi 1 (fun n => { n with underTest := true }) (awake 1 f0)) 1).underTest = true
      ∧ (ni inGrace 1).receipts = [] ∧ { inGrace with us := 3 }.us - (ni (modNi 1 (fun n => { n with graceTo := 4 }) inGrace) 1).graceUs
          < (ni (modNi 1 (fun n => { n with graceTo := 4 }) inGrace) 1).graceTo
      ∧ (ni inGrace 1).graceTo ≤ inGrace.us - (ni inGrace 1).graceUs := by decide

/-- With nothing held SWEPT sets and one record is written (R249, R264). -/
theorem test_swept : fbit (after (.swept 1) (isolatedAt 0)) (pgNi 1) Ni.isoStatSwept = true
    ∧ (after (.swept 1) (isolatedAt 0)).errLog.length = 1 := by decide

/-- Port 1 isolated and swept, its link up, its slot group stable and not new. -/
def ready : State :=
  fset pgFg Fg.hpGroupNew 0 (fset pgFg Fg.hpStateStable 0xFFFFFFFF (linkUp (niChan 1) (isolatedAt 1)))

theorem test_Readmission_hyps :
    isLive 1 = true ∧ isolated r0 1 = false ∧ readmitRefusal (isolatedAt 0) 1 false ≠ 0 ∧ readmitRefusal ready 1 true = 0 ∧ portType 1 = .mem ∧ configLost ready 1 = false
      ∧ (ni (modNi 1 (fun n => { n with readmitting := true }) ready) 1).readmitting = true
      ∧ isolated (modNi 1 (fun n => { n with readmitting := true }) ready) 1 = true := by decide

/-- A part with no power warning and every e-fuse whole; or group 31 warned and tripped. -/
def group31 : State := { fset pgFg Fg.hpStateFuse 0x80000000 r0 with slots := { warned := 0x80000000, tripped := 0x80000000 } }

theorem test_SlotGroups_hyps :
    r0.pins.present.getLsbD 31 = true ∧ { r0 with pins := { r0.pins with present := 0 } }.pins.present.getLsbD 31 = false
      ∧ slotWarned r0 31 = false ∧ slotWarned group31 31 = true ∧ warnFilter r0 20 ≤ 20 ∧ 19 < warnFilter r0 19
      ∧ r0.slots.tripped.getLsbD 31 = false ∧ group31.slots.tripped.getLsbD 31 = true
      ∧ (fget group31 pgFg Fg.hpStateFuse).testBit 31 = true
      ∧ tget 0 r0.stableUs 31 ≤ r0.us ∧ r0.us < tget 0 { r0 with stableUs := [(31, 1)] }.stableUs 31 := by decide

/-- A warning of 19 µs only counts as a glitch, one of 20 µs fences the group (R262, R263). -/
theorem test_fence : fget (after (.warnGlitches 31 19) r0) pgFg Fg.hpCountWarnGlitches = 1
    ∧ slotWarned (after (.fence 31 19) r0) 31 = false ∧ slotWarned (after (.fence 31 20) r0) 31 = true := by decide +kernel

/-- The end of an e-fuse trip clears its bit and notes the change (R263). -/
theorem test_fuseTrippedFall : (fget (after (.fuseTrippedFall 31) group31) pgFg Fg.hpStateFuse).testBit 31 = false
    ∧ fbit (after (.fuseTrippedFall 31) group31) pgFg Fg.faultEvtHpChange = true := by decide

/-- Port 1 with its TEI in a state of R269. -/
def teiIn (st : Nat) : State := fset (pgNi 1) Ni.teiStatState st (modNi 1 (fun n => { n with teiWake := true, epReady := true }) (awake 1 f0))

/-- In INIT with delivery credits for every VC. -/
def granted : State := modNi 1 (fun n => { n with dnCrd := (List.range 16).map (fun v => (v, 24)) }) (teiIn 1)

theorem test_EndpointResets_hyps :
    isLive 1 = true ∧ niPowered f0 1 = false ∧ teiState r0 1 = 0 ∧ (ni r0 1).teiWake = false ∧ teiState (teiIn 1) 1 ≠ 2
      ∧ (true && false) = false ∧ niPowered r0 1 = false
      ∧ (configLost (fset pgPower Pwr.pwrNiStatConfigLost 1 (teiIn 0) 1) 1 && teiState (fset pgPower Pwr.pwrNiStatConfigLost 1 (teiIn 0) 1) 1 == 0) = true
      ∧ niPowered (teiIn 2) 1 = true ∧ teiState (teiIn 2) 1 ≠ 0 ∧ teiState (teiIn 2) 1 = 2
      ∧ (ni (teiIn 2) 1).teiWake = true ∧ niPowered (teiIn 0) 1 = true ∧ (ni (teiIn 0) 1).wake = none
      ∧ teiState (teiIn 0) 1 = 0 ∧ configLost (teiIn 0) 1 = false ∧ niPowered granted 1 = true ∧ teiState granted 1 = 1
      ∧ shortVcs granted 1 = [] ∧ (ni granted 1).wake = none ∧ (ni granted 1).epReady = true
      ∧ shortVcs (teiIn 1) 1 ≠ [] ∧ (teiIn 1).us = (ni (teiIn 1) 1).initUs
      ∧ 1 ≤ { teiIn 1 with us := 1 }.us - (ni { teiIn 1 with us := 1 } 1).initUs := by decide

/-- The TEI comes up with its minimum credits, and without them after 1 µs (R269). -/
theorem test_teiUp : teiState (after (.teiUp 1) granted) 1 = 2 ∧ teiState (after (.teiUp 1) (teiIn 1)) 1 = 1
    ∧ fbit (after (.teiUp 1) { teiIn 1 with us := 1 }) (pgNi 1) Ni.teiErrCrdShort = true := by decide +kernel

/-- Port 1 in a step of its N2 entry. -/
def entering (e : EntryStep) : State :=
  modNi 1 (fun n => { n with entry := some e, pwrReq := true, slotFlush := some [] }) (awake 1 f0)

theorem test_EndpointPower_hyps :
    isLive 1 = true ∧ paused (entering .e1) 1 = false
      ∧ paused (modPower (fun w => { w with trans := some .l3 }) (entering .e1)) 1 = true ∧ (ni (entering .e1) 1).inF3 = false
      ∧ (ni (entering .e1) 1).pwrAck = false ∧ (ni (modNi 1 (fun n => { n with pwrAck := true }) (entering .e1)) 1).pwrAck = true
      ∧ (ni (entering .e1) 1).pwrReq = true ∧ (ni (entering .e1) 1).entry = some .e1
      ∧ (ni (entering .e2) 1).pwrReq = true ∧ (ni (entering .e2) 1).entry = some .e2 ∧ (ni f0 1).pwrReq = false
      ∧ (ni f0 1).entry = none ∧ nstate f0 1 = 2 ∧ isolated f0 1 = false ∧ fstate f0 = 0 ∧ (ni f0 1).wake = none
      ∧ (ni (entering .e5) 1).entry = some .e5 ∧ isolated (entering .e5) 1 = false := by decide

/-- pwr_ack moves the entry to E2; ep_wake_req wakes an NI in N2 (R281). -/
theorem test_pwrAck : (ni (after (.pwrAck 1 false) (entering .e1)) 1).entry = some .e2
    ∧ (ni (after (.epWakeReq 1) f0) 1).wake = some .w0 := by decide

/-! ## Performance levels -/

/-- F0 at a level, in a step of a transition to a target. -/
def levelled (l t : Nat) (st : Option LevelStep) (in3 wait : Bool) : State :=
  modPower (fun w => { w with trans := st, inF3 := in3, waitRecheck := wait })
    (fset pgPower Pwr.pwrStatTarget t (fset pgPower Pwr.pwrStatLevel l f0))

theorem test_Levels_hyps :
    levelRefuser (fset pgPower Pwr.pwrStatTrans 1 f0) = some 0 ∧ levelRefuser (fset pgStrip Ts.tsStatOpen 1 f0) = some 1
      ∧ levelRefuser f0 = none ∧ level (pwrAccept 1 f0) = level f0 ∧ levelRefuser r0 = none ∧ fstate r0 = 2 ∧ fstate f0 ≠ 2
      ∧ (0 : Nat) < level (levelled 1 1 none false false)
      ∧ max (fget (levelled 1 1 none false false) pgRsv Rsv.rsvCfgALevel) (level (levelled 1 1 none false false)) < 3
      ∧ level (levelled 1 1 none false false) < 2
      ∧ 2 ≤ fget (fset pgRsv Rsv.rsvCfgALevel 2 (levelled 1 1 none false false)) pgRsv Rsv.rsvCfgALevel
      ∧ (levelled 1 0 (some .l2) false false).power.trans = some .l2
      ∧ (levelled 1 2 (some .l1) false false).power.trans = some .l1
      ∧ (levelled 1 2 (some .l1) false false).power.waitRecheck = false
      ∧ (levelled 1 2 (some .l3) false false).power.trans = some .l3 ∧ channelsEmpty (levelled 1 2 (some .l3) false false) = true
      ∧ (levelled 1 2 (some .l5) false false).power.inF3 = false ∧ (levelled 1 2 (some .l5) true false).power.inF3 = true
      ∧ (levelled 1 2 (some .l6) false false).power.trans = some .l6
      ∧ levelTarget (levelled 1 0 (some .l6) false false) ≤ level (levelled 1 0 (some .l6) false false)
      ∧ (levelled 1 2 (some .l8) false false).power.trans = some .l8
      ∧ (levelled 1 0 (some .l2) false false).power.rampTo
          ≤ (levelled 1 0 (some .l2) false false).us - (levelled 1 0 (some .l2) false false).power.rampUs := by decide

/-- A transition is refused while one runs (R290); at the end of the ramp down it is done. -/
theorem test_rampDownDone : (after .rampDownDone (levelled 1 2 (some .l8) false false)).power.trans = none
    ∧ fbit (after .rampDownDone (levelled 1 2 (some .l8) false false)) pgPower Pwr.pwrEvtLevelDone = true := by decide

theorem test_TiedOffPorts_hyps :
    isLive 15 = false ∧ ni r0 15 = {} ∧ isolated r0 15 = false ∧ hasSad 1 = false ∧ isHost 1 = false ∧ portBridge = 110 := by decide

/-! ## Sleep and wake -/

theorem test_SleepSteps_hyps :
    nstate h0 0 = 0 ∧ fbit (fset pgPower Pwr.pwrNiCfgN1En 1 h0 0) pgPower Pwr.pwrNiCfgN1En 0 = true ∧ (ni h0 0).fifo = []
      ∧ fget h0 pgPower Pwr.pwrNiCfgN1Idle 0
          ≤ (ni (modNi 0 (fun n => { n with idle := fget r0 pgPower Pwr.pwrNiCfgN1Idle 0 }) h0) 0).idle
      ∧ sleepRefusal f0 0 = some (rsState, ukUnit, 0) ∧ sleepRefusal h0 0 = none ∧ isolated h0 0 = false ∧ configLost h0 0 = false
      ∧ (ni (entering .e2) 1).entry = some .e2 ∧ drained (entering .e2) 1 = true ∧ paused (entering .e2) 1 = false
      ∧ (ni (entering .e1) 1).entry = some .e1
      ∧ (ni (entering .e1) 1).pwrAck = false ∧ (ni (modNi 1 (fun n => { n with pwrAck := true }) (entering .e1)) 1).pwrAck = true
      ∧ tableSize 1 = 0 ∧ tableSize 0 ≠ 0 ∧ ledgerGone h0 = false ∧ ledgerGone { h0 with fuses := { r0.fuses with ledgerAbsent := true } } = true
      ∧ (let s := modNi 0 (fun n => { n with entry := some .e2 }) h0; drained s 0 && !paused s 0) = true
      ∧ (entering .e2).us - (ni (modNi 1 (fun n => { n with drainTo := 1 }) (entering .e2)) 1).stepUs
          < (ni (modNi 1 (fun n => { n with drainTo := 1 }) (entering .e2)) 1).drainTo
      ∧ (ni (entering .e1) 1).ackTo ≤ (entering .e1).us - (ni (entering .e1) 1).stepUs
      ∧ skipsDrain (entering .e2) 1 = false ∧ (ni (entering .e2) 1).drainTo ≤ (entering .e2).us - (ni (entering .e2) 1).stepUs
      ∧ sleepRefusal (isolatedAt 1) 1 = none ∧ skipsDrain (isolatedAt 1) 1 = true ∧ paused (isolatedAt 1) 1 = false
      ∧ (let s := modRouter 0 (fun n => { n with underTest := true }) (isolatedAt 1); paused s 1 && (sleepRefusal s 1).isNone) = true
      ∧ wantsWake (entering .e6) 1 = false ∧ fstate (entering .e6) = 0 ∧ (ni (entering .e6) 1).wake = none
      ∧ wantsWake (modNi 1 (fun n => { n with ordered := true }) (entering .e6)) 1 = true
      ∧ isLive (fget h0 pgPower Pwr.pwrNiSelPort) = true ∧ (0x800#64).getLsbD 0 = false ∧ 8 ≤ (0x800#64).toNat / 2 ^ 8 % 2 ^ 8
      ∧ (ni h0 (fget h0 pgPower Pwr.pwrNiSelPort)).entry = none ∧ nstate h0 (fget h0 pgPower Pwr.pwrNiSelPort) ≠ 2
      ∧ (0x801#64).getLsbD 0 = true ∧ pinnedBy h0 (fget h0 pgPower Pwr.pwrNiSelPort) = none
      ∧ isLive 1 = true ∧ paused (entering .e3) 1 = false ∧ (ni (entering .e3) 1).slotFlush = some []
      ∧ (ni (entering .e3) 1).entry = some .e3 ∧ 4 ≤ { entering .e3 with us := 4 }.us - (ni (entering .e3) 1).flushUs
      ∧ (ni (entering .e5) 1).entry = some .e5 ∧ (ni (entering .e6) 1).entry = some .e6 ∧ paused (entering .e6) 1 = false ∧ paused (entering .e5) 1 = false := by
  decide

/-- NI_SLEEP starts E1 with pwr_req; the end of E6 is N2 (R296). -/
theorem test_niSleep : (ni (after (.niSleep 0) h0) 0).entry = some .e1 ∧ (ni (after (.niSleep 0) h0) 0).pwrReq = true
    ∧ nstate (after (.n2Entered 1) (entering .e6)) 1 = 2 := by decide

/-- Port 0 in a step of its wake. -/
def waking (w : WakeStep) : State := modNi 0 (fun n => { n with wake := some w, crcStored := true }) (linkUp (niChan 0) f0)

theorem test_WakeSteps_hyps :
    isLive 0 = true ∧ fstate f0 = 0 ∧ nstate f0 0 = 2 ∧ (ni f0 0).entry = none ∧ (ni f0 0).wake = none ∧ isLive 15 = false
      ∧ (ni (waking .w0) 0).wake = some .w0 ∧ paused (waking .w0) 0 = false ∧ (ni (waking .w1) 0).wake = some .w1
      ∧ (∀ w ∈ [WakeStep.w1, .w2], paused (waking w) 0 = false) ∧ (ni (waking .w2) 0).underTest = false
      ∧ (ni (modNi 0 (fun n => { n with crcStored := false }) (waking .w1)) 0).crcStored = false
      ∧ (ni (waking .w1) 0).crcStored = true ∧ unitFails 2048 [] false = false ∧ unitFails 2048 [] true = true
      ∧ (ni (waking .w2) 0).wake = some .w2 ∧ localUp (waking .w2) 0 = true
      ∧ (ni (waking .w2) 0).wakeTo ≤ (waking .w2).us - (ni (waking .w2) 0).wakeUs
      ∧ configLost (fset pgPower Pwr.pwrNiStatConfigLost 1 f0 0) (fget f0 pgPower Pwr.pwrNiSelPort) = true
      ∧ isLive (fget f0 pgPower Pwr.pwrNiSelPort) = true
      ∧ niPowered (fset pgPower Pwr.pwrNiStatConfigLost 1 f0 0) (fget f0 pgPower Pwr.pwrNiSelPort) = false := by decide

/-- A changed bit of the image shows in its CRC (R305). -/
theorem test_imageCrc : unitFails 4 [(3, 1)] false = true ∧ unitFails 4 [(0, 1)] false = true ∧ unitFails 4 [] false = false := by decide +kernel

/-- The fabric in a state of FSTATE. -/
def fabric (st : Nat) (supply noReturn : Bool) : State :=
  modPower (fun w => { w with supply := supply, noReturn := noReturn }) (fset pgPower Pwr.pwrStatFstate st r0)

theorem test_FabricSleep_hyps :
    fabSleepRefusal r0 = some (rsState, ukUnit, 0) ∧ fabSleepRefusal f0 = none
      ∧ fstate (fabric 1 false false) = 1 ∧ (fabric 1 false false).power.noReturn = false
      ∧ drainCount (fabric 1 false false) false = 0 ∧ drainCount (fabric 1 false false) true = 0
      ∧ livePorts.all (fun p => nstate (fabric 1 false false) p == 2 || (ni (fabric 1 false false) p).entry == some .e4) = true
      ∧ (fabric 1 false true).power.noReturn = true
      ∧ livePorts.all (fun p => nstate (fabric 1 false true) p == 2 && (ni (fabric 1 false true) p).entry.isNone) = true
      ∧ (fabric 1 false true).power.wakeHeld = false ∧ (∀ p ∈ livePorts, (ni (fabric 1 false true) p).demand = false)
      ∧ (modPower (fun w => { w with wakeHeld := true }) (fabric 1 false true)).power.wakeHeld = true ∧ (1#26).getLsbD 0 = true
      ∧ fstate r0 = 2 ∧ r0.lc.running ≠ some lcRma ∧ fstate f0 = 0 ∧ r0.strip.deadUntilReset = false
      ∧ (modStrip (fun t => { t with deadUntilReset := true }) r0).strip.deadUntilReset = true
      ∧ ((fabric 3 false false).power.everWoke && (fabric 3 false false).power.crcStored) = false
      ∧ (modPower (fun w => { w with everWoke := true, crcStored := true }) (fabric 3 false false)).power.everWoke = true
      ∧ fstate (fabric 3 false false) = 3 ∧ (fabric 3 false false).power.supply = false
      ∧ (modPower (fun w => { w with everWoke := true, crcStored := true }) (fabric 3 false false)).power.crcStored = true
      ∧ (∀ b, b < 26 → bankFails [] 0 b = false) ∧ bankFails [] 1 0 = true
      ∧ (fabric 3 true false).power.supply = true ∧ (fabric 3 false false).strip.deadUntilReset = false
      ∧ (fabric 3 false false).power.wakeTo ≤ (fabric 3 false false).us - (fabric 3 false false).power.wakeUs := by decide +kernel

/-- FAB_WAKE in F3 starts the wake, which ends in F0 (R304). -/
theorem test_fabWake : fstate (after .fabWake r0) = 3 ∧ fstate (after .f3WakeDone (fabric 3 true false)) = 0 := by decide

/-! ## Test strips -/

/-- A window open, in a phase of its slice. -/
def stripIn (phase : Nat) : State := fset pgStrip Ts.tsStatPhase phase (fset pgStrip Ts.tsStatOpen 1 r0)

/-- The first NI slice is next, its port awake, a window due in 4,000 ticks. -/
def preparing : State :=
  modTime (fun t => { t with stripAt := some 4000 })
    (fset pgStrip Ts.tsPtrNext 129 (fset pgStrip Ts.tsCfgIdleUs 1 h0))

/-- Locked to tb_ref, so that the TIMEBASE slice may run. -/
def mayTest : State := fset pgTime Tu.timeStatState tsLocked { stripIn 1 with pins := { r0.pins with tbRef := true } }

/-- A March C− slice of the first router under test, soft repair enabled. -/
def marching : State := modStrip (fun t => { t with softEn := true }) (fset pgStrip Ts.tsStatIndex 1 (stripIn 2))

/-- A measurement with rows that failed. -/
def measured (l : List (Nat × Nat)) : SliceMeasure :=
  { failRows := l, signatureOk := true, detectorOk := true, loopbackOk := true, measure := 0, bank := 3 }

/-- The restore of slice i, the links of router 0 back. -/
def restoring (i : Nat) : State :=
  forEach (testedLinks (.router 0 0)) linkUp
    (fset pgStrip Ts.tsStatIndex i (modStrip (fun t => { t with found := some (0, 0, 0) }) (stripIn 3)))

theorem test_StripWindows_hyps :
    (modTime (fun t => { t with stripAt := some 0 }) r0).time.stripAt = some 0 ∧ r0.pins.testMode = false
      ∧ windowOpen r0 = false ∧ r0.strip.running = false
      ∧ dueBefore (modTime (fun t => { t with stripAt := some 0 }) r0) srcStrip = false
      ∧ dueBefore (modTime (fun t => { t with stripAt := some 0, gcAt := some 0 }) r0) srcStrip = true
      ∧ (modStrip (fun t => { t with running := true }) (stripIn 2)).strip.running = true ∧ stripPhase (stripIn 2) ≠ 1
      ∧ windowOpen (stripIn 0) = true ∧ (stripIn 0).strip.winT.toNat + 120000 ≤ { stripIn 0 with mtime := 120000 }.mtime.toNat
      ∧ preparing.time.stripAt = some 4000 ∧ (chosenSlice preparing).bind (fun i => niOfSlice (sliceAt i)) = some 0
      ∧ preparing.mtime.toNat < 4000 ∧ 4000 ≤ preparing.mtime.toNat + fget preparing pgStrip Ts.tsCfgIdleUs * 4000
      ∧ niPowered preparing 0 = true ∧ sliceCause preparing (.ni 0 0) = none ∧ preparing.strip.prepared = none
      ∧ stripPhase mayTest = 1 ∧ mayTest.us - mayTest.strip.quietUs ≤ mayTest.strip.quietTo ∧ unmet (noteIdle true mayTest) (stripUnit mayTest) = none
      ∧ stripPhase (stripIn 1) = 1 ∧ (stripIn 1).strip.quietTo ≤ (stripIn 1).us - (stripIn 1).strip.quietUs
      ∧ (unmet (noteIdle false (stripIn 1)) (stripUnit (stripIn 1))).isSome = true ∧ stripPhase (stripIn 2) = 2
      ∧ (judgeSlice marching (stripUnit marching) (measured [(0, 7)])).1 = 2 ∧ (softRepairs marching (measured [(0, 7)])).isSome = true
      ∧ (judgeSlice marching (stripUnit marching) (measured [])).1 = 0 ∧ stripPhase marching = 2
      ∧ (modStrip (fun t => { t with found := some (0, 0, 0) }) (stripIn 3)).strip.found = some (0, 0, 0) ∧ stripPhase (stripIn 3) = 3
      ∧ (testedLinks (stripUnit (stripIn 3))).all (linkBack (stripIn 3)) = true ∧ stripUnit (stripIn 3) = .timebase
      ∧ (stripIn 3).strip.found = none := by decide

theorem test_StripWindows_end_hyps :
    40 ≤ { stripIn 0 with us := 40 }.us - (stripIn 0).strip.openUs
      ∧ { stripIn 0 with us := 39, mtime := 119999 }.mtime.toNat < (stripIn 0).strip.winT.toNat + 120000
      ∧ { stripIn 0 with us := 39 }.us - (stripIn 0).strip.openUs < 40
      ∧ ({ r0 with pins := { r0.pins with testMode := true } }.pins.testMode
          && honoursTest { r0 with fuses := { r0.fuses with lc := lcManufacture } }) = true
      ∧ (∀ i ∈ [1, 129], (restoring i).strip.found = some (0, 0, 0) ∧ stripPhase (restoring i) = 3
          ∧ (testedLinks (stripUnit (restoring i))).all (linkBack (restoring i)) = true)
      ∧ stripUnit (restoring 1) = .router 0 0 ∧ stripUnit (restoring 129) = .ni 0 0
      ∧ stripUnit (restoring 649) = .link (linkIds.headD 0) := by decide

/-- A window opens at its time (R312) and closes 30 µs, 120,000 ticks, later (R311). -/
theorem test_stripWindow : windowOpen (after .stripWindow (modTime (fun t => { t with stripAt := some 0 }) r0)) = true
    ∧ windowOpen (after .windowClose { stripIn 0 with mtime := 120000 }) = false
    ∧ windowOpen (after .windowClose { stripIn 0 with mtime := 119999 }) = true := by decide

/-- The life cycle in MANUFACTURE, with test_mode high and the clearing on or the scan allowed. -/
def scan (clearing allowed : Nat) : State :=
  fset pgStrip Ts.tsScanClearing clearing (fset pgStrip Ts.tsScanScanAllowed allowed
    { r0 with fuses := { r0.fuses with lc := lcManufacture } })

/-- One repair. -/
def mend : Repair := { slice := 1, sram := 0, row := 7, spare := 0 }

/-- Every CRYPT port with zeroise high. -/
def zeroising : State := raiseZeroise (scan 1 0)

/-- The endpoint of CRYPT port 4 is on. -/
def running (s : State) : State := modNi 4 (fun n => { n with epReady := true }) s

theorem test_StripFusesAndScan_hyps :
    windowOpen (stripIn 0) = true ∧ windowOpen r0 = false ∧ r0.strip.unfused = [] ∧ r0.strip.deadUntilReset = false
      ∧ (modStrip (fun t => { t with unfused := [mend] }) r0).strip.unfused ≠ []
      ∧ 1 + (r0.strip.fusing.getD []).length ≤ fuseLeft (modStrip (fun t => { t with unfused := [mend] }) r0)
      ∧ (modStrip (fun t => { t with fusing := some [mend] }) r0).strip.fusing = some [mend]
      ∧ (scan 0 0).strip.deadUntilReset = false
      ∧ (modStrip (fun t => { t with deadUntilReset := true }) r0).strip.deadUntilReset = true
      ∧ honoursTest (scan 0 0) = true ∧ fbit (scan 0 0) pgStrip Ts.tsScanClearing = false
      ∧ fbit (scan 0 0) pgStrip Ts.tsScanScanAllowed = false ∧ honoursTest r0 = false
      ∧ fbit (scan 1 0) pgStrip Ts.tsScanClearing = true ∧ acksPending (noteAcks 0 (scan 1 0)) = 0
      ∧ acksPending (noteAcks 0 (running (scan 1 0))) ≠ 0
      ∧ 1000 ≤ { scan 1 0 with us := 1000 }.us - (scan 1 0).strip.clearUs ∧ (ni zeroising (cryptPort 0)).zeroise = true
      ∧ fbit (scan 0 1) pgStrip Ts.tsScanScanAllowed = true := by decide +kernel

/-- The scan is allowed after the clearing (R325). -/
theorem test_scanAllowed : fbit (after (.scanAllowed 0) (scan 1 0)) pgStrip Ts.tsScanScanAllowed = true
    ∧ fbit (after (.scanAllowed 0) (scan 0 0)) pgStrip Ts.tsScanScanAllowed = false
    ∧ fbit (after (.scanAllowed 0) (running zeroising)) pgStrip Ts.tsScanScanAllowed = false
    ∧ fbit (after (.scanAllowed 1) (running zeroising)) pgStrip Ts.tsScanScanAllowed = true := by decide +kernel

/-! ## The proof ledger and the life cycle -/

/-- One TOTALS record that is to be signed, readable or not. -/
def record (r : Bool) : LedgerRec := { type := 2, words := [], body := 0, bodyLen := 0, toSign := true, readable := r }

/-- The ledger's queue holding records, with epoch 1 fired. -/
def ledgerWith (l : List LedgerRec) : State := modLedger (fun x => { x with queue := l, firedK := 1 }) r0

theorem test_LedgerWorks_hyps :
    400000 * r0.time.ledgerK ≤ { r0 with mtime := 400000 }.mtime.toNat ∧ ledgerGone r0 = false
      ∧ dueBefore { r0 with mtime := 400000 } srcLedger = false
      ∧ dueBefore (modTime (fun t => { t with gcAt := some 0 }) { r0 with mtime := 400000 }) srcLedger = true
      ∧ { r0 with mtime := 399999 }.mtime.toNat < 400000 * r0.time.ledgerK
      ∧ fget (ledgerWith []) pgLedger Ldg.ldgEpochClosed < closingEpoch (ledgerWith [])
      ∧ queueFull (ledgerWith (List.replicate 16 (record true))) = true
      ∧ queueFull (ledgerWith (List.replicate 15 (record true))) = false
      ∧ fbit r0 pgLc Lc.lcStatBusy = false ∧ fbit (fset pgLc Lc.lcStatBusy 1 r0) pgLc Lc.lcStatBusy = true
      ∧ (ledgerWith [record false, record true]).ledger.queue.find? (·.readable) = some (record true)
      ∧ (∀ q ∈ [[], [record true, record false]], q.all (fun x => x.toSign || x.readable) = true)
      ∧ (ledgerWith [record false]).ledger.queue.all (fun r => r.toSign && !r.readable) = true
      ∧ (ledgerWith [record true]).ledger.queue = [record true] ∧ (record true).readable = true
      ∧ (record false).readable = false
      ∧ (ledgerWith [record false]).ledger.queue.all (·.readable) = false ∧ signs r0 = false
      ∧ signs (modLedger (fun l => { l with key := some 0 }) { r0 with fuses := { r0.fuses with lc := lcProduction } }) = true := by decide

/-- READOUT with 15 records files one more, with 16 it is refused; POP takes a readable record only (R335). -/
theorem test_readout :
    (after .readout (ledgerWith (List.replicate 15 (record true)))).ledger.queue.length = 16
      ∧ (after .readout (ledgerWith (List.replicate 16 (record true)))).ledger.queue.length = 16
      ∧ (after .pop (ledgerWith [record true])).ledger.queue = [] ∧ (after .pop (ledgerWith [record false])).ledger.queue = [record false] := by
  decide

/-- The epoch comparator fires at 400,000 × k (R330). -/
theorem test_ledgerEpoch : (after .ledgerEpoch { r0 with mtime := 400000 }).ledger.firedK = 1
    ∧ (after .ledgerEpoch { r0 with mtime := 399999 }).ledger.firedK = 0 := by decide

/-- A life-cycle state, with a transition running. -/
def cycle (lc : Nat) (run : Option Nat) : State :=
  modLc (fun l => { l with running := run }) { r0 with fuses := { r0.fuses with lc := lc } }

theorem test_LifeCycle_hyps :
    (0x5A3B0007#64).toNat / 2 ^ 16 % 2 ^ 16 ≠ 0x5A3C ∧ lcPermits r0 ((0x5A3C0001#64).toNat % 16) = false
      ∧ (0x5A3C0003#64).toNat / 2 ^ 16 % 2 ^ 16 = 0x5A3C ∧ (cycle lcManufacture none).fuses.lc = lcManufacture
      ∧ (0x5A3C0003#64).toNat % 16 = lcDevelop ∧ (cycle lcManufacture none).lc.running = none
      ∧ (0x5A3C0007#64).toNat % 16 = lcProduction ∧ r0.fuses.lc = lcDevelop ∧ windowOpen r0 = false ∧ ledgerGone r0 = false
      ∧ r0.fuses.slots.length < 2 ∧ lcPermits r0 lcProduction = true ∧ windowOpen (stripIn 0) = true ∧ lcPermits (stripIn 0) lcProduction = true
      ∧ (stripIn 0).lc.running = none ∧ 2 ≤ { r0 with fuses := { r0.fuses with slots := [0, 1] } }.fuses.slots.length
      ∧ lcPermits { r0 with fuses := { r0.fuses with slots := [0, 1] } } lcProduction = true ∧ (0x5A3C000F#64).toNat % 16 = lcRma ∧ fstate f0 ≠ 2 ∧ f0.fuses.lc < lcRma ∧ fstate r0 = 2
      ∧ r0.lc.nonce = none ∧ (modLc (fun l => { l with nonce := some 0 }) r0).lc.nonce = some 0
      ∧ tokenGood (modLc (fun l => { l with nonce := some 0 }) r0) 0 = false
      ∧ lcPermits (cycle lcDevelop (some lcProduction)) ((0x5A3C000F#64).toNat % 16) = true
      ∧ (cycle lcDevelop (some lcProduction)).lc.running.isSome = true
      ∧ fget (fset pgLc Lc.lcStatTokenFails 7 r0) pgLc Lc.lcStatTokenFails < 8
      ∧ 8 ≤ fget (fset pgLc Lc.lcStatTokenFails 8 r0) pgLc Lc.lcStatTokenFails
      ∧ (cycle lcDevelop (some lcProduction)).lc.running = some lcProduction
      ∧ (cycle lcDevelop (some lcRma)).lc.running = some lcRma ∧ acksPending (noteAcks 0 (cycle lcDevelop (some lcRma))) = 0
      ∧ acksPending (noteAcks 0 (running (cycle lcDevelop (some lcRma)))) ≠ 0 ∧ r0.lc.running ≠ some lcRma
      ∧ r0.strip.deadUntilReset = false ∧ (modStrip (fun t => { t with deadUntilReset := true }) r0).strip.deadUntilReset = true
      ∧ lcPermits (cycle lcManufacture none) lcProduction = true ∧ windowOpen (cycle lcManufacture none) = false
      ∧ ledgerGone { r0 with fuses := { r0.fuses with ledgerAbsent := true } } = true := by decide +kernel

/-- DEVELOP is immediate; a request without its confirmation is refused with code 6 (R342). -/
theorem test_lcRequest : (after (.lcRequest 0x5A3C0003) (cycle lcManufacture none)).fuses.lc = lcDevelop
    ∧ (after (.lcRequest 0x5A3B0003) (cycle lcManufacture none)).fuses.lc = lcManufacture := by decide

/-- The end of the transition to PRODUCTION (R343), and to RMA once the endpoint that is on has acknowledged (R344, R325). -/
theorem test_productionDone : (after .productionDone (cycle lcDevelop (some lcProduction))).fuses.lc = 7
    ∧ (after (.rmaDone 0) (running (raiseZeroise (cycle lcDevelop (some lcRma))))).fuses.lc = lcDevelop
    ∧ (after (.rmaDone 1) (running (raiseZeroise (cycle lcDevelop (some lcRma))))).fuses.lc = 15 := by decide +kernel

/-! ## The service matrix and the pages -/

/-- An access of the BOOT master. -/
def access (addr : Word) (write : Bool) : SmxAccess :=
  { master := 0, addr := addr, write := write, data := 0x1122334455667788, strobes := 0x0F, ecc := false }

/-- n accesses of that master wait, at an address. -/
def waits (n : Nat) (addr : Word) : State := { r0 with smx := { r0.smx with waiting := List.replicate n (access addr false) } }

/-- The Safelight TAP in a state, with an instruction and a shifted data register. -/
def tapAt (tap : Tap) (ir : Nat) (dr : Word) : State := modLc (fun l => { l with tap := tap, slIr := ir, drShift := dr }) r0

theorem test_ServiceMatrix_hyps :
    r0.strip.deadUntilReset = false ∧ accessesOf (waits 3 0x10000000) 0 < 4
      ∧ orderHeld (waits 3 0x10000000) (access 0x10000000 false) = false
      ∧ orderHeld (waits 3 0x10000000) (access 0x40000000 false) = true ∧ 4 ≤ accessesOf (waits 4 0x10000000) 0
      ∧ (smxTarget r0 0x10000000).1 ≠ tgBridge ∧ (smxTarget r0 0x8000000000000000).1 = tgBridge
      ∧ smxTarget r0 (access 0x10000008 true).addr = (tgSram, 8) ∧ (access 0x10000008 true).write = true
      ∧ (access 0x10000008 false).write = false ∧ r0.lc.tap = .reset ∧ tapNext r0.lc.tap false ≠ .updateDr
      ∧ (tapAt .shiftDr 0 0).lc.tap = .shiftDr ∧ (tapAt .exit1Ir 0 0).lc.tap = .exit1Ir
      ∧ (∀ ir ∈ [0, 1, 2], (tapAt .exit1Dr ir 0).lc.tap = .exit1Dr ∧ (tapAt .exit1Dr ir 0).lc.slIr = ir)
      ∧ (tapAt .exit1Dr 2 0).lc.drShift.getLsbD 0 = false ∧ (tapAt .exit1Dr 2 3).lc.drShift.getLsbD 0 = true
      ∧ (tapAt .exit1Dr 2 3).lc.slAddr.getLsbD 63 = false
      ∧ (modLc (fun l => { l with slAddr := 0x8000000000000000 }) (tapAt .exit1Dr 2 3)).lc.slAddr.getLsbD 63 = true
      ∧ (modStrip (fun t => { t with deadUntilReset := true }) r0).strip.deadUntilReset = true
      ∧ fbit (fset pgSmx Hdr.pageStatQuiesced 1 r0) pgSmx Hdr.pageStatQuiesced = true ∧ fbit r0 pgSmx Hdr.pageStatQuiesced = false
      ∧ (0xFFFF#64).toNat < 0x10000 ∧ 0x10000 ≤ (0x10000#64).toNat ∧ (0x3FFFF#64).toNat < 0x40000
      ∧ 0x10000000 ≤ (0x1000FFFF#64).toNat ∧ (0x1000FFFF#64).toNat < 0x10010000 ∧ 0x10010000 ≤ (0x1003FFFF#64).toNat
      ∧ (0x1003FFFF#64).toNat < 0x10040000 := by decide

/-- A write of the working SRAM takes the strobed bytes (R350). -/
theorem test_smx_write : sramByte (smxTake (access 0x10000008 true) r0) 8 = 0x88
    ∧ sramByte (smxTake (access 0x10000008 true) r0) 11 = 0x55
    ∧ sramByte (smxTake (access 0x10000008 true) r0) 12 = sramByte r0 12 := by decide

/-- Five clocks with TMS high reach Test-Logic-Reset from any state, which selects BYPASS (R345). -/
theorem test_tap_reset : (after (.slCtrl 5 0x1F 0) (tapAt .shiftDr 2 0)).lc.slIr = 0xF
    ∧ (after (.slCtrl 1 1 0) (tapAt .exit1Dr 0 0x123)).lc.slAddr = 0x123 := by decide +kernel

/-- REMAP is written while the page is quiesced, and only then (R353). -/
theorem test_remap : remap (after (.registerWrite 2 0x40 1) (fset pgSmx Hdr.pageStatQuiesced 1 r0)) = true
    ∧ remap (after (.registerWrite 2 0x40 1) r0) = false := by decide

/-- A staged STARVE_LIMIT of the Fabric Global page. -/
def stagedPage : State := sset pgFg Fg.arbCfgStarveLimit 99 r0

/-- Page 0 as the GLOBAL_COMMIT of this cycle committed it, with STARVE_LIMIT 5 before. -/
def committed (own : Bool) : GcRec :=
  { page := 0, own := own, was := [(fkey 0 Fg.arbCfgStarveLimit 0, 5)], pend := false, pendAt := 0, delayChg := none, delayNow := 0
    stripAt := none }

/-- The cycle of that GLOBAL_COMMIT. -/
def merged (own : Bool) : State := modTime (fun t => { t with gcDone := some [committed own] }) r0

theorem test_PageControl_hyps :
    r0.strip.deadUntilReset = false ∧ (modStrip (fun t => { t with deadUntilReset := true }) r0).strip.deadUntilReset = true
      ∧ kindOf 0 ≠ some .ni ∧ kindOf 0 = some .fg ∧ Kind.fg ≠ .ni ∧ gcHas r0 0 = false
      ∧ gcHas (merged true) 0 = true ∧ (merged true).time.gcDone = some [committed true] ∧ (committed true).page = 0
      ∧ (committed true).own = true ∧ ((committed true).was.map (·.1)).Nodup ∧ gcHas (merged true) 1 = false ∧ r0.time.gcDone = none
      ∧ (r0.staged.map (·.1)).Nodup ∧ (stagedPage.staged.map (·.1)).Nodup ∧ (ni r0 (unitOf 0x100)).shlWrote = []
      ∧ (∀ e ∈ stagedPage.staged, e.1 ≠ fkey 0 Hdr.pageStatStaged 0 ∧ e.1 ≠ fkey 0 Hdr.pageStatCommits 0)
      ∧ (modTime (fun t => { t with gcDone := some [] }) r0).time.gcDone = some [] ∧ ownRule .fg 0x48 = false
      ∧ pageHas r0 0 0x48 = true ∧ pageHas (fset pgLc Lc.lcStatBusy 0 r0) pgLedger 0x40 = true ∧ pageHas r0 (pgNi 15) 0x40 = false
      ∧ ownRule .fg Fg.arbCfgStarveLimit.off = false ∧ Fg.arbCfgStarveLimit.cls = .g ∧ Smx.smxCfgRemap.cls = .s
      ∧ Kind.fg ∉ [.ni, .time, .strip, .art]
      ∧ { r0 with staged := [(fkey 0 Fg.arbCfgStarveLimit 0, 99)] }.staged = [(fkey 0 Fg.arbCfgStarveLimit 0, 99)]
      ∧ keyPage (fkey 0 Fg.arbCfgStarveLimit 0) = 0 ∧ resetAt (fkey 0 Fg.arbCfgStarveLimit 0) = resetOf 0 Fg.arbCfgStarveLimit 0
      ∧ fkey 0 Fg.arbCfgStarveLimit 0 ∉ [fkey 0 Hdr.pageStatStaged 0, fkey 0 Hdr.pageStatCommits 0]
      ∧ kindOf 0x100 = some .ni ∧ isLive (unitOf 0x100) = true
      ∧ fbit (fset 0 Hdr.pageCtrlQuiesce 1 r0) 0 Hdr.pageCtrlQuiesce = true ∧ fbit r0 0 Hdr.pageStatQuiesced = false
      ∧ quiesceMet (fset 0 Hdr.pageCtrlQuiesce 1 r0) 0 = true ∧ fbit r0 0 Hdr.pageCtrlQuiesce = false
      ∧ (0xFF8#12).toNat % 8 = 0 := by decide

/-- COMMIT brings the staged value into force and clears the staged copies (R360). -/
theorem test_commit : fget (after (.commit 0) stagedPage) 0 Fg.arbCfgStarveLimit = 99 ∧ (after (.commit 0) stagedPage).staged = []
    ∧ fget (after (.abort 0) stagedPage) 0 Fg.arbCfgStarveLimit = fget r0 0 Fg.arbCfgStarveLimit := by decide

/-- GC_TIME t, with or without a joined page, with a commit armed or not. -/
def gc (t : Nat) (joined : Nat) (at' : Option Nat) : State :=
  modTime (fun x => { x with gcAt := at' }) (fset pgFg Hdr.pageStatGcJoined joined (fset pgFg Fg.gcTimeTime t r0))

/-- Page 0 joined, with STARVE_LIMIT staged before this cycle, and a GLOBAL_COMMIT due. -/
def committing : State :=
  modTime (fun x => { x with gcAt := some 0, stagedAt := stagedPage.staged }) (fset pgFg Hdr.pageStatGcJoined 1 stagedPage)

theorem test_GlobalCommit_hyps :
    fget (gc 1023 1 none) pgFg Fg.gcTimeTime < (gc 1023 1 none).mtime.toNat + 1024
      ∧ (gc 1024 1 (some 9)).mtime.toNat + 1024 ≤ fget (gc 1024 1 (some 9)) pgFg Fg.gcTimeTime
      ∧ (gc 1024 1 (some 9)).time.gcAt.isSome = true ∧ (gc 1024 0 none).time.gcAt = none ∧ joinedPages (gc 1024 0 none) = []
      ∧ joinedPages (gc 1024 1 none) ≠ [] ∧ (gc 1024 1 (some 0)).time.gcAt = some 0 ∧ 0 ≤ (gc 1024 1 (some 0)).mtime.toNat
      ∧ joinedPages (gc 1024 1 (some 0)) = [0] ∧ (gc 1024 1 (some 0)).time.commits.contains 0 = false
      ∧ fkey 0 Fg.arbCfgStarveLimit 0 ∉ [fkey 0 Hdr.pageStatStaged 0, fkey 0 Hdr.pageStatCommits 0, fkey 0 Hdr.pageStatGcJoined 0,
          fkey pgFg Fg.gcStatGcCount 0, fkey pgFg Hdr.irqStatStat 0]
      ∧ (joinedPages committing).Nodup ∧ joinedPages committing = [0] ∧ committing.time.commits.contains 0 = false
      ∧ kindOf 0 = some .fg ∧ committing.time.stagedAt = committing.staged ∧ (committing.staged.map (·.1)).Nodup
      ∧ (∀ e ∈ committing.staged, e.1 ∉ [fkey (keyPage e.1) Hdr.pageStatStaged 0, fkey (keyPage e.1) Hdr.pageStatCommits 0,
          fkey (keyPage e.1) Hdr.pageStatGcJoined 0, fkey pgFg Fg.gcStatGcCount 0, fkey pgFg Hdr.irqStatStat 0])
      ∧ committing.time.gcAt = some 0 ∧ 0 ≤ committing.mtime.toNat
      ∧ (modStrip (fun t => { t with deadUntilReset := true }) r0).strip.deadUntilReset = true ∧ r0.strip.deadUntilReset = false
      ∧ (gc 1024 1 (some 1)).time.gcAt = some 1 ∧ (gc 1024 1 (some 1)).mtime.toNat < 1 := by decide

/-- A G field reads as it was written before its commit (R358). -/
theorem test_staged_read : fieldRead stagedPage pgFg Fg.arbCfgStarveLimit 0 = 99 ∧ fget stagedPage pgFg Fg.arbCfgStarveLimit = fget r0 pgFg Fg.arbCfgStarveLimit := by
  decide

/-- At its time every joined page commits and leaves (R361). -/
theorem test_globalCommit : fget (after .globalCommit committing) 0 Fg.arbCfgStarveLimit = 99
    ∧ fbit (after .globalCommit committing) 0 Hdr.pageStatGcJoined = false := by decide

end Sys2Proof.Tests
end

/-! PROOFS. Page control (R356 to R363, O59): tables that take a list of values, a register write by class of field, commits and
aborts, QUIESCE, and the membership of a GLOBAL_COMMIT. -/

namespace Sys2Proof.Machine

/-! ## Tables of registers that take a list of values -/

/-- An entry set at one key is not seen at another, whatever default each key reads as. -/
theorem tfind_tput_ne {α : Type} [DecidableEq α] {d : α} {t : Tbl α} {k j : Nat} {a : α} (h : k ≠ j) :
    tfind (tput d t k a) j = tfind t j := by
  unfold tput
  split
  · rw [tfind_tdel, if_neg h]
  · rw [tfind_tins, if_neg h]

/-- A merge leaves every key that the merged list does not name. -/
theorem tfind_merge_of_notMem {l : Tbl Nat} {k : Nat} (h : k ∉ l.map (·.1)) (t : Tbl Nat) :
    tfind (l.foldl (fun t e => tput (resetAt e.1) t e.1 e.2) t) k = tfind t k := by
  induction l generalizing t with
  | nil => rfl
  | cons e l ih =>
    simp only [List.map_cons, List.mem_cons, not_or] at h
    rw [List.foldl_cons, ih h.2, tfind_tput_ne (Ne.symm h.1)]

/-- A merge of a list without repeated keys leaves each listed key at its listed value. -/
theorem tget_merge_of_mem {l : Tbl Nat} (hn : (l.map (·.1)).Nodup) {e : Nat × Nat} (he : e ∈ l) (t : Tbl Nat) :
    tget (resetAt e.1) (l.foldl (fun t e => tput (resetAt e.1) t e.1 e.2) t) e.1 = e.2 := by
  induction l generalizing t with
  | nil => cases he
  | cons a l ih =>
    rw [List.map_cons, List.nodup_cons] at hn
    obtain ⟨ha, hl⟩ := hn
    rw [List.foldl_cons]
    rcases List.mem_cons.mp he with rfl | he
    · rw [tget, tfind_merge_of_notMem ha, ← tget, tget_tput_self]
    · exact ih hl he _

/-- Every entry of a table that takes a list is the table's or the list's. -/
theorem mem_foldl_tins {α : Type} {l t : Tbl α} {e : Nat × α} (h : e ∈ l.foldl (fun t e => tins t e.1 e.2) t) :
    e ∈ l ∨ e ∈ t := by
  induction l generalizing t with
  | nil => exact .inr h
  | cons a l ih =>
    rcases ih h with h | h
    · exact .inl (List.mem_cons_of_mem _ h)
    · rcases tins_mem _ _ _ _ h with rfl | h
      · exact .inl List.mem_cons_self
      · exact .inr h

/-- Setting a field leaves the entry of every other key. -/
theorem tget_fset_regs_ne {page i k : Nat} {f : Fld} (h : fkey page f i ≠ k) (d v : Nat) (s : State) :
    tget d (fset page f v s i).regs k = tget d s.regs k := by
  rw [fset_regs, tget, tfind_tput_ne h, ← tget]

/-- A field reads alike in two states that list the same entry at its key. -/
theorem fget_of_tfind {s t : State} {page i : Nat} {f : Fld} (h : tfind t.regs (fkey page f i) = tfind s.regs (fkey page f i)) :
    fget t page f i = fget s page f i := by
  unfold fget tget; rw [h]

theorem fbit_of_fget {s t : State} {page i : Nat} {f : Fld} (h : fget t page f i = fget s page f i) :
    fbit t page f i = fbit s page f i := by
  unfold fbit; rw [h]

/-- A one-bit field reads the bit it was set to. -/
theorem fbit_fset_self {page i : Nat} {f : Fld} (hw : f.w = 1) (b : Bool) (s : State) :
    fbit (fset page f b.toNat s i) page f i = b := by
  unfold fbit; rw [fget_fset_self, hw]; cases b <;> rfl

/-! ## The page of a kind -/

/-- The page of a unit of a kind; the single pages have unit 0. -/
def pageOf (kd : Kind) (u : Nat) : Nat :=
  match kd with
  | .fg => pgFg | .time => pgTime | .smx => pgSmx | .power => pgPower | .strip => pgStrip | .lc => pgLc | .ledger => pgLedger
  | .art => pgArt | .artw => pgArtw | .rsv => pgRsv | .cp => pgCp | .router => pgRouter u | .ni => pgNi u | .fqw => pgFqw u

/-- An assigned page is the page of its kind and its unit. -/
theorem pageOf_unitOf {page : Nat} {kd : Kind} (h : kindOf page = some kd) : pageOf kd (unitOf page) = page := by
  unfold kindOf at h
  split at h
  · split at h <;> cases h <;> rfl
  · unfold unitOf
    split at h
    · cases h; simp only [pageOf, pgRouter]; split <;> omega
    · split at h
      · cases h
      · split at h
        · cases h; simp only [pageOf, pgNi]; repeat' split
          all_goals omega
        · split at h
          · cases h; simp only [pageOf, pgFqw]; repeat' split
            all_goals omega
          · cases h

/-! ## A write by class of field (R358) -/

/-- A register without a rule of its own takes a write field by field. -/
theorem regWrite_of_not_ownRule {page off : Nat} {kd : Kind} {s : State} (hk : kindOf page = some kd) (hoff : 0x40 ≤ off)
    (hp : pageHas s page off = true) (ho : ownRule kd off = false) (v : Word) (m : Nat) :
    regWrite page off v m s = plainWrite page off v.toNat s := by
  have hpage := pageOf_unitOf hk
  unfold regWrite
  rw [hk]
  simp only [Nat.not_lt.mpr hoff, if_false, hp, Bool.not_true, Bool.false_eq_true]
  cases kd <;> simp [ownRule] at ho <;> simp only [pageOf] at hpage
  case fg =>
    have : ¬ (0x800 ≤ off ∧ off < 0x800 + 8 * 127) := by omega
    simp [writeFg, ho, hpage, this]
  case time => simp [writeTime, ho, hpage]
  case smx => simp [writeSmx, ho, hpage]
  case power => simp [writePower, ho, hpage]
  case strip => simp [writeStrip, ho, hpage]
  case lc =>
    have : ¬ (0x80 ≤ off ∧ off < 0xe0) := by omega
    simp [writeLc, ho, hpage, this]
  case ledger => rw [beq_false_of_ne ho, onlyIf_false]
  case art =>
    have : ¬ (0x208 ≤ off ∧ off < 0x300 ∧ off % 16 = 8) := by omega
    simp [writeArt, ho, hpage, this]
  case artw => simp [writeArtWin, ho, hpage]
  case rsv => simp [writeRsv, ho, hpage]
  case cp => simp [writeCp, ho, hpage]
  case router => simp [ho]
  case ni =>
    have hsad : ¬ (0x400 ≤ off ∧ off < 0x800) := by omega
    have hshl : ¬ (0x800 ≤ off ∧ off < 0xC00) := by omega
    simp [writeNi, ho, hpage, hsad, hshl]
  case fqw => simp [writeFqw, ho, hpage]

/-- What a refused write leaves of the other one-bit fields of PAGE_ERR. -/
theorem fbit_pageErr_ne {page off : Nat} {f g : Fld} {s : State}
    (hirq : fkey page Hdr.irqStatStat 0 ≠ fkey page g 0) (hf : fkey page f 0 ≠ fkey page g 0)
    (hoff : fkey page Hdr.pageErrErrOffset 0 ≠ fkey page g 0) : fbit (pageErr page f off s) page g = fbit s page g := by
  refine fbit_of_fget ?_
  unfold pageErr irqHold flagBit
  rw [fget_fset_ne _ hirq, flag_eq, fget_fset_ne _ hf]
  exact onlyIf_frame (fget · page g) _ _ _ (fget_fset_ne _ hoff)

@[simp] theorem pageErr_staged (page off : Nat) (f : Fld) (s : State) : (pageErr page f off s).staged = s.staged :=
  (pageErr_same (F := (· == .staged)) (Same.refl _ s) rfl).same .staged rfl

section WriteField
variable {page off v i x : Nat} {f : Fld} {s : State}

/-- A read-only field and a command bit take no value. -/
theorem writeField_of_no_value (hc : f.cls ∈ [.ro, .wo, .w1s]) : writeField page off v (f, i) s = s := by
  simp only [List.mem_cons, List.not_mem_nil, or_false] at hc
  rcases hc with hc | hc | hc <;> simp [writeField, hc]

/-- A write of 1 clears a flag of a page whose status shows. -/
theorem writeField_w1c (hx : x = v / 2 ^ f.lo % 2 ^ f.w) (hc : f.cls = .w1c) (hon : statusOn s page = true) :
    writeField page off v (f, i) s = fset page f (fget s page f i - (fget s page f i &&& x)) s i := by
  simp [writeField, hc, hon, hx]

variable (hx : x = v / 2 ^ f.lo % 2 ^ f.w)
include hx

/-- A reserved encoding is an error, and the field keeps its value; the same write may meet a second error. -/
theorem writeField_reserved (hc : f.cls ∈ [.s, .g, .l]) (hb : x < f.min ∨ f.max < x) :
    writeField page off v (f, i) s ∈ [errReserved page off s,
      pageErr page Hdr.pageErrStaticWrite off (errReserved page off s),
      pageErr page Hdr.pageErrLkWrite off (errReserved page off s)] := by
  have hb : (decide (x < f.min) || decide (f.max < x)) = true := by simpa using hb
  simp only [List.mem_cons, List.not_mem_nil, or_false] at hc ⊢
  rcases hc with hc | hc | hc <;>
    simp only [writeField, hc, ← hx, hb, BEq.rfl, Bool.true_or, Bool.or_true, Bool.and_self, if_true]
  · split_ifs <;> simp
  · split_ifs <;> simp
  · exact .inl trivial

variable (hlo : f.min ≤ x) (hhi : x ≤ f.max)
include hlo hhi

theorem writeField_l (hc : f.cls = .l) : writeField page off v (f, i) s = fset page f x s i := by
  simp [writeField, hc, ← hx, Nat.not_lt.mpr hlo, Nat.not_lt.mpr hhi]

/-- An S field takes a value while its page is quiesced; else it keeps its own, and another value is an error. -/
theorem writeField_s (hc : f.cls = .s) : writeField page off v (f, i) s =
    if fbit s page Hdr.pageStatQuiesced then fset page f x s i
    else if x = fget s page f i then s else pageErr page Hdr.pageErrStaticWrite off s := by
  simp [writeField, hc, ← hx, Nat.not_lt.mpr hlo, Nat.not_lt.mpr hhi]

/-- A G field stages its value, unless the lock of the life cycle holds it. -/
theorem writeField_g (hc : f.cls = .g) : writeField page off v (f, i) s =
    if f.lk && lcLocked s then pageErr page Hdr.pageErrLkWrite off s else sset page f x s i := by
  simp [writeField, hc, ← hx, Nat.not_lt.mpr hlo, Nat.not_lt.mpr hhi]

end WriteField

/-! ## A staged copy (R358) -/

section Staged
variable {page i x : Nat} {f : Fld} {s : State}

/-- Staging a copy sets STAGED and changes no other field in force. -/
theorem regsKept_sset : RegsKept [fkey page Hdr.pageStatStaged 0] s (sset page f x s i) :=
  regsKept_of_regs (regsKept_fset (regsKept_refl _ s) (List.mem_singleton_self _)) rfl

theorem fbit_sset_staged : fbit (sset page f x s i) page Hdr.pageStatStaged = true :=
  fbit_fset_self (page := page) (f := Hdr.pageStatStaged) rfl true s

variable (hk : fkey page f i ≠ fkey page Hdr.pageStatStaged 0)
include hk

theorem fget_sset : fget (sset page f x s i) page f i = fget s page f i :=
  regsKept_sset.kept page f i (by simpa using hk)

theorem sget_sset (hw : x < 2 ^ f.w) : sget (sset page f x s i) page f i = x := by
  unfold sget
  rw [fget_sset hk, show (sset page f x s i).staged = tput (fget s page f i) s.staged (fkey page f i) (x % 2 ^ f.w) from rfl,
    tget_tput_self, Nat.mod_mod, Nat.mod_eq_of_lt hw]

end Staged

/-- Outside an NI page a G field reads its staged copy. -/
theorem fieldRead_g {page i : Nat} {f : Fld} {s : State} (hc : f.cls = .g) (hk : kindOf page ≠ some .ni) :
    fieldRead s page f i = sget s page f i % 2 ^ f.w := by
  have hk' : (kindOf page == some .ni) = false := beq_false_of_ne hk
  simp only [fieldRead, hc, stagedRead, hk']
  rfl

/-! ## Commits and aborts (R360, R362) -/

theorem commits_ne_staged (page : Nat) : fkey page Hdr.pageStatCommits 0 ≠ fkey page Hdr.pageStatStaged 0 :=
  fkey_ne_field (by decide) (by decide) (by decide)

/-- Counting a commit leaves STAGED clear, as the commit left it. -/
theorem fbit_staged_counted (page n : Nat) (u : State) :
    fbit (wrapAdd page Hdr.pageStatCommits n (fset page Hdr.pageStatStaged 0 u)) page Hdr.pageStatStaged = false := by
  rw [wrapAdd_eq, fbit_of_fget (fget_fset_ne _ (commits_ne_staged page))]
  exact fbit_fset_self (f := Hdr.pageStatStaged) rfl false u

/-- Both list the same commits of the cycle: t3's, and software's (R362). -/
def sameCommits (t u : TimeUnit) : Prop := u.gcDone = t.gcDone ∧ u.commits = t.commits

theorem sameCommits_commitDelay (s : State) : sameCommits s.time (commitDelay s).time := by
  unfold commitDelay
  extract_lets d
  split <;> exact ⟨rfl, rfl⟩

theorem sameCommits_rearmStrip (b : Bool) (s : State) : sameCommits s.time (rearmStrip b s).time := by
  unfold rearmStrip
  extract_lets at'
  split <;> exact ⟨rfl, rfl⟩

theorem commitDelay_staged (s : State) : (commitDelay s).staged = s.staged :=
  (commitDelay_same (F := (· == .staged)) (Same.refl _ s) rfl).same .staged rfl

theorem rearmStrip_staged (b : Bool) (s : State) : (rearmStrip b s).staged = s.staged :=
  (rearmStrip_same (F := (· == .staged)) (Same.refl _ s) rfl).same .staged rfl

/-- A commit of the ART control page flushes the caches and marks bank 17 good, beside the merge. -/
theorem staleAll_setBankBad_same (s : State) :
    Same (fun p => p == .staged || p == .time) s (staleAll (setBankBad 17 false s)) :=
  staleAll_same (setBankBad_same (Same.refl _ s) rfl) rfl

/-- What a commit of a page other than an NI's is: the merge, what its kind adds, STAGED clear and the commit counted. -/
theorem commitPage_of_ne_ni {page : Nat} (h : kindOf page ≠ some .ni) (s : State) :
    ∃ u, commitPage page s = wrapAdd page Hdr.pageStatCommits 1 (fset page Hdr.pageStatStaged 0 u)
      ∧ u.staged = s.staged.filter (fun e => keyPage e.1 != page) ∧ sameCommits s.time u.time := by
  have hni : (kindOf page != some .ni) = true := by simpa using h
  unfold commitPage
  simp only [hni, onlyIf_true]
  refine ⟨_, rfl, ?_⟩
  split
  case h_1 => contradiction
  case h_2 => exact ⟨commitDelay_staged _, sameCommits_commitDelay _⟩
  case h_3 => exact ⟨rearmStrip_staged _ _, sameCommits_rearmStrip _ _⟩
  case h_4 =>
    have hs := staleAll_setBankBad_same (mergeStaged page s)
    exact ⟨hs.same .staged rfl, congrArg _ (hs.same .time rfl), congrArg _ (hs.same .time rfl)⟩
  case h_5 => exact ⟨rfl, rfl, rfl⟩

/-- A page whose kind adds nothing to a commit. -/
theorem commitPage_of_plain {page : Nat} {kd : Kind} (hk : kindOf page = some kd) (h : kd ∉ [.ni, .time, .strip, .art]) (s : State) :
    commitPage page s = wrapAdd page Hdr.pageStatCommits 1 (fset page Hdr.pageStatStaged 0 (mergeStaged page s)) := by
  cases kd
  case ni | time | strip | art => simp at h
  all_goals simp only [commitPage, hk]; rfl

/-- A commit of an NI page, of a live port or not. -/
theorem commitPage_of_ni {page : Nat} (h : kindOf page = some .ni) (s : State) :
    commitPage page s = wrapAdd page Hdr.pageStatCommits 1
      (if isLive (unitOf page) then commitShl (unitOf page) s else fset page Hdr.pageStatStaged 0 s) := by
  simp only [commitPage, h]; rfl

/-- A commit of a page, of any kind, leaves the lists of the cycle's commits to its caller. -/
theorem sameCommits_commitPage (page : Nat) (s : State) : sameCommits s.time (commitPage page s).time := by
  by_cases h : kindOf page = some .ni
  · rw [commitPage_of_ni h, wrapAdd_eq, fset_time]
    split
    · have hs := (commitShl_same (F := (· == .time)) (a0 := unitOf page) (Same.refl _ s) rfl rfl rfl).same .time rfl
      exact ⟨congrArg _ hs, congrArg _ hs⟩
    · exact ⟨rfl, rfl⟩
  · obtain ⟨u, hu, -, hc⟩ := commitPage_of_ne_ni h s
    rw [hu, wrapAdd_eq, fset_time, fset_time]
    exact hc

/-- So does t3's commit: staging again what the cycle wrote leaves the Time Unit alone. -/
theorem sameCommits_gcCommit (page : Nat) (s : State) : sameCommits s.time (gcCommit page s).time := by
  unfold gcCommit
  extract_lets mine was now stood wrote u stays
  have hu : sameCommits s.time u.time := sameCommits_commitPage page _
  clear_value u
  have hs : Same (· == .time) u (onlyIf stays (fset page Hdr.pageStatStaged 1)
      (forEach wrote (fun k => stageWritten page k (tget (stood k) now k)) u)) :=
    onlyIf_same (forEach_same (Same.refl _ u) (fun _ _ h => stageWritten_same h rfl rfl rfl)) (fun _ h => fset_same h rfl)
  rw [show (onlyIf stays _ _ : State).time = u.time from hs.same .time rfl]
  exact hu

/-! ### Software's commits (R360) -/

/-- A page that t3 has included in this cycle commits no more: software's commit is t3's. -/
theorem softCommit_of_gcHas {page : Nat} {s : State} (h : gcHas s page = true) :
    softCommit page s = modTime (ownCommit page) s := by
  simp only [softCommit, h, if_true]

theorem softCommit_of_not_gcHas {page : Nat} {s : State} (h : gcHas s page = false) :
    softCommit page s = commitPage page (modTime (ownCommit page) s) := by
  simp [softCommit, h]

/-- A commit of a page other than an NI's leaves no staged copy and STAGED clear, and counts among the cycle's commits. -/
theorem softCommit_of_ne_ni {page : Nat} {s : State} (hg : gcHas s page = false) (hk : kindOf page ≠ some .ni) :
    (∀ e ∈ (softCommit page s).staged, keyPage e.1 ≠ page) ∧ fbit (softCommit page s) page Hdr.pageStatStaged = false
      ∧ (softCommit page s).time.commits = s.time.commits ++ [page] := by
  rw [softCommit_of_not_gcHas hg]
  obtain ⟨u, hu, hst, -⟩ := commitPage_of_ne_ni hk (modTime (ownCommit page) s)
  refine ⟨fun e he => ?_, by rw [hu]; exact fbit_staged_counted page 1 u, (sameCommits_commitPage page _).2⟩
  rw [hu, wrapAdd_eq, fset_staged, fset_staged, hst] at he
  simpa using (List.mem_filter.mp he).2

theorem softCommit_mem_fuses (page : Nat) (s : State) :
    (softCommit page s).mem = s.mem ∧ (softCommit page s).fuses = s.fuses := by
  have hs : Same (fun p => p == .mem || p == .fuses) s (softCommit page s) := softCommit_same (Same.refl _ s) rfl rfl rfl rfl
  exact ⟨hs.same .mem rfl, hs.same .fuses rfl⟩

section Plain
variable {page : Nat} {kd : Kind} {s : State}

/-- The staged copies of a page, which its commit merges. -/
def stagedOf (page : Nat) (s : State) : Tbl Nat := s.staged.filter (fun e => keyPage e.1 == page)

/-- A page with no addition of its own commits by the merge alone. -/
theorem softCommit_of_plain (hg : gcHas s page = false) (hk : kindOf page = some kd)
    (h : kd ∉ [.ni, .time, .strip, .art]) :
    softCommit page s = wrapAdd page Hdr.pageStatCommits 1 (fset page Hdr.pageStatStaged 0
      (mergeStaged page (modTime (ownCommit page) s))) := by
  rw [softCommit_of_not_gcHas hg, commitPage_of_plain hk h]

/-- What the header's part of a commit leaves of the registers. -/
theorem tget_counted {k : Nat} (hs : k ≠ fkey page Hdr.pageStatStaged 0) (hc : k ≠ fkey page Hdr.pageStatCommits 0)
    (d n : Nat) (u : State) :
    tget d (wrapAdd page Hdr.pageStatCommits n (fset page Hdr.pageStatStaged 0 u)).regs k = tget d u.regs k := by
  rw [wrapAdd_eq, tget_fset_regs_ne (Ne.symm hc), tget_fset_regs_ne (Ne.symm hs)]

theorem fget_commits_counted (n : Nat) (u : State) :
    fget (wrapAdd page Hdr.pageStatCommits n (fset page Hdr.pageStatStaged 0 u)) page Hdr.pageStatCommits
      = (fget u page Hdr.pageStatCommits + n) % 2 ^ Hdr.pageStatCommits.w := by
  rw [wrapAdd_eq, fget_fset_self, fget_fset_ne _ (commits_ne_staged page).symm]

variable (hg : gcHas s page = false) (hk : kindOf page = some kd) (h : kd ∉ [.ni, .time, .strip, .art])
include hg hk h

theorem softCommit_plain_staged : (softCommit page s).staged = s.staged.filter (fun e => keyPage e.1 != page) := by
  rw [softCommit_of_plain hg hk h]; rfl

theorem softCommit_plain_nis_art : (softCommit page s).nis = s.nis ∧ (softCommit page s).art = s.art := by
  rw [softCommit_of_plain hg hk h]; exact ⟨rfl, rfl⟩

/-- A plain commit leaves every key that is not staged at the page. -/
theorem softCommit_plain_frame {k : Nat} (hm : k ∉ (stagedOf page s).map (·.1)) (hs : k ≠ fkey page Hdr.pageStatStaged 0)
    (hc : k ≠ fkey page Hdr.pageStatCommits 0) (d : Nat) : tget d (softCommit page s).regs k = tget d s.regs k := by
  rw [softCommit_of_plain hg hk h, tget_counted hs hc]
  exact congrArg (·.getD d) (tfind_merge_of_notMem hm s.regs)

variable (hf : ∀ e ∈ s.staged, e.1 ≠ fkey page Hdr.pageStatStaged 0 ∧ e.1 ≠ fkey page Hdr.pageStatCommits 0)
include hf

theorem softCommit_plain_commits : fget (softCommit page s) page Hdr.pageStatCommits
    = (fget s page Hdr.pageStatCommits + 1) % 2 ^ Hdr.pageStatCommits.w := by
  have hm : fkey page Hdr.pageStatCommits 0 ∉ (stagedOf page s).map (·.1) := fun hm => by
    obtain ⟨e, he, hk⟩ := List.mem_map.mp hm
    exact (hf e (List.mem_of_mem_filter he)).2 hk
  rw [softCommit_of_plain hg hk h, fget_commits_counted]
  congr 2
  exact fget_of_tfind (tfind_merge_of_notMem hm s.regs)

/-- A plain commit brings every staged value of the page into force. -/
theorem softCommit_plain_merges (hn : (s.staged.map (·.1)).Nodup) {e : Nat × Nat} (he : e ∈ s.staged)
    (hp : keyPage e.1 = page) : tget (resetAt e.1) (softCommit page s).regs e.1 = e.2 := by
  obtain ⟨hs, hc⟩ := hf e he
  rw [softCommit_of_plain hg hk h, tget_counted hs hc]
  have hm : e ∈ stagedOf page s := List.mem_filter.mpr ⟨he, beq_iff_eq.mpr hp⟩
  exact tget_merge_of_mem (hn.sublist (List.filter_sublist.map _)) hm s.regs

end Plain

/-! ### The commit of an NI page (R198) -/

theorem isShlKey_staged (page : Nat) : isShlKey (fkey page Hdr.pageStatStaged 0) = false := by
  have h : fkey page Hdr.pageStatStaged 0 / (64 * 4096) % 512 * 8 = 0x18 := by
    unfold fkey; simp only [Hdr.pageStatStaged]; omega
  unfold isShlKey
  rw [h]; rfl

/-- Keys of shutter registers leave STAGED as it was. -/
theorem tfind_merge_shl {l : Tbl Nat} (h : ∀ e ∈ l, isShlKey e.1 = true) (page : Nat) (t : Tbl Nat) :
    tfind (l.foldl (fun t e => tput (resetAt e.1) t e.1 e.2) t) (fkey page Hdr.pageStatStaged 0)
      = tfind t (fkey page Hdr.pageStatStaged 0) := by
  refine tfind_merge_of_notMem (fun hm => ?_) t
  obtain ⟨e, he, hk⟩ := List.mem_map.mp hm
  have := h e he
  rw [hk, isShlKey_staged] at this
  cases this

/-- With nothing written behind the list, a takeover stages nothing and leaves STAGED and every other NI. -/
theorem takeOver_of_nothing_behind {p : Nat} {s : State} (h : (ni s p).shlWrote = []) :
    (∀ e ∈ (takeOver p s).staged, e ∈ s.staged)
      ∧ fbit (takeOver p s) (pgNi p) Hdr.pageStatStaged = fbit s (pgNi p) Hdr.pageStatStaged
      ∧ ∀ q, q ≠ p → ni (takeOver p s) q = ni s q := by
  unfold takeOver
  extract_lets mine u w
  have hw : stageWrote p w = w := by
    have : (ni w p).shlWrote = [] := by rw [ni_modNi_self]; exact h
    simp only [stageWrote, this, List.isEmpty_nil, if_true]
  rw [hw, flag_eq, wrapAdd_eq]
  refine ⟨fun e he => List.mem_of_mem_filter he, fbit_of_fget ?_, fun q hq => ?_⟩
  · rw [fget_fset_field _ (by decide) (by decide) (by decide), fget_fset_field _ (by decide) (by decide) (by decide)]
    refine fget_of_tfind (tfind_merge_shl (fun e he => ?_) (pgNi p) s.regs)
    exact ((Bool.and_eq_true _ _).mp (List.mem_filter.mp he).2).2
  · rw [ni_fset, ni_fset, ni_modNi, if_neg (Ne.symm hq)]; rfl

/-- A commit of an NI page leaves no staged copy but of its shutter list, STAGED clear, and every other NI as it was. -/
theorem commitShl_effect {p : Nat} {s : State} (h : (ni s p).shlWrote = []) :
    (∀ e ∈ (commitShl p s).staged, keyPage e.1 = pgNi p → isShlKey e.1 = true)
      ∧ fbit (commitShl p s) (pgNi p) Hdr.pageStatStaged = false
      ∧ ∀ q, q ≠ p → ni (commitShl p s) q = ni s q := by
  unfold commitShl
  extract_lets pg shl list a b c
  have hb : ∀ e ∈ b.staged, keyPage e.1 = pgNi p → isShlKey e.1 = true := by
    intro e he hpg
    rcases mem_foldl_tins he with he | he
    · exact ((Bool.and_eq_true _ _).mp (List.mem_filter.mp he).2).2
    · exact absurd hpg (bne_iff_ne.mp (List.mem_filter.mp he).2)
  have hbit : fbit b (pgNi p) Hdr.pageStatStaged = false := fbit_fset_self (f := Hdr.pageStatStaged) rfl false _
  have hc : c.staged = b.staged ∧ c.regs = b.regs ∧ (ni c p).shlWrote = [] ∧ ∀ q, q ≠ p → ni c q = ni s q := by
    unfold c
    split
    · exact ⟨rfl, rfl, h, fun _ _ => rfl⟩
    · exact ⟨rfl, rfl, by rw [ni_modNi_self]; exact h, fun q hq => by rw [ni_modNi, if_neg (Ne.symm hq)]; rfl⟩
  obtain ⟨hst, hr, hw, hn⟩ := hc
  rw [← hst] at hb
  rw [← fbit_of_fget (fget_regs hr _ _ _)] at hbit
  clear_value c
  cases listMoves c p
  · exact ⟨hb, hbit, hn⟩
  · obtain ⟨kst, kbit, kn⟩ := takeOver_of_nothing_behind hw
    exact ⟨fun e he => hb e (kst e he), kbit.trans hbit, fun q hq => (kn q hq).trans (hn q hq)⟩

theorem pgNi_unitOf {page : Nat} (h : kindOf page = some .ni) : pgNi (unitOf page) = page := pageOf_unitOf h

/-- Software's commit of the page of a live NI. -/
theorem softCommit_of_ni {page : Nat} {s : State} (hg : gcHas s page = false) (hk : kindOf page = some .ni)
    (hl : isLive (unitOf page) = true) (hw : (ni s (unitOf page)).shlWrote = []) :
    (∀ e ∈ (softCommit page s).staged, keyPage e.1 = page → isShlKey e.1 = true)
      ∧ fbit (softCommit page s) page Hdr.pageStatStaged = false
      ∧ ∀ q, q ≠ unitOf page → ni (softCommit page s) q = ni s q := by
  rw [softCommit_of_not_gcHas hg, commitPage_of_ni hk, if_pos hl, wrapAdd_eq]
  have he := commitShl_effect (p := unitOf page) (s := modTime (ownCommit page) s) hw
  rw [pgNi_unitOf hk] at he
  obtain ⟨hst, hbit, hn⟩ := he
  exact ⟨hst, (fbit_of_fget (fget_fset_ne _ (commits_ne_staged page))).trans hbit, hn⟩

/-! ### Aborts (R360) -/

theorem abortPage_of_ne_ni {page : Nat} {s : State} (h : kindOf page ≠ some .ni) :
    (∀ e ∈ (abortPage page s).staged, keyPage e.1 ≠ page) ∧ fbit (abortPage page s) page Hdr.pageStatStaged = false
      ∧ RegsKept [fkey page Hdr.pageStatStaged 0] s (abortPage page s) := by
  have hni : (kindOf page == some .ni) = false := beq_false_of_ne h
  unfold abortPage
  simp only [pendingAt, hni, Bool.false_and, onlyIf_false, Bool.or_false]
  exact ⟨fun e he => bne_iff_ne.mp (List.mem_filter.mp he).2, fbit_fset_self (f := Hdr.pageStatStaged) rfl false _,
    regsKept_fset (regsKept_of_regs (regsKept_refl _ s) rfl) (List.mem_singleton_self _)⟩

/-! ## Quiesce (R359) -/

theorem regsKept_enterHoldover (s : State) : RegsKept holdoverKeys s (enterHoldover s) := by
  unfold enterHoldover
  extract_lets a b c
  rw [regsKept_modTime]
  exact regsKept_fset (regsKept_fset (regsKept_fset (regsKept_fset (regsKept_refl _ s) (by simp [holdoverKeys]))
    (by simp [holdoverKeys])) (by simp [holdoverKeys])) (by simp [holdoverKeys])

theorem regsKept_quiesceTime (s : State) : RegsKept holdoverKeys s (quiesceTime s) := by
  unfold quiesceTime
  split
  · exact regsKept_fset (regsKept_refl _ s) (by simp [holdoverKeys])
  · split
    · exact regsKept_enterHoldover s
    · exact regsKept_refl _ s

theorem quiesce_notMem_holdoverKeys (page : Nat) : fkey page Hdr.pageCtrlQuiesce 0 ∉ holdoverKeys := by
  intro h
  simp only [holdoverKeys, List.map_cons, List.map_nil, List.mem_cons, List.not_mem_nil, or_false, fkey, pgTime,
    Hdr.pageCtrlQuiesce, Tu.timeStatState, Tu.holdoverStatHoElapsedUs, Tu.holdoverStatHoCount, Tu.timeEvtHoldoverEnter,
    Tu.timeEvtLockAcquired] at h
  omega

theorem noteQuiesced_of_met {page : Nat} {s : State} (hq : fbit s page Hdr.pageCtrlQuiesce = true)
    (hd : fbit s page Hdr.pageStatQuiesced = false) (hm : quiesceMet s page = true) :
    noteQuiesced page s = fset page Hdr.pageStatQuiesced 1 s := by
  simp [noteQuiesced, hq, hd, hm]

theorem noteQuiesced_of_not_quiesce {page : Nat} {s : State} (hq : fbit s page Hdr.pageCtrlQuiesce = false) :
    noteQuiesced page s = s := by
  simp [noteQuiesced, hq]

theorem quiesced_ne_quiesce (page : Nat) : fkey page Hdr.pageStatQuiesced 0 ≠ fkey page Hdr.pageCtrlQuiesce 0 :=
  fkey_ne_field (by decide) (by decide) (by decide)

theorem fbit_quiesce_noteQuiesced (page : Nat) (s : State) :
    fbit (noteQuiesced page s) page Hdr.pageCtrlQuiesce = fbit s page Hdr.pageCtrlQuiesce := by
  unfold noteQuiesced
  split
  · exact fbit_of_fget (fget_fset_ne _ (quiesced_ne_quiesce page))
  · rfl

/-- QUIESCE takes the value written. -/
theorem fbit_quiesce_setQuiesce (page : Nat) (on : Bool) (m : Nat) (s : State) :
    fbit (setQuiesce page on m s) page Hdr.pageCtrlQuiesce = on := by
  unfold setQuiesce
  split
  case isTrue h => exact eq_of_beq h
  case isFalse =>
    extract_lets u x v w
    have hu : fbit u page Hdr.pageCtrlQuiesce = on := fbit_fset_self (f := Hdr.pageCtrlQuiesce) rfl on s
    cases on
    · have hw : fbit w page Hdr.pageCtrlQuiesce = false :=
        (fbit_of_fget (fget_fset_ne _ (quiesced_ne_quiesce page))).trans hu
      rw [if_neg Bool.false_ne_true]
      split
      · rw [← hw]
        exact fbit_of_fget (fget_regs ((queueRecheck_same (F := (· == .regs)) (Same.refl _ _) rfl rfl).same .regs rfl) _ _ _)
      · exact hw
    · have hv : fbit v page Hdr.pageCtrlQuiesce = true := by
        rw [← hu]
        unfold v
        split
        · exact fbit_of_fget ((regsKept_quiesceTime u).kept _ _ _ (quiesce_notMem_holdoverKeys page))
        · rfl
        · rfl
      rw [if_pos rfl, fbit_quiesce_noteQuiesced, hv]

/-! ## Membership of a GLOBAL_COMMIT (R361, R362) -/

theorem joinGc_of_none {page : Nat} {s : State} (h : s.time.gcDone = none) :
    joinGc page s = fset page Hdr.pageStatGcJoined 1 s := by
  simp [joinGc, h]

/-- A page that t3 has included joins nothing more. -/
theorem joinGc_of_gcHas {page : Nat} {s : State} (h : gcHas s page = true) : joinGc page s = s := by
  unfold joinGc
  rw [h]
  cases hd : s.time.gcDone with
  | none => simp [gcHas, hd] at h
  | some l => rfl

/-- A join after t3 in its cycle is t3's commit of the page. -/
theorem joinGc_of_some {page : Nat} {s : State} {l : List GcRec} (hd : s.time.gcDone = some l) (h : gcHas s page = false) :
    joinGc page s = gcPage page s := by
  simp [joinGc, hd, h]

theorem fbit_joined_clear (page : Nat) (u : State) :
    fbit (fset page Hdr.pageStatGcJoined 0 u) page Hdr.pageStatGcJoined = false :=
  fbit_fset_self (f := Hdr.pageStatGcJoined) rfl false u

theorem fbit_joined_gcPage (page : Nat) (s : State) : fbit (gcPage page s) page Hdr.pageStatGcJoined = false :=
  fbit_joined_clear page _

/-- t3's commit of a page lists it among the pages that t3 has included. -/
theorem gcDone_gcPage (page : Nat) (s : State) :
    (gcPage page s).time.gcDone.map (·.map (·.page)) = s.time.gcDone.map (fun l => l.map (·.page) ++ [page]) := by
  unfold gcPage
  extract_lets own r flushes t
  have ht : t.time.gcDone = s.time.gcDone := by
    have hc : (onlyIf own (gcCommit page) s).time.gcDone = s.time.gcDone :=
      onlyIf_frame (fun u : State => u.time.gcDone) own _ s (sameCommits_gcCommit page s).1
    rw [← hc]
    exact onlyIf_frame (fun u : State => u.time.gcDone) flushes _ _
      (congrArg _ ((keepCaches_same (F := (· == .time)) (Same.refl _ _) rfl).same .time rfl))
  clear_value t
  rw [fset_time]
  show (t.time.gcDone.map (· ++ [r])).map _ = _
  rw [ht, Option.map_map]
  congr 1
  funext l
  simp [r, gcFound]

/-- A page that t3 has not included leaves by its mark alone. -/
theorem leaveGc_of_not_gcHas {page : Nat} {s : State} (h : gcHas s page = false) :
    leaveGc page s = fset page Hdr.pageStatGcJoined 0
      (modTime (fun x => { x with gcDone := x.gcDone.map (fun l => l.filter (fun r => r.page != page)) }) s) := by
  have hl : (s.time.gcDone.getD []).filter (fun r => r.page == page && r.own) = [] := by
    cases hd : s.time.gcDone with
    | none => rfl
    | some l =>
      rw [gcHas, hd, Option.any_some, List.any_eq_false] at h
      rw [Option.getD_some, List.filter_eq_nil_iff]
      intro r hr hc
      exact h r hr ((Bool.and_eq_true _ _).mp hc).1
  unfold leaveGc
  rw [hl]; rfl

theorem gcHas_leaveGc (page : Nat) (s : State) : gcHas (leaveGc page s) page = false := by
  unfold leaveGc gcHas
  extract_lets l u
  clear_value u
  rw [fset_time]
  show (u.time.gcDone.map _).any _ = false
  cases u.time.gcDone <;> simp

section Undo
variable {page k : Nat} (hk : k ≠ fkey page Hdr.pageStatStaged 0)
include hk

/-- A copy that stays staged changes STAGED alone of the registers. -/
theorem tget_stageWritten (d j v : Nat) (s : State) : tget d (stageWritten page j v s).regs k = tget d s.regs k := by
  unfold stageWritten
  split
  · rfl
  · exact tget_fset_regs_ne (Ne.symm hk) d 1 _

/-- A page that takes back t3's commit has its fields as t3 found them. -/
theorem tget_undoCommit {r : GcRec} (hr : r.page = page) (d : Nat) (s : State) :
    tget d (undoCommit r s).regs k = tget d (r.was.foldl (fun t e => tput (resetAt e.1) t e.1 e.2) s.regs) k := by
  subst hr
  unfold undoCommit
  extract_lets pg behind seen regs u wrote
  rw [onlyIf_frame (fun t : State => tget d t.regs k) wrote _ _ (tget_fset_regs_ne (Ne.symm hk) d 1 _)]
  exact forEach_frame (fun t : State => tget d t.regs k) (fun e t => tget_stageWritten hk d e.1 e.2 t)

end Undo

/-- The only page of t3 takes its commit back as it leaves. -/
theorem leaveGc_of_own {page : Nat} {r : GcRec} {s : State} (hd : s.time.gcDone = some [r]) (hr : r.page = page)
    (ho : r.own = true) (hn : (r.was.map (·.1)).Nodup) {e : Nat × Nat} (he : e ∈ r.was)
    (hj : e.1 ≠ fkey page Hdr.pageStatGcJoined 0) (hs : e.1 ≠ fkey page Hdr.pageStatStaged 0) :
    tget (resetAt e.1) (leaveGc page s).regs e.1 = e.2 := by
  have hl : (s.time.gcDone.getD []).filter (fun r => r.page == page && r.own) = [r] := by simp [hd, hr, ho]
  unfold leaveGc
  rw [hl, tget_fset_regs_ne (Ne.symm hj)]
  exact (tget_undoCommit hs hr _ s).trans (tget_merge_of_mem hn he s.regs)

/-! ## The clauses of the obligation -/

section Exec
variable {page : PageNo} {kd : Kind} (hk : kindOf page.val = some kd) (s : State)
include hk

theorem exec_commit : exec (.commit page) s = .next (softCommit page.val s) := by
  show execCommit page s = _
  simp [execCommit, hk]
theorem exec_abort : exec (.abort page) s = .next (abortPage page.val s) := by
  show execAbort page s = _
  simp [execAbort, hk]
theorem exec_quiesce (on : Bool) (m : Fin 5) : exec (.quiesce page on m) s = .next (setQuiesce page.val on m.val s) := by
  show execQuiesce page on m s = _
  simp [execQuiesce, hk]
theorem exec_quiesced : exec (.quiesced page) s = .next (noteQuiesced page.val s) := by
  show execQuiesced page s = _
  simp [execQuiesced, hk]
theorem exec_gcJoin : exec (.gcJoin page) s = .next (joinGc page.val s) := by
  show execGcJoin page s = _
  simp [execGcJoin, hk]
theorem exec_gcLeave : exec (.gcLeave page) s = .next (leaveGc page.val s) := by
  show execGcLeave page s = _
  simp [execGcLeave, hk]
theorem exec_irqSet (v : Word) : exec (.irqSet page v) s = .next (irqSet page.val v.toNat s) := by
  show execIrqSet page v s = _
  simp [execIrqSet, hk]

end Exec

theorem exec_registerWrite_of_dead {s : State} (h : s.strip.deadUntilReset = true) (page : PageNo) (off : BitVec 12) (v : Word) :
    exec (.registerWrite page off v) s = .next s := by
  show execRegisterWrite page off v s = _
  simp [execRegisterWrite, h]

theorem exec_registerWrite {page : PageNo} {kd : Kind} (hk : kindOf page.val = some kd) {s : State} {off : BitVec 12}
    (hs : s.strip.deadUntilReset = false) (ho : off.toNat % 8 = 0) (v : Word) :
    exec (.registerWrite page off v) s = .next (regWrite page.val off.toNat v 0 s) := by
  show execRegisterWrite page off v s = _
  simp [execRegisterWrite, hk, hs, ho]

/-- A register that the page does not have ignores the write (R5). -/
theorem regWrite_of_not_pageHas {page off : Nat} {s : State} (hoff : 0x40 ≤ off) (hp : pageHas s page off = false)
    (v : Word) (m : Nat) : regWrite page off v m s = s := by
  unfold regWrite
  split
  · rfl
  · rw [if_neg (Nat.not_lt.mpr hoff), hp]; rfl

/-- Whatever second error it meets, a reserved encoding sets RESERVED_ENC, changes PAGE_ERR and IRQ_STAT alone, and stages
nothing. -/
theorem reserved_effect {page off : Nat} {s t : State} (h : t ∈ [errReserved page off s,
      pageErr page Hdr.pageErrStaticWrite off (errReserved page off s),
      pageErr page Hdr.pageErrLkWrite off (errReserved page off s)]) :
    fbit t page Hdr.pageErrReservedEnc = true ∧ RegsKept (pageErrKeys page) s t ∧ t.staged = s.staged := by
  have hbit : fbit (errReserved page off s) page Hdr.pageErrReservedEnc = true := fbit_pageErr s _ _ _ rfl (by decide)
  have hkept : RegsKept (pageErrKeys page) s (errReserved page off s) := regsKept_pageErr s _ _ _ (by simp [pageErrKeys])
  have hst : (errReserved page off s).staged = s.staged := pageErr_staged _ _ _ s
  have second : ∀ f : Fld, f.off / 8 * 64 + f.lo ≠ Hdr.pageErrReservedEnc.off / 8 * 64 + Hdr.pageErrReservedEnc.lo →
      fkey page f 0 ∈ pageErrKeys page →
      fbit (pageErr page f off (errReserved page off s)) page Hdr.pageErrReservedEnc = true
        ∧ RegsKept (pageErrKeys page) s (pageErr page f off (errReserved page off s))
        ∧ (pageErr page f off (errReserved page off s)).staged = s.staged := fun f hne hm =>
    ⟨(fbit_pageErr_ne (fkey_ne_field (by decide) (by decide) (by decide)) (fkey_ne_field hne (by decide) (by decide))
        (fkey_ne_field (by decide) (by decide) (by decide))).trans hbit,
      regsKept_trans hkept (regsKept_pageErr _ _ _ _ hm), (pageErr_staged _ _ _ _).trans hst⟩
  simp only [List.mem_cons, List.not_mem_nil, or_false] at h
  rcases h with rfl | rfl | rfl
  · exact ⟨hbit, hkept, hst⟩
  · exact second _ (by decide) (by simp [pageErrKeys])
  · exact second _ (by decide) (by simp [pageErrKeys])

/-- A refused write of a legal value: its flag, and nothing but PAGE_ERR and IRQ_STAT. -/
theorem refused_effect {page off : Nat} {s : State} {f : Fld} (hf : f ∈ [Hdr.pageErrStaticWrite, Hdr.pageErrLkWrite]) :
    fbit (pageErr page f off s) page f = true ∧ RegsKept (pageErrKeys page) s (pageErr page f off s)
      ∧ (pageErr page f off s).staged = s.staged := by
  simp only [List.mem_cons, List.not_mem_nil, or_false] at hf
  rcases hf with rfl | rfl <;>
    exact ⟨fbit_pageErr s _ _ _ rfl (by decide), regsKept_pageErr s _ _ _ (by simp [pageErrKeys]), pageErr_staged _ _ _ s⟩

/-- Settles O59, clause by clause: each command's page operation by its effect, and a register write by the class of its
fields. -/
theorem pageControl : Obligations.PageControl := by
  unfold Obligations.PageControl
  refine ⟨fun page s kd hk => ⟨fun hg => ?commitDone, fun hg hni => ?commit, fun hg hpl hn hf => ?commitPlain,
    fun hg hni hl hw => ?commitNi, fun hni => ?abort, fun on m => ?quiesce, fun hq hd hm => ?quiesced, fun hq => ?notQuiesced,
    fun hd => ?join, fun l hd hg => ?joinAtT3, fun hg => ?joinAgain, fun hg => ?leave, fun r hd hr ho hni hn => ?leaveTakesBack,
    fun v => exec_irqSet hk s v, fun hs off v => exec_registerWrite_of_dead hs page off v, fun off v hs ho => ?write⟩,
    fun page off v i x f s hx => ⟨fun hc => writeField_of_no_value hc, fun hc hon => writeField_w1c hx hc hon,
      fun hlo hhi => ⟨fun hc => writeField_l hx hlo hhi hc, fun hc hq => ?sQuiesced, fun hc hq he => ?sSame, fun hc hq he => ?sRefused,
        fun hc hlk hkey => ?g⟩, fun hc hlk hlo hhi => ?gLocked, fun hc hb => ?reserved⟩⟩
  case commitDone => exact ⟨_, exec_commit hk s, by rw [softCommit_of_gcHas hg]; exact ⟨rfl, rfl, rfl, rfl⟩⟩
  case commit =>
    obtain ⟨hst, hbit, hc⟩ := softCommit_of_ne_ni hg (hk ▸ (by simpa using hni))
    exact ⟨_, exec_commit hk s, hst, hbit, hc, softCommit_mem_fuses _ s⟩
  case commitPlain =>
    obtain ⟨hnis, hart⟩ := softCommit_plain_nis_art hg hk hpl
    exact ⟨_, exec_commit hk s, softCommit_plain_staged hg hk hpl, softCommit_plain_commits hg hk hpl hf,
      fun e he hp => softCommit_plain_merges hg hk hpl hf hn he hp,
      fun k hm hs hc => softCommit_plain_frame hg hk hpl hm hs hc _, hnis, hart, (softCommit_mem_fuses _ s).1⟩
  case commitNi => exact ⟨_, exec_commit hk s, softCommit_of_ni hg (hni ▸ hk) hl hw⟩
  case abort => exact ⟨_, exec_abort hk s, abortPage_of_ne_ni (hk ▸ (by simpa using hni))⟩
  case quiesce =>
    have hs : Same (fun p => p == .mem || p == .nis || p == .mtime) s (setQuiesce page.val on m.val s) :=
      setQuiesce_same (Same.refl _ s) rfl rfl rfl rfl rfl rfl
    exact ⟨_, exec_quiesce hk s on m, fbit_quiesce_setQuiesce _ _ _ s, hs.same .mem rfl, hs.same .nis rfl, hs.same .mtime rfl⟩
  case quiesced => rw [exec_quiesced hk, noteQuiesced_of_met hq hd hm]
  case notQuiesced => rw [exec_quiesced hk, noteQuiesced_of_not_quiesce hq]
  case join => rw [exec_gcJoin hk, joinGc_of_none hd]
  case joinAtT3 =>
    refine ⟨_, exec_gcJoin hk s, ?_⟩
    rw [joinGc_of_some hd hg, gcDone_gcPage, hd]
    exact ⟨fbit_joined_gcPage _ s, rfl⟩
  case joinAgain => rw [exec_gcJoin hk, joinGc_of_gcHas hg]
  case leave =>
    refine ⟨_, exec_gcLeave hk s, ?_⟩
    rw [leaveGc_of_not_gcHas hg]
    exact ⟨fbit_joined_clear _ _, regsKept_fset ((regsKept_modTime _ s s _).mpr (regsKept_refl _ s)) (List.mem_singleton_self _),
      rfl, rfl⟩
  case leaveTakesBack =>
    exact ⟨_, exec_gcLeave hk s, fbit_joined_clear _ _, gcHas_leaveGc _ s, fun e he hj hs => leaveGc_of_own hd hr ho hn he hj hs⟩
  case write =>
    rw [exec_registerWrite hk hs ho]
    exact ⟨rfl, fun hoff hp => by rw [regWrite_of_not_pageHas hoff hp],
      fun hoff hp hr => by rw [regWrite_of_not_ownRule hk hoff hp hr]; rfl⟩
  case sQuiesced => rw [writeField_s hx hlo hhi hc, if_pos hq]
  case sSame => rw [writeField_s hx hlo hhi hc, hq, if_neg Bool.false_ne_true, if_pos he]
  case sRefused =>
    rw [writeField_s hx hlo hhi hc, hq, if_neg Bool.false_ne_true, if_neg he]
    exact refused_effect (by simp)
  case g =>
    have hw : x < 2 ^ f.w := hx ▸ Nat.mod_lt _ (Nat.two_pow_pos _)
    rw [writeField_g hx hlo hhi hc, hlk, if_neg Bool.false_ne_true]
    exact ⟨sget_sset hkey hw, fbit_sset_staged, fget_sset hkey,
      fun hni => by rw [fieldRead_g hc hni, sget_sset hkey hw, Nat.mod_eq_of_lt hw], regsKept_sset⟩
  case gLocked =>
    rw [writeField_g hx hlo hhi hc, hlk, if_pos rfl]
    exact refused_effect (by simp)
  case reserved => exact reserved_effect (writeField_reserved hx hc hb)

end Sys2Proof.Machine

/-! PROOFS. The machine as a whole (R10, R11, R19, R356, O2, O50): every command answers a next state, and what a command
does at a unit that the part does not have or at a tied-off port. -/

namespace Sys2Proof.Machine

/-! ## Every command completes -/

/-- The outcome is a next state. -/
def Completes (o : Out) : Prop := ∃ t, o = .next t

theorem completes_next (s : State) : Completes (.next s) := ⟨s, rfl⟩

theorem completes_ite {c : Prop} [Decidable c] {a b : Out} (ha : Completes a) (hb : Completes b) :
    Completes (if c then a else b) := by
  split
  · exact ha
  · exact hb

/-- A command of one condition, and one of two. -/
theorem completes_guard {c : Prop} [Decidable c] (s t : State) : Completes (if c then .next s else .next t) :=
  completes_ite (completes_next s) (completes_next t)

theorem completes_guard_guard {c d : Prop} [Decidable c] [Decidable d] (s t u : State) :
    Completes (if c then .next s else if d then .next t else .next u) :=
  completes_ite (completes_next s) (completes_guard t u)

/-- Every command is a tree of conditions, each of whose leaves is a next state: no condition, one to three guards in a row,
or a tree that is taken apart. -/
theorem exec_completes (c : Instr) (s : State) : Completes (exec c s) := by
  cases c
  case timerArm | timerDisarm | timerRearm | evtLogPop | flipArm | flipDisarm | flipRearm | rsvAdmit | rsvRelease |
    faultRecordPop | artCount | validate | copy | clear | swapArm | swapDisarm | swapRearm | refillTick | fqRate |
    fqDepth | reload | fqQuota | clrMax | errLogPop | tsLogPop | levelRecheckDone | powerGood | flowHold |
    rampDownDone | gcArm | gcDisarm | gcRearm | bootDone | smxAccess | aonReset | timePortRead | powerPortRead |
    gateLead | rtData | replay | replayTo | clsW1 | clrAllMax | slotInsert | levelFailed =>
    exact completes_next _
  case gateEdge | takeover | acquire | codeLoss | acqFail | slewStep | swPhase | swWdogExpired | holdoverLong |
    tbSnap | routeFlip | drainStall | loadHeldClear | isolate | swept | fenceGraceEnd | flush | artwW3 |
    artDrainStall | dmW1 | pop | recordReady | epochClose | epReset | epReadyFall | microsecondTick | removal |
    warnGlitches | fuseTrip | holdoff | pwrWarnNRise | fuseTrippedFall | niWake | niDrained | ackTimeout |
    drainTimeout | imageCrcStored | niSupplyGood | wakeLinkUp | wakeTimeout | configValid | f3NoReturn | f3Entered |
    f3PowerGood | f3WakeDone | sliceTest | testEnd | testMode | zeroiseWait | scanAllowed | nonceGen | levelRetrain |
    commit | abort | quiesce | quiesced | gcJoin | gcLeave | irqSet | smxBridge | fabWakeFailed | slCtrl |
    bootCopyDone | testModeFall =>
    exact completes_guard _ _
  case tbFrame | swFreq | mtimeSet | drainSample | retrainDone | artSwap | artDrainSample | telemetrySample | readout
    | ledgerEpoch | teiUp | derateAccept | wdogAccept | wdogResp | readmitReturn | fence | n1Entry | flushTimeout |
    n2Entered | imageRestore | burn | productionDone | rmaDone | pllRelock | teiRelay | teiFetch | registerWrite =>
    exact completes_guard_guard _ _ _
  case tbRefLoss | trainDone | deliveryCredit | teiResetRelease | sadWrite =>
    exact completes_ite (completes_next _) (completes_guard_guard _ _ _)
  all_goals
    delta exec
    dsimp -zeta only
    delta execHeadArrive execBuildStoreConsume execAbsorb execAlign execDelayChange execStepAnnounced execTimerFire
      execRsvCmdDone execRecheck execFlitReceive execArtLookup execCmdDone execNiInject execFlitGrant execStarveLimit
      execTeiRequest execVerdictReturn execAdmission execWaypointAccept execResponseArrive execTeiDeliver execPwrAck
      execPwrNak execEpWakeReq execReadmit execSleepOk execNiSleep execFlushAck execFabSleep execFabWake
      execSlicePrepare execStripWindow execWindowClose execQuietTimeout execSliceDone execFuseDone execLcRequest
      execSetLevel execTeiResponse execLegacyTimeout execGlobalCommit execLedgerPortRead
    repeat' first
      | with_reducible exact completes_next _
      | (extract_lets +onlyGivenNames x; clear_value x)
      | with_reducible refine completes_ite ?_ ?_
      | split

/-! ## Units that the part does not have (R10, R11, R356) -/

theorem carries_of_not_hasChan {c : Nat} (h : hasChan c = false) (s : State) : carries s c = false := by
  simp [carries, h]

/-- A command on a channel that the part does not have does nothing. -/
theorem exec_of_not_hasChan {ch : ChanId} (h : hasChan ch.val = false) (s : State) (ok : Bool) (i : Fin 15) (v : Vc) :
    ∀ c ∈ ([.replay ch, .replayTo ch, .retrainDone ch ok, .trainDone ch, .flitGrant ch, .starveLimit ch i v] : List Instr),
      exec c s = .next s := by
  simp only [List.forall_mem_cons, List.not_mem_nil, false_imp_iff, implies_true, and_true]
  delta exec
  simp [h, carries_of_not_hasChan h s, execReplay, execReplayTo, execRetrainDone, execTrainDone, execFlitGrant,
    execStarveLimit]

theorem exec_flitReceive_of_not_hasChan {ch : ChanId} (h : hasChan ch.val = false) {s : State} (hw : (chan s ch.val).wire = [])
    (err : WireFlit) : exec (.flitReceive ch err) s = .next s := by
  show execFlitReceive ch err s = _
  simp [execFlitReceive, carries_of_not_hasChan h s, hw]

/-- The arbitration points of a router have no input at a port index that it does not have, but for input 14. -/
theorem exec_starveLimit_of_not_hasPort {ch : ChanId} {i : Fin 15} (h : hasPort (ch.val / 16) i.val = false)
    (hi : i.val ≠ 14) (hc : ch.val < 1024) (v : Vc) (s : State) : exec (.starveLimit ch i v) s = .next s := by
  show execStarveLimit ch i v s = _
  simp [execStarveLimit, h, hi, Nat.not_le.mpr hc]

theorem exec_absorb_of_not_hasPort {r : RouterId} {i : Fin 15} (h : hasPort r.val i.val = false) (hi : i.val ≠ 14) (v : Vc)
    (s : State) : exec (.absorb r i v) s = .next s := by
  show execAbsorb r i v s = _
  simp [execAbsorb, h, hi]

/-- A command on a page that is not assigned does nothing. -/
theorem exec_of_kindOf_none {page : PageNo} (h : kindOf page.val = none) (s : State) (on : Bool) (m : Fin 5) (off : BitVec 12)
    (v : Word) : ∀ c ∈ ([.commit page, .abort page, .quiesce page on m, .quiesced page, .gcJoin page, .gcLeave page,
      .irqSet page v, .registerWrite page off v] : List Instr), exec c s = .next s := by
  simp only [List.forall_mem_cons, List.not_mem_nil, false_imp_iff, implies_true, and_true]
  delta exec
  simp [h, execCommit, execAbort, execQuiesce, execQuiesced, execGcJoin, execGcLeave, execIrqSet, execRegisterWrite]

/-- Settles O2: every outcome is a next state, and the guards of the commands on channels, router inputs and pages fail at a
unit that is absent. -/
theorem everyCommandCompletes : Obligations.EveryCommandCompletes := by
  unfold Obligations.EveryCommandCompletes
  refine ⟨exec_completes, fun ch s ok i v c h hc => exec_of_not_hasChan h s ok i v c hc,
    fun ch s err h hw => exec_flitReceive_of_not_hasChan h hw err, fun r i v s h => ⟨?head, ?build⟩,
    fun r i v s h hi => ⟨exec_absorb_of_not_hasPort h hi v s, fun ch hr hc => ?starve⟩,
    fun page s on m off v c h hc => exec_of_kindOf_none h s on m off v c hc⟩
  case head =>
    show execHeadArrive r i v s = _
    simp [execHeadArrive, h]
  case build =>
    show execBuildStoreConsume r i v s = _
    simp [execBuildStoreConsume, h]
  case starve => exact exec_starveLimit_of_not_hasPort (hr ▸ h) hi hc v s

/-! ## Tied-off ports (R19) -/

/-- The commands of an NI, whose guard asks for a live port, do nothing at a tied-off one. -/
theorem exec_of_tiedOff {p : Port} (h : isLive p.val = false) (s : State) (sub : Submission) (v : Vc) (b b2 : Bool)
    (reason : BitVec 4) (lvl : BitVec 3) (l : List (Nat × Word)) :
    ∀ c ∈ ([.teiRequest p sub, .admission p, .niInject p, .responseArrive p v, .teiDeliver p, .deliveryCredit p v,
      .waypointAccept p v, .teiResponse p sub, .teiRelay p sub, .teiFetch p sub, .gateEdge p, .takeover p, .derateAccept p lvl,
      .wdogAccept p v, .wdogResp p, .isolate p, .readmit p b, .readmitReturn p, .epReset p, .epReadyFall p,
      .teiResetRelease p b b2, .teiUp p, .pwrAck p b, .pwrNak p reason, .epWakeReq p, .n1Entry p, .niDrained p, .ackTimeout p,
      .drainTimeout p, .flushAck p, .flushTimeout p, .imageCrcStored p b, .n2Entered p, .niSupplyGood p, .imageRestore p l b,
      .wakeLinkUp p, .wakeTimeout p] : List Instr), exec c s = .next s := by
  simp only [List.forall_mem_cons, List.not_mem_nil, false_imp_iff, implies_true, and_true]
  delta exec
  simp only [h, execTeiRequest, execAdmission, execNiInject, execResponseArrive, execTeiDeliver, execDeliveryCredit,
    execWaypointAccept, execTeiResponse, execTeiRelay, execTeiFetch, execGateEdge, execTakeover, execDerateAccept,
    execWdogAccept, execWdogResp, execIsolate, execReadmit, execReadmitReturn, execEpReset, execEpReadyFall,
    execTeiResetRelease, execTeiUp, execPwrAck, execPwrNak, execEpWakeReq, execN1Entry, execNiDrained, execAckTimeout,
    execDrainTimeout, execFlushAck, execFlushTimeout, execImageCrcStored, execN2Entered, execNiSupplyGood, execImageRestore,
    execWakeLinkUp, execWakeTimeout, Bool.not_false, Bool.true_or, Bool.false_and, if_true, Bool.false_eq_true, if_false,
    and_self]

/-- A port whose NI holds nothing and is not isolated has no verdict, gate lead, sweep, grace or entry to act on. -/
theorem exec_of_emptyNi {p : Port} {s : State} (hn : ni s p.val = {}) (hi : isolated s p.val = false) {c : Instr}
    (hc : c ∈ [.verdictReturn p, .gateLead p, .swept p, .fenceGraceEnd p] ∨ ∃ tag, c = .legacyTimeout p tag) :
    exec c s = .next s := by
  simp only [List.mem_cons, List.not_mem_nil, or_false] at hc
  rcases hc with (rfl | rfl | rfl | rfl) | ⟨tag, rfl⟩
  · show execVerdictReturn p s = _
    simp [execVerdictReturn, hn]
  · show execGateLead p s = _
    simp [execGateLead, hn]
  · show execSwept p s = _
    simp [execSwept, hi]
  · show execFenceGraceEnd p s = _
    simp [execFenceGraceEnd, hn]
  · show execLegacyTimeout p tag s = _
    simp [execLegacyTimeout, entry, hn, tget, tfind]

/-- PWR_RESULT reads as written, and no other register changes. -/
theorem pwrResult_effect {code reason cmd : Nat} (hco : code < 4) (hre : reason < 16) (hcm : cmd < 16)
    (rk rid : Nat) (s : State) :
    fget (pwrResult code reason rk rid cmd s) pgPower Pwr.pwrResultCode = code
      ∧ fget (pwrResult code reason rk rid cmd s) pgPower Pwr.pwrResultReason = reason
      ∧ fget (pwrResult code reason rk rid cmd s) pgPower Pwr.pwrResultCmd = cmd
      ∧ RegsKept pwrResultKeys s (pwrResult code reason rk rid cmd s) := by
  unfold pwrResult
  refine ⟨?_, ?_, ?_, ?_⟩
  · repeat rw [fget_fset_field _ (by decide) (by decide) (by decide)]
    exact (fget_fset_self ..).trans (Nat.mod_eq_of_lt hco)
  · repeat rw [fget_fset_field _ (by decide) (by decide) (by decide)]
    exact (fget_fset_self ..).trans (Nat.mod_eq_of_lt hre)
  · exact (fget_fset_self ..).trans (Nat.mod_eq_of_lt hcm)
  · repeat' refine regsKept_fset ?_ (by simp [pwrResultKeys])
    exact regsKept_refl _ s

/-- The keys of what a refused power command changes: PWR_RESULT, the event and the count. -/
def refusalKeys : List Nat := pwrResultKeys ++ [fkey pgPower Pwr.pwrEvtCmdRefused 0, fkey pgPower Pwr.pwrCountRefused 0]

/-- A refused power command is told in PWR_RESULT, logged and counted, and changes nothing else (R308). -/
theorem pwrRefuse_effect {cmd reason : Nat} (hcm : cmd < 16) (hre : reason < 16) (port rk rid : Nat) (s : State) :
    fget (pwrRefuse cmd port reason rk rid s) pgPower Pwr.pwrResultCode = 2
      ∧ fget (pwrRefuse cmd port reason rk rid s) pgPower Pwr.pwrResultReason = reason
      ∧ fget (pwrRefuse cmd port reason rk rid s) pgPower Pwr.pwrResultCmd = cmd
      ∧ fbit (pwrRefuse cmd port reason rk rid s) pgPower Pwr.pwrEvtCmdRefused = true
      ∧ RegsKept refusalKeys s (pwrRefuse cmd port reason rk rid s) ∧ (pwrRefuse cmd port reason rk rid s).nis = s.nis := by
  obtain ⟨hcode, hreason, hcmd, hkept⟩ :=
    pwrResult_effect (code := 2) (by decide) hre hcm rk rid (refRecord false cmd port reason 0 rk rid s)
  have hlog : RegsKept refusalKeys s (refRecord false cmd port reason 0 rk rid s)
      ∧ fbit (refRecord false cmd port reason 0 rk rid s) pgPower Pwr.pwrEvtCmdRefused = true := by
    unfold refRecord
    refine ⟨regsKept_fset (regsKept_fset ((regsKept_modPower _ s s _).mpr (regsKept_refl _ s)) ?_) ?_,
      fbit_fset_self (f := Pwr.pwrEvtCmdRefused) rfl true _⟩ <;> simp [refusalKeys]
  refine ⟨hcode, hreason, hcmd, ?_, regsKept_trans hlog.1 (regsKept_mono hkept fun k hk => List.mem_append_left _ hk), ?_⟩
  · exact (fbit_of_fget (hkept.kept _ _ _ (by decide))).trans hlog.2
  · exact (pwrRefuse_same (F := (· == .nis)) (Same.refl _ s) rfl rfl).same .nis rfl

/-- NI_SLEEP and NI_WAKE are refused at a tied-off port, for the state of the NI. -/
theorem exec_niSleep_of_tiedOff {p : Port} (h : isLive p.val = false) (s : State) :
    exec (.niSleep p) s = .next (pwrRefuse 2 p.val rsState ukUnit 0 s) := by
  show execNiSleep p s = _
  simp [execNiSleep, sleepRefusal, h]

theorem exec_niWake_of_tiedOff {p : Port} (h : isLive p.val = false) (s : State) :
    exec (.niWake p) s = .next (pwrRefuse 3 p.val rsState ukUnit 0 s) := by
  show execNiWake p s = _
  simp [execNiWake, h]

/-- Settles O50: the guard of each command fails at a tied-off port, and the two power commands are refused there. -/
theorem tiedOffPorts : Obligations.TiedOffPorts := by
  unfold Obligations.TiedOffPorts
  refine ⟨fun p s sub v b b2 reason lvl l c h hc => exec_of_tiedOff h s sub v b b2 reason lvl l c hc,
    fun p s c _ hn hi hc => exec_of_emptyNi hn hi hc,
    fun p s h => ⟨⟨_, exec_niSleep_of_tiedOff h s, pwrRefuse_effect (by decide) (by decide) _ _ _ s⟩,
      ⟨_, exec_niWake_of_tiedOff h s, pwrRefuse_effect (by decide) (by decide) _ _ _ s⟩⟩,
    fun p k word1 value s h => ?sad, fun p s h => ?flush, fun p sub s h => ?bridge⟩
  case sad =>
    show execSadWrite p k word1 value s = _
    simp [execSadWrite, h]
  case flush =>
    show execFlush p s = _
    simp [execFlush, h]
  case bridge =>
    show execTeiRequest p sub s = _
    simp [execTeiRequest, h]

end Sys2Proof.Machine

/-! PROOFS. One FCLK cycle (R23, R72, R75, R126, R128, R334, O4): what a step on an empty queue does with the channels, with time
and with the stores. -/

namespace Sys2Proof.Machine

/-! ## Both ends of a link (R10, R11) -/

/-- The row output of another column leads back, each way by the index of the other's column (R10). -/
theorem hCol_hIdx {c i : Nat} (hc : c < 8) (hi : 4 ≤ i) (hi' : i < 11) :
    hCol c i < 8 ∧ 4 ≤ hIdx (hCol c i) c ∧ hIdx (hCol c i) c < 11 ∧ hCol (hCol c i) (hIdx (hCol c i) c) = c
      ∧ hIdx c (hCol c i) = i := by
  unfold hCol hIdx
  split_ifs <;> omega

/-- The router of a row and a column (R9). -/
theorem row_col {a b : Nat} (hb : b < 8) : rowOf (a * 8 + b) = a ∧ colOf (a * 8 + b) = b := by
  unfold rowOf colOf
  omega

/-- The far end of a row or column port is such a port of a router, and leads back (R10). -/
theorem far_far {r i : Nat} (hr : r < 64) (hi : 4 ≤ i) (hi' : i < 14) (hp : hasPort r i = true) :
    4 ≤ (far r i).2 ∧ (far r i).2 < 14 ∧ (far r i).1 < 64 ∧ far (far r i).1 (far r i).2 = (r, i) := by
  obtain ⟨a, b, ha, hb, rfl⟩ : ∃ a b, a < 8 ∧ b < 8 ∧ r = a * 8 + b := ⟨r / 8, r % 8, by omega, by omega, by omega⟩
  obtain ⟨hrow, hcol⟩ := row_col (a := a) hb
  simp only [hasPort, hrow, Bool.or_eq_true, Bool.and_eq_true, decide_eq_true_eq, beq_iff_eq] at hp
  by_cases h : i < 11
  · obtain ⟨hlt, hlo, hhi, hback, hidx⟩ := hCol_hIdx hb hi h
    obtain ⟨hrow', hcol'⟩ := row_col (a := a) hlt
    simp only [far, hrow, hcol, h, hhi, if_true, hrow', hcol', hback, hidx, and_true]
    omega
  · obtain rfl | rfl | rfl : i = 11 ∨ i = 12 ∨ i = 13 := by omega
    · obtain ⟨hrow', hcol'⟩ := row_col (a := a - 1) hb
      simp [far, hrow, hcol, hrow', hcol']
      omega
    · obtain ⟨hrow', hcol'⟩ := row_col (a := a + 1) hb
      simp [far, hrow, hcol, hrow', hcol']
      omega
    · by_cases ha' : a < 4
      · obtain ⟨hrow', hcol'⟩ := row_col (a := a + 4) hb
        simp [far, hrow, hcol, hrow', hcol', ha']
        omega
      · obtain ⟨hrow', hcol'⟩ := row_col (a := a - 4) hb
        simp [far, hrow, hcol, hrow', hcol', ha', show a - 4 < 4 by omega]
        omega

theorem revChan_niChan (p : Nat) : revChan (niChan p) = outChan (p / 4) (p % 4) := by
  simp [revChan, niChan]

theorem revChan_outChan {r i : Nat} (hr : r < 64) (hi : i < 14) : revChan (outChan r i) =
    if i < 4 then niChan (4 * r + i) else outChan (far r i).1 (far r i).2 := by
  have hlt : ¬ 1024 ≤ outChan r i := by unfold outChan; omega
  have hdiv : outChan r i / 16 = r := by unfold outChan; omega
  have hmod : outChan r i % 16 = i := by unfold outChan; omega
  simp only [revChan, hlt, if_false, hdiv, hmod]

/-- A channel of the part leaves an NI or a port of a router (R11). -/
theorem hasChan_cases {c : Nat} (h : hasChan c = true) :
    (∃ p, c = niChan p ∧ p < 256) ∨ ∃ r i, c = outChan r i ∧ r < 64 ∧ i < 14 ∧ hasPort r i = true := by
  simp only [hasChan, Bool.or_eq_true, Bool.and_eq_true, decide_eq_true_eq] at h
  rcases h with ⟨hlo, hhi⟩ | ⟨hlt, hp⟩
  · exact .inl ⟨c - 1024, by unfold niChan; omega, by omega⟩
  · refine .inr ⟨c / 16, c % 16, by unfold outChan; omega, by omega, ?_, hp⟩
    simp only [hasPort, rowOf, Bool.or_eq_true, Bool.and_eq_true, decide_eq_true_eq, beq_iff_eq] at hp
    omega

/-- The two directions of a link are each other's reverse (R11). -/
theorem revChan_revChan {c : Nat} (h : hasChan c = true) : revChan (revChan c) = c := by
  obtain ⟨p, rfl, hp⟩ | ⟨r, i, rfl, hr, hi, hport⟩ := hasChan_cases h
  · rw [revChan_niChan, revChan_outChan (by omega) (by omega), if_pos (by omega)]
    congr 1
    omega
  · rw [revChan_outChan hr hi]
    split
    case isTrue hloc =>
      rw [revChan_niChan]
      congr 1 <;> omega
    case isFalse hfar =>
      obtain ⟨hlo, hhi, hr', hback⟩ := far_far hr (by omega) hi hport
      rw [revChan_outChan hr' hhi, if_neg (by omega), hback]

/-- No two channels of the part have one reverse. -/
theorem revChan_inj {c d : Nat} (hc : hasChan c = true) (hd : hasChan d = true) (h : revChan c = revChan d) : c = d := by
  rw [← revChan_revChan hc, h, revChan_revChan hd]

/-! ## An IDLE flit (R72, R75) -/

/-- What a channel's sender and its credits do not change: its state, and what its receiver has to acknowledge. -/
def Chan.report (x : Chan) : LinkSt × Bool × Bool × Nat := (x.st, x.retraining, x.nakOn, x.expSeq)

/-- What only the channel's sender changes. -/
def Chan.line (x : Chan) : List WireFlit × Bool := (x.wire, x.sent)

/-- What the receiver still has to tell the sender of the other direction. -/
def Chan.debt (x : Chan) : List Nat × Bool := (x.owed, x.ackNews)

/-- A view of the channels that an update of one of them leaves as it was. -/
theorem chan_modChan_view {β : Type} (g : Chan → β) {f : Chan → Chan} (h : ∀ x, g (f x) = g x) (c d : Nat) (s : State) :
    g (chan (modChan c f s) d) = g (chan s d) := by
  rw [chan_modChan]
  split
  · exact h _
  · rfl

/-- A channel carries alike in two states with the same power, fabric state and link reports. -/
theorem carries_congr {s t : State} {c : Nat} (hf : fstate t = fstate s) (hp : t.power = s.power)
    (hr : ∀ d, (chan t d).report = (chan s d).report) : carries t c = carries s c := by
  have hst : ∀ d, (chan t d).st = (chan s d).st := fun d => congrArg (·.1) (hr d)
  have hre : (chan t c).retraining = (chan s c).retraining := congrArg (·.2.1) (hr c)
  simp only [carries, fabOn, fclkHeld, hf, hp, hst, hre]

theorem hasChan_of_carries {s : State} {c : Nat} (h : carries s c = true) : hasChan c = true := by
  simp only [carries, Bool.and_eq_true] at h
  exact h.1.1.1.2

theorem up_of_carries {s : State} {c : Nat} (h : carries s c = true) : (chan s c).st = .up ∧ (chan s (revChan c)).st = .up := by
  simp only [carries, Bool.and_eq_true, beq_iff_eq] at h
  exact ⟨h.1.1.2, h.1.2⟩

/-- The IDLE flit tells what the receiver beside the channel reports. -/
theorem idleFlit_congr {s t : State} {c : Nat} (h : (chan t (revChan c)).report = (chan s (revChan c)).report) :
    idleFlit t c = idleFlit s c := by
  have hn : (chan t (revChan c)).nakOn = (chan s (revChan c)).nakOn := congrArg (·.2.2.1) h
  have he : (chan t (revChan c)).expSeq = (chan s (revChan c)).expSeq := congrArg (·.2.2.2) h
  simp only [idleFlit, hn, he]

/-- What a send of the cycle does: nothing, or the channel takes the flit and the receiver beside it settles its debt. -/
theorem sendIdle_cases (c : Nat) (s : State) : sendIdle c s = s ∨ carries s c = true ∧ ∃ send settle : Chan → Chan,
    sendIdle c s = modChan (revChan c) settle (modChan c send s)
      ∧ (∀ x, (send x).report = x.report ∧ (send x).debt = x.debt)
      ∧ (∀ y, (settle y).report = y.report ∧ (settle y).line = y.line ∧ (y.owed = [] → (settle y).owed = [])
          ∧ (settle y).ackNews = false) := by
  unfold sendIdle
  extract_lets rx
  split
  case isTrue => exact .inl rfl
  case isFalse h =>
    have hc : carries s c = true := by
      by_contra hn
      simp [hn] at h
    split
    · unfold sendFlit
      extract_lets x crd sequenced f occ openTx u
      refine .inr ⟨hc, fun y => { y with
          wire := x.wire ++ [encodeFlit f]
          occ := occ
          openTx := openTx
          sent := true
          replay := if sequenced then x.replay ++ [(f, default)] else x.replay
          nextSeq := if sequenced then (x.nextSeq + 1) % 256 else x.nextSeq }, _, rfl, fun y => ⟨rfl, rfl⟩,
        fun y => ⟨rfl, rfl, fun hy => by simp [hy], rfl⟩⟩
    · split
      · exact .inr ⟨hc, _, _, rfl, fun x => ⟨rfl, rfl⟩, fun y => ⟨rfl, rfl, id, rfl⟩⟩
      · exact .inl rfl

section Idle
variable (c : Nat) (s : State)

theorem sendIdle_report (d : Nat) : (chan (sendIdle c s) d).report = (chan s d).report := by
  obtain h | ⟨-, send, settle, h, hs, ht⟩ := sendIdle_cases c s
  · rw [h]
  · rw [h, chan_modChan_view Chan.report (fun y => (ht y).1), chan_modChan_view Chan.report (fun x => (hs x).1)]

theorem sendIdle_carries (d : Nat) : carries (sendIdle c s) d = carries s d := by
  have h := sendIdle_same (F := (· != .chans)) (a0 := c) (Same.refl _ s) rfl
  exact carries_congr (fget_regs (h.same .regs rfl) _ _ _) (h.same .power rfl) (sendIdle_report c s)

/-- A send puts nothing on another channel. -/
theorem sendIdle_line_ne {d : Nat} (hd : c ≠ d) : (chan (sendIdle c s) d).line = (chan s d).line := by
  obtain h | ⟨-, send, settle, h, hs, ht⟩ := sendIdle_cases c s
  · rw [h]
  · rw [h, chan_modChan_view Chan.line (fun y => (ht y).2.1), chan_modChan, if_neg hd]

/-- A send settles the debt of no receiver but the one beside it. -/
theorem sendIdle_debt_ne {d : Nat} (hd : carries s c = true → revChan c ≠ d) :
    (chan (sendIdle c s) d).debt = (chan s d).debt := by
  obtain h | ⟨hc, send, settle, h, hs, ht⟩ := sendIdle_cases c s
  · rw [h]
  · rw [h, chan_modChan, if_neg (hd hc), chan_modChan_view Chan.debt (fun x => (hs x).2)]

/-- A receiver that owes no credit, or has nothing to acknowledge, does so after a send. -/
theorem sendIdle_debt (d : Nat) : ((chan s d).owed = [] → (chan (sendIdle c s) d).owed = [])
    ∧ ((chan s d).ackNews = false → (chan (sendIdle c s) d).ackNews = false) := by
  obtain h | ⟨hc, send, settle, h, hs, ht⟩ := sendIdle_cases c s
  · rw [h]
    exact ⟨id, id⟩
  · have hsend : (chan (modChan c send s) d).debt = (chan s d).debt := chan_modChan_view Chan.debt (fun x => (hs x).2) c d s
    have ho : (chan (modChan c send s) d).owed = (chan s d).owed := congrArg (·.1) hsend
    have ha : (chan (modChan c send s) d).ackNews = (chan s d).ackNews := congrArg (·.2) hsend
    rw [h, chan_modChan]
    split
    · exact ⟨fun h0 => (ht _).2.2.1 (ho.trans h0), fun _ => (ht _).2.2.2⟩
    · exact ⟨fun h0 => ho.trans h0, fun h0 => ha.trans h0⟩

end Idle

/-- A channel with nothing to carry: it carried a flit in this cycle, is out of service, or its receiver has nothing to tell. -/
def QuietIdle (s : State) (c : Nat) : Prop :=
  (chan s c).sent = true ∨ carries s c = false
    ∨ ((chan s (revChan c)).owed = [] ∧ (chan s (revChan c)).ackNews = false ∧ (chan s (revChan c)).nakOn = false)

theorem sendIdle_of_quiet {s : State} {c : Nat} (h : QuietIdle s c) : sendIdle c s = s := by
  rcases h with hs | hc | ⟨ho, ha, hn⟩
  · simp [sendIdle, hs]
  · simp [sendIdle, hc]
  · simp [sendIdle, ho, ha, hn]

/-- Sends of other channels leave a quiet channel quiet. -/
theorem quietIdle_sendIdle {s : State} {c : Nat} (h : QuietIdle s c) (d : Nat) : QuietIdle (sendIdle d s) c := by
  by_cases hd : d = c
  · rw [hd, sendIdle_of_quiet h]
    exact h
  · obtain ⟨ho, ha⟩ := sendIdle_debt d s (revChan c)
    exact h.imp (congrArg (·.2) (sendIdle_line_ne d s hd)).trans (.imp (sendIdle_carries d s c).trans
      fun ⟨h0, h1, h2⟩ => ⟨ho h0, ha h1, (congrArg (·.2.2.1) (sendIdle_report d s (revChan c))).trans h2⟩)

/-- The sends of a cycle leave the wires of a quiet channel. -/
theorem forEach_sendIdle_of_quiet {s : State} {c : Nat} (h : QuietIdle s c) (l : List Nat) :
    (chan (forEach l sendIdle s) c).wire = (chan s c).wire := by
  induction l generalizing s with
  | nil => rfl
  | cons d l ih =>
    refine (ih (quietIdle_sendIdle h d)).trans ?_
    by_cases hd : d = c
    · rw [hd, sendIdle_of_quiet h]
    · exact congrArg (·.1) (sendIdle_line_ne d s hd)

/-- A channel whose receiver has nothing to return and something to acknowledge. -/
def OwesAck (s : State) (c : Nat) : Prop :=
  carries s c = true ∧ (chan s c).sent = false ∧ (chan s (revChan c)).owed = []
    ∧ ((chan s (revChan c)).ackNews || (chan s (revChan c)).nakOn) = true

theorem sendIdle_of_owesAck {s : State} {c : Nat} (h : OwesAck s c) : sendIdle c s = sendAck c s := by
  obtain ⟨hc, hs, ho, hn⟩ := h
  simp [sendIdle, hc, hs, ho, hn]

/-- The channel that tells what is owed: the flit is on its wires, and the receiver has told it. -/
theorem sendAck_effect (c : Nat) (s : State) : (chan (sendAck c s) c).wire = (chan s c).wire ++ [encodeFlit (idleFlit s c)]
    ∧ (chan (sendAck c s) c).sent = true ∧ (chan (sendAck c s) (revChan c)).ackNews = false := by
  by_cases h : revChan c = c <;> simp [sendAck, chan_modChan, h]

/-- Sends of other channels leave what a channel has to tell. -/
theorem owesAck_sendIdle {s : State} {c d : Nat} (h : OwesAck s c) (hd : d ≠ c) : OwesAck (sendIdle d s) c := by
  obtain ⟨hc, hs, howed, hnews⟩ := h
  have hdebt : (chan (sendIdle d s) (revChan c)).debt = (chan s (revChan c)).debt :=
    sendIdle_debt_ne d s fun hd' he => hd (revChan_inj (hasChan_of_carries hd') (hasChan_of_carries hc) he)
  have ho : (chan (sendIdle d s) (revChan c)).owed = (chan s (revChan c)).owed := congrArg (·.1) hdebt
  have ha : (chan (sendIdle d s) (revChan c)).ackNews = (chan s (revChan c)).ackNews := congrArg (·.2) hdebt
  have hnak : (chan (sendIdle d s) (revChan c)).nakOn = (chan s (revChan c)).nakOn := congrArg (·.2.2.1) (sendIdle_report d s _)
  exact ⟨(sendIdle_carries d s c).trans hc, (congrArg (·.2) (sendIdle_line_ne d s hd)).trans hs, ho.trans howed,
    by rw [ha, hnak]; exact hnews⟩

theorem forEach_sendIdle_ackNews {s : State} {d : Nat} (h : (chan s d).ackNews = false) (l : List Nat) :
    (chan (forEach l sendIdle s) d).ackNews = false := by
  induction l generalizing s with
  | nil => exact h
  | cons c l ih => exact ih ((sendIdle_debt c s d).2 h)

/-- The sends of a cycle, the channel's own among them: it carries the acknowledgement, and the receiver has told it. -/
theorem forEach_sendIdle_of_owesAck {s : State} {c : Nat} (h : OwesAck s c) {l : List Nat} (hc : c ∈ l) :
    (chan (forEach l sendIdle s) c).wire = (chan s c).wire ++ [encodeFlit (idleFlit s c)]
      ∧ (chan (forEach l sendIdle s) (revChan c)).ackNews = false := by
  induction l generalizing s with
  | nil => cases hc
  | cons d l ih =>
    show (chan (forEach l sendIdle (sendIdle d s)) c).wire = _
      ∧ (chan (forEach l sendIdle (sendIdle d s)) (revChan c)).ackNews = _
    by_cases hd : d = c
    · subst hd
      obtain ⟨hw, hs, hn⟩ := sendAck_effect d s
      rw [sendIdle_of_owesAck h, forEach_sendIdle_of_quiet (.inl hs), hw]
      exact ⟨rfl, forEach_sendIdle_ackNews hn l⟩
    · obtain ⟨hw, hn⟩ := ih (owesAck_sendIdle h hd) ((List.mem_cons.mp hc).resolve_left (Ne.symm hd))
      rw [hw, show (chan (sendIdle d s) c).wire = (chan s c).wire from congrArg (·.1) (sendIdle_line_ne d s hd),
        idleFlit_congr (sendIdle_report d s _)]
      exact ⟨rfl, hn⟩

/-! ## The end of the cycle at the routers (R163, R247) -/

/-- A view of the routers that an update of one of them leaves as it was. -/
theorem router_modRouter_view {β : Type} (g : Router → β) {f : Router → Router} (h : ∀ x, g (f x) = g x) (r q : Nat)
    (s : State) : g (router (modRouter r f s) q) = g (router s q) := by
  rw [router_modRouter]
  split
  · exact h _
  · rfl

section Routers
variable {β : Type} (g : Chan → β) (hg : ∀ x v, g { x with vcs := v } = g x)
include hg

/-- A router's arbitration counts in receive buffers alone of the channels. -/
theorem chan_countStarve_view (r : Nat) (w : Cand) (c : Nat) (s : State) : g (chan (countStarve r w s) c) = g (chan s c) := by
  unfold countStarve
  split
  · rfl
  · split
    · rfl
    · exact chan_modChan_view g (fun x => hg x _) _ c s

theorem chan_endRouter_view (r c : Nat) (s : State) : g (chan (endRouter r s) c) = g (chan s c) := by
  have hr : (endRouter r s).chans = (beginCycle r s).chans :=
    (retryHanded_same (F := (· == .chans)) (modRouter_same (Same.refl _ _) rfl) rfl rfl rfl).same .chans rfl
  have hb : g (chan (beginCycle r s) c) = g (chan s c) := by
    unfold beginCycle
    split
    · rfl
    · exact forEach_frame (fun t => g (chan t c)) fun w t => chan_countStarve_view g hg r w c t
  rw [← hb]
  unfold chan
  rw [hr]

end Routers

/-- A register of no page but the Power page's is none of FSTATE. -/
theorem fstate_fset {page : Nat} (h : page ≠ pgPower) {f : Fld} (hf : f.off / 8 < 512) (hl : f.lo < 64) (v : Nat) (s : State) :
    fstate (fset page f v s) = fstate s :=
  fget_fset_page s h hf (by decide) hl (by decide) (by decide) (by decide)

theorem fstate_errRecord (kind : Nat) (unitNi : Bool) (unit port : Nat) (w0 w1 : Word) (s : State) :
    fstate (errRecord kind unitNi unit port w0 w1 s) = fstate s := by
  unfold errRecord
  split
  · rw [flag_eq, satAdd_eq, fstate_fset (by decide) (by decide) (by decide), fstate_fset (by decide) (by decide) (by decide)]
  · rw [flag_eq, fstate_fset (by decide) (by decide) (by decide)]
    rfl

theorem fstate_logDisposal (r inp : Nat) (w : BuildWhy) (h : Header) (s : State) :
    fstate (logDisposal r inp w h s) = fstate s := by
  unfold logDisposal errQ0
  rw [fstate_errRecord, satAdd_eq]
  exact fstate_fset (by unfold pgRouter pgPower; omega) (by cases w <;> decide) (by cases w <;> decide) _ s

theorem fstate_absorbPacket (r o status : Nat) (h : Header) (s : State) : fstate (absorbPacket r o status h s) = fstate s := by
  unfold absorbPacket fileAnswer
  extract_lets a u b
  have hu : fstate u = fstate s := rfl
  clear_value u
  split_ifs
  · exact (fstate_logDisposal ..).trans hu
  · exact (fstate_logDisposal ..).trans hu
  · exact hu
  · exact fstate_fset (by unfold pgNi pgPower; omega) (by decide) (by decide) _ s
  · rfl

theorem fstate_endRouter (r : Nat) (s : State) : fstate (endRouter r s) = fstate s := by
  have hb : fstate (beginCycle r s) = fstate s :=
    fget_regs ((beginCycle_same (F := (· == .regs)) (Same.refl _ s) rfl rfl).same .regs rfl) _ _ _
  refine Eq.trans (forEach_frame fstate fun x t => ?_) hb
  unfold hand absorbHanded
  split
  · rfl
  · rw [fstate_absorbPacket]
    exact onlyIf_frame fstate _ _ t rfl

theorem handed_countStarve (r : Nat) (w : Cand) (q : Nat) (s : State) :
    (router (countStarve r w s) q).handed = (router s q).handed := by
  unfold countStarve
  split
  · rfl
  · split
    · refine router_modRouter_view Router.handed (fun x => ?_) r q s
      split
      · unfold setBuilt
        split <;> rfl
      · rfl
    · rfl

/-- With no packet that waits for an absorber, a router's cycle logs nothing. -/
theorem endRouter_of_nothing_handed {s : State} (h : ∀ q, (router s q).handed = []) (r : Nat) :
    (endRouter r s).errLog = s.errLog ∧ ∀ q, (router (endRouter r s) q).handed = [] := by
  have hb : ∀ q, (router (beginCycle r s) q).handed = [] := by
    intro q
    rw [← h q]
    unfold beginCycle
    split
    · rfl
    · refine (forEach_frame (fun t => (router t q).handed) fun w t => handed_countStarve r w q t).trans ?_
      exact router_modRouter_view Router.handed (by intro; rfl) r q s
  have hl : (beginCycle r s).errLog = s.errLog :=
    (beginCycle_same (F := (· == .errLog)) (Same.refl _ s) rfl rfl).same .errLog rfl
  have he : endRouter r s = modRouter r (fun n => { n with handed := [] })
      (modRouter r (fun x => { x with ready := none, gave := [], gave14 := false }) (beginCycle r s)) := by
    unfold endRouter retryHanded
    rw [router_modRouter_self, hb r]
    rfl
  refine ⟨(congrArg State.errLog he).trans hl, fun q => ?_⟩
  rw [he, router_modRouter]
  split
  · rfl
  · rw [router_modRouter]
    split <;> exact hb q

theorem forEach_endRouter_of_nothing_handed {s : State} (h : ∀ q, (router s q).handed = []) (l : List Nat) :
    (forEach l endRouter s).errLog = s.errLog := by
  induction l generalizing s with
  | nil => rfl
  | cons r l ih =>
    obtain ⟨hlog, hh⟩ := endRouter_of_nothing_handed h r
    exact (ih hh).trans hlog

/-! ## The end of the cycle at the channels -/

/-- A listed entry whose new value stays is listed with it. -/
theorem tfind_map_filter {α : Type} {f : α → α} {p : α → Bool} {t : Tbl α} {k : Nat} {a : α} (h : tfind t k = some a)
    (hp : p (f a) = true) : tfind ((t.map (fun e => (e.1, f e.2))).filter (fun e => p e.2)) k = some (f a) := by
  induction t with
  | nil => cases h
  | cons e t ih =>
    obtain ⟨j, b⟩ := e
    rw [List.map_cons, List.filter_cons]
    by_cases hj : j = k
    · obtain rfl : b = a := by simpa [tfind, hj] using h
      simp [hp, hj, tfind]
    · have ht : tfind t k = some a := by simpa [tfind, hj] using h
      split
      · rw [tfind, if_neg hj]
        exact ih ht
      · exact ih ht

theorem tfind_eq_none {α : Type} {t : Tbl α} {k : Nat} (h : k ∉ t.map (·.1)) : tfind t k = none := by
  induction t with
  | nil => rfl
  | cons e t ih =>
    rw [List.map_cons, List.mem_cons, not_or] at h
    rw [tfind, if_neg (Ne.symm h.1), ih h.2]

/-- A channel whose link does not train ends the cycle free for the next. -/
theorem chan_endChans {s : State} {c : Nat} (h : (chan s c).st ≠ .train) : chan (endChans s) c = endChan (chan s c) := by
  cases hf : tfind s.chans c with
  | none =>
    refine absurd ?_ h
    unfold chan tget
    rw [hf]
    rfl
  | some x =>
    have hx : chan s c = x := by
      unfold chan tget
      rw [hf]
      rfl
    have hne : (endChan x != {}) = true := bne_iff_ne.mpr fun he => h (hx ▸ congrArg Chan.st he)
    have hl := tfind_map_filter (f := endChan) (p := (· != {})) hf hne
    rw [hx]
    exact congrArg (Option.getD · {}) hl

/-- A channel whose link does not train is listed. -/
theorem mem_chans_of_st {s : State} {c : Nat} (h : (chan s c).st ≠ .train) : c ∈ s.chans.map (·.1) := by
  by_contra hn
  refine h ?_
  unfold chan tget
  rw [tfind_eq_none hn]
  rfl

/-! ## The writes that followed an admission test (R185) -/

/-- A read of a flow-queue window advances its selector alone. -/
theorem readEffect_fqw_same {h : Nat} (hh : h < 16) {F : Part → Bool} {s0 s : State} (hs : Same F s0 s)
    (qregs : F .regs = false) : Same F s0 (readEffect (pgFqw h) 0xd0 s) := by
  have hk : kindOf (pgFqw h) = some .fqw := by
    have h0 : ¬ 0x200 + h < 0x40 ∧ ¬ 0x200 + h < 0x80 ∧ ¬ 0x200 + h < 0x100 ∧ ¬ 0x200 + h < 0x200
        ∧ 0x200 + h < 0x210 := by omega
    simp [kindOf, pgFqw, h0]
  unfold readEffect
  rw [hk]
  exact onlyIf_same hs fun t ht => fset_same ht qregs

section Late
variable {F : Part → Bool} (qregs : F .regs = false) (qstaged : F .staged = false) (qstagedNow : F .stagedNow = false)
  (qnis : F .nis = false) (qrefillAt : F .refillAt = false)
include qregs qstaged qstagedNow qnis qrefillAt

theorem writeFqw_host_same {h : Nat} (hh : h < 16) (off : Nat) (v : Word) {s0 s : State} (hs : Same F s0 s) :
    Same F s0 (writeFqw h off v s) := by
  unfold writeFqw
  extract_lets ho
  split
  · exact nextOr_same (execClsW1_same hs qregs qstaged qstagedNow) hs
  · exact beforeTest_same hs qregs qnis qrefillAt fun t ht => plainWrite_same ht qregs qstaged qstagedNow
  · exact nextOr_same (execFqRate_same hs qregs qnis qrefillAt) hs
  · exact nextOr_same (execFqDepth_same hs qregs qnis qrefillAt) hs
  · exact nextOr_same (execFqQuota_same hs qregs qnis qrefillAt) hs
  · exact writeFqCmd_same hs qregs qnis qrefillAt
  · exact readEffect_fqw_same hh hs qregs
  · exact plainWrite_same hs qregs qstaged qstagedNow

/-- A host's late writes reach its page, its NI and its shapers alone. -/
theorem writeLate_host_same {h : Nat} (hh : h < 16) {s0 s : State} (hs : Same F s0 s) : Same F s0 (writeLate h s) := by
  unfold writeLate
  extract_lets w sel l u
  exact fset_same (forEach_same (modNi_same hs qnis)
    fun e t ht => writeFqw_host_same qregs qstaged qstagedNow qnis qrefillAt hh _ _ (fset_same ht qregs)) qregs

end Late

/-! ## The cycle in its order -/

/-- The routers' part of the cycle. -/
def routersEnded (s : State) : State := forEach (activeRouters s) endRouter s

/-- The routers' part changes receive buffers alone of the channels. -/
theorem chan_routersEnded_view {β : Type} (g : Chan → β) (hg : ∀ x v, g { x with vcs := v } = g x) (c : Nat) (s : State) :
    g (chan (routersEnded s) c) = g (chan s c) :=
  forEach_frame (fun t => g (chan t c)) fun r t => chan_endRouter_view g hg r c t

/-- The routers' part and the channels'. -/
def linksEnded (s : State) : State :=
  endChans (forEach ((routersEnded s).chans.map (·.1)) sendIdle (routersEnded s))

/-- The NIs' part and the check plane's after it. -/
def nisEnded (s : State) : State :=
  let u := forEach ((linksEnded s).nis.map (·.1)) endNi (linksEnded s)
  forEach (u.nis.map (·.1)) wakeDemanded (countQueued u)

/-- The cycle up to the time that passes: routers, channels, NIs, the check plane and the test strips. -/
def unitsEnded (s : State) : State :=
  match (nisEnded s).strip.prepared with
  | some p => raiseHold p (nisEnded s)
  | none => nisEnded s

/-- The last part of the cycle: the late writes of the hosts, and the commits of the cycle. -/
def writesEnded (s : State) : State := endCommits (forEach (lateHosts s) writeLate s)

theorem idleCycle_of_live {s : State} (h : s.strip.deadUntilReset = false) :
    idleCycle s = writesEnded (readyUnsigned (slRetry (smxCycle (passTime (cycleSpan s) (unitsEnded s))))) := by
  unfold idleCycle
  rw [h]
  rfl

theorem smxCycle_of_nothing_waiting {s : State} (h : s.smx.waiting = []) : smxCycle s = s := by
  simp [smxCycle, h]

theorem slRetry_of_nothing_waiting {s : State} (h : s.lc.slWait = none) : slRetry s = s := by
  simp [slRetry, h]

/-- Every part of the state but those listed. -/
def allBut (l : List Part) (p : Part) : Bool := !l.contains p

theorem Same.mono {F G : Part → Bool} {s t : State} (h : Same G s t) (hFG : ∀ p, F p = true → G p = true) : Same F s t :=
  ⟨fun p hp => h.same p (hFG p hp)⟩

/-- A longer list leaves less. -/
theorem Same.more {l m : List Part} {s t : State} (h : Same (allBut l) s t) (hl : l ⊆ m) : Same (allBut m) s t :=
  h.mono fun p hp => by
    have hp' : (!m.contains p) = true := hp
    show (!l.contains p) = true
    simp only [List.contains_eq_mem, Bool.not_eq_true', decide_eq_false_iff_not] at hp' ⊢
    exact fun hm => hp' (hl hm)

theorem forEach_mem_same {α : Type} {F : Part → Bool} {s0 : State} {l : List α} {f : α → State → State}
    (hf : ∀ a ∈ l, ∀ t, Same F s0 t → Same F s0 (f a t)) {s : State} (h : Same F s0 s) : Same F s0 (forEach l f s) := by
  induction l generalizing s with
  | nil => exact h
  | cons a l ih => exact ih (fun b hb => hf b (List.mem_cons_of_mem _ hb)) (hf a List.mem_cons_self s h)

section Frames
variable (s : State)

theorem routersEnded_same : Same (allBut [.regs, .chans, .routers, .errLog]) s (routersEnded s) :=
  forEach_same (Same.refl _ s) fun _ _ h => endRouter_same h rfl rfl rfl rfl

theorem linksEnded_same : Same (allBut [.regs, .chans, .routers, .errLog]) s (linksEnded s) :=
  endChans_same (forEach_same (routersEnded_same s) fun _ _ h => sendIdle_same h rfl) rfl

theorem nisEnded_same : Same (allBut [.regs, .nis]) (linksEnded s) (nisEnded s) :=
  forEach_same (countQueued_same (forEach_same (Same.refl _ _) fun _ _ h => endNi_same h rfl rfl) rfl)
    fun _ _ h => wakeDemanded_same h rfl rfl

/-- The channels stay as their own part of the cycle leaves them. -/
theorem unitsEnded_same_links : Same (allBut [.regs, .nis]) (linksEnded s) (unitsEnded s) := by
  show Same _ _ (match (nisEnded s).strip.prepared with | some p => raiseHold p (nisEnded s) | none => nisEnded s)
  cases (nisEnded s).strip.prepared with
  | none => exact nisEnded_same s
  | some p => exact raiseHold_same (nisEnded_same s) rfl

theorem unitsEnded_same : Same (allBut [.regs, .nis, .chans, .routers, .errLog]) s (unitsEnded s) :=
  ((linksEnded_same s).more (by simp)).trans ((unitsEnded_same_links s).more (by simp))

/-- The hosts' late writes. -/
theorem lateWrites_same : Same (allBut [.regs, .staged, .stagedNow, .nis, .refillAt]) s
    (forEach (lateHosts s) writeLate s) :=
  forEach_mem_same (fun _ hh _ ht => writeLate_host_same rfl rfl rfl rfl rfl
    (List.mem_range.mp (List.mem_of_mem_filter hh)) ht) (Same.refl _ s)

theorem writesEnded_same :
    Same (allBut [.regs, .staged, .stagedNow, .nis, .time, .refillAt]) s (writesEnded s) :=
  endCommits_same ((lateWrites_same s).more (by simp)) rfl rfl rfl

/-- The late writes and the end of the commits leave what slewing still withholds. -/
theorem writesEnded_skip : (writesEnded s).time.skip = s.time.skip := by
  have hc : ∀ u, (endCommits u).time.skip = u.time.skip := by
    intro u
    show (forEach _ _ _ : State).time.skip = _
    exact forEach_frame (fun t : State => t.time.skip) fun _ _ => rfl
  exact (hc _).trans (congrArg TimeUnit.skip ((lateWrites_same s).same .time rfl))

/-- The accounts of the ledger's unsigned records. -/
theorem readyUnsigned_ledger : (readyUnsigned s).ledger
    = { s.ledger with queue := s.ledger.queue.map (fun r => if r.toSign then r else { r with readable := true }) } := by
  unfold readyUnsigned
  split
  case isTrue => rfl
  case isFalse h =>
    have hq : s.ledger.queue.map (fun r => if r.toSign then r else { r with readable := true }) = s.ledger.queue := by
      refine (List.map_congr_left fun r hr => ?_).trans (List.map_id _)
      have hr' := List.any_eq_false.mp (Bool.eq_false_of_not_eq_true h) r hr
      cases hs : r.toSign
      · have hread : r.readable = true := by simpa [hs] using hr'
        cases r
        simp_all
      · rfl
    rw [hq]

end Frames

/-! ## A step on an empty queue -/

/-- The steps of the matrix and of the commits leave the cycle's number and the µs count. -/
theorem afterTime_same (u : State) : Same (fun p => p == .cyc || p == .us) u
    (writesEnded (readyUnsigned (slRetry (smxCycle u)))) := by
  refine Same.trans ?_ ((writesEnded_same _).mono fun p => by cases p <;> decide)
  refine readyUnsigned_same (slRetry_same ?_ rfl rfl rfl rfl rfl rfl rfl rfl rfl) rfl rfl
  apply smxCycle_same (Same.refl _ u) <;> rfl

theorem idleCycle_cyc_us {s : State} (h : s.strip.deadUntilReset = false) :
    (idleCycle s).cyc = s.cyc + 1 ∧ (idleCycle s).us = s.us := by
  rw [idleCycle_of_live h]
  have ha := afterTime_same (passTime (cycleSpan s) (unitsEnded s))
  have hu := unitsEnded_same s
  exact ⟨(ha.same .cyc rfl).trans (congrArg (· + 1) (hu.same .cyc rfl)), (ha.same .us rfl).trans (hu.same .us rfl)⟩

theorem step_of_empty {s : State} (h : s.pending = []) : step s = .next (idleCycle s) := by
  unfold step
  rw [h]

theorem pending_idleCycle {s : State} (h : s.pending = []) : (idleCycle s).pending = [] :=
  (idleCycle_keeps (Keeps.refl s)).1.trans h

section Idle
variable {s : State} (hlive : s.strip.deadUntilReset = false) (hsmx : s.smx.waiting = []) (hsl : s.lc.slWait = none)
include hlive hsmx hsl

/-- With no access waiting, the matrix and port 18 do nothing in the cycle. -/
theorem idleCycle_of_idle : idleCycle s = writesEnded (readyUnsigned (passTime (cycleSpan s) (unitsEnded s))) := by
  have hu := unitsEnded_same s
  have hx : (passTime (cycleSpan s) (unitsEnded s)).smx = s.smx := hu.same .smx rfl
  have hl : (passTime (cycleSpan s) (unitsEnded s)).lc = s.lc := hu.same .lc rfl
  rw [idleCycle_of_live hlive, smxCycle_of_nothing_waiting (hx ▸ hsmx), slRetry_of_nothing_waiting (hl ▸ hsl)]

/-- The part of an idle cycle that follows the passing of time. -/
theorem idleCycle_same_passTime : Same (allBut [.regs, .staged, .stagedNow, .nis, .time, .refillAt, .ledger])
    (passTime (cycleSpan s) (unitsEnded s)) (idleCycle s) := by
  rw [idleCycle_of_idle hlive hsmx hsl]
  exact (readyUnsigned_same (Same.refl _ _) rfl rfl).trans ((writesEnded_same _).more (by simp))

theorem idleCycle_same_units : Same (allBut [.regs, .staged, .stagedNow, .nis, .time, .refillAt, .ledger, .cyc, .ticks,
    .sixths, .mtime]) (unitsEnded s) (idleCycle s) :=
  (passTime_same (Same.refl _ _) rfl rfl rfl rfl rfl).trans
    ((idleCycle_same_passTime hlive hsmx hsl).more (by simp))

theorem idleCycle_same_start : Same (allBut [.regs, .staged, .stagedNow, .nis, .chans, .routers, .errLog, .time, .refillAt,
    .ledger, .cyc, .ticks, .sixths, .mtime]) s (idleCycle s) :=
  ((unitsEnded_same s).more (by simp)).trans
    ((idleCycle_same_units hlive hsmx hsl).more (by simp))

theorem idleCycle_ledger : (idleCycle s).ledger
    = { s.ledger with queue := s.ledger.queue.map (fun r => if r.toSign then r else { r with readable := true }) } := by
  have hw : (idleCycle s).ledger = (readyUnsigned (passTime (cycleSpan s) (unitsEnded s))).ledger := by
    rw [idleCycle_of_idle hlive hsmx hsl]
    exact (writesEnded_same _).same .ledger rfl
  have hl : (passTime (cycleSpan s) (unitsEnded s)).ledger = s.ledger := (unitsEnded_same s).same .ledger rfl
  rw [hw, readyUnsigned_ledger, hl]

theorem idleCycle_errLog (hh : ∀ r, (router s r).handed = []) : (idleCycle s).errLog = s.errLog := by
  have hl : (linksEnded s).errLog = (routersEnded s).errLog :=
    (endChans_same (F := (· == .errLog)) (forEach_same (Same.refl _ _) fun _ _ h => sendIdle_same h rfl) rfl).same .errLog rfl
  calc (idleCycle s).errLog
    _ = (unitsEnded s).errLog := (idleCycle_same_units hlive hsmx hsl).same .errLog rfl
    _ = (linksEnded s).errLog := (unitsEnded_same_links s).same .errLog rfl
    _ = (routersEnded s).errLog := hl
    _ = s.errLog := forEach_endRouter_of_nothing_handed hh _

/-- MTIME advances by the whole ticks of the cycle, less those that slewing still withholds. -/
theorem idleCycle_time {x n k : Nat} (hx : x = s.sixths + cycleSpan s) (hn : n = x / (6 * rateUnit))
    (hk : k = min s.time.skip n) :
    (idleCycle s).mtime = s.mtime + BitVec.ofNat 64 (n - k) ∧ (idleCycle s).ticks = s.ticks + n
      ∧ (idleCycle s).sixths = x % (6 * rateUnit) ∧ (idleCycle s).time.skip = s.time.skip - k := by
  have hu := unitsEnded_same s
  have hmt : (unitsEnded s).mtime = s.mtime := hu.same .mtime rfl
  have hti : (unitsEnded s).ticks = s.ticks := hu.same .ticks rfl
  have hsi : (unitsEnded s).sixths = s.sixths := hu.same .sixths rfl
  have htu : (unitsEnded s).time = s.time := hu.same .time rfl
  have hp := idleCycle_same_passTime hlive hsmx hsl
  have hskip : (idleCycle s).time.skip = (passTime (cycleSpan s) (unitsEnded s)).time.skip := by
    rw [idleCycle_of_idle hlive hsmx hsl, writesEnded_skip,
      show (readyUnsigned (passTime (cycleSpan s) (unitsEnded s))).time = _ from
        (readyUnsigned_same (F := (· == .time)) (Same.refl _ _) rfl rfl).same .time rfl]
  rw [show (idleCycle s).mtime = _ from hp.same .mtime rfl, show (idleCycle s).ticks = _ from hp.same .ticks rfl,
    show (idleCycle s).sixths = _ from hp.same .sixths rfl, hskip]
  simp only [passTime, hmt, hti, hsi, htu, hx, hn, hk, and_self]

/-- A channel that does not train ends the cycle as the sends leave it. -/
theorem chan_idleCycle {c : Nat} (h : (chan s c).st ≠ .train) : chan (idleCycle s) c
    = endChan (chan (forEach ((routersEnded s).chans.map (·.1)) sendIdle (routersEnded s)) c) := by
  have hc : (idleCycle s).chans = (linksEnded s).chans :=
    ((idleCycle_same_units hlive hsmx hsl).same .chans rfl).trans ((unitsEnded_same_links s).same .chans rfl)
  have hst : (chan (forEach ((routersEnded s).chans.map (·.1)) sendIdle (routersEnded s)) c).st = (chan s c).st :=
    (congrArg (·.1) (forEach_frame (fun t => (chan t c).report) fun d t => sendIdle_report d t c)).trans
      (chan_routersEnded_view Chan.st (fun _ _ => rfl) c s)
  refine Eq.trans ?_ (chan_endChans (hst ▸ h))
  unfold chan
  rw [hc]
  rfl

end Idle

section Routers
variable (s : State) (c : Nat)

theorem carries_routersEnded : carries (routersEnded s) c = carries s c :=
  carries_congr (forEach_frame fstate fstate_endRouter) ((routersEnded_same s).same .power rfl)
    fun d => chan_routersEnded_view Chan.report (fun _ _ => rfl) d s

variable {s c}

theorem quietIdle_routersEnded (h : QuietIdle s c) : QuietIdle (routersEnded s) c :=
  h.imp (chan_routersEnded_view Chan.sent (fun _ _ => rfl) c s).trans (.imp (carries_routersEnded s c).trans
    fun ⟨ho, ha, hn⟩ => ⟨(chan_routersEnded_view Chan.owed (fun _ _ => rfl) (revChan c) s).trans ho,
      (chan_routersEnded_view Chan.ackNews (fun _ _ => rfl) (revChan c) s).trans ha,
      (chan_routersEnded_view Chan.nakOn (fun _ _ => rfl) (revChan c) s).trans hn⟩)

theorem owesAck_routersEnded (h : OwesAck s c) : OwesAck (routersEnded s) c := by
  obtain ⟨hc, hs, ho, hn⟩ := h
  have hnews := chan_routersEnded_view Chan.ackNews (fun _ _ => rfl) (revChan c) s
  have hnak := chan_routersEnded_view Chan.nakOn (fun _ _ => rfl) (revChan c) s
  exact ⟨(carries_routersEnded s c).trans hc, (chan_routersEnded_view Chan.sent (fun _ _ => rfl) c s).trans hs,
    (chan_routersEnded_view Chan.owed (fun _ _ => rfl) (revChan c) s).trans ho, by rw [hnews, hnak]; exact hn⟩

end Routers

section Channels
variable {s : State} (hlive : s.strip.deadUntilReset = false) (hsmx : s.smx.waiting = []) (hsl : s.lc.slWait = none)
include hlive hsmx hsl

/-- A channel with nothing to carry carries nothing. -/
theorem idleCycle_wire_of_quiet {c : Nat} (hst : (chan s c).st ≠ .train) (hq : QuietIdle s c) :
    (chan (idleCycle s) c).wire = (chan s c).wire := by
  rw [chan_idleCycle hlive hsmx hsl hst]
  exact (forEach_sendIdle_of_quiet (quietIdle_routersEnded hq) _).trans
    (chan_routersEnded_view Chan.wire (fun _ _ => rfl) c s)

/-- A channel carries what its receiver has to acknowledge, and the receiver has told it. -/
theorem idleCycle_of_owesAck {c : Nat} (h : OwesAck s c) :
    (chan (idleCycle s) c).wire = (chan s c).wire ++ [encodeFlit (idleFlit s c)]
      ∧ (chan (idleCycle s) (revChan c)).ackNews = false := by
  obtain ⟨hst, hrev⟩ := up_of_carries h.1
  have hmem : c ∈ (routersEnded s).chans.map (·.1) :=
    mem_chans_of_st (by rw [chan_routersEnded_view Chan.st (fun _ _ => rfl), hst]; decide)
  obtain ⟨hw, hn⟩ := forEach_sendIdle_of_owesAck (owesAck_routersEnded h) hmem
  rw [chan_routersEnded_view Chan.wire (fun _ _ => rfl),
    idleFlit_congr (chan_routersEnded_view Chan.report (fun _ _ => rfl) _ s)] at hw
  rw [chan_idleCycle hlive hsmx hsl (by rw [hst]; decide), chan_idleCycle hlive hsmx hsl (by rw [hrev]; decide)]
  exact ⟨hw, hn⟩

end Channels

theorem idleCycle_of_dead {s : State} (h : s.strip.deadUntilReset = true) : idleCycle s = deadReset s := by
  simp [idleCycle, h]

/-- Settles O4: the cycle's stages in their order, each by what it leaves; the channels by the sends of the cycle. -/
theorem idleStep : Obligations.IdleStep := by
  unfold Obligations.IdleStep
  refine fun s hp => ⟨fun hdead => ?dead, fun hlive => ?live⟩
  case dead =>
    refine ⟨_, step_of_empty hp, pending_idleCycle hp, ?_⟩
    rw [idleCycle_of_dead hdead]
    exact ⟨rfl, rfl, rfl, rfl, rfl, rfl, rfl⟩
  case live =>
    obtain ⟨hcyc, hus⟩ := idleCycle_cyc_us hlive
    refine ⟨_, step_of_empty hp, pending_idleCycle hp, hcyc, hus, fun hsmx hsl => ?stores,
      fun hsmx hsl hh => idleCycle_errLog hlive hsmx hsl hh,
      fun x n k hsmx hsl hx hn hk => idleCycle_time hlive hsmx hsl hx hn hk,
      fun c hsmx hsl hc hs ho hn => idleCycle_of_owesAck hlive hsmx hsl ⟨hc, hs, ho, hn⟩,
      fun c hsmx hsl hst hq => idleCycle_wire_of_quiet hlive hsmx hsl hst ?quiet⟩
    case quiet =>
      show _ ∨ _ ∨ _
      simpa [or_assoc] using hq
    case stores =>
      have h := idleCycle_same_start hlive hsmx hsl
      exact ⟨h.same .mem rfl, h.same .art rfl, h.same .rt rfl, h.same .rtImg rfl, h.same .fuses rfl, h.same .lc rfl,
        h.same .smx rfl, h.same .faults rfl, h.same .pins rfl, idleCycle_ledger hlive hsmx hsl⟩

end Sys2Proof.Machine

/-! PROOFS. The reception of a flit (R34 to R36, R75, R76, R293, O11): what the receiver reads off its wires, what it discards, and
what it does with a flit that passed its checks. -/

namespace Sys2Proof.Machine

/-! ## What the receiver reads (R32, R34) -/

/-- The receiver takes the flit at the front of its channel's wires. -/
def popWire (c : Nat) (s : State) : State :=
  onlyIf (!(chan s c).wire.isEmpty) (modChan c (fun x => { x with wire := x.wire.tail })) s

/-- The wires as they arrive: of the flit at the front, or of the IDLE flit, with those that `err` inverts. -/
def arriving (c : Nat) (err : WireFlit) (s : State) : WireFlit :=
  flipWires ((chan s c).wire.headD (encodeFlit (idleFlit s c))) err

/-- The flit is off the wires, and its corrected words are counted. -/
def readWires (c : Nat) (err : WireFlit) (s : State) : State :=
  satAdd (pgRouter (linkOwner c).1) Rtr.linkErrCntCorrected (correctedWords (arriving c err s)) (popWire c s) (linkOwner c).2

/-- The receiver counts a flit as uncorrectable and owes a NAK. -/
def discardBad (c : Nat) (s : State) : State :=
  refuseFlit c (satAdd (pgRouter (linkOwner c).1) Rtr.linkErrCntUncorrectable 1 s (linkOwner c).2)

section Read
variable (c : Nat) (err : WireFlit) (s : State)

theorem chan_popWire_self : chan (popWire c s) c = { chan s c with wire := (chan s c).wire.tail } := by
  unfold popWire
  cases h : (chan s c).wire with
  | nil => rw [List.isEmpty_nil, Bool.not_true, onlyIf_false, List.tail_nil, ← h]
  | cons a l => rw [List.isEmpty_cons, Bool.not_false, onlyIf_true, chan_modChan_self, h]

theorem chan_popWire_ne {d : Nat} (hd : d ≠ c) : chan (popWire c s) d = chan s d :=
  onlyIf_frame (chan · d) _ _ s ((chan_modChan s c d _).trans (if_neg hd.symm))

theorem popWire_same : Same (allBut [.chans]) s (popWire c s) :=
  onlyIf_same (Same.refl _ s) fun _ h => modChan_same h rfl

theorem chan_readWires (d : Nat) : chan (readWires c err s) d = chan (popWire c s) d := by
  rw [readWires, satAdd_eq, chan_fset]

theorem readWires_nis : (readWires c err s).nis = s.nis := by
  rw [readWires, satAdd_eq, fset_nis]
  exact (popWire_same c s).same .nis rfl

theorem regsKept_readWires : RegsKept [fkey (pgRouter (linkOwner c).1) Rtr.linkErrCntCorrected (linkOwner c).2] s
    (readWires c err s) :=
  regsKept_fset (regsKept_of_regs (regsKept_refl _ s) ((popWire_same c s).same .regs rfl)) (List.mem_singleton_self _)

end Read

/-! ## The idle count of the NI at the receiving end (R293) -/

section Stir
variable (c : Nat) (s : State)

theorem chan_stirRx (d : Nat) : chan (stirRx c s) d = chan s d := by
  unfold stirRx
  split <;> rfl

theorem stirRx_regs : (stirRx c s).regs = s.regs := by
  unfold stirRx
  split <;> rfl

theorem stirRx_nis_congr {t : State} (h : t.nis = s.nis) : (stirRx c t).nis = (stirRx c s).nis := by
  unfold stirRx
  split
  · simp only [modNi, setNi, ni, h]
  · exact h

/-- Whether the count restarts before or after the flit is discarded makes no difference. -/
theorem stirRx_discardBad : stirRx c (discardBad c s) = discardBad c (stirRx c s) := by
  unfold stirRx
  split <;> rfl

end Stir

/-! ## A discarded flit (R34, R36, R76) -/

section Discard
variable (c : Nat) (err : WireFlit) (b : Bool) (s : State)

theorem chan_arrived (d : Nat) : chan (onlyIf b (stirRx c) (readWires c err s)) d = chan (popWire c s) d :=
  (onlyIf_frame (chan · d) b _ _ (chan_stirRx c _ d)).trans (chan_readWires c err s d)

theorem arrived_regs : (onlyIf b (stirRx c) (readWires c err s)).regs = (readWires c err s).regs :=
  onlyIf_frame State.regs b _ _ (stirRx_regs c _)

/-- The counts of corrected and of uncorrectable words are two registers. -/
theorem uncorrectable_ne_corrected (page i : Nat) :
    fkey page Rtr.linkErrCntUncorrectable i ≠ fkey page Rtr.linkErrCntCorrected i := by
  simp [fkey, Rtr.linkErrCntUncorrectable, Rtr.linkErrCntCorrected]

theorem chan_discardBad_self : chan (discardBad c (onlyIf b (stirRx c) (readWires c err s))) c
    = { chan s c with wire := (chan s c).wire.tail, nakOn := true } := by
  show chan (modChan c _ _) c = _
  rw [chan_modChan_self, satAdd_eq, chan_fset, chan_arrived, chan_popWire_self]

theorem chan_discardBad_ne {d : Nat} (hd : d ≠ c) :
    chan (discardBad c (onlyIf b (stirRx c) (readWires c err s))) d = chan s d := by
  show chan (modChan c _ _) d = _
  rw [chan_modChan, if_neg hd.symm, satAdd_eq, chan_fset, chan_arrived, chan_popWire_ne c s hd]

theorem fget_discardBad : fget (discardBad c (onlyIf b (stirRx c) (readWires c err s))) (pgRouter (linkOwner c).1)
      Rtr.linkErrCntUncorrectable (linkOwner c).2
    = min (fget s (pgRouter (linkOwner c).1) Rtr.linkErrCntUncorrectable (linkOwner c).2 + 1)
        (2 ^ Rtr.linkErrCntUncorrectable.w - 1) := by
  have hread := (regsKept_readWires c err s).kept (pgRouter (linkOwner c).1) Rtr.linkErrCntUncorrectable (linkOwner c).2
    (by simpa using uncorrectable_ne_corrected _ _)
  exact (fget_satAdd_self _ _ _ 1 _).trans (by rw [fget_regs (arrived_regs c err b s), hread])

theorem regsKept_discardBad : RegsKept ([Rtr.linkErrCntUncorrectable, Rtr.linkErrCntCorrected].map
    (fkey (pgRouter (linkOwner c).1) · (linkOwner c).2)) s (discardBad c (onlyIf b (stirRx c) (readWires c err s))) := by
  rw [discardBad, refuseFlit, regsKept_modChan, satAdd_eq]
  exact regsKept_fset (regsKept_of_regs (regsKept_mono (regsKept_readWires c err s) (by simp)) (arrived_regs c err b s))
    (by simp)

end Discard

/-! ## A flit that passed its checks (R36, R75, R76) -/

theorem framingBad_congr {s t : State} {c : Nat} (h : (chan t c).vcs = (chan s c).vcs) (f : Flit) :
    framingBad t c f = framingBad s c f := by
  unfold framingBad vcBuf
  rw [h]

theorem isAhead_congr {s t : State} {c : Nat} (h : (chan t c).expSeq = (chan s c).expSeq) (f : Flit) :
    isAhead t c f = isAhead s c f := by
  unfold isAhead
  rw [h]

/-- ACK_SEQ and NAK speak to the sender of the other direction, not to what a receiver expects. -/
theorem expSeq_takeAck (c d : Nat) (f : Flit) (s : State) : (chan (takeAck c f s) d).expSeq = (chan s d).expSeq := by
  have hnak : ∀ t, (chan (modChan (revChan c) (fun x => { x with naked := true }) t) d).expSeq = (chan t d).expSeq :=
    fun t => chan_modChan_view Chan.expSeq (by exact fun _ => rfl) _ d t
  have hfree : ∀ a, (chan (ackFree (revChan c) a s) d).expSeq = (chan s d).expSeq := fun a =>
    chan_modChan_view Chan.expSeq (fun x => by dsimp only; split <;> rfl) _ d s
  unfold takeAck
  refine (onlyIf_frame (fun t => (chan t d).expSeq) f.nak _ _ (hnak _)).trans ?_
  split
  · exact hfree _
  · rfl

/-- A flit that is not sequenced is an idle one. -/
theorem takeFlit_of_not_sequenced {f : Flit} (h : isSequenced f = false) (c : Nat) (s : State) :
    takeFlit c f s = takeAck c f s := by
  have hidle : (f.body != .idle) = false := (Bool.or_eq_false_iff.mp h).1
  simp [takeFlit, h, hidle]

/-- A sequenced flit is the expected one, framed well or badly, or one ahead of it, or a duplicate. -/
theorem takeFlit_of_sequenced {f : Flit} {c : Nat} {s x : State} (h : isSequenced f = true)
    (hx : x = onlyIf (f.body != .idle) (stirRx c) s) :
    takeFlit c f s =
      if f.seq == (chan s c).expSeq then
        if framingBad s c f then discardBad c x else acceptFlit c f (takeAck c f x)
      else if isAhead s c f then refuseFlit c (takeAck c f x)
      else modChan c (fun x => { x with ackNews := true }) (takeAck c f x) := by
  have hc : chan x c = chan s c := hx ▸ onlyIf_frame (chan · c) _ _ s (chan_stirRx c s c)
  have hb : framingBad x c f = framingBad s c f := framingBad_congr (congrArg Chan.vcs hc) f
  have ha : isAhead (takeAck c f x) c f = isAhead s c f :=
    isAhead_congr ((expSeq_takeAck c c f x).trans (congrArg Chan.expSeq hc)) f
  unfold takeFlit
  rw [← hx]
  simp only [h, hc, hb, ha, Bool.true_and, Bool.not_true, Bool.false_eq_true, if_false]
  cases f.seq == (chan s c).expSeq
  · simp
  · simp [discardBad]

/-! ## The outcomes of FLIT_RECEIVE -/

section Exec
variable {ch : ChanId} {err : WireFlit} {s : State}

theorem exec_flitReceive_of_not_carries (h : carries s ch.val = false) :
    exec (.flitReceive ch err) s = .next (popWire ch.val s) := by
  show execFlitReceive ch err s = _
  simp only [execFlitReceive, h, Bool.not_false, if_true]
  rfl

/-- An uncorrectable flit is discarded, and restarts the idle count all the same. -/
theorem exec_flitReceive_of_uncorrectable (h : carries s ch.val = true) (hd : decodeFlit (arriving ch.val err s) = none) :
    exec (.flitReceive ch err) s = .next (discardBad ch.val (stirRx ch.val (readWires ch.val err s))) := by
  show execFlitReceive ch err s = _
  unfold arriving at hd
  rw [← stirRx_discardBad]
  simp only [execFlitReceive, h, hd, Bool.not_true, Bool.false_eq_true, if_false]
  rfl

theorem exec_flitReceive_of_decoded {f : Flit} (h : carries s ch.val = true)
    (hd : decodeFlit (arriving ch.val err s) = some f) :
    exec (.flitReceive ch err) s = .next (takeFlit ch.val f (readWires ch.val err s)) := by
  show execFlitReceive ch err s = _
  unfold arriving at hd
  simp only [execFlitReceive, h, hd, Bool.not_true, Bool.false_eq_true, if_false]
  rfl

/-- The receiver judges a sequenced flit by what it expected before it read the wires. -/
theorem exec_flitReceive_of_sequenced {f : Flit} {x : State} (h : carries s ch.val = true)
    (hd : decodeFlit (arriving ch.val err s) = some f) (hs : isSequenced f = true)
    (hx : x = onlyIf (f.body != .idle) (stirRx ch.val) (readWires ch.val err s)) :
    exec (.flitReceive ch err) s = .next (
      if f.seq == (chan s ch.val).expSeq then
        if framingBad s ch.val f then discardBad ch.val x else acceptFlit ch.val f (takeAck ch.val f x)
      else if isAhead s ch.val f then refuseFlit ch.val (takeAck ch.val f x)
      else modChan ch.val (fun x => { x with ackNews := true }) (takeAck ch.val f x)) := by
  have hc : chan (readWires ch.val err s) ch.val = { chan s ch.val with wire := (chan s ch.val).wire.tail } :=
    (chan_readWires ch.val err s ch.val).trans (chan_popWire_self ch.val s)
  have he : (chan (readWires ch.val err s) ch.val).expSeq = (chan s ch.val).expSeq := by rw [hc]
  have hv : (chan (readWires ch.val err s) ch.val).vcs = (chan s ch.val).vcs := by rw [hc]
  rw [exec_flitReceive_of_decoded h hd, takeFlit_of_sequenced hs hx, he, isAhead_congr he, framingBad_congr hv]

end Exec

/-- Settles O11: each outcome of FLIT_RECEIVE, the two that discard the flit by the one effect of `discardBad`. -/
theorem flitReceived : Obligations.FlitReceived := by
  unfold Obligations.FlitReceived
  rintro ch err w rest s u v rfl rfl rfl rfl
  refine ⟨exec_flitReceive_of_not_carries, fun hc hd => ?uncorrectable, fun f hc hd hs => ?idle,
    fun f x hc hd hs hx hn => ⟨fun hb => ?accepted, fun hb => ?misframed⟩,
    fun f x hc hd hs hx hn => ⟨fun ha => ?ahead, fun ha => ?duplicate⟩⟩
  case uncorrectable =>
    exact ⟨_, exec_flitReceive_of_uncorrectable hc hd, chan_discardBad_self ch.val err true s,
      fget_discardBad ch.val err true s, stirRx_nis_congr ch.val s (readWires_nis ch.val err s),
      fun c h => chan_discardBad_ne ch.val err true s h, regsKept_discardBad ch.val err true s⟩
  case idle => exact (exec_flitReceive_of_decoded hc hd).trans (congrArg _ (takeFlit_of_not_sequenced hs _ _))
  case accepted => rw [exec_flitReceive_of_sequenced hc hd hs hx, if_pos hn, if_neg (by simp [hb])]
  case misframed =>
    refine ⟨discardBad ch.val x, ?_, ?_⟩
    · rw [exec_flitReceive_of_sequenced hc hd hs hx, if_pos hn, if_pos hb]
    · subst hx
      exact ⟨chan_discardBad_self ch.val err _ s, fget_discardBad ch.val err _ s, rfl,
        fun c h => chan_discardBad_ne ch.val err _ s h⟩
  case ahead =>
    rw [exec_flitReceive_of_sequenced hc hd hs hx, if_neg (by simp [hn]), if_pos ha]
    rfl
  case duplicate => rw [exec_flitReceive_of_sequenced hc hd hs hx, if_neg (by simp [hn]), if_neg (by simp [ha])]

end Sys2Proof.Machine

/-! PROOFS. Frames of the timebase (R130 to R138, R141, O27, O28): their cells and their CRC, ACQUIRE, and what a frame does to the
Time Unit. -/

namespace Sys2Proof.Machine

/-! ## Fields of one page -/

section Fields
variable {page v i j : Nat} {f g : Fld} (h : f.off / 8 * 64 + f.lo ≠ g.off / 8 * 64 + g.lo) (hi : i < 4096) (hj : j < 4096)
  (s : State)

theorem fbit_flag_self (hw : f.w = 1) : fbit (flag page f s i) page f i = true := fbit_fset_self hw true s

include h hi hj

theorem fbit_fset_field : fbit (fset page f v s i) page g j = fbit s page g j := fbit_of_fget (fget_fset_field s h hi hj)

end Fields

/-! ## The frame CRC (R133) -/

theorem crc16_append (x y : List Bool) (c : Nat) : crc16 (x ++ y) c = crc16 y (crc16 x c) := by
  induction x generalizing c with
  | nil => rfl
  | cons b x ih => exact ih _

theorem crc16_singleton (b : Bool) (c : Nat) :
    crc16 [b] c = if (c.testBit 15 != b) = true then (2 * c % 65536) ^^^ 0x1021 else 2 * c % 65536 := by
  have htop : (c / 2 ^ 15 % 2 == 1) = c.testBit 15 := by
    rw [Nat.testBit_eq_decide_div_mod_eq]
    rfl
  show (if _ then _ else _) = _
  rw [htop, Nat.mul_comm c]
  rfl

set_option maxRecDepth 4000 in
/-- The CRC of "123456789" (R133): 72 steps of `crc16`, deeper than the default recursion depth. -/
theorem crc16_digits : crc16 (([0x31, 0x32, 0x33, 0x34, 0x35, 0x36, 0x37, 0x38, 0x39] : List Nat).flatMap
      (fun c => (List.range 8).map (fun i => c.testBit (7 - i)))) 0xFFFF = 0x29B1 := by
  decide

/-! ## The cells of a frame (R130, R131) -/

/-- The bits of a frame stand most significant bit first: eight of FLAGS, then EDGE_TIME. -/
theorem getElem?_frameBits_flags (f : TbFrame) {i : Nat} (hi : i < 8) : (frameBits f)[i]? = some (f.flags.getLsbD (7 - i)) := by
  unfold frameBits
  rw [List.getElem?_append_left (by simpa using hi)]
  simp [hi]

theorem getElem?_frameBits_edge (f : TbFrame) {i : Nat} (hi : i < 64) :
    (frameBits f)[8 + i]? = some (f.edge.getLsbD (63 - i)) := by
  unfold frameBits
  rw [List.getElem?_append_right (by simp)]
  simp [hi]

/-- A field that is read most significant bit first has the bits of its cells. -/
theorem testBit_cellsField (cells : BitVec 200) (a : Nat) {n i : Nat} (hi : i < n) :
    (cellsField cells a n).testBit (n - 1 - i) = cells.getLsbD (2 * (a + i) + 1) := by
  unfold cellsField
  induction n with
  | zero => omega
  | succ n ih =>
    rw [List.range_succ, List.foldl_append, List.foldl_cons, List.foldl_nil, ← Nat.bit_val]
    obtain rfl | h : i = n ∨ i < n := by omega
    · rw [show i + 1 - 1 - i = 0 by omega, Nat.testBit_bit_zero]; rfl
    · rw [show n + 1 - 1 - i = n - 1 - i + 1 by omega, Nat.testBit_bit_succ, ih h]

theorem getLsbD_ofNat_cellsField (cells : BitVec 200) (a : Nat) {n i : Nat} (hi : i < n) :
    (BitVec.ofNat n (cellsField cells a n)).getLsbD (n - 1 - i) = cells.getLsbD (2 * (a + i) + 1) := by
  rw [BitVec.getLsbD_ofNat, testBit_cellsField cells a hi, decide_eq_true (by omega : n - 1 - i < n), Bool.true_and]

theorem decodeFrame_sync (cells : BitVec 200) :
    (decodeFrame cells).sync = true ↔ ∀ i, i < 8 → cells.getLsbD i = decide (i < 4) := by
  simp only [decodeFrame, halfCell, List.all_eq_true, List.mem_range, beq_iff_eq]

theorem decodeFrame_clean (cells : BitVec 200) : (decodeFrame cells).clean = true ↔
    ∀ i, i < 96 → cells.getLsbD (2 * (4 + i)) = !cells.getLsbD (2 * (4 + i) + 1) := by
  simp only [decodeFrame, halfCell, List.all_eq_true, List.mem_range, bne_iff_ne, Nat.add_comm 4, Bool.eq_not]

/-! ## Frames (R134, R138, R141) -/

/-- What a good frame leaves of itself: the Time Unit's record, FLAGS_LAST, LAST_FRAME and UPSTREAM_HOLDOVER. -/
def noteGood (f : TbFrame) (s : State) : State :=
  onlyIf (f.flags.getLsbD 2) (flag pgTime Tu.timeEvtUpstreamHoldover)
    (fset pgTime Tu.timeStatFlagsLast f.flags.toNat (fset pgTime Tu.lastFrameEdgeTime f.edge.toNat
      (modTime (fun t => { t with lastGood := some f.edge, periods := 0, badRun := 0 }) s)))

/-- The keys of the registers that a good frame writes. -/
def frameKeys : List Nat := [Tu.timeStatFlagsLast, Tu.lastFrameEdgeTime, Tu.timeEvtUpstreamHoldover].map (fkey pgTime · 0)

theorem regsKept_noteGood (f : TbFrame) (s : State) : RegsKept frameKeys s (noteGood f s) := by
  unfold noteGood
  refine regsKept_onlyIf (regsKept_fset (regsKept_fset ?_ ?_) ?_) fun t h => regsKept_fset h ?_
  · exact (regsKept_modTime _ s s _).mpr (regsKept_refl _ s)
  all_goals simp [frameKeys]

theorem noteGood_time (f : TbFrame) (s : State) :
    (noteGood f s).time = { s.time with lastGood := some f.edge, periods := 0, badRun := 0 } :=
  onlyIf_frame State.time _ _ _ rfl

theorem noteGood_mtime (f : TbFrame) (s : State) : (noteGood f s).mtime = s.mtime := onlyIf_frame State.mtime _ _ _ rfl

theorem timeState_of_kept {ks : List Nat} {s t : State} (h : RegsKept ks s t) (hk : fkey pgTime Tu.timeStatState 0 ∉ ks) :
    timeState t = timeState s := h.kept _ _ _ hk

theorem timeState_noteGood (f : TbFrame) (s : State) : timeState (noteGood f s) = timeState s :=
  timeState_of_kept (regsKept_noteGood f s) (by decide)

/-- The edge that a frame announces is more than a tick from where MTIME stands (R138). -/
def offEdge (f : TbFrame) (s : State) : Bool :=
  let d : Int := (f.edge.toNat : Int) + s.time.delayNow - (s.mtime.toNat : Int) - s.time.offset
  d < -1 || 1 < d

section Frame
variable {f : TbFrame} {s : State}

theorem takeFrame_of_bad {cnt : Fld} (h : judgeFrame s f = some cnt) : takeFrame f s =
    modTime (fun t => { t with periods := t.periods + 1, badRun := t.badRun + 1, goodRun := 0, alignAt := none })
      (satAdd pgTime cnt 1 s) := by
  unfold takeFrame
  rw [h]

/-- A bad frame counts in its counter and ends the run of good ones. -/
theorem takeFrame_bad_effect {cnt : Fld} (h : judgeFrame s f = some cnt) :
    fget (takeFrame f s) pgTime cnt = min (fget s pgTime cnt + 1) (2 ^ cnt.w - 1)
      ∧ (takeFrame f s).time.badRun = s.time.badRun + 1 ∧ (takeFrame f s).time.goodRun = 0
      ∧ (takeFrame f s).mtime = s.mtime ∧ RegsKept [fkey pgTime cnt 0] s (takeFrame f s) := by
  rw [takeFrame_of_bad h]
  refine ⟨fget_satAdd_self s .., rfl, rfl, rfl, ?_⟩
  rw [regsKept_modTime, satAdd_eq]
  exact regsKept_fset (regsKept_refl _ s) (List.mem_singleton_self _)

/-- A good frame in ACQUIRE lengthens the run, which a frame with STEP starts anew. -/
theorem takeFrame_of_acquire (h : judgeFrame s f = none) (ha : timeState s = tsAcquire) : takeFrame f s =
    modTime (fun t => { t with goodRun := if f.flags.getLsbD 1 then 1 else t.goodRun + 1, alignAt := some f.edge })
      (noteGood f s) := by
  unfold takeFrame
  rw [h]
  exact if_pos ((timeState_noteGood f s).trans ha)

/-- A good frame in SLEW or LOCKED announces a step, or is compared with MTIME; in the other states it is noted only. -/
theorem takeFrame_of_not_acquire (h : judgeFrame s f = none) (ha : timeState s ≠ tsAcquire) : takeFrame f s =
    if inSlewLocked s then
      if f.flags.getLsbD 1 then modTime (fun t => { t with stepAt := some f.edge }) (noteGood f s)
      else onlyIf (offEdge f (noteGood f s)) (satAdd pgTime Tu.tbCountersMismatch 1) (noteGood f s)
    else noteGood f s := by
  have hst := timeState_noteGood f s
  have hin : inSlewLocked (noteGood f s) = inSlewLocked s := by unfold inSlewLocked; rw [hst]
  unfold takeFrame
  rw [h]
  refine (if_neg (hst ▸ ha)).trans ?_
  show (if (!inSlewLocked (noteGood f s)) = true then _ else _) = _
  rw [hin]
  cases inSlewLocked s <;> rfl

theorem exec_tbFrame {cells : BitVec 200} (hsw : srcSoftware s = false) (hp : s.pins.tbRef = true) :
    exec (.tbFrame cells) s = .next (takeFrame (decodeFrame cells) s) := by
  show execTbFrame cells s = _
  simp [execTbFrame, hsw, hp]

variable (hs : f.sync = true) (hc : f.clean = true)
include hs hc

theorem judgeFrame_of_crc_ne (h : crc16 (frameBits f) 0xFFFF ≠ f.crc.toNat) : judgeFrame s f = some Tu.tbCountersCrc := by
  simp [judgeFrame, hs, hc, h]

/-- A frame whose CRC matches is bad for its version or its EDGE_TIME alone. -/
theorem judgeFrame_of_crc_eq (h : crc16 (frameBits f) 0xFFFF = f.crc.toNat) {cnt : Fld} (hj : judgeFrame s f = some cnt) :
    cnt ∈ [Tu.tbCountersVersion, Tu.tbCountersMismatch] := by
  simp only [judgeFrame, hs, hc, h, Bool.not_true, Bool.or_false, Bool.false_eq_true, if_false, ne_eq, not_true] at hj
  simp only [List.mem_cons, List.not_mem_nil, or_false]
  split at hj
  · exact .inl (Option.some.inj hj).symm
  · refine .inr ?_
    split_ifs at hj
    · split at hj
      · split_ifs at hj
        exact (Option.some.inj hj).symm
      · cases hj
    · exact (Option.some.inj hj).symm

/-- A frame whose CRC matches leaves TB_COUNTERS.CRC. -/
theorem fget_crc_takeFrame (h : crc16 (frameBits f) 0xFFFF = f.crc.toNat) :
    fget (takeFrame f s) pgTime Tu.tbCountersCrc = fget s pgTime Tu.tbCountersCrc := by
  have hnote := (regsKept_noteGood f s).kept pgTime Tu.tbCountersCrc 0 (by decide)
  have hcount : ∀ cnt ∈ [Tu.tbCountersVersion, Tu.tbCountersMismatch], ∀ u,
      fget (satAdd pgTime cnt 1 u) pgTime Tu.tbCountersCrc = fget u pgTime Tu.tbCountersCrc := by
    simp only [List.forall_mem_cons, List.not_mem_nil, false_imp_iff, implies_true, and_true, satAdd_eq]
    exact ⟨fun u => fget_fset_field u (by decide) (by decide) (by decide),
      fun u => fget_fset_field u (by decide) (by decide) (by decide)⟩
  cases hj : judgeFrame s f with
  | some cnt => rw [takeFrame_of_bad hj]; exact hcount cnt (judgeFrame_of_crc_eq hs hc h hj) s
  | none =>
    by_cases ha : timeState s = tsAcquire
    · rw [takeFrame_of_acquire hj ha]; exact hnote
    · rw [takeFrame_of_not_acquire hj ha]
      split_ifs
      · exact hnote
      · exact (onlyIf_frame (fget · pgTime Tu.tbCountersCrc) _ _ _ (hcount _ (by simp) _)).trans hnote
      · exact hnote

end Frame

/-- Settles O27: the CRC by its recursion, the fields of the cells by the fold that reads them, and the count by the cause that
makes a frame bad. -/
theorem timebaseCrc : Obligations.TimebaseCrc := by
  unfold Obligations.TimebaseCrc
  refine ⟨crc16_digits, fun b c _ => crc16_singleton b c, crc16_append,
    fun f => ⟨by simp [frameBits], fun i hi => getElem?_frameBits_flags f hi, fun i hi => getElem?_frameBits_edge f hi⟩,
    ?_, ?_⟩
  · rintro cells f rfl
    exact ⟨fun i hi => getLsbD_ofNat_cellsField cells 4 hi, fun i hi => getLsbD_ofNat_cellsField cells 12 hi,
      fun i hi => getLsbD_ofNat_cellsField cells 76 hi, decodeFrame_sync cells, decodeFrame_clean cells⟩
  · rintro cells f s rfl hsw hp hs hc
    refine ⟨fun h => ⟨_, exec_tbFrame hsw hp, ?_⟩, fun h => ⟨_, exec_tbFrame hsw hp, fget_crc_takeFrame hs hc h⟩⟩
    obtain ⟨hcnt, -, -, hm, hk⟩ := takeFrame_bad_effect (judgeFrame_of_crc_ne (s := s) hs hc h)
    exact ⟨hcnt, hm, hk⟩

/-! ## ACQUIRE (R137) -/

section Acquire
variable (s : State)

theorem refPresent_regs : (refPresent s).regs = s.regs := by
  unfold refPresent
  split <;> rfl

theorem refPresent_mtime : (refPresent s).mtime = s.mtime := by
  unfold refPresent
  split <;> rfl

theorem refPresent_goodRun : (refPresent s).time.goodRun = s.time.goodRun := by
  unfold refPresent
  split <;> rfl

theorem refPresent_tbRef : (refPresent s).pins.tbRef = true := by
  unfold refPresent
  split
  case isTrue h => exact h
  case isFalse => rfl

/-- ACQUIRE is entered: from FREERUN or HOLDOVER, with the timebase as source and the page not quiesced. -/
def entersAcquire : Bool :=
  (timeState s == tsFreerun || timeState s == tsHoldover) && !srcSoftware s && !timeQuiesced s

/-- The entry to ACQUIRE: the runs of frames start anew. -/
def enterAcquire (lockUs : Nat) : State :=
  fset pgTime Tu.timeStatState tsAcquire (modTime (fun t => { t with
    origin := timeState s, acqUs := s.us, acqLock := lockUs, goodRun := 0, badRun := 0, alignAt := none }) s)

theorem timeState_refPresent : timeState (refPresent s) = timeState s := fget_regs (refPresent_regs s) _ _ _

theorem entersAcquire_refPresent : entersAcquire (refPresent s) = entersAcquire s := by
  unfold entersAcquire timeState srcSoftware timeQuiesced fbit
  simp only [fget_regs (refPresent_regs s)]

theorem exec_acquire (lockUs : Nat) : exec (.acquire lockUs) s =
    .next (if entersAcquire s then enterAcquire (refPresent s) lockUs else refPresent s) := by
  rw [← entersAcquire_refPresent]
  show (if entersAcquire (refPresent s) = true then Host.Outcome.next _ else .next _) = _
  split <;> rfl

end Acquire

/-- Settles O28: ACQUIRE by its guard, and a frame by how it is judged. -/
theorem acquiring : Obligations.Acquiring := by
  unfold Obligations.Acquiring
  intro s
  refine ⟨fun hst hsw hq lockUs => ⟨_, exec_acquire s lockUs, ?enters⟩,
    fun h lockUs => ⟨_, exec_acquire s lockUs, ?stays⟩, ?bad, ?good, ?step⟩
  case enters =>
    have he : entersAcquire s = true := by simp only [entersAcquire, hst, hsw, hq]; rfl
    rw [if_pos he]
    exact ⟨fget_fset_self .., refPresent_tbRef s, timeState_refPresent s, rfl, rfl,
      regsKept_fset (regsKept_of_regs (regsKept_refl _ s) (refPresent_regs s)) (List.mem_singleton_self _)⟩
  case stays =>
    have he : ¬ entersAcquire s = true := by
      rcases h with ⟨hf, hh⟩ | hsw | hq
      · simp [entersAcquire, hf, hh]
      · simp [entersAcquire, hsw]
      · simp [entersAcquire, hq]
    rw [if_neg he]
    exact ⟨refPresent_tbRef s, timeState_refPresent s, refPresent_regs s, refPresent_goodRun s, refPresent_mtime s⟩
  case bad =>
    rintro cells f cnt rfl hsw hp hj
    obtain ⟨hcnt, hbad, hgood, -, hk⟩ := takeFrame_bad_effect hj
    exact ⟨_, exec_tbFrame hsw hp, hcnt, hbad, hgood, hk⟩
  case good =>
    rintro cells f rfl hsw hp hj hstep ha
    refine ⟨_, exec_tbFrame hsw hp, ?_⟩
    rw [takeFrame_of_acquire hj ha, regsKept_modTime]
    refine ⟨?_, congrArg TimeUnit.badRun (noteGood_time _ s), rfl, regsKept_noteGood _ s⟩
    simp only [modTime_time, hstep, noteGood_time, Bool.false_eq_true, if_false]
  case step =>
    rintro cells f rfl hsw hp hj hstep hin
    have ha : timeState s ≠ tsAcquire := fun ha => by simp [inSlewLocked, ha, tsAcquire, tsSlew, tsLocked] at hin
    refine ⟨_, exec_tbFrame hsw hp, ?_⟩
    rw [takeFrame_of_not_acquire hj ha, if_pos hin, if_pos hstep, regsKept_modTime]
    exact ⟨rfl, congrArg TimeUnit.badRun (noteGood_time _ s), noteGood_mtime _ s, regsKept_noteGood _ s⟩

end Sys2Proof.Machine

/-! PROOFS. The states of the Time Unit (R136, R137, R147, R151, R359, O26, O30): the entry to HOLDOVER and what forces it, the
software clock, and the snapshot. -/

namespace Sys2Proof.Machine

/-! ## The entry to HOLDOVER (R137) -/

theorem regsKept_flag (page : Nat) (f : Fld) (s : State) : RegsKept [fkey page f 0] s (flag page f s) :=
  regsKept_fset (regsKept_refl _ s) (List.mem_singleton_self _)

theorem fbit_of_kept {ks : List Nat} {s t : State} {page : Nat} {f : Fld} (h : RegsKept ks s t) (hk : fkey page f 0 ∉ ks) :
    fbit t page f = fbit s page f := fbit_of_fget (h.kept page f 0 hk)

/-- HOLDOVER is entered: its event, its count, and the restart of HO_ELAPSED_US. -/
def EntersHoldover (s t : State) : Prop :=
  timeState t = tsHoldover ∧ fbit t pgTime Tu.timeEvtHoldoverEnter = true ∧ fget t pgTime Tu.holdoverStatHoElapsedUs = 0
    ∧ fget t pgTime Tu.holdoverStatHoCount
      = (fget s pgTime Tu.holdoverStatHoCount + 1) % 2 ^ Tu.holdoverStatHoCount.w

theorem entersHoldover_enterHoldover (s : State) : EntersHoldover s (enterHoldover s) := by
  unfold enterHoldover
  refine ⟨?_, ?_, ?_, ?_⟩ <;>
    simp (disch := decide) only [timeState, fbit, flag_eq, wrapAdd_eq, fget_modTime, fget_fset_field, fget_fset_self] <;> rfl

section Enters
variable {s u v t : State}

/-- The entry reads HO_COUNT alone of the registers before it. -/
theorem EntersHoldover.left (h : EntersHoldover u t)
    (hc : fget u pgTime Tu.holdoverStatHoCount = fget s pgTime Tu.holdoverStatHoCount) : EntersHoldover s t := by
  obtain ⟨hstate, hevent, helapsed, hcount⟩ := h
  exact ⟨hstate, hevent, helapsed, hc ▸ hcount⟩

/-- Other registers may change after the entry. -/
theorem EntersHoldover.right {ks : List Nat} (h : EntersHoldover u v) (ht : RegsKept ks v t)
    (hks : ∀ k ∈ holdoverKeys, k ∉ ks) : EntersHoldover u t := by
  have kept : ∀ f, fkey pgTime f 0 ∈ holdoverKeys → fget t pgTime f = fget v pgTime f := fun f hf => ht.kept _ _ _ (hks _ hf)
  obtain ⟨hstate, hevent, helapsed, hcount⟩ := h
  exact ⟨(kept _ (by decide)).trans hstate, (fbit_of_fget (kept _ (by decide))).trans hevent,
    (kept _ (by decide)).trans helapsed, (kept _ (by decide)).trans hcount⟩

end Enters

theorem enterHoldover_mtime (s : State) : (enterHoldover s).mtime = s.mtime :=
  (enterHoldover_same (F := (· == .mtime)) (Same.refl _ s) rfl rfl).same .mtime rfl

theorem enterHoldover_pins (s : State) : (enterHoldover s).pins = s.pins :=
  (enterHoldover_same (F := (· == .pins)) (Same.refl _ s) rfl rfl).same .pins rfl

/-- A cause that has set its flag forces HOLDOVER. -/
theorem enterHoldover_of_cause {f : Fld} {s u : State} (hu : RegsKept [fkey pgTime f 0] s u) (hb : fbit u pgTime f = true)
    (hf : fkey pgTime f 0 ∉ holdoverKeys) :
    EntersHoldover s (enterHoldover u) ∧ fbit (enterHoldover u) pgTime f = true
      ∧ RegsKept (fkey pgTime f 0 :: holdoverKeys) s (enterHoldover u) := by
  have hcount : fkey pgTime Tu.holdoverStatHoCount 0 ∉ [fkey pgTime f 0] := fun h =>
    hf (List.mem_singleton.mp h ▸ by decide)
  have hkept := regsKept_enterHoldover u
  exact ⟨(entersHoldover_enterHoldover u).left (hu.kept _ _ _ hcount), (fbit_of_kept hkept hf).trans hb,
    regsKept_trans (regsKept_mono hu (by simp)) (regsKept_mono hkept fun k hk => List.mem_cons_of_mem _ hk)⟩

theorem inSlewLocked_congr {s t : State} (h : timeState t = timeState s) : inSlewLocked t = inSlewLocked s := by
  unfold inSlewLocked; rw [h]

theorem not_inSlewLocked {s : State} (h : timeState s ∉ [tsSlew, tsLocked]) : inSlewLocked s = false := by
  simpa [inSlewLocked] using h

/-! ## Loss of tb_ref (R137) -/

/-- tb_ref is lost: the pin, where its edges stop, and TB_LOSS. -/
def refLost (edges : Bool) (s : State) : State :=
  flag pgTime Tu.timeEvtTbLoss { s with pins := { s.pins with tbRef := edges } }

section Lost
variable (edges : Bool) (s : State)

theorem regsKept_refLost : RegsKept [fkey pgTime Tu.timeEvtTbLoss 0] s (refLost edges s) :=
  ⟨(regsKept_flag pgTime Tu.timeEvtTbLoss _).kept⟩

theorem fbit_refLost : fbit (refLost edges s) pgTime Tu.timeEvtTbLoss = true := fbit_flag_self _ rfl

theorem exec_tbRefLoss (hp : s.pins.tbRef = true) : exec (.tbRefLoss edges) s =
    if inSlewLocked s then .next (enterHoldover (refLost edges s))
    else if timeState s = tsAcquire then .next (fset pgTime Tu.timeStatState s.time.origin (refLost edges s))
    else .next (refLost edges s) := by
  have hst : timeState (refLost edges s) = timeState s := timeState_of_kept (regsKept_refLost edges s) (by decide)
  rw [← inSlewLocked_congr hst, ← hst]
  show execTbRefLoss s edges = _
  unfold execTbRefLoss
  rw [hp]
  rfl

end Lost

/-- ACQUIRE falls back to the state that it came from. -/
theorem fallBack_effect {s u : State} {ks : List Nat} (hu : RegsKept ks s u) (hk : fkey pgTime Tu.timeStatState 0 ∈ ks) (o : Nat) :
    timeState (fset pgTime Tu.timeStatState o u) = o % 2 ^ Tu.timeStatState.w
      ∧ RegsKept ks s (fset pgTime Tu.timeStatState o u) :=
  ⟨fget_fset_self .., regsKept_fset hu hk⟩

/-! ## QUIESCE of the TIME page (R359) -/

theorem setQuiesce_time {s : State} (hq : fbit s pgTime Hdr.pageCtrlQuiesce = false) (m : Nat) :
    setQuiesce pgTime true m s = noteQuiesced pgTime (quiesceTime (fset pgTime Hdr.pageCtrlQuiesce 1 s)) := by
  unfold setQuiesce
  rw [hq]
  rfl

/-- The TIME page is quiesced once QUIESCE stands. -/
theorem noteQuiesced_time {s : State} (hq : fbit s pgTime Hdr.pageCtrlQuiesce = true) :
    fbit (noteQuiesced pgTime s) pgTime Hdr.pageStatQuiesced = true
      ∧ RegsKept [fkey pgTime Hdr.pageStatQuiesced 0] s (noteQuiesced pgTime s) := by
  cases hd : fbit s pgTime Hdr.pageStatQuiesced with
  | true =>
    have h : noteQuiesced pgTime s = s := by simp [noteQuiesced, hd]
    rw [h]
    exact ⟨hd, regsKept_refl _ s⟩
  | false =>
    rw [noteQuiesced_of_met hq hd rfl]
    exact ⟨fbit_fset_self (f := Hdr.pageStatQuiesced) rfl true s, regsKept_fset (regsKept_refl _ s) (List.mem_singleton_self _)⟩

theorem noteQuiesced_mtime (page : Nat) (s : State) : (noteQuiesced page s).mtime = s.mtime := by
  unfold noteQuiesced
  split <;> rfl

/-- What a QUIESCE of the TIME page leaves, given what it does to the state of the Time Unit. -/
theorem quiesceTime_effect {ks : List Nat} {s v : State} (hv : RegsKept ks (fset pgTime Hdr.pageCtrlQuiesce 1 s) v)
    (hq : fkey pgTime Hdr.pageCtrlQuiesce 0 ∉ ks) :
    fbit (noteQuiesced pgTime v) pgTime Hdr.pageStatQuiesced = true
      ∧ RegsKept [fkey pgTime Hdr.pageStatQuiesced 0] v (noteQuiesced pgTime v)
      ∧ RegsKept (fkey pgTime Hdr.pageCtrlQuiesce 0 :: fkey pgTime Hdr.pageStatQuiesced 0 :: ks) s (noteQuiesced pgTime v) := by
  have hbit : fbit v pgTime Hdr.pageCtrlQuiesce = true :=
    (fbit_of_kept hv hq).trans (fbit_fset_self (f := Hdr.pageCtrlQuiesce) rfl true s)
  obtain ⟨hdone, hk⟩ := noteQuiesced_time hbit
  refine ⟨hdone, hk, regsKept_trans (t := v) ⟨fun page f i hn => ?_⟩ (regsKept_mono hk (by simp))⟩
  simp only [List.mem_cons, not_or] at hn
  obtain ⟨hquiesce, -, hks⟩ := hn
  rw [hv.kept page f i hks, fget_fset_ne _ (Ne.symm hquiesce)]

theorem quiesced_mtime (s : State) :
    (noteQuiesced pgTime (quiesceTime (fset pgTime Hdr.pageCtrlQuiesce 1 s))).mtime = s.mtime := by
  rw [noteQuiesced_mtime]
  exact (quiesceTime_same (F := (· == .mtime)) (fset_same (Same.refl _ s) rfl) rfl rfl).same .mtime rfl

theorem timeState_fset_quiesce (s : State) : timeState (fset pgTime Hdr.pageCtrlQuiesce 1 s) = timeState s :=
  fget_fset_field s (by decide) (by decide) (by decide)

theorem quiesceTime_of_acquire {s : State} (h : timeState s = tsAcquire) :
    quiesceTime s = fset pgTime Tu.timeStatState s.time.origin s := if_pos h

theorem quiesceTime_of_tracking {s : State} (h : inSlewLocked s = true ∨ timeState s = tsSwDisc) :
    quiesceTime s = enterHoldover s := by
  have ha : timeState s ≠ tsAcquire := by
    rintro ha
    rcases h with h | h
    · rw [not_inSlewLocked (by rw [ha]; decide)] at h; cases h
    · rw [ha] at h; cases h
  unfold quiesceTime
  rw [if_neg ha, if_pos (by simpa using h)]

theorem quiesceTime_of_free {s : State} (h : timeState s = tsFreerun ∨ timeState s = tsHoldover) : quiesceTime s = s := by
  unfold quiesceTime inSlewLocked
  rcases h with h | h <;> rw [h] <;> rfl

theorem exec_quiesce_time {page : PageNo} (hpage : page.val = pgTime) {s : State}
    (hq : fbit s pgTime Hdr.pageCtrlQuiesce = false) (m : Fin 5) : exec (.quiesce page true m) s
      = .next (noteQuiesced pgTime (quiesceTime (fset pgTime Hdr.pageCtrlQuiesce 1 s))) := by
  rw [exec_quiesce (hpage ▸ rfl : kindOf page.val = some .time), hpage, setQuiesce_time hq]

/-- Settles O26: each cause by the entry to HOLDOVER or the fall back from ACQUIRE. -/
theorem referenceLost : Obligations.ReferenceLost := by
  unfold Obligations.ReferenceLost
  intro s
  refine ⟨fun edges hp hin => ?lost, fun edges hp ha => ?lostAcquire, fun edges hp => ?absent,
    fun page m hpage hq => ⟨fun h => ?quiesce, fun h => ?quiesceAcquire, fun h => ?quiesceFree⟩, fun hin hb => ?codeLoss,
    fun ha hu hl => ?locked, fun ha hu hl => ?acqFail⟩
  case lost =>
    obtain ⟨⟨hstate, hevent, helapsed, hcount⟩, hbit, hk⟩ := enterHoldover_of_cause (regsKept_refLost edges s)
      (fbit_refLost edges s) (by decide)
    exact ⟨_, (exec_tbRefLoss edges s hp).trans (if_pos hin), hstate, congrArg Pins.tbRef (enterHoldover_pins _), hbit,
      helapsed, enterHoldover_mtime _, hevent, hcount, hk⟩
  case lostAcquire =>
    obtain ⟨hst, hk⟩ := fallBack_effect (ks := [fkey pgTime Tu.timeEvtTbLoss 0, fkey pgTime Tu.timeStatState 0])
      (regsKept_mono (regsKept_refLost edges s) (by simp)) (by simp) s.time.origin
    have hin : ¬ inSlewLocked s = true := by rw [not_inSlewLocked (by rw [ha]; decide)]; decide
    exact ⟨_, (exec_tbRefLoss edges s hp).trans ((if_neg hin).trans (if_pos ha)), hst, rfl,
      (fbit_fset_field (by decide) (by decide) (by decide) _).trans (fbit_refLost edges s), hk⟩
  case absent =>
    show execTbRefLoss s edges = _
    simp [execTbRefLoss, hp]
  case quiesce =>
    have hu := timeState_fset_quiesce s
    have hv := quiesceTime_of_tracking (s := fset pgTime Hdr.pageCtrlQuiesce 1 s) (by rwa [inSlewLocked_congr hu, hu])
    obtain ⟨hdone, hnote, hk⟩ := quiesceTime_effect (hv ▸ regsKept_enterHoldover _) (quiesce_notMem_holdoverKeys pgTime)
    have he : EntersHoldover (fset pgTime Hdr.pageCtrlQuiesce 1 s) (quiesceTime (fset pgTime Hdr.pageCtrlQuiesce 1 s)) :=
      hv ▸ entersHoldover_enterHoldover _
    obtain ⟨hstate, hevent, -, hcount⟩ := (he.right hnote (by decide)).left
      (fget_fset_field s (by decide) (by decide) (by decide))
    exact ⟨_, exec_quiesce_time hpage hq m, hstate, quiesced_mtime s, hevent, hdone, hcount, hk⟩
  case quiesceAcquire =>
    have hv := quiesceTime_of_acquire ((timeState_fset_quiesce s).trans h)
    have hst : timeState (quiesceTime (fset pgTime Hdr.pageCtrlQuiesce 1 s)) = s.time.origin % 2 ^ Tu.timeStatState.w :=
      hv ▸ fget_fset_self ..
    obtain ⟨hdone, hnote, hk⟩ := quiesceTime_effect (ks := [fkey pgTime Tu.timeStatState 0])
      (hv ▸ regsKept_fset (regsKept_refl _ _) (List.mem_singleton_self _)) (by decide)
    exact ⟨_, exec_quiesce_time hpage hq m, (timeState_of_kept hnote (by decide)).trans hst, quiesced_mtime s, hdone, hk⟩
  case quiesceFree =>
    have hu := timeState_fset_quiesce s
    have hv := quiesceTime_of_free (s := fset pgTime Hdr.pageCtrlQuiesce 1 s) (by rwa [hu])
    obtain ⟨-, hnote, hk⟩ := quiesceTime_effect (ks := [])
      (regsKept_of_regs (regsKept_refl _ _) (congrArg State.regs hv)) (by simp)
    exact ⟨_, exec_quiesce_time hpage hq m,
      (timeState_of_kept hnote (by decide)).trans ((congrArg timeState hv).trans hu), hk⟩
  case codeLoss =>
    obtain ⟨⟨hstate, hevent, -, hcount⟩, hbit, hk⟩ := enterHoldover_of_cause
      (regsKept_flag pgTime Tu.timeEvtCodeLoss s) (fbit_flag_self s rfl) (by decide)
    refine ⟨_, ?_, hstate, hbit, hevent, hcount, hk⟩
    show execCodeLoss s = _
    simp [execCodeLoss, hin, hb]
  case locked =>
    show execAcqFail s = _
    simp [execAcqFail, hl]
  case acqFail =>
    obtain ⟨hst, hk⟩ := fallBack_effect (ks := [fkey pgTime Tu.timeEvtAcqFail 0, fkey pgTime Tu.timeStatState 0])
      (regsKept_refl _ s) (List.mem_cons_of_mem _ (List.mem_singleton_self _)) s.time.origin
    refine ⟨flag pgTime Tu.timeEvtAcqFail (fset pgTime Tu.timeStatState s.time.origin s), ?_,
      (fget_fset_field _ (by decide) (by decide) (by decide)).trans hst, fbit_flag_self _ rfl, regsKept_fset hk List.mem_cons_self⟩
    show execAcqFail s = _
    simp [execAcqFail, ha, hu, hl]

/-! ## The entry to a state (R137) -/

/-- What slewing and a change of TB_DELAY have still to do. -/
def TimeUnit.slew (t : TimeUnit) : Int × Nat × Int × Option Int := (t.offset, t.skip, t.delayNow, t.delayChg)

theorem TimeUnit.slew_eq {t : TimeUnit} {o : Int} {k : Nat} {d : Int} {c : Option Int} :
    t.slew = (o, k, d, c) ↔ t.offset = o ∧ t.skip = k ∧ t.delayNow = d ∧ t.delayChg = c := by
  simp [TimeUnit.slew]

section Enter
variable (st : Nat) (s : State)

theorem regsKept_enterState : RegsKept holdoverKeys s (enterState st s) := by
  unfold enterState
  extract_lets was u
  refine regsKept_onlyIf ?_ fun t h => regsKept_fset h (by simp [holdoverKeys])
  exact (regsKept_modTime _ s _ _).mpr (regsKept_fset (regsKept_refl _ s) (by simp [holdoverKeys]))

theorem timeState_enterState {st : Nat} (h : st < 8) : timeState (enterState st s) = st := by
  unfold enterState
  extract_lets was u
  refine (onlyIf_frame timeState _ _ u ?_).trans ?_
  · exact fget_fset_field (f := Tu.timeEvtLockAcquired) u (by decide) (by decide) (by decide)
  · exact (fget_fset_self ..).trans (Nat.mod_eq_of_lt h)

theorem enterState_mtime : (enterState st s).mtime = s.mtime :=
  (enterState_same (F := (· == .mtime)) (Same.refl _ s) rfl rfl).same .mtime rfl

theorem enterState_slew : (enterState st s).time.slew = s.time.slew := by
  unfold enterState
  extract_lets was u
  exact onlyIf_frame (fun t : State => t.time.slew) _ _ u rfl

theorem lockAcquired_enterState {s : State} (h : timeState s ≠ tsLocked) :
    fbit (enterState tsLocked s) pgTime Tu.timeEvtLockAcquired = true := by
  unfold enterState
  extract_lets was u
  have hw : (tsLocked == tsLocked && was != tsLocked) = true := by simpa [was] using h
  rw [hw]
  exact fbit_flag_self u rfl

end Enter

/-! ## Refused writes of the TIME page (R358) -/

theorem pageErr_time (page off : Nat) (f : Fld) (s : State) : (pageErr page f off s).time = s.time :=
  (pageErr_same (F := (· == .time)) (Same.refl _ s) rfl).same .time rfl

theorem pageErr_mtime (page off : Nat) (f : Fld) (s : State) : (pageErr page f off s).mtime = s.mtime :=
  (pageErr_same (F := (· == .mtime)) (Same.refl _ s) rfl).same .mtime rfl

theorem errState_effect (off : Nat) (s : State) : fbit (errState pgTime off s) pgTime Hdr.pageErrStateWrite = true
    ∧ (errState pgTime off s).time = s.time ∧ RegsKept (pageErrKeys pgTime) s (errState pgTime off s) :=
  ⟨fbit_pageErr s _ _ _ rfl (by decide), pageErr_time .., regsKept_pageErr s _ _ _ (by decide)⟩

theorem errReserved_effect (off : Nat) (s : State) : fbit (errReserved pgTime off s) pgTime Hdr.pageErrReservedEnc = true
    ∧ (errReserved pgTime off s).time = s.time ∧ RegsKept (pageErrKeys pgTime) s (errReserved pgTime off s) :=
  ⟨fbit_pageErr s _ _ _ rfl (by decide), pageErr_time .., regsKept_pageErr s _ _ _ (by decide)⟩

/-! ## The software clock (R137, R140) -/

/-- SW_FREQ takes a value, and the watchdog of software restarts. -/
def writeFreq (v : Word) (s : State) : State :=
  modTime (fun t => { t with swUs := s.us }) (fset pgTime Tu.swFreqFreqAdj (v.extractLsb' 0 32).toNat s)

theorem regsKept_writeFreq (v : Word) (s : State) : RegsKept [fkey pgTime Tu.swFreqFreqAdj 0] s (writeFreq v s) :=
  (regsKept_modTime _ s _ _).mpr (regsKept_fset (regsKept_refl _ s) (List.mem_singleton_self _))

section SwFreq
variable {v : Word} {s : State}

theorem exec_swFreq (hsw : srcSoftware s = true) (hlo : -(500 * 65536) ≤ (v.extractLsb' 0 32).toInt)
    (hhi : (v.extractLsb' 0 32).toInt ≤ 500 * 65536) : exec (.swFreq v) s
      = .next (onlyIf (timeState s == tsFreerun || timeState s == tsHoldover) (enterState tsSwDisc) (writeFreq v s)) := by
  rw [← timeState_of_kept (regsKept_writeFreq v s) (by decide)]
  show execSwFreq v s = _
  unfold execSwFreq
  rw [hsw]
  exact if_neg (not_or.mpr ⟨not_lt.mpr hhi, not_lt.mpr hlo⟩)

theorem exec_swFreq_of_reserved (hsw : srcSoftware s = true)
    (h : (v.extractLsb' 0 32).toInt < -(500 * 65536) ∨ 500 * 65536 < (v.extractLsb' 0 32).toInt) :
    exec (.swFreq v) s = .next (errReserved pgTime 0x70 s) := by
  show execSwFreq v s = _
  unfold execSwFreq
  rw [hsw]
  exact if_pos h.symm

/-- The registers that a legal SW_FREQ leaves, and the entry to SW_DISC. -/
theorem swFreq_effect (b : Bool) (v : Word) (s : State) :
    fget (onlyIf b (enterState tsSwDisc) (writeFreq v s)) pgTime Tu.swFreqFreqAdj
        = (v.extractLsb' 0 32).toNat % 2 ^ Tu.swFreqFreqAdj.w
      ∧ RegsKept (fkey pgTime Tu.swFreqFreqAdj 0 :: holdoverKeys) s (onlyIf b (enterState tsSwDisc) (writeFreq v s))
      ∧ (b = true → timeState (onlyIf b (enterState tsSwDisc) (writeFreq v s)) = tsSwDisc) := by
  have henter := regsKept_enterState tsSwDisc (writeFreq v s)
  refine ⟨?_, ?_, ?_⟩
  · refine (onlyIf_frame (fget · pgTime Tu.swFreqFreqAdj) b _ _ (henter.kept _ _ _ (by decide))).trans ?_
    exact fget_fset_self ..
  · exact regsKept_onlyIf (regsKept_mono (regsKept_writeFreq v s) (by simp)) fun t h =>
      regsKept_trans h (regsKept_mono (regsKept_enterState tsSwDisc t) fun k hk => List.mem_cons_of_mem _ hk)
  · rintro rfl
    exact timeState_enterState (st := tsSwDisc) _ (by decide)

end SwFreq

/-! ## The snapshot (R151) -/

/-- A rise of tb_snap latches MTIME. -/
def snapped (s : State) : State :=
  modTime (fun t => { t with snapAt := some s.mtime })
    (flag pgTime Tu.timeEvtSnapNew (fset pgTime Tu.snapSnapTime s.mtime.toNat s))

theorem snapped_effect (s : State) : fget (snapped s) pgTime Tu.snapSnapTime = s.mtime.toNat
    ∧ fbit (snapped s) pgTime Tu.timeEvtSnapNew = true ∧ (snapped s).time.snapAt = some s.mtime
    ∧ RegsKept [fkey pgTime Tu.snapSnapTime 0, fkey pgTime Tu.timeEvtSnapNew 0] s (snapped s) := by
  refine ⟨?_, fbit_flag_self _ rfl, rfl, ?_⟩
  · unfold snapped
    rw [fget_modTime, flag_eq, fget_fset_field _ (by decide) (by decide) (by decide), fget_fset_self]
    exact Nat.mod_eq_of_lt s.mtime.isLt
  · exact (regsKept_modTime _ s _ _).mpr (regsKept_fset (regsKept_fset (regsKept_refl _ s) List.mem_cons_self)
      (List.mem_cons_of_mem _ List.mem_cons_self))

/-- Settles O30: each command by its guard and the one change that passes it. -/
theorem softwareClockAndSnap : Obligations.SoftwareClockAndSnap := by
  unfold Obligations.SoftwareClockAndSnap
  refine ⟨fun s v => ⟨fun hsw hlo hhi => ⟨_, exec_swFreq hsw hlo hhi, swFreq_effect _ v s⟩,
      fun hsw h => ⟨_, exec_swFreq_of_reserved hsw h, errReserved_effect 0x70 s⟩, fun hsw => ?freqRefused, fun hsw => ?phase,
      fun hsw => ?phaseRefused, fun hst hus => ?watchdog⟩,
    fun s => ⟨fun hh hl hus => ?long, fun hl => ?longOnce, fun h => ?snap, fun a ha hn => ?snapNear⟩⟩
  case freqRefused =>
    refine ⟨_, ?_, errState_effect 0x70 s⟩
    show execSwFreq v s = _
    simp [execSwFreq, hsw]
  case phase =>
    refine ⟨setOffset (s.time.offset + (v.extractLsb' 0 32).toInt) (modTime (fun t => { t with swUs := s.us }) s), ?_,
      rfl, rfl, rfl, rfl⟩
    show execSwPhase v s = _
    simp [execSwPhase, hsw]
  case phaseRefused =>
    refine ⟨_, ?_, errState_effect 0x78 s⟩
    show execSwPhase v s = _
    simp [execSwPhase, hsw]
  case watchdog =>
    obtain ⟨⟨hstate, -⟩, hbit, hk⟩ := enterHoldover_of_cause (regsKept_flag pgTime Tu.timeEvtSwWdogExpired s)
      (fbit_flag_self s rfl) (by decide)
    refine ⟨_, ?_, hstate, hbit, hk⟩
    show execSwWdogExpired s = _
    exact if_pos ⟨hst, hus⟩
  case long =>
    refine ⟨modTime (fun t => { t with holdLong := true }) (flag pgTime Tu.timeEvtHoldoverLong s), ?_, fbit_flag_self s rfl, rfl,
      (regsKept_modTime _ s _ _).mpr (regsKept_flag ..)⟩
    show execHoldoverLong s = _
    simp [execHoldoverLong, hh, hl, hus]
  case longOnce =>
    show execHoldoverLong s = _
    simp [execHoldoverLong, hl]
  case snap =>
    refine ⟨_, ?_, snapped_effect s⟩
    show execTbSnap s = .next (snapped s)
    unfold execTbSnap
    rcases h with h | ⟨a, ha, hfar⟩
    · rw [h]; rfl
    · rw [ha]
      exact if_neg (by simpa using hfar)
  case snapNear =>
    show execTbSnap s = _
    unfold execTbSnap
    rw [ha]
    exact if_pos (by simpa using hn)

end Sys2Proof.Machine

/-! PROOFS. How MTIME steps and slews (R139 to R142, O29): a step, the rows of R139, and the commands that align, slew and set
MTIME. -/

namespace Sys2Proof.Machine

theorem regsKept_of_regs_left {ks : List Nat} {s u t : State} (h : RegsKept ks u t) (hr : u.regs = s.regs) : RegsKept ks s t :=
  ⟨fun page f i hk => (h.kept page f i hk).trans (fget_regs hr page f i)⟩

/-! ## A step of MTIME (R142) -/

/-- Lists move in the registers of the NI pages alone. -/
theorem fget_stepLists {f : Fld} (hf : f.off / 8 < 512) (hl : f.lo < 64) (back : Bool) (s : State) :
    fget (stepLists back s) pgTime f = fget s pgTime f := by
  have hpage : ∀ p v t, fget (fset (pgNi p) Ni.shlEvtStepped v t) pgTime f = fget t pgTime f := fun p v t =>
    fget_fset_page t (by unfold pgNi pgTime; omega) (by decide) hf (by decide) hl (by decide) (by decide)
  refine forEach_frame (fget · pgTime f) fun p t => ?_
  exact (onlyIf_frame (fget · pgTime f) _ _ _ rfl).trans (onlyIf_frame (fget · pgTime f) _ _ t (hpage p 1 t))

/-- MTIME has moved by a step: STEPPED, and the change in LAST_STEP. -/
def Stepped (s t : State) : Prop :=
  fbit t pgTime Tu.timeEvtStepped = true ∧ fget t pgTime Tu.lastStepDelta = (t.mtime - s.mtime).toNat

section Step
variable (m : Word) (s : State)

/-- A step up to the lists: MTIME, what the Time Unit keeps of the step, and the registers of the step. -/
def stepClock : State :=
  let late := (armedTimes s).filterMap (fun e =>
    if e.2 ≤ m.toNat ∧ (s.mtime.toNat < e.2 ∨ s.time.late.contains e.1) then some e.1 else none)
  fset pgTime Tu.lastStepDelta (m - s.mtime).toNat (flag pgTime Tu.timeEvtStepped
    (modTime (fun t => { t with late := late, lastStep := some m, snapAt := t.snapAt.map (· + (m - s.mtime))
                                slewAt := t.slewAt + (m - s.mtime) }) { s with mtime := m }))

theorem doStep_eq : doStep m s = stepLists (m.toNat < s.mtime.toNat) (stepClock m s) := rfl

theorem doStep_same_stepClock : Same (allBut [.regs, .nis]) (stepClock m s) (doStep m s) := by
  rw [doStep_eq]
  exact stepLists_same (Same.refl _ _) rfl rfl

theorem doStep_mtime : (doStep m s).mtime = m := (doStep_same_stepClock m s).same .mtime rfl

theorem doStep_slew : (doStep m s).time.slew = s.time.slew := by
  have h : (doStep m s).time = (stepClock m s).time := (doStep_same_stepClock m s).same .time rfl
  rw [h]
  rfl

theorem timeState_doStep : timeState (doStep m s) = timeState s := by
  rw [doStep_eq]
  refine (fget_stepLists (by decide) (by decide) _ _).trans ?_
  exact (fget_fset_field _ (by decide) (by decide) (by decide)).trans (fget_fset_field _ (by decide) (by decide) (by decide))

theorem stepped_doStep : Stepped s (doStep m s) := by
  have hm := doStep_mtime m s
  refine ⟨?_, ?_⟩
  · refine (fbit_of_fget (fget_stepLists (by decide) (by decide) _ _)).trans ?_
    exact (fbit_fset_field (by decide) (by decide) (by decide) _).trans (fbit_flag_self _ rfl)
  · rw [hm, doStep_eq]
    refine (fget_stepLists (by decide) (by decide) _ _).trans ((fget_fset_self ..).trans (Nat.mod_eq_of_lt ?_))
    exact (m - s.mtime).isLt

/-- A step that enters a state, as every step of R139 to R142 does. -/
theorem step_effect {st : Nat} (hst : st < 8) : (enterState st (doStep m s)).mtime = m
    ∧ (enterState st (doStep m s)).time.slew = s.time.slew ∧ timeState (enterState st (doStep m s)) = st
    ∧ Stepped s (enterState st (doStep m s)) := by
  have hk := regsKept_enterState st (doStep m s)
  obtain ⟨hevent, hdelta⟩ := stepped_doStep m s
  refine ⟨(enterState_mtime ..).trans (doStep_mtime m s), (enterState_slew ..).trans (doStep_slew m s),
    timeState_enterState _ hst, (fbit_of_kept hk (by decide)).trans hevent, (hk.kept _ _ _ (by decide)).trans ?_⟩
  rw [hdelta, enterState_mtime]

end Step

/-! ## What a slew has still to remove (R140) -/

theorem regsKept_setOffset (ks : List Nat) (o : Int) (s : State) : RegsKept ks s (setOffset o s) :=
  regsKept_of_regs (regsKept_refl ks s) rfl

theorem cancelSlew_regs (s : State) : (cancelSlew s).regs = s.regs := rfl
theorem cancelSlew_mtime (s : State) : (cancelSlew s).mtime = s.mtime := rfl
theorem cancelSlew_slew (s : State) : (cancelSlew s).time.slew = (0, 0, s.time.delayNow, s.time.delayChg) := rfl

/-! ## The rows of R139 -/

section Rows
variable {o rest : Int} {s : State}

/-- The offset is slewed: within SLEW_LIMIT, or backward where MTIME may not step back. -/
def Slews (s : State) (o : Int) : Prop :=
  (-(fget s pgTime Tu.timeCtrlSlewLimit : Int) ≤ o ∧ o ≤ fget s pgTime Tu.timeCtrlSlewLimit)
    ∨ (o < 0 ∧ fbit s pgTime Tu.timeCtrlStepBackEn = false)

/-- The offset is stepped. -/
def Jumps (s : State) (o : Int) : Prop :=
  (fget s pgTime Tu.timeCtrlSlewLimit : Int) < o
    ∨ (o < -(fget s pgTime Tu.timeCtrlSlewLimit : Int) ∧ fbit s pgTime Tu.timeCtrlStepBackEn = true)

theorem stepBack_eq_zero : fget s pgTime Tu.timeCtrlStepBackEn = 0 ↔ fbit s pgTime Tu.timeCtrlStepBackEn = false := by
  have h : fget s pgTime Tu.timeCtrlStepBackEn < 2 ^ 1 := Nat.mod_lt _ (by decide)
  rw [fbit, beq_eq_false_iff_ne]
  omega

theorem not_slews_of_jumps (h : Jumps s o) : ¬ Slews s o := by
  rintro (⟨hlo, hhi⟩ | ⟨hneg, hback⟩) <;> rcases h with h | ⟨h, hb⟩
  · omega
  · omega
  · omega
  · rw [hb] at hback; cases hback

theorem ne_zero_of_jumps (h : Jumps s o) : o ≠ 0 := by
  rcases h with h | ⟨h, -⟩ <;> omega

theorem alignBy_zero : alignBy 0 0 s = enterState tsLocked s := rfl

theorem alignBy_of_slews (ho : o ≠ 0) (h : Slews s o) :
    alignBy o rest s = enterState (if rest + o = 0 then tsLocked else tsSlew) (setOffset (rest + o) s) := by
  have h' : (-(fget s pgTime Tu.timeCtrlSlewLimit : Int) ≤ o ∧ o ≤ fget s pgTime Tu.timeCtrlSlewLimit)
      ∨ (o < 0 ∧ fget s pgTime Tu.timeCtrlStepBackEn = 0) := by rwa [stepBack_eq_zero]
  unfold alignBy
  simp only [if_neg ho, if_pos h', Int.add_comm o rest]
  split
  case isTrue hz => rw [hz]
  case isFalse => rfl

theorem alignBy_of_jumps (h : Jumps s o) :
    alignBy o rest s = enterState (if rest = 0 then tsLocked else tsSlew) (doStep (shifted s o) s) := by
  have hs := not_slews_of_jumps h
  unfold Slews at hs
  rw [← stepBack_eq_zero] at hs
  unfold alignBy
  simp only [if_neg (ne_zero_of_jumps h), if_neg hs]

theorem slews_congr {u : State} (hr : u.regs = s.regs) : Slews u o ↔ Slews s o := by
  unfold Slews fbit
  simp only [fget_regs hr]

theorem jumps_congr {u : State} (hr : u.regs = s.regs) : Jumps u o ↔ Jumps s o := by
  unfold Jumps fbit
  simp only [fget_regs hr]

end Rows

theorem add_ofInt_toNat_sub (x y : Word) : x + BitVec.ofInt 64 ((y.toNat : Int) - x.toNat) = y := by
  rw [Int.sub_eq_add_neg, BitVec.ofInt_add, BitVec.ofInt_neg, BitVec.ofInt_natCast, BitVec.ofInt_natCast, BitVec.ofNat_toNat,
    BitVec.ofNat_toNat, BitVec.setWidth_eq, BitVec.setWidth_eq, ← BitVec.sub_eq_add_neg, BitVec.add_comm, BitVec.sub_add_cancel]

/-- A slew of `n` ticks in all, in LOCKED where none are left. -/
theorem slew_effect (n : Int) (u : State) :
    let t := enterState (if n = 0 then tsLocked else tsSlew) (setOffset n u)
    t.mtime = u.mtime ∧ t.time.slew = (n, u.time.skip, u.time.delayNow, u.time.delayChg)
      ∧ timeState t = (if n = 0 then tsLocked else tsSlew) ∧ RegsKept holdoverKeys u t :=
  ⟨enterState_mtime .., enterState_slew .., timeState_enterState _ (by split <;> decide),
    regsKept_trans (regsKept_setOffset _ n u) (regsKept_enterState ..)⟩

/-! ## ALIGN (R139) -/

/-- What ALIGN ends: the announced edge, a change of TB_DELAY, an announced step, and a slew. -/
def startAlign (s : State) : State :=
  cancelSlew (modTime (fun t => { t with alignAt := none, delayNow := delayTicks s, delayChg := none, stepAt := none }) s)

theorem startAlign_regs (s : State) : (startAlign s).regs = s.regs := cancelSlew_regs _
theorem startAlign_mtime (s : State) : (startAlign s).mtime = s.mtime := cancelSlew_mtime _
theorem startAlign_slew (s : State) : (startAlign s).time.slew = (0, 0, delayTicks s, none) := cancelSlew_slew _
theorem timeState_startAlign (s : State) : timeState (startAlign s) = timeState s := fget_regs (startAlign_regs s) _ _ _

/-- Where ALIGN would put MTIME. -/
def alignTarget (e : Word) (s : State) : Word := e + BitVec.ofInt 64 (delayTicks s)

section Align
variable {e : Word} {s : State} (he : s.time.alignAt = some e) (hst : timeState s = tsAcquire) (hd : detectorLocked s = true)
  (hg : fget s pgTime Tu.timeCtrlAcqFrames ≤ s.time.goodRun)
include he hst hd hg

theorem exec_align_freerun (ho : s.time.origin = tsFreerun) :
    exec .align s = .next (enterState tsLocked (doStep (alignTarget e s) (startAlign s))) := by
  show execAlign s = _
  unfold execAlign
  rw [he]
  exact (if_pos ⟨hst, hd, hg⟩).trans (if_pos ho)

theorem exec_align_holdover (ho : s.time.origin = tsHoldover) :
    exec .align s = .next (alignBy (((alignTarget e s).toNat : Int) - s.mtime.toNat) 0 (startAlign s)) := by
  show execAlign s = _
  unfold execAlign
  rw [he]
  exact (if_pos ⟨hst, hd, hg⟩).trans (if_neg (by rw [ho]; decide))

end Align

/-- An alignment that steps MTIME enters LOCKED, with nothing left to slew. -/
theorem alignStep_effect {s : State} (hst : timeState s = tsAcquire) (m : Word) :
    let t := enterState tsLocked (doStep m (startAlign s))
    t.mtime = m ∧ t.time.offset = 0 ∧ t.time.skip = 0 ∧ timeState t = tsLocked ∧ fbit t pgTime Tu.timeEvtStepped = true
      ∧ fbit t pgTime Tu.timeEvtLockAcquired = true ∧ fget t pgTime Tu.lastStepDelta = (t.mtime - s.mtime).toNat := by
  obtain ⟨hm, hslew, hlocked, hevent, hdelta⟩ := step_effect m (startAlign s) (st := tsLocked) (by decide)
  obtain ⟨ho, hskip, -, -⟩ := TimeUnit.slew_eq.mp (hslew.trans (startAlign_slew s))
  have hlock : timeState (doStep m (startAlign s)) ≠ tsLocked := by
    rw [timeState_doStep, timeState_startAlign, hst]; decide
  exact ⟨hm, ho, hskip, hlocked, hevent, lockAcquired_enterState hlock,
    by rw [hdelta, startAlign_mtime]⟩

/-! ## SLEW_STEP (R140) -/

/-- SLEW_PERIOD, from one slew step to the next. -/
def slewPeriod (s : State) : Word := BitVec.ofNat 64 (fget s pgTime Tu.timeCtrlSlewPeriod)

/-- A slew adds a tick. -/
def addTick (s : State) : State :=
  modTime (fun t => { t with offset := s.time.offset - 1, slewAt := t.slewAt + slewPeriod s }) { s with mtime := s.mtime + 1 }

theorem addTick_slew (s : State) :
    (addTick s).time.slew = (s.time.offset - 1, s.time.skip, s.time.delayNow, s.time.delayChg) := rfl

/-- A slew withholds a tick. -/
def withholdTick (s : State) : State :=
  modTime (fun t => { t with offset := s.time.offset + 1, slewAt := t.slewAt + slewPeriod s })
    (modTime (fun t => { t with skip := t.skip + 1 }) s)

theorem withholdTick_slew (s : State) :
    (withholdTick s).time.slew = (s.time.offset + 1, s.time.skip + 1, s.time.delayNow, s.time.delayChg) := rfl

/-- SLEW ends in LOCKED once no offset is left. -/
def endSlew (s : State) : State := onlyIf (s.time.offset == 0 && timeState s == tsSlew) (enterState tsLocked) s

theorem endSlew_effect (s : State) : (endSlew s).mtime = s.mtime ∧ (endSlew s).time.slew = s.time.slew
    ∧ (endSlew s).time.slewAt = s.time.slewAt ∧ RegsKept holdoverKeys s (endSlew s)
    ∧ (s.time.offset = 0 → timeState s = tsSlew → timeState (endSlew s) = tsLocked) := by
  have hat : (enterState tsLocked s).time.slewAt = s.time.slewAt := by
    unfold enterState
    extract_lets was u
    exact onlyIf_frame (fun t : State => t.time.slewAt) _ _ u rfl
  refine ⟨onlyIf_frame State.mtime _ _ s (enterState_mtime ..),
    onlyIf_frame (fun t : State => t.time.slew) _ _ s (enterState_slew ..),
    onlyIf_frame (fun t : State => t.time.slewAt) _ _ s hat,
    regsKept_onlyIf (regsKept_refl _ s) fun t h => regsKept_trans h (regsKept_enterState tsLocked t), fun ho hst => ?_⟩
  unfold endSlew
  rw [ho, hst]
  exact timeState_enterState (st := tsLocked) s (by decide)

section SlewStep
variable {s : State}

theorem exec_slewStep_of_pos (ho : 0 < s.time.offset) (hdue : s.time.slewAt ≤ s.mtime) :
    exec .slewStep s = .next (endSlew (addTick s)) := by
  show execSlewStep s = _
  unfold execSlewStep
  simp only [ho, if_true]
  exact if_neg (not_or.mpr ⟨ne_of_gt ho, BitVec.not_lt.mpr hdue⟩)

theorem exec_slewStep_of_neg (ho : s.time.offset < 0) (hdue : s.time.slewAt ≤ s.mtime) :
    exec .slewStep s = .next (endSlew (withholdTick s)) := by
  show execSlewStep s = _
  unfold execSlewStep
  simp only [not_lt.mpr (le_of_lt ho), if_false]
  exact if_neg (not_or.mpr ⟨ne_of_lt ho, BitVec.not_lt.mpr hdue⟩)

theorem exec_slewStep_of_not_due (h : s.time.offset = 0 ∨ s.mtime < s.time.slewAt) : exec .slewStep s = .next s := if_pos h

end SlewStep

/-! ## DELAY_CHANGE and STEP_ANNOUNCED (R139, R141) -/

/-- A change of TB_DELAY is in effect. -/
def startDelay (o : Int) (s : State) : State :=
  modTime (fun t => { t with delayChg := none, delayNow := t.delayNow + o }) s

theorem startDelay_regs (o : Int) (s : State) : (startDelay o s).regs = s.regs := rfl
theorem startDelay_mtime (o : Int) (s : State) : (startDelay o s).mtime = s.mtime := rfl
theorem startDelay_slew (o : Int) (s : State) :
    (startDelay o s).time.slew = (s.time.offset, s.time.skip, s.time.delayNow + o, none) := rfl

section Delay
variable {o : Int} {s : State} (hc : s.time.delayChg = some o) (hin : inSlewLocked s = true)
include hc hin

theorem exec_delayChange : exec .delayChange s = .next (alignBy o s.time.offset (startDelay o s)) := by
  show execDelayChange s = _
  unfold execDelayChange
  rw [hc]
  exact if_pos hin

/-- A change that slews adds to what a slew has still to remove. -/
theorem delayChange_slews (ho : o ≠ 0) (h : Slews s o) :
    ∃ t, exec .delayChange s = .next t ∧ t.mtime = s.mtime ∧ t.time.delayNow = s.time.delayNow + o
      ∧ t.time.delayChg = none ∧ t.time.offset = s.time.offset + o
      ∧ timeState t = (if s.time.offset + o = 0 then tsLocked else tsSlew) ∧ RegsKept holdoverKeys s t := by
  obtain ⟨hm, hslew, hst, hk⟩ := slew_effect (s.time.offset + o) (startDelay o s)
  obtain ⟨hoff, -, hnow, hchg⟩ := TimeUnit.slew_eq.mp hslew
  exact ⟨_, (exec_delayChange hc hin).trans (congrArg _ (alignBy_of_slews ho ((slews_congr (startDelay_regs o s)).mpr h))),
    hm.trans (startDelay_mtime o s), hnow, hchg, hoff, hst, regsKept_of_regs_left hk (startDelay_regs o s)⟩

end Delay

/-- An announced step ends a slew. -/
def startStep (s : State) : State := cancelSlew (modTime (fun t => { t with stepAt := none }) s)

theorem startStep_mtime (s : State) : (startStep s).mtime = s.mtime := cancelSlew_mtime _
theorem startStep_slew (s : State) : (startStep s).time.slew = (0, 0, s.time.delayNow, s.time.delayChg) := cancelSlew_slew _

theorem exec_stepAnnounced {e : Word} {s : State} (he : s.time.stepAt = some e) (hin : inSlewLocked s = true) :
    exec .stepAnnounced s = .next (flag pgTime Tu.timeEvtStepAnnounced
      (enterState tsLocked (doStep (e + BitVec.ofInt 64 s.time.delayNow) (startStep s)))) := by
  show execStepAnnounced s = _
  unfold execStepAnnounced
  rw [he]
  exact if_pos hin

/-- Telling that a step was announced leaves what the step did. -/
theorem announce_effect {m : Word} {x : Int × Nat × Int × Option Int} {st : Nat} {s u : State} (hm : u.mtime = m)
    (hslew : u.time.slew = x) (hst : timeState u = st) (hs : Stepped s u) :
    (flag pgTime Tu.timeEvtStepAnnounced u).mtime = m ∧ (flag pgTime Tu.timeEvtStepAnnounced u).time.slew = x
      ∧ timeState (flag pgTime Tu.timeEvtStepAnnounced u) = st ∧ Stepped s (flag pgTime Tu.timeEvtStepAnnounced u) :=
  ⟨hm, hslew, (timeState_of_kept (regsKept_flag ..) (by decide)).trans hst,
    (fbit_of_kept (regsKept_flag ..) (by decide)).trans hs.1, ((regsKept_flag ..).kept _ _ _ (by decide)).trans hs.2⟩

/-! ## MTIME_SET (R142) -/

/-- MTIME_SET takes a value and ends a slew. -/
def startSet (v : Word) (s : State) : State := cancelSlew (fset pgTime Tu.mtimeSetValue v.toNat s)

theorem startSet_mtime (v : Word) (s : State) : (startSet v s).mtime = s.mtime := cancelSlew_mtime _
theorem startSet_slew (v : Word) (s : State) : (startSet v s).time.slew = (0, 0, s.time.delayNow, s.time.delayChg) :=
  cancelSlew_slew _

theorem exec_mtimeSet {v : Word} {s : State} (hq : fbit s pgTime Hdr.pageStatQuiesced = true)
    (hst : timeState s = tsFreerun ∨ timeState s = tsHoldover) :
    exec (.mtimeSet v) s = .next (enterState tsFreerun (doStep v (startSet v s))) := by
  show execMtimeSet v s = _
  unfold execMtimeSet
  rw [hq]
  exact if_pos hst

/-- Settles O29: each command by the row that its offset meets. -/
theorem timeAdjusted : Obligations.TimeAdjusted := by
  unfold Obligations.TimeAdjusted
  intro s
  refine ⟨fun e he hst hd hg ho => ⟨_, exec_align_freerun he hst hd hg ho, ?free⟩,
    fun e o he hst hd hg ho hoff => ?hold, fun h => ?noAlign, fun e he hin => ?announced,
    fun ho hdue => ⟨_, exec_slewStep_of_pos ho hdue, ?add⟩,
    fun ho hdue => ⟨_, exec_slewStep_of_neg ho hdue, ?withhold⟩, exec_slewStep_of_not_due,
    fun o hc hin ho hlo hhi => delayChange_slews hc hin ho (.inl ⟨hlo, hhi⟩), fun o hc hin hlt hb => ?delayBack,
    fun o hc hin h => ?delayStep, fun v hq hst => ?set, fun v hq hf hh => ?setState, fun v hq hv => ?setStatic⟩
  case free =>
    obtain ⟨hm, ho, hskip, hlocked, hev, hlock, hdelta⟩ := alignStep_effect hst (alignTarget e s)
    exact ⟨hm, ho, hlocked, hev, hlock, hskip, hdelta⟩
  case hold =>
    have hex := exec_align_holdover he hst hd hg ho
    rw [show ((alignTarget e s).toNat : Int) - s.mtime.toNat = o from hoff.symm] at hex
    refine ⟨fun hz => ?_, fun hz h => ?_, fun h => ?_⟩
    · have hlock : timeState (startAlign s) ≠ tsLocked := by rw [timeState_startAlign, hst]; decide
      obtain ⟨ho, hskip, -, -⟩ := TimeUnit.slew_eq.mp ((enterState_slew tsLocked (startAlign s)).trans (startAlign_slew s))
      rw [hz, alignBy_zero] at hex
      exact ⟨_, hex, (enterState_mtime ..).trans (startAlign_mtime s), ho, hskip, timeState_enterState _ (by decide),
        lockAcquired_enterState hlock, regsKept_of_regs_left (regsKept_enterState ..) (startAlign_regs s)⟩
    · obtain ⟨hm, hslew, hsl, hk⟩ := slew_effect o (startAlign s)
      obtain ⟨ho, hskip, -, -⟩ := TimeUnit.slew_eq.mp hslew
      rw [alignBy_of_slews hz ((slews_congr (startAlign_regs s)).mpr h), Int.zero_add] at hex
      exact ⟨_, hex, hm.trans (startAlign_mtime s), ho, hskip, hsl.trans (if_neg hz),
        regsKept_of_regs_left hk (startAlign_regs s)⟩
    · have hto : shifted (startAlign s) o = alignTarget e s := by
        rw [hoff]; exact add_ofInt_toNat_sub s.mtime (alignTarget e s)
      rw [alignBy_of_jumps ((jumps_congr (startAlign_regs s)).mpr h), hto] at hex
      exact ⟨_, hex, alignStep_effect hst (alignTarget e s)⟩
  case noAlign =>
    show execAlign s = _
    unfold execAlign
    cases he : s.time.alignAt with
    | none => rfl
    | some e =>
      refine if_neg fun ⟨hst, hd, hg⟩ => ?_
      rcases h with h | h | h | h
      · rw [h] at he; cases he
      · exact h hst
      · rw [h] at hd; cases hd
      · omega
  case announced =>
    obtain ⟨hm, hslew, hlocked, hs⟩ := step_effect (e + BitVec.ofInt 64 s.time.delayNow) (startStep s) (st := tsLocked)
      (by decide)
    obtain ⟨hm, hslew, hlocked, hevent, hdelta⟩ := announce_effect hm (hslew.trans (startStep_slew s)) hlocked hs
    obtain ⟨ho, hskip, -, -⟩ := TimeUnit.slew_eq.mp hslew
    exact ⟨_, exec_stepAnnounced he hin, hm, ho, hlocked, hevent, fbit_flag_self _ rfl, hskip,
      by rw [hdelta, startStep_mtime]⟩
  case add =>
    obtain ⟨hm, hslew, hat, hk, hend⟩ := endSlew_effect (addTick s)
    obtain ⟨ho', -, -, -⟩ := TimeUnit.slew_eq.mp (addTick_slew s)
    obtain ⟨hoff, -, -, -⟩ := TimeUnit.slew_eq.mp (hslew.trans (addTick_slew s))
    exact ⟨hm, hoff, hat, fun h1 hst => hend (by omega) hst, regsKept_of_regs_left hk rfl⟩
  case withhold =>
    obtain ⟨hm, hslew, hat, hk, -⟩ := endSlew_effect (withholdTick s)
    obtain ⟨hoff, hskip, -, -⟩ := TimeUnit.slew_eq.mp (hslew.trans (withholdTick_slew s))
    exact ⟨hm, hskip, hat, hoff, regsKept_of_regs_left hk rfl⟩
  case delayBack =>
    exact delayChange_slews hc hin (by omega) (.inr ⟨by omega, hb⟩)
  case delayStep =>
    obtain ⟨hm, hslew, hst, hevent, hdelta⟩ := step_effect (shifted (startDelay o s) o) (startDelay o s)
      (st := if s.time.offset = 0 then tsLocked else tsSlew) (by split <;> decide)
    obtain ⟨hoff, -, hnow, hchg⟩ := TimeUnit.slew_eq.mp (hslew.trans (startDelay_slew o s))
    exact ⟨_, (exec_delayChange hc hin).trans (congrArg _ (alignBy_of_jumps ((jumps_congr (startDelay_regs o s)).mpr h))),
      hm.trans (congrArg (· + BitVec.ofInt 64 o) (startDelay_mtime o s)), hnow, hchg, hoff, hst, hevent,
      by rw [hdelta, startDelay_mtime]⟩
  case set =>
    obtain ⟨hm, hslew, hfree, hevent, hdelta⟩ := step_effect v (startSet v s) (st := tsFreerun) (by decide)
    obtain ⟨ho, hskip, -, -⟩ := TimeUnit.slew_eq.mp (hslew.trans (startSet_slew v s))
    exact ⟨_, exec_mtimeSet hq hst, hm, ho, hskip, hfree, hevent, by rw [hdelta, hm, startSet_mtime]⟩
  case setState =>
    obtain ⟨hbit, -, hk⟩ := errState_effect 0x60 s
    refine ⟨errState pgTime 0x60 s, ?_, pageErr_mtime .., hbit, hk⟩
    show execMtimeSet v s = _
    simp [execMtimeSet, hq, hf, hh]
  case setStatic =>
    refine ⟨pageErr pgTime Hdr.pageErrStaticWrite 0x60 s, ?_, pageErr_mtime .., fbit_pageErr s _ _ _ rfl (by decide),
      regsKept_pageErr s _ _ _ (by decide)⟩
    show execMtimeSet v s = _
    simp [execMtimeSet, hq, hv]

end Sys2Proof.Machine

/-! PROOFS. The software timers and the event log (R143 to R145, R371, O31). -/

namespace Sys2Proof.Machine

/-! ## PERIODIC and PERIOD (R6, R143) -/

section Timer
variable {k : Nat} {v : Word} {s : State}

theorem timerFields_of_reserved (hp : v.getLsbD 3 = true) (hn : (v.extractLsb' 8 32).toNat < 4000) :
    timerFields k v s = errReserved pgTime (0x108 + 16 * k) s := by
  unfold timerFields
  rw [hp]
  exact if_pos (by simpa using hn)

/-- A legal write takes PERIODIC and PERIOD. -/
theorem timerFields_of_legal (h : v.getLsbD 3 = false ∨ 4000 ≤ (v.extractLsb' 8 32).toNat) : timerFields k v s
    = fset pgTime Tu.timerCtrlPeriod (v.extractLsb' 8 32).toNat (fset pgTime Tu.timerCtrlPeriodic (v.getLsbD 3).toNat s k) k := by
  unfold timerFields
  refine if_neg ?_
  rcases h with h | h
  · rw [h, Bool.false_and]
    decide
  · rw [decide_eq_false (not_lt.mpr h), Bool.and_false]
    decide

variable (hk : k < 4)
include hk

theorem timerFields_legal_effect (h : v.getLsbD 3 = false ∨ 4000 ≤ (v.extractLsb' 8 32).toNat) :
    fget (timerFields k v s) pgTime Tu.timerTimeTarget k = fget s pgTime Tu.timerTimeTarget k
      ∧ fbit (timerFields k v s) pgTime Tu.timerCtrlPeriodic k = v.getLsbD 3
      ∧ fget (timerFields k v s) pgTime Tu.timerCtrlPeriod k = (v.extractLsb' 8 32).toNat
      ∧ RegsKept ([Tu.timerCtrlPeriod, Tu.timerCtrlPeriodic].map (fkey pgTime · k)) s (timerFields k v s) := by
  have hk' : k < 4096 := by omega
  rw [timerFields_of_legal h]
  refine ⟨?_, ?_, ?_, ?_⟩
  · rw [fget_fset_field _ (by decide) hk' hk', fget_fset_field _ (by decide) hk' hk']
  · rw [fbit_fset_field (by decide) hk' hk', fbit_fset_self rfl]
  · rw [fget_fset_self]
    exact Nat.mod_eq_of_lt (v.extractLsb' 8 32).isLt
  · exact regsKept_fset (regsKept_fset (regsKept_refl _ s) (by simp)) (by simp)

end Timer

/-! ## Arming and disarming (R143, R371) -/

section Arm
variable (k : Nat) (s : State)

theorem timerArm_timers : (timerArm k s).time.timers = tput none s.time.timers k (some (fget s pgTime Tu.timerTimeTarget k,
    if fbit s pgTime Tu.timerCtrlPeriodic k then fget s pgTime Tu.timerCtrlPeriod k else 0)) := rfl

theorem timerDisarm_timers : (timerDisarm k s).time.timers = tput none s.time.timers k none := rfl

/-- ARM arms the timer at TARGET, with the period where it is periodic. -/
theorem timerArm_effect : tget none (timerArm k s).time.timers k = some (fget s pgTime Tu.timerTimeTarget k,
      if fbit s pgTime Tu.timerCtrlPeriodic k then fget s pgTime Tu.timerCtrlPeriod k else 0)
    ∧ fbit (timerArm k s) pgTime Tu.timerCtrlArmed k = true
    ∧ RegsKept [fkey pgTime Tu.timerCtrlArmed k] s (timerArm k s) := by
  refine ⟨by rw [timerArm_timers, tget_tput_self], ?_, ?_⟩ <;>
    (unfold timerArm; extract_lets t period u)
  · exact fbit_fset_self (f := Tu.timerCtrlArmed) rfl true u
  · have hu : RegsKept [fkey pgTime Tu.timerCtrlArmed k] s u := regsKept_of_regs (regsKept_refl _ s) rfl
    exact regsKept_of_regs (regsKept_fset (f := Tu.timerCtrlArmed) (v := 1) hu (List.mem_singleton_self _)) rfl

theorem timerDisarm_effect : tget none (timerDisarm k s).time.timers k = none
    ∧ fbit (timerDisarm k s) pgTime Tu.timerCtrlArmed k = false
    ∧ RegsKept [fkey pgTime Tu.timerCtrlArmed k] s (timerDisarm k s) :=
  ⟨by rw [timerDisarm_timers, tget_tput_self], fbit_fset_self (f := Tu.timerCtrlArmed) rfl false s,
    (regsKept_modTime _ s _ _).mpr (regsKept_fset (regsKept_refl _ s) (List.mem_singleton_self _))⟩

end Arm

/-- The fields of the common header stand below every other register of their page. -/
theorem fkey_notMem_pageErrKeys {page i : Nat} {f : Fld} (hoff : 0x40 ≤ f.off) (hi : i < 4096) :
    fkey page f i ∉ pageErrKeys page := by
  intro h
  simp only [pageErrKeys, List.map_cons, List.map_nil, List.mem_cons, List.not_mem_nil, or_false, fkey, Hdr.pageErrStaticWrite,
    Hdr.pageErrReservedEnc, Hdr.pageErrLkWrite, Hdr.pageErrStateWrite, Hdr.pageErrErrOffset, Hdr.irqStatStat] at h
  omega

theorem fkey_notMem_armed {f : Fld} {k : Nat} (h : f.off / 8 * 64 + f.lo ≠ Tu.timerCtrlArmed.off / 8 * 64 + Tu.timerCtrlArmed.lo)
    (hk : k < 4096) : fkey pgTime f 0 ∉ [fkey pgTime Tu.timerCtrlArmed k] := by
  rw [List.mem_singleton]
  exact fkey_ne_field h (by decide) hk

/-! ## Firing (R143 to R145) -/

theorem logFiring_timers (src : Nat) (f : Firing) (s : State) : (logFiring src f s).time.timers = s.time.timers := by
  unfold logFiring
  extract_lets +onlyGivenNames a t
  have ht : t.time.timers = s.time.timers := rfl
  clear_value t
  split
  · exact ht
  · extract_lets +onlyGivenNames u v
    have hu : u.time.timers = t.time.timers := onlyIf_frame (fun x : State => x.time.timers) _ _ t rfl
    have hv : v.time.timers = u.time.timers := onlyIf_frame (fun x : State => x.time.timers) _ _ u rfl
    split <;> exact hv.trans (hu.trans ht)

/-- The timer's event: logged, and its bit in TIME_EVT. -/
def firedTimer (k t period : Nat) (s : State) : State :=
  flagBit pgTime Tu.timeEvtTimer k (logFiring (srcTimer k) (firing s (srcTimer k) t period) s)

/-- The next time of a periodic timer: a whole number of periods later, past MTIME. -/
def nextTime (t period : Nat) (s : State) : Nat := t + (s.mtime.toNat - t) / period * period + period

/-- A fired timer of a period waits for its next time; a one-shot one is disarmed. -/
def afterFiring (k t period : Nat) (s : State) : State :=
  if period = 0 then timerDisarm k (firedTimer k t period s)
  else modTime (fun x => { x with timers := tput none x.timers k (some (nextTime t period s, period)) }) (firedTimer k t period s)

section Fire
variable {k t period : Nat} (s : State)

theorem firedTimer_effect (hk : k < 4) : (fget (firedTimer k t period s) pgTime Tu.timeEvtTimer).testBit k = true
    ∧ RegsKept (firingKeys ++ [fkey pgTime Tu.timeEvtTimer 0]) s (firedTimer k t period s) := by
  unfold firedTimer flagBit
  refine ⟨?_, regsKept_fset (regsKept_mono (regsKept_logFiring ..) fun _ h => List.mem_append_left _ h) (by simp)⟩
  rw [fget_fset_self, Nat.testBit_mod_two_pow, Nat.testBit_or, Nat.testBit_two_pow_self, Bool.or_true, Bool.and_true]
  exact decide_eq_true hk

end Fire

theorem exec_timerFire_of_due {k : Fin 4} {t period : Nat} {s : State} (h : tget none s.time.timers k.val = some (t, period))
    (ht : t ≤ s.mtime.toNat) (hb : dueBefore s (srcTimer k.val) = false) :
    exec (.timerFire k) s = .next (afterFiring k.val t period s) := by
  show execTimerFire k s = _
  unfold execTimerFire afterFiring
  simp only [h]
  rw [if_neg (by rw [hb]; exact not_or.mpr ⟨not_lt.mpr ht, Bool.false_ne_true⟩)]
  by_cases hp : period = 0
  · rw [if_pos hp, if_pos hp]; rfl
  · have hnext : (firing s (srcTimer k.val) t period).target + period = nextTime t period s := by
      simp only [firing, nextTime, if_neg hp]
    rw [if_neg hp, if_neg hp, ← hnext]
    rfl

/-- Settles O31: a write of a timer by its fields, then ARM or DISARM; a firing by its guard and what follows the event. -/
theorem timersFire : Obligations.TimersFire := by
  unfold Obligations.TimersFire
  intro k s
  have hk := k.isLt
  refine ⟨fun v h => ⟨timerArm k.val (timerFields k.val v s), rfl, ?arm⟩,
    fun v hp hn => ⟨timerArm k.val (timerFields k.val v s), rfl, ?reserved⟩,
    fun v => ⟨timerDisarm k.val (timerFields k.val v s), rfl, ?disarm⟩,
    fun v => ⟨timerDisarm k.val (timerFields k.val v s), rfl, rfl⟩, fun t period h hw => ?early, fun h => ?unarmed,
    fun t h ht hb => ?oneShot, fun t period h hp ht hb => ?periodic,
    ⟨modTime (fun t => { t with log := t.log.tail }) s, rfl, rfl, rfl, rfl⟩⟩
  case arm =>
    obtain ⟨htarget, hperiodic, hperiod, hfields⟩ := timerFields_legal_effect (s := s) hk h
    obtain ⟨htimers, harmed, hkept⟩ := timerArm_effect k.val (timerFields k.val v s)
    rw [htarget, hperiodic, hperiod] at htimers
    exact ⟨htimers, harmed, regsKept_trans (regsKept_mono hfields (by simp)) (regsKept_mono hkept (by simp))⟩
  case reserved =>
    obtain ⟨htimers, -, hkept⟩ := timerArm_effect k.val (timerFields k.val v s)
    rw [timerFields_of_reserved hp hn] at htimers hkept ⊢
    obtain ⟨hbit, -, herr⟩ := errReserved_effect (0x108 + 16 * k.val) s
    have keep : ∀ f : Fld, 0x40 ≤ f.off →
        fget (errReserved pgTime (0x108 + 16 * k.val) s) pgTime f k.val = fget s pgTime f k.val :=
      fun f hf => herr.kept _ _ _ (fkey_notMem_pageErrKeys hf (by omega))
    rw [keep _ (by decide), keep _ (by decide), fbit_of_fget (keep _ (by decide))] at htimers
    exact ⟨(fbit_of_kept hkept (fkey_notMem_armed (by decide) (by omega))).trans hbit, htimers,
      regsKept_trans (regsKept_mono herr fun _ h => List.mem_cons_of_mem _ h) (regsKept_mono hkept (by simp))⟩
  case disarm =>
    obtain ⟨htimers, harmed, -⟩ := timerDisarm_effect k.val (timerFields k.val v s)
    exact ⟨htimers, harmed⟩
  case early =>
    show execTimerFire k s = _
    unfold execTimerFire
    simp only [h]
    exact if_pos hw
  case unarmed =>
    show execTimerFire k s = _
    unfold execTimerFire
    simp only [h]
  case oneShot =>
    obtain ⟨hbit, hfired⟩ := firedTimer_effect (t := t) (period := 0) s hk
    obtain ⟨htimers, harmed, hkept⟩ := timerDisarm_effect k.val (firedTimer k.val t 0 s)
    refine ⟨_, (exec_timerFire_of_due h ht hb).trans (congrArg _ (if_pos rfl)), htimers, harmed, ?_,
      regsKept_trans (regsKept_mono hfired ?_) (regsKept_mono hkept (by simp))⟩
    · rw [hkept.kept _ _ _ (fkey_notMem_armed (by decide) (by omega))]
      exact hbit
    · simp +contextual [or_imp]
  case periodic =>
    obtain ⟨hbit, hfired⟩ := firedTimer_effect (t := t) (period := period) s hk
    refine ⟨_, exec_timerFire_of_due h ht hb, ?_⟩
    unfold afterFiring
    rw [if_neg hp, regsKept_modTime]
    exact ⟨by rw [modTime_time, tget_tput_self]; rfl, hbit, hfired⟩

end Sys2Proof.Machine

/-! PROOFS. The service ports (R19, R64, O32): what the error log takes when a unit refuses a request as at a tied-off port. -/

namespace Sys2Proof.Machine

/-- A log that is not full takes a record. -/
theorem errNi_errLog_length {s : State} (hs : s.errLog.length < 64) (kind p : Nat) (h : Header) :
    (errNi kind p h s).errLog.length = s.errLog.length + 1 := by
  unfold errNi errQ0 errRecord
  rw [if_neg (Nat.not_le.mpr hs), flag_eq, fset_errLog]
  exact List.length_append

/-- A refused request whose answer is malformed leaves two records: TIED_OFF for the request (R19), and NI_REFUSED for the
answer, which is not sent (R64). -/
theorem portTiedOff_errLog_length {h : Header} (ha : isAnswered h = true) (hm : malformedNi (builtAnswer h stDecodeErr) = true)
    {s : State} (hs : s.errLog.length + 1 < 64) (p : Nat) :
    (portTiedOff p h s).errLog.length = s.errLog.length + 2 := by
  have hfirst := errNi_errLog_length (Nat.lt_of_succ_lt hs) eTiedOff p h
  unfold portTiedOff pushAnswer
  rw [if_pos ha, if_pos hm]
  show (errNi eNiRefused p (builtAnswer h stDecodeErr) _).errLog.length = _
  rw [errNi_errLog_length, satAdd_eq, fset_errLog, hfirst]
  rw [satAdd_eq, fset_errLog, hfirst]
  exact hs

/-- A REQ whose ADDR is no multiple of 64: condition 4 of R63, which no router checks (R65). -/
def unalignedReq : Header := { (default : Header) with addr := 8 }

/-- Refutes O32: the last clause says that a refused packet leaves one record. At the TIME port after reset the answer to
`unalignedReq`, whose ADDR it copies, is malformed, and so is recorded as NI_REFUSED beside the TIED_OFF of the request. -/
theorem not_servicePorts : ¬ Obligations.ServicePorts := by
  unfold Obligations.ServicePorts
  intro h
  obtain ⟨-, -, -, -, -, -, -, -, htied⟩ := h 0 State.reset
  obtain ⟨-, -, hone⟩ := htied ⟨portTime, by decide⟩ unalignedReq _ rfl
  have htwo : (portTiedOff portTime unalignedReq State.reset).errLog.length = 2 :=
    portTiedOff_errLog_length (by decide) (by decide) (by decide) portTime
  exact absurd (htwo.symm.trans (hone (by decide))) (by decide)

end Sys2Proof.Machine

/-! PROOFS. Flow queues: the lists of queues that an operation of a whole window visits, what it does to each, and the token
buckets (R181 to R185, R192, R318, O33). -/

namespace Sys2Proof.Machine

/-! ## Lists of queues -/

theorem mem_unionNat {a b : List Nat} {x : Nat} : x ∈ unionNat a b ↔ x ∈ a ∨ x ∈ b := by
  induction b generalizing a with
  | nil => exact (or_iff_left List.not_mem_nil).symm
  | cons y b ih =>
    refine (ih (a := if a.contains y then a else a ++ [y])).trans ?_
    split
    case isTrue h =>
      have hy : x = y → x ∈ a := fun e => e ▸ List.contains_iff_mem.mp h
      rw [List.mem_cons]
      tauto
    case isFalse => rw [List.mem_append, List.mem_singleton, List.mem_cons, or_assoc]

theorem nodup_unionNat {a : List Nat} (h : a.Nodup) (b : List Nat) : (unionNat a b).Nodup := by
  induction b generalizing a with
  | nil => exact h
  | cons y b ih =>
    refine ih (a := if a.contains y then a else a ++ [y]) ?_
    split
    case isTrue => exact h
    case isFalse hy =>
      have hm : y ∉ a := fun hm => hy (List.contains_iff_mem.mpr hm)
      exact h.append (List.nodup_singleton y) (List.disjoint_singleton.mpr hm)

theorem lt_of_mem_listedIdx {s : State} {w q : Nat} {f : Fld} (h : q ∈ listedIdx s w f) : q < 4096 := by
  obtain ⟨e, he, rfl⟩ := List.mem_map.mp h
  have hb := (Bool.and_eq_true _ _).mp (List.mem_filter.mp he).2
  have hlt := of_decide_eq_true hb.2
  omega

/-- A queue that a page does not list for a field reads the field's reset value. -/
theorem fget_of_notMem_listedIdx {s : State} {w q : Nat} {f : Fld} (hq : q < 4096) (h : q ∉ listedIdx s w f) :
    fget s w f q = resetOf w f q % 2 ^ f.w := by
  have hk : fkey w f q = fkey w f 0 + q := by unfold fkey; rw [Nat.add_zero]
  have hn : fkey w f q ∉ s.regs.map (·.1) := by
    intro hm
    obtain ⟨e, he, hek⟩ := List.mem_map.mp hm
    refine h (List.mem_map.mpr ⟨e, List.mem_filter.mpr ⟨he, ?_⟩, ?_⟩)
    · rw [hek, hk, Bool.and_eq_true, decide_eq_true_eq, decide_eq_true_eq]
      omega
    · rw [hek, hk, Nat.add_sub_cancel_left]
  unfold fget tget
  rw [tfind_eq_none hn, Option.getD_none]

/-! ## Changes of every queue of a list -/

section ForEach
variable {α β : Type} {l : List α} {f : α → State → State} {s : State}

theorem forEach_frame_mem (g : State → β) (h : ∀ a ∈ l, ∀ t, g (f a t) = g t) : g (forEach l f s) = g s := by
  induction l generalizing s with
  | nil => rfl
  | cons a l ih => exact (ih fun b hb => h b (List.mem_cons_of_mem _ hb)).trans (h a List.mem_cons_self s)

theorem forEach_keeps_prop {P : State → Prop} (hs : P s) (h : ∀ a ∈ l, ∀ t, P t → P (f a t)) : P (forEach l f s) :=
  List.foldlRecOn l _ hs fun t ht a ha => h a ha t ht

/-- A part that one element of a list without repetitions changes, and no other element of it, is changed once; `I` holds all
along. -/
theorem forEach_at (I : State → Prop) (g : State → β) (φ : β → β) {a : α} (hl : l.Nodup) (ha : a ∈ l) (hs : I s)
    (hI : ∀ b ∈ l, ∀ t, I t → I (f b t)) (hit : ∀ t, I t → g (f a t) = φ (g t))
    (keep : ∀ b ∈ l, b ≠ a → ∀ t, g (f b t) = g t) : g (forEach l f s) = φ (g s) := by
  induction l generalizing s with
  | nil => cases ha
  | cons b l ih =>
    rw [List.nodup_cons] at hl
    obtain ⟨hb, hl⟩ := hl
    have tail : ∀ c ∈ l, c ≠ a → ∀ t, g (f c t) = g t := fun c hc => keep c (List.mem_cons_of_mem _ hc)
    show g (forEach l f (f b s)) = _
    rcases List.mem_cons.mp ha with rfl | ha
    · rw [← hit s hs]
      exact forEach_frame_mem g fun c hc => tail c hc fun e => hb (e ▸ hc)
    · rw [ih hl ha (hI b List.mem_cons_self s hs) (fun c hc => hI c (List.mem_cons_of_mem _ hc)) tail,
        keep b List.mem_cons_self fun e => hb (e ▸ ha)]

/-- What one element brings about, and every other leaves standing, holds at the end; `I` holds all along. -/
theorem forEach_brings (I P : State → Prop) {a : α} (ha : a ∈ l) (hI : ∀ b t, I t → I (f b t)) (hs : I s)
    (hit : ∀ t, I t → P (f a t)) (keep : ∀ b ∈ l, b ≠ a → ∀ t, P t → P (f b t)) : P (forEach l f s) := by
  have hstep : ∀ b ∈ l, ∀ t, I t → P t → P (f b t) := by
    intro b hb t ht hp
    by_cases hba : b = a
    · exact hba ▸ hit t ht
    · exact keep b hb hba t hp
  obtain ⟨before, after, rfl⟩ := List.append_of_mem ha
  have hbefore : I (forEach before f s) := forEach_keeps_prop hs fun b _ => hI b
  have hafter : ∀ b ∈ after, b ∈ before ++ a :: after := fun b hb => List.mem_append_right _ (List.mem_cons_of_mem _ hb)
  have hall : forEach (before ++ a :: after) f s = forEach after f (f a (forEach before f s)) := List.foldl_append.trans rfl
  obtain ⟨-, hend⟩ : I (forEach after f (f a (forEach before f s))) ∧ P (forEach after f (f a (forEach before f s))) :=
    forEach_keeps_prop (P := fun t => I t ∧ P t) ⟨hI a _ hbefore, hit _ hbefore⟩
      fun b hb t ⟨ht, hp⟩ => ⟨hI b t ht, hstep b (hafter b hb) t ht hp⟩
  rw [hall]
  exact hend

end ForEach

/-! ## Window pages -/

/-- The fields of two places do not share a key. -/
theorem fkey_ne_place {page page' i i' : Nat} {f f' : Fld}
    (h : page ≠ page' ∨ f.off / 8 * 64 + f.lo ≠ f'.off / 8 * 64 + f'.lo ∨ i ≠ i') (hf : f.off / 8 * 64 + f.lo < 32768)
    (hf' : f'.off / 8 * 64 + f'.lo < 32768) (hi : i < 4096) (hi' : i' < 4096) : fkey page f i ≠ fkey page' f' i' := by
  unfold fkey
  omega

theorem kindOf_pgFqw : ∀ h : HostId, kindOf (pgFqw h.val) = some .fqw := by decide
theorem unitOf_pgFqw : ∀ h : HostId, unitOf (pgFqw h.val) = h.val := by decide
theorem ordinal_hostPort : ∀ h : HostId, ordinal (hostPort h.val) = h.val := by decide

theorem hostPort_lt (h : HostId) : hostPort h.val < 4096 := by
  have := h.isLt
  unfold hostPort
  split <;> omega

theorem pgFqw_ne {h k : Nat} (hk : k ≠ h) : pgFqw k ≠ pgFqw h := by
  unfold pgFqw
  omega

theorem resetOf_pgFqw (h : HostId) (f : Fld) (q : Nat) : resetOf (pgFqw h.val) f q = f.reset := by
  unfold resetOf
  rw [kindOf_pgFqw]

theorem fget_lt (s : State) (page : Nat) (f : Fld) (i : Nat) : fget s page f i < 2 ^ f.w := Nat.mod_lt _ (Nat.two_pow_pos _)

theorem selQ_lt (s : State) (w : Nat) : selQ s w < 4096 := fget_lt s w Fqw.fqSelIndex 0

/-! ## TOKENS -/

section Tokens
variable (s : State) (w q : Nat)

theorem tokens_of_fget {t : State} (h : fget t w Fqw.fqTokensTokens q = fget s w Fqw.fqTokensTokens q) :
    tokens t w q = tokens s w q := by
  unfold tokens
  rw [h]

theorem tokens_range : -2 ^ 31 ≤ tokens s w q ∧ tokens s w q < 2 ^ 31 := by
  have hlt : fget s w Fqw.fqTokensTokens q < 2 ^ 32 := fget_lt ..
  unfold tokens
  extract_lets t
  split <;> omega

/-- TOKENS reads the value it was set to, as far as 32 bits hold it. -/
theorem tokens_setTokens {n : Int} (hlo : -2 ^ 31 ≤ n) (hhi : n < 2 ^ 31) : tokens (setTokens w q n s) w q = n := by
  have hw : fget (setTokens w q n s) w Fqw.fqTokensTokens q = (n % 2 ^ 32).toNat % 2 ^ 32 := fget_fset_self ..
  unfold tokens
  rw [hw]
  dsimp only
  split <;> omega

theorem setTokens_eq (n : Int) : setTokens w q n s = fset w Fqw.fqTokensTokens (n % 2 ^ 32).toNat s q := rfl

end Tokens

/-! ## Buckets (R181) -/

/-- The bucket of queue `q` of a window: TOKENS and FRAC. -/
def bucketOf (w q : Nat) (s : State) : Int × Nat := (tokens s w q, fget s w Fqw.fqTokensFrac q)

/-- A bucket after a refill tick at the rate and the depth that the queue's shaper works with (R181). -/
def refilled (w q : Nat) (s : State) (b : Int × Nat) : Int × Nat :=
  let x := fget (shaperRegs s w) w Fqw.fqRateRate q * 64 + b.2
  let depth := (fget (shaperRegs s w) w Fqw.fqDepthDepth q : Int)
  let n := min (b.1 + (x / 1000 : Nat)) depth
  (n, if n = depth then 0 else x % 1000)

/-- A full bucket stays as it is. -/
theorem refilled_of_full (w q : Nat) (s : State) : refilled w q s (fget (shaperRegs s w) w Fqw.fqDepthDepth q, 0)
    = (↑(fget (shaperRegs s w) w Fqw.fqDepthDepth q), 0) := by
  unfold refilled
  extract_lets x depth n
  have hn : n = depth := by omega
  rw [if_pos hn, hn]

/-- A queue's shaper works with the same rate and depth in both. -/
def ShaperKept (w q : Nat) (s t : State) : Prop :=
  fget (shaperRegs t w) w Fqw.fqRateRate q = fget (shaperRegs s w) w Fqw.fqRateRate q
    ∧ fget (shaperRegs t w) w Fqw.fqDepthDepth q = fget (shaperRegs s w) w Fqw.fqDepthDepth q

theorem refilled_of_shaperKept {w q : Nat} {s t : State} (h : ShaperKept w q s t) : refilled w q t = refilled w q s := by
  obtain ⟨hrate, hdepth⟩ := h
  funext b
  unfold refilled
  rw [hrate, hdepth]

/-- The registers of a shaper read as before, but for a field that is written. -/
theorem fget_shaperRegs_fset {s : State} {page w v i q : Nat} {f g : Fld} (h : fkey page f i ≠ fkey w g q) (w' : Nat) :
    fget (shaperRegs (fset page f v s i) w') w g q = fget (shaperRegs s w') w g q := by
  unfold shaperRegs workingRegs
  rw [ni_fset]
  split
  · rfl
  · exact fget_fset_ne s h

section Refill
variable {w q w' q' : Nat} {s : State} (hq : q < 4096)
include hq

/-- A refill writes at no place but those of FRAC and TOKENS of its queue. -/
theorem refill_key_ne (hq' : q' < 4096) {g : Fld} (hg : g.off / 8 * 64 + g.lo < 32768)
    (h : w' ≠ w ∨ q' ≠ q ∨ g.off / 8 * 64 + g.lo ≠ 23 * 64 ∧ g.off / 8 * 64 + g.lo ≠ 23 * 64 + 32) :
    fkey w' Fqw.fqTokensFrac q' ≠ fkey w g q ∧ fkey w' Fqw.fqTokensTokens q' ≠ fkey w g q := by
  have hfrac : Fqw.fqTokensFrac.off / 8 * 64 + Fqw.fqTokensFrac.lo = 23 * 64 + 32 := rfl
  have htokens : Fqw.fqTokensTokens.off / 8 * 64 + Fqw.fqTokensTokens.lo = 23 * 64 := rfl
  constructor <;> exact fkey_ne_place (by omega) (by decide) hg hq' hq

theorem fget_refill_ne (hq' : q' < 4096) {g : Fld} (hg : g.off / 8 * 64 + g.lo < 32768)
    (h : w' ≠ w ∨ q' ≠ q ∨ g.off / 8 * 64 + g.lo ≠ 23 * 64 ∧ g.off / 8 * 64 + g.lo ≠ 23 * 64 + 32) :
    fget (refill w' q' s) w g q = fget s w g q := by
  obtain ⟨hfrac, htokens⟩ := refill_key_ne hq hq' hg h
  exact (fget_fset_ne _ hfrac).trans (fget_fset_ne _ htokens)

/-- A refill leaves what every shaper works with. -/
theorem shaperKept_refill (hq' : q' < 4096) {t : State} (h : ShaperKept w q s t) : ShaperKept w q s (refill w' q' t) := by
  have keep : ∀ g ∈ [Fqw.fqRateRate, Fqw.fqDepthDepth],
      fget (shaperRegs (refill w' q' t) w) w g q = fget (shaperRegs t w) w g q := by
    intro g hg
    have hplace : g.off / 8 * 64 + g.lo < 32768
        ∧ (g.off / 8 * 64 + g.lo ≠ 23 * 64 ∧ g.off / 8 * 64 + g.lo ≠ 23 * 64 + 32) := by
      revert g
      decide
    obtain ⟨hlt, hne⟩ := hplace
    obtain ⟨hfrac, htokens⟩ := refill_key_ne (w := w) (w' := w') hq hq' hlt (.inr (.inr hne))
    exact (fget_shaperRegs_fset hfrac w).trans (fget_shaperRegs_fset htokens w)
  obtain ⟨hrate, hdepth⟩ := h
  exact ⟨(keep _ (by simp)).trans hrate, (keep _ (by simp)).trans hdepth⟩

/-- The refill of one queue leaves the bucket of every other. -/
theorem bucketOf_refill_ne (hq' : q' < 4096) (h : w' ≠ w ∨ q' ≠ q) : bucketOf w q (refill w' q' s) = bucketOf w q s := by
  unfold bucketOf
  rw [tokens_of_fget s w q (fget_refill_ne hq hq' (by decide) (h.imp_right .inl)),
    fget_refill_ne hq hq' (by decide) (h.imp_right .inl)]

theorem bucketOf_refill (s : State) : bucketOf w q (refill w q s) = refilled w q s (bucketOf w q s) := by
  have hrate : fget (shaperRegs s w) w Fqw.fqRateRate q < 2 ^ 24 := fget_lt ..
  have hdepth : fget (shaperRegs s w) w Fqw.fqDepthDepth q < 2 ^ 20 := fget_lt ..
  have htokens := tokens_range s w q
  unfold refill
  extract_lets x depth n
  have hlo : -2 ^ 31 ≤ n := by omega
  have hhi : n < 2 ^ 31 := by omega
  have hfrac : (if n = depth then 0 else x % 1000) < 2 ^ 10 := by
    split
    · decide
    · exact (Nat.mod_lt x (by decide)).trans (by decide)
  unfold bucketOf
  rw [setTokens_eq, tokens_of_fget _ w q (fget_fset_field _ (by decide) hq hq), ← setTokens_eq,
    tokens_setTokens s w q hlo hhi, fget_fset_self]
  exact congrArg (Prod.mk n) (Nat.mod_eq_of_lt hfrac)

end Refill

/-! ## The refill tick (R181) -/

/-- A refill tick at one window. -/
def refillWindow (w : Nat) (s : State) : State := forEach (unfull s w) (refill w) s

/-- The hosts whose shapers run. -/
def runningHosts (s : State) : List Nat := (List.range 16).filter (hostOn s)

theorem lt_of_mem_unfull {s : State} {w q : Nat} (h : q ∈ unfull s w) : q < 4096 := by
  simp only [unfull, mem_unionNat, List.not_mem_nil, false_or] at h
  rcases h with (h | h) | h <;> exact lt_of_mem_listedIdx h

/-- A queue that a refill tick passes over has a full bucket. -/
theorem bucketOf_of_notMem_unfull {h : HostId} {q : Nat} {s : State} (hq : q < 4096) (hn : q ∉ unfull s (pgFqw h.val)) :
    bucketOf (pgFqw h.val) q s = (↑(fget (shaperRegs s (pgFqw h.val)) (pgFqw h.val) Fqw.fqDepthDepth q), 0) := by
  simp only [unfull, mem_unionNat, List.not_mem_nil, false_or, not_or] at hn
  obtain ⟨⟨htokens, hfrac⟩, hdepth⟩ := hn
  unfold bucketOf tokens
  rw [fget_of_notMem_listedIdx hq htokens, fget_of_notMem_listedIdx hq hfrac, fget_of_notMem_listedIdx hq hdepth]
  simp only [resetOf_pgFqw]
  decide

section Window
variable {q : Nat} (hq : q < 4096)
include hq

theorem shaperKept_refillWindow {w : Nat} {s t : State} (h : ShaperKept w q s t) (w' : Nat) :
    ShaperKept w q s (refillWindow w' t) :=
  forEach_keeps_prop h fun _ hm _ hu => shaperKept_refill hq (lt_of_mem_unfull hm) hu

theorem bucketOf_refillWindow (h : HostId) (s : State) :
    bucketOf (pgFqw h.val) q (refillWindow (pgFqw h.val) s) = refilled (pgFqw h.val) q s (bucketOf (pgFqw h.val) q s) := by
  have keep : ∀ q' ∈ unfull s (pgFqw h.val), q' ≠ q →
      ∀ t, bucketOf (pgFqw h.val) q (refill (pgFqw h.val) q' t) = bucketOf (pgFqw h.val) q t :=
    fun q' hm hne t => bucketOf_refill_ne hq (lt_of_mem_unfull hm) (.inr hne)
  by_cases hm : q ∈ unfull s (pgFqw h.val)
  · have hnodup : (unfull s (pgFqw h.val)).Nodup :=
      nodup_unionNat (nodup_unionNat (nodup_unionNat List.nodup_nil _) _) _
    refine forEach_at (ShaperKept (pgFqw h.val) q s) _ _ hnodup hm ⟨rfl, rfl⟩
      (fun q' hm' t ht => shaperKept_refill hq (lt_of_mem_unfull hm') ht) (fun t ht => ?_) keep
    rw [← refilled_of_shaperKept ht]
    exact bucketOf_refill hq t
  · rw [bucketOf_of_notMem_unfull hq hm, refilled_of_full, ← bucketOf_of_notMem_unfull hq hm]
    exact forEach_frame_mem _ fun q' hm' => keep q' hm' fun e => hm (e ▸ hm')

end Window

theorem refillTick_of_due {s : State} (h : refillDue s = true) : refillTick s
    = { forEach (runningHosts s) (fun k => refillWindow (pgFqw k)) s with refillAt := s.mtime.toNat / 256 } := by
  have hm : (forEach (runningHosts s) (fun k => refillWindow (pgFqw k)) s).mtime = s.mtime :=
    (forEach_same (F := (· == .mtime)) (Same.refl _ s) fun _ _ h =>
      forEach_same h fun _ _ h => refill_same h rfl).same .mtime rfl
  unfold refillTick
  rw [h, ← hm]
  rfl

theorem refillTick_of_not_due {s : State} (h : refillDue s = false) : refillTick s = s := by
  unfold refillTick
  rw [h]
  rfl

/-- The bucket of a host whose NI is on, after a refill tick that is due. -/
theorem bucketOf_refillTick {h : HostId} {q : Nat} {s : State} (hq : q < 4096) (hd : refillDue s = true)
    (ho : hostOn s h.val = true) :
    bucketOf (pgFqw h.val) q (refillTick s) = refilled (pgFqw h.val) q s (bucketOf (pgFqw h.val) q s) := by
  have hm : h.val ∈ runningHosts s := List.mem_filter.mpr ⟨List.mem_range.mpr h.isLt, ho⟩
  have keep : ∀ k ∈ runningHosts s, k ≠ h.val →
      ∀ t, bucketOf (pgFqw h.val) q (refillWindow (pgFqw k) t) = bucketOf (pgFqw h.val) q t :=
    fun k _ hk t => forEach_frame_mem _ fun q' hm' u => bucketOf_refill_ne hq (lt_of_mem_unfull hm') (.inl (pgFqw_ne hk))
  have hit : ∀ t, ShaperKept (pgFqw h.val) q s t → bucketOf (pgFqw h.val) q (refillWindow (pgFqw h.val) t)
      = refilled (pgFqw h.val) q s (bucketOf (pgFqw h.val) q t) := by
    intro t ht
    rw [← refilled_of_shaperKept ht]
    exact bucketOf_refillWindow hq h t
  rw [refillTick_of_due hd]
  exact forEach_at (ShaperKept (pgFqw h.val) q s) (bucketOf (pgFqw h.val) q) _ (List.nodup_range.filter _) hm ⟨rfl, rfl⟩
    (fun k _ _ ht => shaperKept_refillWindow hq ht (pgFqw k)) hit keep

theorem refillTick_same_regs (s : State) : Same (allBut [.regs, .refillAt]) s (refillTick s) :=
  refillTick_same (Same.refl _ s) rfl rfl

theorem refillTick_nis (s : State) : (refillTick s).nis = s.nis := (refillTick_same_regs s).same .nis rfl
theorem refillTick_mtime (s : State) : (refillTick s).mtime = s.mtime := (refillTick_same_regs s).same .mtime rfl

theorem refillTick_refillAt {s : State} (h : refillDue s = true) : (refillTick s).refillAt = s.mtime.toNat / 256 := by
  rw [refillTick_of_due h]

theorem refillDue_of_ne {s : State} (h : s.mtime.toNat / 256 ≠ s.refillAt) : refillDue s = true := bne_iff_ne.mpr h

theorem refillDue_of_eq {s : State} (h : s.mtime.toNat / 256 = s.refillAt) : refillDue s = false := by
  unfold refillDue
  rw [h, bne_self_eq_false]

/-- A refill tick runs once in a period of MTIME [63:8]. -/
theorem refillTick_refillTick {s : State} : refillTick (refillTick s) = refillTick s := by
  refine refillTick_of_not_due (refillDue_of_eq ?_)
  rw [refillTick_mtime]
  by_cases hd : s.mtime.toNat / 256 = s.refillAt
  · rw [refillTick_of_not_due (refillDue_of_eq hd), hd]
  · rw [refillTick_refillAt (refillDue_of_ne hd)]

/-- A refill tick changes TOKENS and FRAC alone. -/
theorem fget_refillTick {f : Fld} (ht : f.off / 8 * 64 + f.lo ≠ 23 * 64) (hf : f.off / 8 * 64 + f.lo ≠ 23 * 64 + 32)
    (hs : f.off / 8 * 64 + f.lo < 32768) {i : Nat} (hi : i < 4096) (s : State) (page : Nat) :
    fget (refillTick s) page f i = fget s page f i := by
  cases hd : refillDue s
  · rw [refillTick_of_not_due hd]
  · rw [refillTick_of_due hd]
    exact forEach_frame_mem (fun t => fget t page f i) fun k _ t =>
      forEach_frame_mem (fun t => fget t page f i) fun _ hm _ =>
        fget_refill_ne hi (lt_of_mem_unfull hm) hs (.inr (.inr ⟨ht, hf⟩))

theorem hostOn_of_nstate {s t : State} {h : Nat} (e : nstate t (hostPort h) = nstate s (hostPort h)) :
    hostOn t h = hostOn s h := by
  unfold hostOn niOn
  rw [e]

theorem shaperOn_of {s t : State} {h : Nat} (e : nstate t (hostPort h) = nstate s (hostPort h)) (hn : t.nis = s.nis) :
    shaperOn t h = shaperOn s h := by
  unfold shaperOn ni
  rw [hostOn_of_nstate e, hn]

theorem shaperOn_refillTick (h : HostId) (s : State) : shaperOn (refillTick s) h.val = shaperOn s h.val :=
  shaperOn_of (fget_refillTick (by decide) (by decide) (by decide) (hostPort_lt h) s pgPower) (refillTick_nis s)

theorem selQ_refillTick (s : State) (w : Nat) : selQ (refillTick s) w = selQ s w :=
  fget_refillTick (by decide) (by decide) (by decide) (by decide) s w

end Sys2Proof.Machine

/-! PROOFS. Writes to a shaper (R183 to R185, R192, R318, O33): what waits for the end of a cycle, the reset of a shaper, and the
writes of FQ_RATE, FQ_DEPTH and FQ_CMD.RELOAD. -/

namespace Sys2Proof.Machine

/-! ## Before the admission test and after it (R185) -/

section BeforeTest
variable {h off : Nat} {v : Word} {act : State → State} {s : State}

/-- A write that follows the admission test of its cycle waits for the cycle's end. -/
theorem beforeTest_of_admitted (ha : (hostOn s h && (ni s (hostPort h)).admitted) = true) :
    (beforeTest h off v act s).regs = s.regs
      ∧ (∀ q, q ≠ hostPort h → ni (beforeTest h off v act s) q = ni s q)
      ∧ (ni (beforeTest h off v act s) (hostPort h)).lateWrites
        = (ni s (hostPort h)).lateWrites ++ [(selQ s (pgFqw h), off, v)] := by
  unfold beforeTest
  rw [if_pos ha]
  exact ⟨rfl, fun q hq => by rw [ni_modNi, if_neg (Ne.symm hq)], by rw [ni_modNi_self]⟩

/-- Any other acts at once, after a refill tick that is due. -/
theorem beforeTest_of_not_admitted (ha : (hostOn s h && (ni s (hostPort h)).admitted) = false) :
    beforeTest h off v act s = act (refillTick s) := by
  unfold beforeTest
  rw [ha]
  rfl

end BeforeTest

/-- A field at a place apart from those listed reads as before. -/
theorem fget_of_regsKept {w i : Nat} {f : Fld} {l : List (Fld × Nat)} {s t : State}
    (h : RegsKept (l.map fun e => fkey w e.1 e.2) s t) (hi : i < 4096)
    (hl : ∀ e ∈ l, e.1.off / 8 * 64 + e.1.lo ≠ f.off / 8 * 64 + f.lo ∧ e.2 < 4096) : fget t w f i = fget s w f i := by
  refine h.kept _ _ _ fun hm => ?_
  obtain ⟨e, he, hk⟩ := List.mem_map.mp hm
  obtain ⟨hne, hlt⟩ := hl e he
  exact fkey_ne_field hne hlt hi hk

/-! ## The reset of a shaper (R184) -/

/-- FRAC clears, and a debt is forgiven. -/
def forgiven (w q : Nat) (s : State) : State :=
  onlyIf (tokens s w q < 0) (fun t => flag w Fqw.fqwEvtDebtForgiven (satAdd w Fqw.fqStatDebtForgiven 1 t q))
    (fset w Fqw.fqTokensFrac 0 s q)

section ResetShaper
variable {w q : Nat} {s : State} (hq : q < 4096)
include hq

theorem forgiven_effect : fget (forgiven w q s) w Fqw.fqTokensFrac q = 0
    ∧ fget (forgiven w q s) w Fqw.fqDepthDepth q = fget s w Fqw.fqDepthDepth q
    ∧ (tokens s w q < 0 → fbit (forgiven w q s) w Fqw.fqwEvtDebtForgiven = true
      ∧ fget (forgiven w q s) w Fqw.fqStatDebtForgiven q
        = min (fget s w Fqw.fqStatDebtForgiven q + 1) (2 ^ Fqw.fqStatDebtForgiven.w - 1))
    ∧ (0 ≤ tokens s w q → RegsKept [fkey w Fqw.fqTokensFrac q] s (forgiven w q s))
    ∧ RegsKept ([fkey w Fqw.fqTokensFrac q, fkey w Fqw.fqwEvtDebtForgiven 0, fkey w Fqw.fqStatDebtForgiven q])
      s (forgiven w q s) := by
  have hfrac : RegsKept [fkey w Fqw.fqTokensFrac q] s (fset w Fqw.fqTokensFrac 0 s q) :=
    regsKept_fset (regsKept_refl _ s) (List.mem_singleton_self _)
  unfold forgiven
  cases hd : decide (tokens s w q < 0)
  case false =>
    have hge : ¬ tokens s w q < 0 := of_decide_eq_false hd
    exact ⟨fget_fset_self .., fget_fset_field s (by decide) hq hq, fun hlt => absurd hlt hge, fun _ => hfrac,
      regsKept_mono hfrac (by simp)⟩
  case true =>
    have hlt : tokens s w q < 0 := of_decide_eq_true hd
    rw [onlyIf_true, flag_eq]
    refine ⟨?_, ?_, fun _ => ⟨?_, ?_⟩, fun hge => absurd hlt (not_lt.mpr hge), ?_⟩
    · rw [fget_fset_field _ (by decide) (by decide) hq, satAdd_eq, fget_fset_field _ (by decide) hq hq, fget_fset_self,
        Nat.zero_mod]
    · rw [fget_fset_field _ (by decide) (by decide) hq, satAdd_eq, fget_fset_field _ (by decide) hq hq,
        fget_fset_field s (by decide) hq hq]
    · exact fbit_flag_self _ rfl
    · rw [fget_fset_field _ (by decide) (by decide) hq, fget_satAdd_self, fget_fset_field s (by decide) hq hq]
    · exact regsKept_fset (regsKept_fset (regsKept_mono hfrac (by simp)) (by simp)) (by simp)

/-- With RELOAD_MODE 0 TOKENS takes DEPTH. -/
theorem resetShaper_effect_of_mode_zero (hm : fget s w Fqw.fqDepthReloadMode q = 0) :
    tokens (resetShaper w q s) w q = fget s w Fqw.fqDepthDepth q
      ∧ fget (resetShaper w q s) w Fqw.fqTokensFrac q = 0
      ∧ (tokens s w q < 0 → fbit (resetShaper w q s) w Fqw.fqwEvtDebtForgiven = true
        ∧ fget (resetShaper w q s) w Fqw.fqStatDebtForgiven q
          = min (fget s w Fqw.fqStatDebtForgiven q + 1) (2 ^ Fqw.fqStatDebtForgiven.w - 1))
      ∧ (0 ≤ tokens s w q → RegsKept [fkey w Fqw.fqTokensFrac q, fkey w Fqw.fqTokensTokens q] s (resetShaper w q s))
      ∧ RegsKept [fkey w Fqw.fqTokensFrac q, fkey w Fqw.fqTokensTokens q, fkey w Fqw.fqwEvtDebtForgiven 0,
          fkey w Fqw.fqStatDebtForgiven q] s (resetShaper w q s) := by
  have heq : resetShaper w q s = setTokens w q (fget s w Fqw.fqDepthDepth q) (forgiven w q s) := by
    obtain ⟨-, hdepth, -⟩ := forgiven_effect (w := w) (s := s) hq
    rw [← hdepth]
    unfold resetShaper
    exact if_pos ((fget_fset_field s (by decide) hq hq).trans hm)
  obtain ⟨hfrac, -, hdebt, hkept, hall⟩ := forgiven_effect (w := w) (s := s) hq
  have hlt : fget s w Fqw.fqDepthDepth q < 2 ^ 20 := fget_lt ..
  rw [heq]
  refine ⟨tokens_setTokens _ w q (by omega) (by omega), ?_, fun hneg => ?_, fun hge => ?_, ?_⟩
  · exact (fget_fset_field _ (by decide) hq hq).trans hfrac
  · obtain ⟨hbit, hcount⟩ := hdebt hneg
    exact ⟨(fbit_fset_field (by decide) hq (by decide) _).trans hbit, (fget_fset_field _ (by decide) hq hq).trans hcount⟩
  · exact regsKept_fset (regsKept_mono (hkept hge) (by simp)) (by simp)
  · exact regsKept_fset (regsKept_mono hall (by simp)) (by simp)

/-- With RELOAD_MODE 1 TOKENS loses what is above 0. -/
theorem resetShaper_effect_of_mode_one (hm : fget s w Fqw.fqDepthReloadMode q ≠ 0) :
    tokens (resetShaper w q s) w q = min (tokens s w q) 0
      ∧ fget (resetShaper w q s) w Fqw.fqTokensFrac q = 0
      ∧ RegsKept [fkey w Fqw.fqTokensFrac q, fkey w Fqw.fqTokensTokens q] s (resetShaper w q s) := by
  have heq : resetShaper w q s = setTokens w q (min (tokens s w q) 0) (fset w Fqw.fqTokensFrac 0 s q) := by
    unfold resetShaper
    exact if_neg fun h => hm ((fget_fset_field s (by decide) hq hq).symm.trans h)
  have hr := tokens_range s w q
  rw [heq]
  refine ⟨tokens_setTokens _ w q (by omega) (by omega), ?_, ?_⟩
  · exact (fget_fset_field _ (by decide) hq hq).trans ((fget_fset_self ..).trans (Nat.zero_mod _))
  · exact regsKept_fset (regsKept_fset (regsKept_refl _ s) (by simp)) (by simp)

end ResetShaper

/-! ## The commands -/

/-- The fields of a write of FQ_DEPTH. -/
def depthWritten (w q : Nat) (v : Word) (s : State) : State :=
  fset w Fqw.fqDepthReloadMode (v.toNat / 2 ^ 20) (fset w Fqw.fqDepthDepth v.toNat s q) q

section DepthWritten
variable {w q : Nat} (v : Word) (s : State)

theorem depthWritten_depth (hq : q < 4096) :
    fget (depthWritten w q v s) w Fqw.fqDepthDepth q = v.toNat % 2 ^ Fqw.fqDepthDepth.w :=
  (fget_fset_field _ (by decide) hq hq).trans (fget_fset_self ..)

theorem depthWritten_mode :
    fget (depthWritten w q v s) w Fqw.fqDepthReloadMode q = v.toNat / 2 ^ 20 % 2 ^ Fqw.fqDepthReloadMode.w :=
  fget_fset_self ..

theorem regsKept_depthWritten :
    RegsKept [fkey w Fqw.fqDepthDepth q, fkey w Fqw.fqDepthReloadMode q] s (depthWritten w q v s) :=
  regsKept_fset (regsKept_fset (regsKept_refl _ s) (by simp)) (by simp)

/-- A field apart from DEPTH and RELOAD_MODE stays. -/
theorem fget_depthWritten {f : Fld} {i : Nat} (hq : q < 4096) (hi : i < 4096) (page : Nat)
    (hf : f.off / 8 * 64 + f.lo ≠ 19 * 64 ∧ f.off / 8 * 64 + f.lo ≠ 19 * 64 + 20 ∧ f.off / 8 * 64 + f.lo < 32768) :
    fget (depthWritten w q v s) page f i = fget s page f i := by
  obtain ⟨hd, hm, hl⟩ := hf
  exact (fget_fset_ne _ (fkey_ne_place (f := Fqw.fqDepthReloadMode) (.inr (.inl hm.symm)) (by decide) hl hq hi)).trans
    (fget_fset_ne _ (fkey_ne_place (f := Fqw.fqDepthDepth) (.inr (.inl hd.symm)) (by decide) hl hq hi))

theorem shaperOn_depthWritten (hq : q < 4096) (h : HostId) : shaperOn (depthWritten w q v s) h.val = shaperOn s h.val :=
  shaperOn_of (fget_depthWritten v s hq (hostPort_lt h) pgPower (by decide)) rfl

theorem tokens_depthWritten (hq : q < 4096) : tokens (depthWritten w q v s) w q = tokens s w q :=
  tokens_of_fget s w q (fget_depthWritten v s hq hq w (by decide))

/-- A write of FQ_DEPTH with RELOAD_MODE 0 and the reset that follows. -/
theorem depthWritten_reset_of_mode_zero (hq : q < 4096) (hm : v.toNat / 2 ^ 20 % 2 ^ Fqw.fqDepthReloadMode.w = 0) :
    fget (resetShaper w q (depthWritten w q v s)) w Fqw.fqDepthDepth q = v.toNat % 2 ^ Fqw.fqDepthDepth.w
      ∧ fget (resetShaper w q (depthWritten w q v s)) w Fqw.fqDepthReloadMode q = 0
      ∧ tokens (resetShaper w q (depthWritten w q v s)) w q = (v.toNat % 2 ^ Fqw.fqDepthDepth.w : Nat)
      ∧ fget (resetShaper w q (depthWritten w q v s)) w Fqw.fqTokensFrac q = 0
      ∧ (tokens s w q < 0 → fbit (resetShaper w q (depthWritten w q v s)) w Fqw.fqwEvtDebtForgiven = true
        ∧ fget (resetShaper w q (depthWritten w q v s)) w Fqw.fqStatDebtForgiven q
          = min (fget s w Fqw.fqStatDebtForgiven q + 1) (2 ^ Fqw.fqStatDebtForgiven.w - 1))
      ∧ (0 ≤ tokens s w q → fget (resetShaper w q (depthWritten w q v s)) w Fqw.fqStatDebtForgiven q
          = fget s w Fqw.fqStatDebtForgiven q) := by
  have hmode := (depthWritten_mode (w := w) (q := q) v s).trans hm
  obtain ⟨htokens, hfrac, hdebt, hkept, hall⟩ := resetShaper_effect_of_mode_zero hq hmode
  have hcount : fget (depthWritten w q v s) w Fqw.fqStatDebtForgiven q = fget s w Fqw.fqStatDebtForgiven q :=
    fget_depthWritten v s hq hq w (by decide)
  have keep : ∀ f ∈ [Fqw.fqDepthDepth, Fqw.fqDepthReloadMode],
      fget (resetShaper w q (depthWritten w q v s)) w f q = fget (depthWritten w q v s) w f q := by
    intro f hf
    refine fget_of_regsKept (l := [(_, q), (_, q), (_, 0), (_, q)]) hall hq ?_
    simp only [List.forall_mem_cons, hq, and_true]
    revert f
    decide
  rw [depthWritten_depth v s hq] at htokens
  rw [tokens_depthWritten v s hq] at hdebt hkept
  rw [hcount] at hdebt
  refine ⟨(keep _ (by simp)).trans (depthWritten_depth v s hq), (keep _ (by simp)).trans hmode, htokens, hfrac, hdebt,
    fun hge => (fget_of_regsKept (l := [(_, q), (_, q)]) (hkept hge) hq ?_).trans hcount⟩
  simp only [List.forall_mem_cons, hq, and_true]
  decide

/-- A write of FQ_DEPTH with RELOAD_MODE 1 and the reset that follows. -/
theorem depthWritten_reset_of_mode_one (hq : q < 4096) (hm : v.toNat / 2 ^ 20 % 2 ^ Fqw.fqDepthReloadMode.w ≠ 0) :
    fget (resetShaper w q (depthWritten w q v s)) w Fqw.fqDepthDepth q = v.toNat % 2 ^ Fqw.fqDepthDepth.w
      ∧ fget (resetShaper w q (depthWritten w q v s)) w Fqw.fqDepthReloadMode q
        = v.toNat / 2 ^ 20 % 2 ^ Fqw.fqDepthReloadMode.w
      ∧ tokens (resetShaper w q (depthWritten w q v s)) w q = min (tokens s w q) 0
      ∧ fget (resetShaper w q (depthWritten w q v s)) w Fqw.fqTokensFrac q = 0
      ∧ RegsKept [fkey w Fqw.fqDepthDepth q, fkey w Fqw.fqDepthReloadMode q, fkey w Fqw.fqTokensFrac q,
          fkey w Fqw.fqTokensTokens q] s (resetShaper w q (depthWritten w q v s)) := by
  have hmode := depthWritten_mode (w := w) (q := q) v s
  obtain ⟨htokens, hfrac, hkept⟩ := resetShaper_effect_of_mode_one hq (hmode.trans_ne hm)
  have keep : ∀ f ∈ [Fqw.fqDepthDepth, Fqw.fqDepthReloadMode],
      fget (resetShaper w q (depthWritten w q v s)) w f q = fget (depthWritten w q v s) w f q := by
    intro f hf
    refine fget_of_regsKept (l := [(_, q), (_, q)]) hkept hq ?_
    simp only [List.forall_mem_cons, hq, and_true]
    revert f
    decide
  rw [tokens_depthWritten v s hq] at htokens
  exact ⟨(keep _ (by simp)).trans (depthWritten_depth v s hq), (keep _ (by simp)).trans hmode, htokens, hfrac,
    regsKept_trans (regsKept_mono (regsKept_depthWritten v s) (by simp)) (regsKept_mono hkept (by simp))⟩

end DepthWritten

section Exec
variable {h : HostId} {s : State} (ha : (hostOn s h.val && (ni s (hostPort h.val)).admitted) = false)
include ha

theorem exec_fqRate_now (v : Word) : exec (.fqRate h v) s
    = .next (fset (pgFqw h.val) Fqw.fqRateRate v.toNat (refillTick s) (selQ s (pgFqw h.val))) := by
  rw [← selQ_refillTick s]
  exact congrArg _ (beforeTest_of_not_admitted ha)

theorem exec_reload_on (ho : shaperOn s h.val = true) :
    exec (.reload h) s = .next (resetShaper (pgFqw h.val) (selQ s (pgFqw h.val)) (refillTick s)) := by
  rw [← selQ_refillTick s]
  refine congrArg _ ((beforeTest_of_not_admitted ha).trans ?_)
  rw [shaperOn_refillTick, ho]
  rfl

theorem exec_reload_off (ho : shaperOn s h.val = false) : exec (.reload h) s = .next (refillTick s) := by
  refine congrArg _ ((beforeTest_of_not_admitted ha).trans ?_)
  rw [shaperOn_refillTick, ho]
  rfl

theorem exec_fqDepth_now (v : Word) : exec (.fqDepth h v) s
    = .next (onlyIf (shaperOn s h.val) (resetShaper (pgFqw h.val) (selQ s (pgFqw h.val)))
        (depthWritten (pgFqw h.val) (selQ s (pgFqw h.val)) v (refillTick s))) := by
  rw [← shaperOn_refillTick, ← shaperOn_depthWritten v (refillTick s) (selQ_lt s (pgFqw h.val)), ← selQ_refillTick s]
  exact congrArg _ (beforeTest_of_not_admitted ha)

end Exec

/-- The result of a refill tick that is due, queue by queue. -/
theorem tokens_frac_refillTick {h : HostId} {q x : Nat} {n : Int} {r s : State} (hd : refillDue s = true) (hq : q < 4096)
    (ho : hostOn s h.val = true) (hr : r = workingRegs s (hostPort h.val))
    (hx : x = fget r (pgFqw h.val) Fqw.fqRateRate q * 64 + fget s (pgFqw h.val) Fqw.fqTokensFrac q)
    (hn : n = min (tokens s (pgFqw h.val) q + (x / 1000 : Nat)) (fget r (pgFqw h.val) Fqw.fqDepthDepth q : Int)) :
    tokens (refillTick s) (pgFqw h.val) q = n ∧ fget (refillTick s) (pgFqw h.val) Fqw.fqTokensFrac q
      = if n = (fget r (pgFqw h.val) Fqw.fqDepthDepth q : Int) then 0 else x % 1000 := by
  have hregs : shaperRegs s (pgFqw h.val) = r := by rw [hr, shaperRegs, unitOf_pgFqw]
  have hb := bucketOf_refillTick hq hd ho
  unfold refilled at hb
  rw [hregs] at hb
  subst hn hx
  exact ⟨congrArg Prod.fst hb, congrArg Prod.snd hb⟩

/-- Settles O33: a refill tick by the bucket of each queue, a write by whether it waits, and a reset by RELOAD_MODE. -/
theorem shapers : Obligations.Shapers := by
  unfold Obligations.Shapers
  refine ⟨fun s => ⟨fun hd => ?tick, fun hd => ?again, fun h v u ha hu => ?rate⟩, fun h s u ho hn hu => ?reset,
    fun h s ho ha => ?off, fun h s v ho hn => ?late⟩
  case tick =>
    have hd : refillDue s = true := refillDue_of_ne hd
    exact ⟨refillTick s, rfl, refillTick_refillAt hd, refillTick_nis s, refillTick_mtime s,
      congrArg Host.Outcome.next refillTick_refillTick,
      fun h q x n r hq ho hr hx hn => tokens_frac_refillTick hd hq ho hr hx hn⟩
  case again => exact congrArg _ (refillTick_of_not_due (refillDue_of_eq hd))
  case rate =>
    subst hu
    exact ⟨_, exec_fqRate_now ha v, fget_fset_self .., regsKept_fset (regsKept_refl _ _) (List.mem_singleton_self _)⟩
  case reset =>
    subst hu
    have ha : (hostOn s h.val && (ni s (hostPort h.val)).admitted) = false := by rw [hn, Bool.and_false]
    have hq := selQ_lt s (pgFqw h.val)
    have hmode := fget_refillTick (f := Fqw.fqDepthReloadMode) (by decide) (by decide) (by decide) hq s (pgFqw h.val)
    have hdepth := fget_refillTick (f := Fqw.fqDepthDepth) (by decide) (by decide) (by decide) hq s (pgFqw h.val)
    have hcount := fget_refillTick (f := Fqw.fqStatDebtForgiven) (by decide) (by decide) (by decide) hq s (pgFqw h.val)
    have hreload := exec_reload_on ha ho
    have hwrite := exec_fqDepth_now ha
    simp only [ho, onlyIf_true] at hwrite
    generalize selQ s (pgFqw h.val) = q at *
    generalize refillTick s = u at *
    refine ⟨fun hm => ⟨_, hreload, ?_⟩, fun hm => ⟨_, hreload, resetShaper_effect_of_mode_one hq (hmode.trans_ne hm)⟩,
      fun v hm => ⟨_, hwrite v, ?_⟩, fun v hm => ⟨_, hwrite v, depthWritten_reset_of_mode_one v u hq hm⟩⟩
    · rw [← hdepth, ← hcount]
      exact resetShaper_effect_of_mode_zero hq (hmode.trans hm)
    · rw [← hcount]
      exact depthWritten_reset_of_mode_zero v u hq hm
  case off =>
    refine ⟨exec_reload_off ha ho, fun v => ⟨_, exec_fqDepth_now ha v, ?_⟩⟩
    rw [ho]
    exact ⟨depthWritten_depth v _ (selQ_lt s _), regsKept_depthWritten v _⟩
  case late =>
    have ha : (hostOn s h.val && (ni s (hostPort h.val)).admitted) = true := by rw [ho, hn]; rfl
    exact ⟨⟨_, rfl, beforeTest_of_admitted ha⟩, ⟨_, rfl, (beforeTest_of_admitted ha).imp_right And.right⟩,
      ⟨_, rfl, (beforeTest_of_admitted ha).imp_right And.right⟩⟩

end Sys2Proof.Machine

/-! PROOFS. The other commands of a host's flow queues (R109, R185, R190 to R192, R318, O34): FQ_QUOTA, CLR_MAX and CLR_ALL_MAX,
and the telemetry sample. -/

namespace Sys2Proof.Machine

/-! ## FQ_QUOTA (R109) -/

/-- A quota check changes OVER_QUOTA of its queue alone. -/
theorem regsKept_quotaCheck (h : HostId) (q : Nat) (s : State) :
    RegsKept [fkey (pgFqw h.val) Fqw.fqStatOverQuota q] s (quotaCheck (hostPort h.val) q s) := by
  unfold quotaCheck
  rw [ordinal_hostPort]
  split
  · exact regsKept_refl _ s
  · exact regsKept_onlyIf (regsKept_refl _ s) fun t ht => regsKept_fset ht (List.mem_singleton_self _)

theorem writeQuota_of_reserved {h v : Nat} (hv : 2048 < v) (s : State) :
    writeQuota h v s = errReserved (pgFqw h) Fqw.fqQuotaQuota.off s := by
  unfold writeQuota
  exact if_pos hv

/-- A legal quota takes effect; what follows tells of it in OVER_QUOTA and QUOTA_CUT. -/
theorem writeQuota_of_legal {h : HostId} {v : Nat} (hv : v ≤ 2048) (s : State) :
    RegsKept [fkey (pgFqw h.val) Fqw.fqwEvtQuotaCut 0, fkey (pgFqw h.val) Fqw.fqStatOverQuota (selQ s (pgFqw h.val))]
      (fset (pgFqw h.val) Fqw.fqQuotaQuota v s (selQ s (pgFqw h.val))) (writeQuota h.val v s) := by
  unfold writeQuota
  extract_lets w q t
  rw [if_neg (Nat.not_lt.mpr hv)]
  split
  · exact regsKept_fset (regsKept_fset (regsKept_refl _ t) (by simp [w, q])) (by simp [w])
  · exact regsKept_mono (regsKept_quotaCheck h q t) (by simp [w, q])

theorem writeQuota_effect_of_legal {h : HostId} {v : Nat} (hv : v ≤ 2048) (s : State) :
    fget (writeQuota h.val v s) (pgFqw h.val) Fqw.fqQuotaQuota (selQ s (pgFqw h.val)) = v
      ∧ RegsKept [fkey (pgFqw h.val) Fqw.fqQuotaQuota (selQ s (pgFqw h.val)), fkey (pgFqw h.val) Fqw.fqwEvtQuotaCut 0,
          fkey (pgFqw h.val) Fqw.fqStatOverQuota (selQ s (pgFqw h.val))] s (writeQuota h.val v s) := by
  have hq := selQ_lt s (pgFqw h.val)
  have hkept := writeQuota_of_legal (h := h) hv s
  generalize selQ s (pgFqw h.val) = q at *
  refine ⟨(fget_of_regsKept (l := [(_, 0), (_, _)]) hkept hq ?_).trans ((fget_fset_self ..).trans (Nat.mod_eq_of_lt ?_)),
    regsKept_trans (regsKept_fset (regsKept_refl _ s) (by simp)) (regsKept_mono hkept (by simp))⟩
  · simp only [List.forall_mem_cons, hq, and_true]
    decide
  · exact lt_of_le_of_lt hv (by decide)

/-! ## CLR_MAX and CLR_ALL_MAX (R190) -/

theorem heldOf_of_nis {s t : State} (h : t.nis = s.nis) (p q : Nat) : heldOf t p q = heldOf s p q := by
  unfold heldOf ni
  rw [h]

theorem clearMax_effect (h : Nat) {q : Nat} (s : State) (hq : q < 4096) :
    fget (clearMax h q s) (pgFqw h) Fqw.fqSampleDepthMax q = heldOf s (hostPort h) q % 2 ^ Fqw.fqSampleDepthMax.w
      ∧ fget (clearMax h q s) (pgFqw h) Fqw.fqDelayDelayMaxNs q = 0
      ∧ RegsKept [fkey (pgFqw h) Fqw.fqSampleDepthMax q, fkey (pgFqw h) Fqw.fqDelayDelayMaxNs q] s (clearMax h q s) :=
  ⟨(fget_fset_field _ (by decide) hq hq).trans (fget_fset_self ..), (fget_fset_self ..).trans (Nat.zero_mod _),
    regsKept_fset (regsKept_fset (regsKept_refl _ s) (by simp)) (by simp)⟩

/-- The queues whose maxima CLR_ALL_MAX clears: those of the others are 0. -/
def maxedQueues (w : Nat) (s : State) : List Nat :=
  unionNat (listedIdx s w Fqw.fqSampleDepthMax) (listedIdx s w Fqw.fqDelayDelayMaxNs)

/-- What CLR_ALL_MAX leaves. -/
def allCleared (h : Nat) (s : State) : State := forEach (maxedQueues (pgFqw h) s) (clearMax h) s

theorem allCleared_nis (h : Nat) (s : State) : (allCleared h s).nis = s.nis :=
  (forEach_same (F := allBut [.regs]) (Same.refl _ s) fun _ _ ht => clearMax_same ht rfl).same .nis rfl

theorem exec_clrMax (h : HostId) (s : State) : exec (.clrMax h) s
    = .next (onlyIf (shaperOn s h.val) (clearMax h.val (selQ s (pgFqw h.val))) s) := rfl

theorem exec_clrAllMax (h : HostId) (s : State) : exec (.clrAllMax h) s
    = .next (onlyIf (shaperOn s h.val) (allCleared h.val) s) := rfl

/-- A cleared queue: DEPTH_MAX holds HELD of `s`, DELAY_MAX_NS is 0. -/
def MaxCleared (s : State) (h q : Nat) (t : State) : Prop :=
  fget t (pgFqw h) Fqw.fqSampleDepthMax q = heldOf s (hostPort h) q % 2 ^ Fqw.fqSampleDepthMax.w
    ∧ fget t (pgFqw h) Fqw.fqDelayDelayMaxNs q = 0

/-- Clearing one queue leaves the others. -/
theorem fget_clearMax_ne {h q q' : Nat} {f : Fld} (hf : f.off / 8 * 64 + f.lo < 32768) (hne : q' ≠ q) (hq : q < 4096)
    (hq' : q' < 4096) (s : State) : fget (clearMax h q' s) (pgFqw h) f q = fget s (pgFqw h) f q :=
  (fget_fset_ne _ (fkey_ne_place (.inr (.inr hne)) (by decide) hf hq' hq)).trans
    (fget_fset_ne _ (fkey_ne_place (.inr (.inr hne)) (by decide) hf hq' hq))

theorem allCleared_effect {h : HostId} {q : Nat} (hq : q < 4096) (s : State) :
    fget (allCleared h.val s) (pgFqw h.val) Fqw.fqDelayDelayMaxNs q = 0
      ∧ (fget s (pgFqw h.val) Fqw.fqSampleDepthMax q ≠ 0 →
        fget (allCleared h.val s) (pgFqw h.val) Fqw.fqSampleDepthMax q
          = heldOf s (hostPort h.val) q % 2 ^ Fqw.fqSampleDepthMax.w) := by
  have hlt : ∀ q' ∈ maxedQueues (pgFqw h.val) s, q' < 4096 := by
    intro q' hm
    rw [maxedQueues, mem_unionNat] at hm
    exact hm.elim lt_of_mem_listedIdx lt_of_mem_listedIdx
  by_cases hm : q ∈ maxedQueues (pgFqw h.val) s
  · have hcleared : MaxCleared s h.val q (allCleared h.val s) := by
      refine forEach_brings (Same (allBut [.regs]) s) _ hm (fun _ _ ht => clearMax_same ht rfl) (Same.refl _ s)
        (fun t ht => ?_) fun q' hm' hne t ht => ?_
      · obtain ⟨hmax, hdelay, -⟩ := clearMax_effect h.val t hq
        exact ⟨hmax.trans (by rw [heldOf_of_nis (ht.same .nis rfl)]), hdelay⟩
      · obtain ⟨hmax, hdelay⟩ := ht
        exact ⟨(fget_clearMax_ne (by decide) hne hq (hlt q' hm') t).trans hmax,
          (fget_clearMax_ne (by decide) hne hq (hlt q' hm') t).trans hdelay⟩
    obtain ⟨hmax, hdelay⟩ := hcleared
    exact ⟨hdelay, fun _ => hmax⟩
  · have hdelay : fget (allCleared h.val s) (pgFqw h.val) Fqw.fqDelayDelayMaxNs q
        = fget s (pgFqw h.val) Fqw.fqDelayDelayMaxNs q :=
      forEach_frame_mem (fun t => fget t (pgFqw h.val) Fqw.fqDelayDelayMaxNs q) fun q' hm' t =>
        fget_clearMax_ne (by decide) (fun e : q' = q => hm (e ▸ hm')) hq (hlt q' hm') t
    rw [maxedQueues, mem_unionNat, not_or] at hm
    obtain ⟨hmax, hlisted⟩ := hm
    refine ⟨hdelay.trans ?_, fun hne => absurd ?_ hne⟩
    · rw [fget_of_notMem_listedIdx hq hlisted, resetOf_pgFqw]
      rfl
    · rw [fget_of_notMem_listedIdx hq hmax, resetOf_pgFqw]
      rfl

/-! ## The telemetry sample (R191) -/

/-- WAIT_SMP_NS before it saturates. -/
def waitOf (s : State) (p q : Nat) : Nat :=
  match oldest (waitingOf s p q) with
  | some e => nowNs s - e.2.t0ns
  | none => 0

theorem waitOf_of_oldest {s : State} {p q : Nat} {e : Nat × Entry} (h : oldest (waitingOf s p q) = some e) :
    waitOf s p q = nowNs s - e.2.t0ns := by
  unfold waitOf
  rw [h]

/-- A queue with no request in CHECK or HOLD holds none, and none waits. -/
theorem idle_of_notMem_busyQueues {s : State} {p q : Nat} (h : q ∉ busyQueues s p) : heldOf s p q = 0 ∧ waitOf s p q = 0 := by
  rw [busyQueues, mem_unionNat, not_or] at h
  obtain ⟨-, hnone⟩ := h
  have hno : ∀ e ∈ entriesOf (ni s p), e.2.role = .leg0 → e.2.fq = q → e.2.st ≠ .check ∧ e.2.st ≠ .hold := by
    intro e he hrole hfq
    refine not_or.mp fun hst => hnone (List.mem_map.mpr ⟨e, List.mem_filter.mpr ⟨he, ?_⟩, hfq⟩)
    simpa [hrole] using hst
  have hheld : (entriesOf (ni s p)).filter (fun e => e.2.role == .leg0 && e.2.fq == q && e.2.st == .hold) = [] := by
    refine List.filter_eq_nil_iff.mpr fun e he hc => ?_
    simp only [Bool.and_eq_true, beq_iff_eq] at hc
    obtain ⟨⟨hrole, hfq⟩, hst⟩ := hc
    obtain ⟨-, hhold⟩ := hno e he hrole hfq
    exact hhold hst
  have hwaiting : waitingOf s p q = [] := by
    refine List.filter_eq_nil_iff.mpr fun e he hc => ?_
    simp only [Bool.and_eq_true, Bool.or_eq_true, beq_iff_eq] at hc
    obtain ⟨⟨hrole, hfq⟩, hst⟩ := hc
    obtain ⟨hcheck, hhold⟩ := hno e he hrole hfq
    exact hst.elim hcheck fun ⟨hst, _⟩ => hhold hst
  unfold heldOf waitOf
  rw [hheld, hwaiting]
  exact ⟨rfl, rfl⟩

/-- The queues that a sample visits: the samples of the others are 0. -/
def sampledQueues (p w : Nat) (s : State) : List Nat :=
  unionNat (unionNat ((busyQueues s p).filter (· < 4096)) (listedIdx s w Fqw.fqSampleDepthSmp))
    (listedIdx s w Fqw.fqSampleWaitSmpNs)

/-- The samples of all queues. -/
def queuesSampled (p w : Nat) (s : State) : State := forEach (sampledQueues p w s) (sampleQueue p w) s

/-- The sample's period is noted. -/
def periodNoted (h : HostId) (s : State) : State :=
  modNi (hostPort h.val) (fun n => { n with smpAt := samplePeriod s (pgFqw h.val) }) s

/-- The sample's time and sequence number, and SAMPLE_TAKEN. -/
def sampleStamped (w : Nat) (s : State) : State :=
  flag w Fqw.fqwEvtSampleTaken (fset w Fqw.smpTimeTime s.mtime.toNat (wrapAdd w Fqw.fqwStatSmpSeq 1 s))

/-- The same, with SAMPLE_UNSYNC. -/
def sampleTold (w : Nat) (s : State) : State :=
  onlyIf (!synced (sampleStamped w s)) (flag w Fqw.fqwEvtSampleUnsync) (sampleStamped w s)

theorem exec_telemetrySample {h : HostId} {s : State} (ho : hostOn s h.val = true)
    (ht : (ni s (hostPort h.val)).underTest = false)
    (hp : ((ni s (hostPort h.val)).smpAt == samplePeriod s (pgFqw h.val)) = false) : exec (.telemetrySample h) s
      = .next (sampleTold (pgFqw h.val) (queuesSampled (hostPort h.val) (pgFqw h.val) (periodNoted h s))) := by
  have ht' : (ni (periodNoted h s) (hostPort h.val)).underTest = false := by
    unfold periodNoted
    rw [ni_modNi_self]
    exact ht
  have hfirst : ¬ (!hostOn s h.val || (ni s (hostPort h.val)).smpAt == samplePeriod s (pgFqw h.val)) = true := by
    rw [ho, hp]
    decide
  show execTelemetrySample h s = _
  unfold execTelemetrySample
  exact (if_neg hfirst).trans (if_neg (ne_true_of_eq_false ht'))

/-- A sampled queue: DEPTH_SMP holds HELD of `s`, and WAIT_SMP_NS the wait of its head. -/
def QueueSampled (s : State) (p w q : Nat) (t : State) : Prop :=
  fget t w Fqw.fqSampleDepthSmp q = heldOf s p q % 2 ^ Fqw.fqSampleDepthSmp.w
    ∧ fget t w Fqw.fqSampleWaitSmpNs q = min (waitOf s p q) (2 ^ 32 - 1)

theorem sampleQueue_eq (p w q : Nat) (s : State) : sampleQueue p w q s
    = fset w Fqw.fqSampleWaitSmpNs (min (waitOf s p q) (2 ^ 32 - 1)) (fset w Fqw.fqSampleDepthSmp (heldOf s p q) s q) q := rfl

/-- What a sample reads depends on the NI's table and on MTIME alone. -/
theorem reads_of_entries {s t : State} {p : Nat} (he : entriesOf (ni t p) = entriesOf (ni s p)) (hm : t.mtime = s.mtime)
    (q : Nat) : heldOf t p q = heldOf s p q ∧ waitOf t p q = waitOf s p q := by
  unfold heldOf waitOf waitingOf nowNs
  rw [he, hm]
  exact ⟨rfl, rfl⟩

section Sampled
variable {p w q : Nat} (s : State)

theorem sampleQueue_sampled (hq : q < 4096) : QueueSampled s p w q (sampleQueue p w q s) := by
  rw [sampleQueue_eq]
  refine ⟨(fget_fset_field _ (by decide) hq hq).trans (fget_fset_self ..), (fget_fset_self ..).trans (Nat.mod_eq_of_lt ?_)⟩
  exact lt_of_le_of_lt (min_le_right _ _) (by decide)

/-- The sample of one queue leaves any other place. -/
theorem fget_sampleQueue_ne {page i q' : Nat} {f : Fld} (h : page ≠ w ∨ i ≠ q' ∨ f.off / 8 * 64 + f.lo < 25 * 64)
    (hf : f.off / 8 * 64 + f.lo < 32768) (hi : i < 4096) (hq' : q' < 4096) :
    fget (sampleQueue p w q' s) page f i = fget s page f i := by
  have hne : ∀ g ∈ [Fqw.fqSampleWaitSmpNs, Fqw.fqSampleDepthSmp], fkey w g q' ≠ fkey page f i := by
    intro g hg
    obtain ⟨hlow, hhigh⟩ : 25 * 64 ≤ g.off / 8 * 64 + g.lo ∧ g.off / 8 * 64 + g.lo < 32768 := by
      revert g
      decide
    exact fkey_ne_place (by omega) hhigh hf hq' hi
  rw [sampleQueue_eq, fget_fset_ne _ (hne _ (by simp)), fget_fset_ne _ (hne _ (by simp))]

theorem lt_of_mem_sampledQueues {q' : Nat} (h : q' ∈ sampledQueues p w s) : q' < 4096 := by
  simp only [sampledQueues, mem_unionNat] at h
  rcases h with (h | h) | h
  · exact of_decide_eq_true (List.mem_filter.mp h).2
  · exact lt_of_mem_listedIdx h
  · exact lt_of_mem_listedIdx h

theorem queuesSampled_same : Same (allBut [.regs]) s (queuesSampled p w s) :=
  forEach_same (Same.refl _ s) fun _ _ h => sampleQueue_same h rfl

/-- A sample of the queues leaves any other register. -/
theorem fget_queuesSampled {page i : Nat} {f : Fld} (h : page ≠ w ∨ f.off / 8 * 64 + f.lo < 25 * 64)
    (hf : f.off / 8 * 64 + f.lo < 32768) (hi : i < 4096) : fget (queuesSampled p w s) page f i = fget s page f i :=
  forEach_frame_mem (fun t => fget t page f i) fun _ hm t =>
    fget_sampleQueue_ne t (h.imp_right .inr) hf hi (lt_of_mem_sampledQueues s hm)

/-- A sample takes every queue, those that it does not visit with what their registers hold. -/
theorem queuesSampled_sampled {h : HostId} (hq : q < 4096) :
    QueueSampled s p (pgFqw h.val) q (queuesSampled p (pgFqw h.val) s) := by
  have keep : ∀ q' ∈ sampledQueues p (pgFqw h.val) s, q' ≠ q →
      ∀ (f : Fld) (t : State), f.off / 8 * 64 + f.lo < 32768 →
        fget (sampleQueue p (pgFqw h.val) q' t) (pgFqw h.val) f q = fget t (pgFqw h.val) f q :=
    fun q' hm hne f t hf => fget_sampleQueue_ne t (.inr (.inl hne.symm)) hf hq (lt_of_mem_sampledQueues s hm)
  by_cases hm : q ∈ sampledQueues p (pgFqw h.val) s
  · refine forEach_brings (Same (allBut [.regs]) s) _ hm (fun _ _ ht => sampleQueue_same ht rfl) (Same.refl _ s)
      (fun t ht => ?_) fun q' hm' hne t ht => ?_
    · have hnis : t.nis = s.nis := ht.same .nis rfl
      obtain ⟨hheld, hwait⟩ := reads_of_entries (p := p) (by unfold ni; rw [hnis]) (ht.same .mtime rfl) q
      have hsampled := sampleQueue_sampled (p := p) (w := pgFqw h.val) t hq
      unfold QueueSampled at hsampled ⊢
      rwa [hheld, hwait] at hsampled
    · obtain ⟨hdepth, hwait⟩ := ht
      exact ⟨(keep q' hm' hne _ t (by decide)).trans hdepth, (keep q' hm' hne _ t (by decide)).trans hwait⟩
  · have hother : ∀ f : Fld, f.off / 8 * 64 + f.lo < 32768 →
        fget (queuesSampled p (pgFqw h.val) s) (pgFqw h.val) f q = fget s (pgFqw h.val) f q := fun f hf =>
      forEach_frame_mem (fun t => fget t (pgFqw h.val) f q) fun q' hm' t =>
        keep q' hm' (fun e : q' = q => hm (e ▸ hm')) f t hf
    simp only [sampledQueues, mem_unionNat, not_or] at hm
    obtain ⟨⟨hbusy, hdepth⟩, hwait⟩ := hm
    obtain ⟨hheld, hnone⟩ := idle_of_notMem_busyQueues fun hb => hbusy (List.mem_filter.mpr ⟨hb, decide_eq_true hq⟩)
    unfold QueueSampled
    rw [hother _ (by decide), hother _ (by decide), fget_of_notMem_listedIdx hq hdepth, fget_of_notMem_listedIdx hq hwait,
      resetOf_pgFqw, resetOf_pgFqw, hheld, hnone]
    exact ⟨rfl, rfl⟩

end Sampled

theorem synced_of_timeState {s t : State} (h : timeState t = timeState s) : synced t = synced s := by
  unfold synced
  rw [h]

section Told
variable (h : HostId) (s : State)

theorem sampleTold_same : Same (allBut [.regs]) s (sampleTold (pgFqw h.val) s) :=
  onlyIf_same (fset_same (fset_same (fset_same (Same.refl _ s) rfl) rfl) rfl) fun _ ht => fset_same ht rfl

theorem synced_sampleStamped : synced (sampleStamped (pgFqw h.val) s) = synced s := by
  have hne : pgFqw h.val ≠ pgTime := by unfold pgFqw pgTime; omega
  have keep : ∀ f : Fld, f.off / 8 * 64 + f.lo < 32768 → fkey (pgFqw h.val) f 0 ≠ fkey pgTime Tu.timeStatState 0 :=
    fun f hf => fkey_ne_place (.inl hne) hf (by decide) (by decide) (by decide)
  exact synced_of_timeState ((fget_fset_ne _ (keep _ (by decide))).trans
    ((fget_fset_ne _ (keep _ (by decide))).trans (fget_fset_ne _ (keep _ (by decide)))))

theorem sampleStamped_effect (w : Nat) : fget (sampleStamped w s) w Fqw.smpTimeTime = s.mtime.toNat
    ∧ fget (sampleStamped w s) w Fqw.fqwStatSmpSeq = (fget s w Fqw.fqwStatSmpSeq + 1) % 2 ^ Fqw.fqwStatSmpSeq.w
    ∧ fbit (sampleStamped w s) w Fqw.fqwEvtSampleTaken = true := by
  refine ⟨?_, ?_, fbit_flag_self _ rfl⟩
  · exact (fget_fset_field _ (by decide) (by decide) (by decide)).trans
      ((fget_fset_self ..).trans (Nat.mod_eq_of_lt s.mtime.isLt))
  · exact (fget_fset_field _ (by decide) (by decide) (by decide)).trans
      ((fget_fset_field _ (by decide) (by decide) (by decide)).trans (fget_fset_self ..))

/-- SAMPLE_UNSYNC is all that the quality of time adds. -/
theorem regsKept_sampleTold (w : Nat) :
    RegsKept [fkey w Fqw.fqwEvtSampleUnsync 0] (sampleStamped w s) (sampleTold w s) :=
  regsKept_onlyIf (regsKept_refl _ _) fun _ ht => regsKept_fset ht (List.mem_singleton_self _)

theorem fget_sampleTold {w i : Nat} {f : Fld}
    (hf : Fqw.fqwEvtSampleUnsync.off / 8 * 64 + Fqw.fqwEvtSampleUnsync.lo ≠ f.off / 8 * 64 + f.lo) (hi : i < 4096) :
    fget (sampleTold w s) w f i = fget (sampleStamped w s) w f i :=
  (regsKept_sampleTold s w).kept _ _ _ fun hm => fkey_ne_field hf (by decide) hi (List.mem_singleton.mp hm).symm

theorem sampleUnsync_sampleTold (hs : synced s = false) :
    fbit (sampleTold (pgFqw h.val) s) (pgFqw h.val) Fqw.fqwEvtSampleUnsync = true := by
  unfold sampleTold
  rw [synced_sampleStamped, hs]
  exact fbit_flag_self _ rfl

/-- The time, the sequence number and the events of a sample leave the samples. -/
theorem fget_sampleTold_sample {w q : Nat} {f : Fld} (hf : 25 * 64 ≤ f.off / 8 * 64 + f.lo) (hq : q < 4096) :
    fget (sampleTold w s) w f q = fget s w f q := by
  have hne : ∀ g ∈ [Fqw.fqwEvtSampleUnsync, Fqw.fqwEvtSampleTaken, Fqw.smpTimeTime, Fqw.fqwStatSmpSeq],
      g.off / 8 * 64 + g.lo ≠ f.off / 8 * 64 + f.lo := by
    intro g hg
    have hlow : g.off / 8 * 64 + g.lo < 25 * 64 := by
      revert g
      decide
    omega
  exact (fget_sampleTold s (hne _ (by simp)) hq).trans ((fget_fset_field _ (hne _ (by simp)) (by decide) hq).trans
    ((fget_fset_field _ (hne _ (by simp)) (by decide) hq).trans (fget_fset_field _ (hne _ (by simp)) (by decide) hq)))

end Told

/-! ## The sample of a host -/

section Sample
variable (h : HostId) (s : State)

/-- The state that a sample leaves at a host whose NI is on and not under test. -/
def sampled : State := sampleTold (pgFqw h.val) (queuesSampled (hostPort h.val) (pgFqw h.val) (periodNoted h s))

theorem sampled_same : Same (allBut [.regs]) (periodNoted h s) (sampled h s) :=
  (queuesSampled_same _).trans (sampleTold_same h _)

theorem sampled_mtime : (sampled h s).mtime = s.mtime := (sampled_same h s).same .mtime rfl
theorem sampled_chans : (sampled h s).chans = s.chans := (sampled_same h s).same .chans rfl

theorem sampled_smpAt : (ni (sampled h s) (hostPort h.val)).smpAt = samplePeriod s (pgFqw h.val) := by
  have hnis : (sampled h s).nis = (periodNoted h s).nis := (sampled_same h s).same .nis rfl
  unfold ni
  rw [hnis]
  exact congrArg Ni.smpAt (ni_modNi_self s (hostPort h.val) _)

theorem entriesOf_periodNoted : entriesOf (ni (periodNoted h s) (hostPort h.val)) = entriesOf (ni s (hostPort h.val)) := by
  unfold periodNoted
  rw [ni_modNi_self]
  rfl

/-- Time, sequence number and events of a sample. -/
theorem sampled_told : fget (sampled h s) (pgFqw h.val) Fqw.smpTimeTime = s.mtime.toNat
    ∧ fget (sampled h s) (pgFqw h.val) Fqw.fqwStatSmpSeq
      = (fget s (pgFqw h.val) Fqw.fqwStatSmpSeq + 1) % 2 ^ Fqw.fqwStatSmpSeq.w
    ∧ fbit (sampled h s) (pgFqw h.val) Fqw.fqwEvtSampleTaken = true
    ∧ (synced s = false → fbit (sampled h s) (pgFqw h.val) Fqw.fqwEvtSampleUnsync = true) := by
  have hmtime : (queuesSampled (hostPort h.val) (pgFqw h.val) (periodNoted h s)).mtime = s.mtime :=
    (queuesSampled_same _).same .mtime rfl
  have hseq : fget (queuesSampled (hostPort h.val) (pgFqw h.val) (periodNoted h s)) (pgFqw h.val) Fqw.fqwStatSmpSeq
      = fget s (pgFqw h.val) Fqw.fqwStatSmpSeq := fget_queuesSampled _ (.inr (by decide)) (by decide) (by decide)
  have hne : pgTime ≠ pgFqw h.val := by unfold pgFqw pgTime; omega
  have hsync : synced (queuesSampled (hostPort h.val) (pgFqw h.val) (periodNoted h s)) = synced s :=
    synced_of_timeState (fget_queuesSampled (periodNoted h s) (.inl hne) (by decide) (by decide))
  obtain ⟨htime, hcount, htaken⟩ :=
    sampleStamped_effect (queuesSampled (hostPort h.val) (pgFqw h.val) (periodNoted h s)) (pgFqw h.val)
  rw [hmtime] at htime
  rw [hseq] at hcount
  exact ⟨(fget_sampleTold _ (by decide) (by decide)).trans htime, (fget_sampleTold _ (by decide) (by decide)).trans hcount,
    (fbit_of_fget (fget_sampleTold _ (by decide) (by decide))).trans htaken,
    fun hs => sampleUnsync_sampleTold h _ (hsync.trans hs)⟩

/-- The samples of every queue, by what the host held before. -/
theorem sampled_queue {q : Nat} (hq : q < 4096) : QueueSampled s (hostPort h.val) (pgFqw h.val) q (sampled h s) := by
  obtain ⟨hdepth, hwait⟩ := queuesSampled_sampled (p := hostPort h.val) (periodNoted h s) (h := h) hq
  obtain ⟨hheld, hwaits⟩ := reads_of_entries (entriesOf_periodNoted h s) rfl q
  rw [hheld] at hdepth
  rw [hwaits] at hwait
  exact ⟨(fget_sampleTold_sample _ (by decide) hq).trans hdepth, (fget_sampleTold_sample _ (by decide) hq).trans hwait⟩

end Sample

/-- Settles O34: FQ_QUOTA by whether it waits and by its bound, the clears and the sample by what they do to each queue. -/
theorem flowQueueCommands : Obligations.FlowQueueCommands := by
  unfold Obligations.FlowQueueCommands
  intro h s
  refine ⟨fun ho => ?clrMax, fun ho => ?clrAllMax, fun ho => ?off, fun v ha => ⟨_, rfl, beforeTest_of_admitted ha⟩,
    fun v ha hv => ?reserved, fun v ha hv => ?legal, fun ho ht hp => ?sample, fun ho hp => ?again⟩
  case clrMax => exact ⟨_, by rw [exec_clrMax, ho, onlyIf_true], clearMax_effect h.val s (selQ_lt s _)⟩
  case clrAllMax =>
    exact ⟨_, by rw [exec_clrAllMax, ho, onlyIf_true], fun q hq => allCleared_effect hq s, allCleared_nis h.val s⟩
  case off =>
    rw [exec_clrMax, exec_clrAllMax, ho]
    exact ⟨rfl, rfl⟩
  case reserved =>
    exact ⟨errReserved (pgFqw h.val) Fqw.fqQuotaQuota.off (refillTick s),
      congrArg _ ((beforeTest_of_not_admitted ha).trans (writeQuota_of_reserved hv _)), fbit_pageErr _ _ _ _ rfl (by decide),
      regsKept_pageErr _ _ _ _ (by simp [pageErrKeys])⟩
  case legal =>
    refine ⟨writeQuota h.val (v.toNat % 2 ^ 12) (refillTick s), congrArg _ (beforeTest_of_not_admitted ha), ?_⟩
    rw [← selQ_refillTick s]
    exact writeQuota_effect_of_legal hv _
  case sample =>
    obtain ⟨htime, hseq, htaken, hunsync⟩ := sampled_told h s
    refine ⟨sampled h s, exec_telemetrySample ho ht hp, htime, sampled_smpAt h s, sampled_mtime h s, sampled_chans h s, hseq,
      htaken, hunsync, fun q _ hq => ?_, fun q hb hq => ?_⟩
    · obtain ⟨hdepth, hwait⟩ := sampled_queue h s hq
      exact ⟨hdepth, fun e he => hwait.trans (by rw [waitOf_of_oldest he])⟩
    · obtain ⟨hdepth, hwait⟩ := sampled_queue h s hq
      obtain ⟨hheld, hwaits⟩ := idle_of_notMem_busyQueues hb
      rw [hheld] at hdepth
      rw [hwaits] at hwait
      exact ⟨hdepth, hwait⟩
  case again =>
    show execTelemetrySample h s = _
    unfold execTelemetrySample
    exact if_pos (by rw [hp, Bool.or_true])

end Sys2Proof.Machine

/-! PROOFS. Shutter lists (R196 to R200, R318, O35): what the gates of an NI are read from, their exports, and the takeover of a
pending list. -/

namespace Sys2Proof.Machine

/-! ## The parts of a field's key -/

section Key
variable {page i : Nat} {f : Fld}

theorem fkey_mod (hi : i < 4096) : fkey page f i % 4096 = i := by
  unfold fkey
  rw [Nat.mul_add_mod_of_lt hi]

theorem fkey_div (hl : f.lo < 64) (hi : i < 4096) : fkey page f i / (64 * 4096) = page * 512 + f.off / 8 := by
  unfold fkey
  rw [Nat.mul_comm 64, ← Nat.div_div_eq_div_mul, Nat.mul_comm _ 4096, Nat.mul_add_div (by decide), Nat.div_eq_of_lt hi,
    Nat.add_zero, Nat.mul_comm _ 64, Nat.mul_add_div (by decide), Nat.div_eq_of_lt hl, Nat.add_zero]

theorem fkey_word (hw : f.off / 8 < 512) (hl : f.lo < 64) (hi : i < 4096) :
    fkey page f i / (64 * 4096) % 512 = f.off / 8 := by
  rw [fkey_div hl hi, Nat.mul_add_mod_of_lt hw]

theorem keyPage_fkey (hw : f.off / 8 < 512) (hl : f.lo < 64) (hi : i < 4096) : keyPage (fkey page f i) = page := by
  unfold keyPage
  rw [Nat.mul_assoc, Nat.mul_comm 512, ← Nat.div_div_eq_div_mul, fkey_div hl hi, Nat.mul_comm page,
    Nat.mul_add_div (by decide), Nat.div_eq_of_lt hw, Nat.add_zero]

theorem fkey_ne_of_index {page' j : Nat} {g : Fld} (h : i ≠ j) (hi : i < 4096) (hj : j < 4096) : fkey page f i ≠ fkey page' g j :=
  fun hk => h (by rw [← fkey_mod (page := page) (f := f) hi, hk, fkey_mod hj])

end Key

/-! ## What the gates are read from (R196, R199) -/

/-- The fields of SHL_CFG and SHL_BASE, and those of an entry. -/
def listConfig : List Fld := [Ni.shlCfgEn, Ni.shlCfgCount, Ni.shlCfgCycleNs, Ni.shlBaseBase]
def listEntry : List Fld := [Ni.shlEntryGates, Ni.shlEntryDurNs]

/-- The registers of a list read the same in both. -/
def ListRegsKept (p : Nat) (s t : State) : Prop :=
  (∀ f ∈ listConfig, fget t (pgNi p) f = fget s (pgNi p) f)
    ∧ ∀ f ∈ listEntry, ∀ i, fget t (pgNi p) f i = fget s (pgNi p) f i

/-- The list of an NI is the same in both, and so is what decides whether and where it is evaluated. -/
def ListKept (p : Nat) (s t : State) : Prop :=
  ListRegsKept p s t ∧ nstate t p = nstate s p ∧ fabOn t = fabOn s
    ∧ t.staged = s.staged ∧ t.mtime = s.mtime ∧ ni t p = ni s p

theorem sget_of_fget {s t : State} {page i : Nat} {f : Fld} (h : fget t page f i = fget s page f i)
    (hs : t.staged = s.staged) : sget t page f i = sget s page f i := by
  unfold sget
  rw [h, hs]

section ListKept
variable {p : Nat} {s t : State} (h : ListKept p s t)
include h

theorem ListKept.ni : Machine.ni t p = Machine.ni s p := by
  obtain ⟨-, -, -, -, -, hni⟩ := h
  exact hni

theorem ListKept.evaluated : evaluated t p = evaluated s p := by
  obtain ⟨-, hstate, hfab, -⟩ := h
  unfold Machine.evaluated
  rw [hstate, hfab]

theorem ListKept.activeView : activeView t p = activeView s p := by
  obtain ⟨⟨hconfig, hentry⟩, -⟩ := h
  unfold Machine.activeView fbit
  simp (disch := decide) only [hconfig, hentry]

theorem ListKept.stagedView : stagedView t p = stagedView s p := by
  obtain ⟨⟨hconfig, hentry⟩, -, -, hstaged, -⟩ := h
  have hconfigStaged : ∀ f ∈ listConfig, sget t (pgNi p) f = sget s (pgNi p) f := fun f hf =>
    sget_of_fget (hconfig f hf) hstaged
  have hentryStaged : ∀ f ∈ listEntry, ∀ i, sget t (pgNi p) f i = sget s (pgNi p) f i := fun f hf i =>
    sget_of_fget (hentry f hf i) hstaged
  unfold Machine.stagedView
  simp (disch := decide) only [hconfigStaged, hentryStaged]

theorem ListKept.nextWhere (c : Nat → Bool) : nextWhere t p c = nextWhere s p c := by
  have hactive := h.activeView
  have hstagedView := h.stagedView
  obtain ⟨-, -, -, -, hmtime, hni⟩ := h
  unfold Machine.nextWhere takeoverAt
  rw [hactive, hstagedView, hmtime, hni]

theorem ListKept.gateValidNow : gateValidNow t p = gateValidNow s p := by
  unfold Machine.gateValidNow
  rw [h.evaluated, h.activeView]

theorem ListKept.gateNowNow : gateNowNow t p = gateNowNow s p := by
  have hmtime : t.mtime = s.mtime := by
    obtain ⟨-, -, -, -, hmtime, -⟩ := h
    exact hmtime
  unfold Machine.gateNowNow gatesNow
  rw [h.gateValidNow, h.evaluated, h.activeView, hmtime]

theorem ListKept.gateNextNow : gateNextNow t p = gateNextNow s p := by
  unfold Machine.gateNextNow
  rw [h.gateValidNow, h.gateNowNow]
  simp only [h.nextWhere]

end ListKept

/-! ## Exports (R200) -/

section Present
variable {n : Ni}

theorem presentGates_of_ready (h : n.epReady = true) : presentGates n
    = { n with gateOut := { now := n.gateNow, next := n.gateNext, lead := n.gateLead, valid := n.gateValid } } := if_pos h

theorem presentGates_of_not_ready (h : n.epReady = false) : presentGates n = n := if_neg (ne_true_of_eq_false h)

variable (n) in
/-- What the endpoint sees is no part of the exports themselves. -/
theorem presentGates_gates : (presentGates n).gateNow = n.gateNow ∧ (presentGates n).gateNext = n.gateNext
    ∧ (presentGates n).gateValid = n.gateValid ∧ (presentGates n).gateLead = n.gateLead := by
  cases h : n.epReady
  · rw [presentGates_of_not_ready h]
    exact ⟨rfl, rfl, rfl, rfl⟩
  · rw [presentGates_of_ready h]
    exact ⟨rfl, rfl, rfl, rfl⟩

end Present

/-- The fields that a gate edge in unsynchronised time counts in (R197). -/
def edgeKeys (p : Nat) : List Nat := [fkey (pgNi p) Ni.shlEvtUnsyncEdge 0, fkey (pgNi p) Ni.shlCountUnsyncEdges 0]

/-- An edge of the gates in unsynchronised time is counted (R197). -/
def edgeNoted (p : Nat) (s : State) : State :=
  onlyIf ((ni s p).gateNow != gatesNow s p && evaluated s p && !synced s)
    (fun s => flag (pgNi p) Ni.shlEvtUnsyncEdge (satAdd (pgNi p) Ni.shlCountUnsyncEdges 1 s)) s

/-- The NI whose exports follow a gate edge: gate_lead is withdrawn, and LEAD_NS takes effect. -/
def edgeExported (p : Nat) (s : State) : Ni :=
  { ni s p with gateNow := gateNowNow s p, gateNext := gateNextNow s p, gateLead := false, gateValid := gateValidNow s p
                leadNs := fget (workingRegs s p) (pgNi p) Ni.shlLeadLeadNs }

section Edge
variable (p : Nat) (s : State)

theorem regsKept_edgeNoted : RegsKept (edgeKeys p) s (edgeNoted p s) :=
  regsKept_onlyIf (regsKept_refl _ s) fun _ h =>
    regsKept_fset (regsKept_fset h (List.mem_cons_of_mem _ List.mem_cons_self)) List.mem_cons_self

theorem edgeNoted_same : Same (allBut [.regs]) s (edgeNoted p s) :=
  onlyIf_same (Same.refl _ s) fun _ h => flag_same (satAdd_same h rfl) rfl

theorem ni_edgeNoted (q : Nat) : ni (edgeNoted p s) q = ni s q := by
  have hnis : (edgeNoted p s).nis = s.nis := (edgeNoted_same p s).same .nis rfl
  unfold ni
  rw [hnis]

theorem listConfig_notMem_edgeKeys {f : Fld} (hf : f ∈ listConfig) : fkey (pgNi p) f 0 ∉ edgeKeys p := by
  have hne : ∀ f ∈ listConfig, ∀ g ∈ [Ni.shlEvtUnsyncEdge, Ni.shlCountUnsyncEdges],
      f.off / 8 * 64 + f.lo ≠ g.off / 8 * 64 + g.lo := by decide
  exact List.not_mem_cons_of_ne_of_not_mem (fkey_ne_field (hne f hf _ List.mem_cons_self) (by decide) (by decide))
    (mt List.mem_singleton.mp
      (fkey_ne_field (hne f hf _ (List.mem_cons_of_mem _ List.mem_cons_self)) (by decide) (by decide)))

/-- The entries of a list stand behind its event flags and counts, whatever entry is read. -/
theorem listEntry_notMem_edgeKeys {f : Fld} (hf : f ∈ listEntry) (i : Nat) : fkey (pgNi p) f i ∉ edgeKeys p := by
  have hoff : 0x800 ≤ f.off := by
    revert f
    decide
  have hne : ∀ g : Fld, g.off / 8 < 256 ∧ g.lo < 64 → fkey (pgNi p) f i ≠ fkey (pgNi p) g 0 := by
    unfold fkey
    omega
  exact List.not_mem_cons_of_ne_of_not_mem (hne _ (by decide)) (mt List.mem_singleton.mp (hne _ (by decide)))

/-- Counting an edge leaves the registers of the power page. -/
theorem fget_pgPower_edgeNoted (f : Fld) (hf : f.off / 8 < 512 ∧ f.lo < 64) {i : Nat} (hi : i < 4096) :
    fget (edgeNoted p s) pgPower f i = fget s pgPower f i := by
  obtain ⟨hoff, hlo⟩ := hf
  have hne : ∀ g : Fld, g.off / 8 < 512 ∧ g.lo < 64 → fkey pgPower f i ≠ fkey (pgNi p) g 0 := fun _ ⟨hw, hl⟩ =>
    fkey_ne_page (Nat.ne_of_lt (Nat.lt_of_lt_of_le (by decide) (Nat.le_add_right 0x100 p))) hoff hw hlo hl hi (by decide)
  exact (regsKept_edgeNoted p s).kept _ _ _
    (List.not_mem_cons_of_ne_of_not_mem (hne _ (by decide)) (mt List.mem_singleton.mp (hne _ (by decide))))

theorem listKept_edgeNoted {p : Nat} (hp : p < 256) : ListKept p s (edgeNoted p s) := by
  have hpower : (edgeNoted p s).power = s.power := (edgeNoted_same p s).same .power rfl
  have hstate : fstate (edgeNoted p s) = fstate s := fget_pgPower_edgeNoted p s _ (by decide) (by decide)
  refine ⟨⟨fun f hf => (regsKept_edgeNoted p s).kept _ _ _ (listConfig_notMem_edgeKeys p hf),
      fun f hf i => (regsKept_edgeNoted p s).kept _ _ _ (listEntry_notMem_edgeKeys p hf i)⟩,
    fget_pgPower_edgeNoted p s _ (by decide) (by omega), ?_, (edgeNoted_same p s).same .staged rfl,
    (edgeNoted_same p s).same .mtime rfl, ni_edgeNoted p s p⟩
  unfold fabOn
  rw [hstate, hpower]

theorem exportGates_of_edge (h : (ni s p).gateNow ≠ gateNowNow s p) :
    exportGates p s = setNi p (presentGates (edgeExported p s)) s := by
  have hne : ((ni s p).gateNow != gateNowNow s p) = true := bne_iff_ne.mpr h
  unfold exportGates
  simp only [hne, if_true, Bool.not_true, Bool.false_and]
  rfl

/-- A gate edge at a live NI. -/
theorem exec_gateEdge {p : Port} (hl : isLive p.val = true) (h : (ni s p.val).gateNow ≠ gateNowNow s p.val) :
    exec (.gateEdge p) s = .next (setNi p.val (presentGates (edgeExported p.val (edgeNoted p.val s))) (edgeNoted p.val s)) := by
  have hne : ((ni s p.val).gateNow == gateNowNow s p.val) = false := beq_false_of_ne h
  rw [← exportGates_of_edge p.val (edgeNoted p.val s)
    (by rw [ni_edgeNoted, (listKept_edgeNoted s p.isLt).gateNowNow]; exact h)]
  show execGateEdge p s = _
  unfold execGateEdge
  simp only [hl, hne, Bool.false_and, Bool.not_true, Bool.or_false, Bool.false_eq_true, if_false]
  rfl

theorem exec_gateEdge_of_exported {p : Port} (hnow : (ni s p.val).gateNow = gateNowNow s p.val)
    (hnext : (ni s p.val).gateNext = gateNextNow s p.val) (hvalid : (ni s p.val).gateValid = gateValidNow s p.val)
    (hlead : (ni s p.val).gateLead = false) : exec (.gateEdge p) s = .next s := by
  show execGateEdge p s = _
  exact if_pos (by simp [hnow, hnext, hvalid, hlead])

/-- What a gate edge leaves of the exports. -/
theorem edgeExported_effect {p : Nat} (hp : p < 256) : ∃ n, n = presentGates (edgeExported p (edgeNoted p s))
    ∧ n.gateNow = gateNowNow s p ∧ n.gateNext = gateNextNow s p ∧ n.gateValid = gateValidNow s p ∧ n.gateLead = false
    ∧ ((ni s p).epReady = true → n.gateOut
      = { now := gateNowNow s p, next := gateNextNow s p, lead := false, valid := gateValidNow s p })
    ∧ ((ni s p).epReady = false → n.gateOut = (ni s p).gateOut) := by
  have hkept := listKept_edgeNoted s hp
  have hready : (edgeExported p (edgeNoted p s)).epReady = (ni s p).epReady := (congrArg Ni.epReady hkept.ni :)
  obtain ⟨hnow, hnext, hvalid, hlead⟩ := presentGates_gates (edgeExported p (edgeNoted p s))
  refine ⟨_, rfl, hnow.trans hkept.gateNowNow, hnext.trans hkept.gateNextNow, hvalid.trans hkept.gateValidNow, hlead,
    fun hr => ?_, fun hr => ?_⟩
  · rw [presentGates_of_ready (hready.trans hr), ← hkept.gateNowNow, ← hkept.gateNextNow, ← hkept.gateValidNow]
    rfl
  · rw [presentGates_of_not_ready (hready.trans hr)]
    exact (congrArg Ni.gateOut hkept.ni :)

end Edge

/-! ## gate_lead (R200) -/

theorem leadDue_of_next {s : State} {p d g : Nat} (hv : gateValidNow s p = true)
    (hn : nextWhere s p (· != gateNowNow s p) = some (d, g)) (lead : Nat) : leadDue s p lead = decide (d ≤ lead * 4) := by
  unfold leadDue
  rw [hv, hn]
  rfl

theorem exec_gateLead {p : Port} {s : State} (hv : (ni s p.val).gateValid = true)
    (hn : (ni s p.val).gateNow = gateNowNow s p.val) : exec (.gateLead p) s
      = .next (onlyIf (leadDue s p.val (ni s p.val).leadNs)
        (modNi p.val (fun n => presentGates { n with gateLead := true })) s) := by
  show execGateLead p s = _
  unfold execGateLead
  simp only [hv, hn, beq_self_eq_true, Bool.true_and]

/-! ## Takeover (R198) -/

/-- The registers of a list are SHL_CFG, SHL_BASE and the entries, by the word of the key. -/
def isShlWord (w : Nat) : Bool := w * 8 == 0x100 || w * 8 == 0x108 || (0x800 ≤ w * 8 && w * 8 ≤ 0xBF8)

theorem isShlKey_fkey {page : Nat} {f : Fld} (hw : f.off / 8 < 512) (hl : f.lo < 64) :
    isShlKey (fkey page f 0) = isShlWord (f.off / 8) := by
  unfold isShlKey
  rw [fkey_word hw hl (by decide)]
  rfl

theorem ne_of_isShlKey {page k : Nat} {f : Fld} (hk : isShlKey k = true)
    (hf : f.off / 8 < 512 ∧ f.lo < 64 ∧ isShlWord (f.off / 8) = false) : fkey page f 0 ≠ k := by
  obtain ⟨hw, hl, hf⟩ := hf
  rintro rfl
  rw [isShlKey_fkey hw hl, hf] at hk
  cases hk

/-- The staged copies of an NI's list. -/
def stagedList (p : Nat) (s : State) : Tbl Nat := s.staged.filter (fun e => keyPage e.1 == pgNi p && isShlKey e.1)

/-- The active copy takes the staged values of the list, and none is pending. -/
def listTaken (p : Nat) (s : State) : State :=
  modNi p (fun n => { n with shlPend := false })
    { s with
      regs := (stagedList p s).foldl (fun t e => tput (resetAt e.1) t e.1 e.2) s.regs
      staged := s.staged.filter (fun e => !(keyPage e.1 == pgNi p && isShlKey e.1)) }

theorem takeOver_eq (p : Nat) (s : State) : takeOver p s
    = flag (pgNi p) Ni.shlEvtTakeover (wrapAdd (pgNi p) Ni.shlCountTakeovers 1 (stageWrote p (listTaken p s))) := rfl

theorem mem_stagedList {p : Nat} {s : State} {e : Nat × Nat} :
    e ∈ stagedList p s ↔ e ∈ s.staged ∧ keyPage e.1 = pgNi p ∧ isShlKey e.1 = true := by
  rw [stagedList, List.mem_filter, Bool.and_eq_true, beq_iff_eq]

/-- A key that is not of the list stays. -/
theorem tfind_listTaken_of_not_shl {p k : Nat} (hk : isShlKey k = false) (s : State) :
    tfind (listTaken p s).regs k = tfind s.regs k := by
  refine tfind_merge_of_notMem (fun hm => ?_) s.regs
  obtain ⟨e, he, rfl⟩ := List.mem_map.mp hm
  obtain ⟨-, -, hshl⟩ := (mem_stagedList).mp he
  exact absurd hshl (ne_true_of_eq_false hk)

section StageWrote
variable (p : Nat) (s : State)

theorem stageWrote_of_nil (h : (ni s p).shlWrote = []) : stageWrote p s = s := if_pos (List.isEmpty_iff.mpr h)

theorem stageWrote_of_ne_nil (h : (ni s p).shlWrote ≠ []) : stageWrote p s
    = forEach (ni s p).shlWrote (fun e => stageKey e.1 e.2)
      (fset (pgNi p) Hdr.pageStatStaged 1 (modNi p (fun n => { n with shlWrote := [] }) s)) :=
  if_neg fun hw => h (List.isEmpty_iff.mp hw)

theorem stageWrote_of_single {k v : Nat} (h : (ni s p).shlWrote = [(k, v)]) : stageWrote p s
    = stageKey k v (fset (pgNi p) Hdr.pageStatStaged 1 (modNi p (fun n => { n with shlWrote := [] }) s)) := by
  rw [stageWrote_of_ne_nil p s (by rw [h]; exact List.cons_ne_nil _ _), h]
  rfl

/-- Values written behind a pending list change STAGED alone of the registers. -/
theorem tget_stageWrote {k : Nat} (hk : fkey (pgNi p) Hdr.pageStatStaged 0 ≠ k) (d : Nat) :
    tget d (stageWrote p s).regs k = tget d s.regs k := by
  by_cases h : (ni s p).shlWrote = []
  · rw [stageWrote_of_nil p s h]
  · rw [stageWrote_of_ne_nil p s h]
    exact (forEach_frame (f := fun e : Nat × Nat => stageKey e.1 e.2) (fun t : State => tget d t.regs k) fun _ _ => rfl).trans
      (tget_fset_regs_ne hk d 1 _)

/-- They are staged, and wait no more. -/
theorem ni_stageWrote (q : Nat) : ni (stageWrote p s) q = if p = q then { ni s q with shlWrote := [] } else ni s q := by
  by_cases h : (ni s p).shlWrote = []
  · rw [stageWrote_of_nil p s h]
    split
    case isTrue hpq =>
      subst hpq
      rw [← h]
    case isFalse => rfl
  · rw [stageWrote_of_ne_nil p s h]
    refine (forEach_frame (f := fun e : Nat × Nat => stageKey e.1 e.2) (fun t : State => ni t q) fun _ _ => rfl).trans ?_
    rw [ni_fset, ni_modNi]

end StageWrote

section TakeOver
variable {p : Nat} {s : State}

theorem ni_listTaken (q : Nat) : ni (listTaken p s) q = if p = q then { ni s q with shlPend := false } else ni s q := by
  unfold listTaken
  rw [ni_modNi]
  rfl

theorem ni_takeOver (q : Nat) : ni (takeOver p s) q
    = if p = q then { ni s q with shlPend := false, shlWrote := [] } else ni s q := by
  rw [takeOver_eq, flag_eq, wrapAdd_eq, ni_fset, ni_fset, ni_stageWrote, ni_listTaken]
  split <;> rfl

/-- TAKEOVER and TAKEOVERS stand apart from the list. -/
theorem tget_takeOver_of_shl {k : Nat} (hk : isShlKey k = true) (d : Nat) :
    tget d (takeOver p s).regs k = tget d (stageWrote p (listTaken p s)).regs k := by
  rw [takeOver_eq, flag_eq, wrapAdd_eq, tget_fset_regs_ne (ne_of_isShlKey hk (by decide)),
    tget_fset_regs_ne (ne_of_isShlKey hk (by decide))]

/-- The active copy after a takeover, key by key. -/
theorem tget_takeOver_active {k : Nat} (hk : isShlKey k = true) (d : Nat) : tget d (takeOver p s).regs k
    = tget d ((stagedList p s).foldl (fun t e => tput (resetAt e.1) t e.1 e.2) s.regs) k :=
  (tget_takeOver_of_shl hk d).trans (tget_stageWrote p _ (ne_of_isShlKey hk (by decide)) d)

theorem takeovers_takeOver : fget (takeOver p s) (pgNi p) Ni.shlCountTakeovers
    = (fget s (pgNi p) Ni.shlCountTakeovers + 1) % 2 ^ Ni.shlCountTakeovers.w := by
  have hcount : fget (stageWrote p (listTaken p s)) (pgNi p) Ni.shlCountTakeovers = fget s (pgNi p) Ni.shlCountTakeovers := by
    have hstaged : fkey (pgNi p) Hdr.pageStatStaged 0 ≠ fkey (pgNi p) Ni.shlCountTakeovers 0 :=
      fkey_ne_field (by decide) (by decide) (by decide)
    unfold fget
    rw [tget_stageWrote p _ hstaged, tget, tfind_listTaken_of_not_shl (isShlKey_fkey (by decide) (by decide)), ← tget]
  rw [takeOver_eq, flag_eq, fget_fset_field _ (by decide) (by decide) (by decide), wrapAdd_eq, fget_fset_self, hcount]

/-- What is written behind a list is staged as the list takes over. -/
theorem takeOver_of_single {k v : Nat} (h : (ni s p).shlWrote = [(k, v)]) (hk : isShlKey k = true) :
    tget (tget (resetAt k) (takeOver p s).regs k) (takeOver p s).staged k = v
      ∧ fget (takeOver p s) (pgNi p) Hdr.pageStatStaged = 1 := by
  have hw : (ni (listTaken p s) p).shlWrote = [(k, v)] := by
    rw [ni_listTaken, if_pos rfl]
    exact h
  constructor
  · rw [tget_takeOver_of_shl hk, takeOver_eq, flag_eq, wrapAdd_eq, fset_staged, fset_staged, stageWrote_of_single _ _ hw]
    exact tget_tput_self ..
  · rw [takeOver_eq, flag_eq, wrapAdd_eq, fget_fset_field _ (by decide) (by decide) (by decide),
      fget_fset_field _ (by decide) (by decide) (by decide), stageWrote_of_single _ _ hw]
    exact fget_fset_self ..

theorem takeOver_staged_of_nil (h : (ni s p).shlWrote = []) :
    (takeOver p s).staged = s.staged.filter (fun e => !(keyPage e.1 == pgNi p && isShlKey e.1)) := by
  have hw : (ni (listTaken p s) p).shlWrote = [] := by
    rw [ni_listTaken, if_pos rfl]
    exact h
  rw [takeOver_eq, stageWrote_of_nil _ _ hw]
  rfl

end TakeOver

theorem exec_takeover {p : Port} (hl : isLive p.val = true) (s : State) :
    exec (.takeover p) s = .next (onlyIf (listMoves s p.val) (takeOver p.val) s) := by
  show execTakeover p s = _
  unfold execTakeover
  dsimp only
  rw [hl, Bool.true_and]
  cases listMoves s p.val <;> rfl

/-- Settles O35: a gate edge by what the gates are read from, gate_lead by the next change, a takeover by the keys of a list. -/
theorem shutterLists : Obligations.ShutterLists := by
  unfold Obligations.ShutterLists
  intro p s hl
  refine ⟨fun hnow => ?edge, exec_gateEdge_of_exported s, fun d g hv hvalid hnow hn => ?lead,
    fun he hu hp ht => ?takeover, fun h => ?waits⟩
  case edge =>
    obtain ⟨n, hn, hgates⟩ := edgeExported_effect s p.isLt
    obtain ⟨hgnow, hgnext, hgvalid, hglead, hready, hnot⟩ := hgates
    refine ⟨_, exec_gateEdge s hl hnow, ?_⟩
    rw [← hn, ni_setNi_self, regsKept_setNi]
    exact ⟨hgnow, hgnext, hgvalid, hglead, hready, hnot,
      fun q hq => by rw [ni_setNi_ne _ (Ne.symm hq), ni_edgeNoted], regsKept_edgeNoted p.val s⟩
  case lead =>
    rw [exec_gateLead hv hnow, leadDue_of_next hvalid hn]
    refine ⟨fun hd => ⟨_, rfl, ?_⟩, fun hd => ?_⟩
    · obtain ⟨-, -, -, hlead⟩ := presentGates_gates { ni s p.val with gateLead := true }
      rw [decide_eq_true hd, onlyIf_true]
      exact ⟨by rw [ni_modNi_self, hlead], fun q hq => by rw [ni_modNi, if_neg (Ne.symm hq)], rfl⟩
    · rw [decide_eq_false (not_le.mpr hd)]
      rfl
  case takeover =>
    have hm : listMoves s p.val = true := by simp [listMoves, he, hu, hp, ht]
    refine ⟨takeOver p.val s, by rw [exec_takeover hl, hm]; rfl, by rw [ni_takeOver, if_pos rfl], fbit_flag_self _ rfl,
      fun q hq => by rw [ni_takeOver, if_neg (Ne.symm hq)], takeOver_staged_of_nil, fun k v hw _ hk => ?_,
      takeovers_takeOver, fun hd e hes hep hek => ?_, fun k hk hks => ?_⟩
    · obtain ⟨hstaged, hbit⟩ := takeOver_of_single hw hk
      exact ⟨hstaged, by rw [ni_takeOver, if_pos rfl], hbit⟩
    · rw [tget_takeOver_active hek]
      exact tget_merge_of_mem (hd.sublist (List.filter_sublist.map _)) (mem_stagedList.mpr ⟨hes, hep, hek⟩) s.regs
    · have hnot : k ∉ (stagedList p.val s).map (·.1) := fun hmem => hks ((List.filter_sublist.map _).subset hmem)
      rw [tget_takeOver_active hk, tget, tfind_merge_of_notMem hnot, ← tget]
  case waits =>
    have hm : listMoves s p.val = false := by
      rcases h with h | h | h
      · simp [listMoves, Nat.not_le.mpr h]
      · simp [listMoves, h]
      · simp [listMoves, h]
    rw [exec_takeover hl, hm]
    rfl

end Sys2Proof.Machine

/-! PROOFS. The commands of the Reservation Table (R206, R207, R359, O36). -/

namespace Sys2Proof.Machine

section Command
variable {job : Nat → RsvJob} {v : Word} {s : State}

theorem rsvCommand_of_both (h : (v.getLsbD 0 && v.getLsbD 1) = true) :
    rsvCommand job v s = errReserved pgRsv Rsv.rsvCmdAdmit.off s := if_pos h

theorem rsvCommand_of_quiesced (h : (v.getLsbD 0 && v.getLsbD 1) = false) (hq : fbit s pgRsv Hdr.pageCtrlQuiesce = true) :
    rsvCommand job v s = rsvResult (fget s pgRsv Rsv.rsvSelIndex) (7, 0, 0, 0) s :=
  (if_neg (ne_true_of_eq_false h)).trans (if_pos hq)

/-- The selected reservation's job is taken. -/
theorem rsvCommand_of_one (h : (v.getLsbD 0 && v.getLsbD 1) = false) (hq : fbit s pgRsv Hdr.pageCtrlQuiesce = false) :
    rsvCommand job v s = queueRsv (job (fget s pgRsv Rsv.rsvSelIndex)) s :=
  (if_neg (ne_true_of_eq_false h)).trans (if_neg (ne_true_of_eq_false hq))

end Command

/-- The table takes a job when none runs, and else keeps it waiting. -/
theorem queueRsv_eq (j : RsvJob) (s : State) : queueRsv j s
    = if s.rsvRun = none then { s with rsvRun := some j } else { s with rsvWait := s.rsvWait ++ [j] } := by
  unfold queueRsv
  cases s.rsvRun <;> rfl

theorem queueRsv_of_free {s : State} (h : s.rsvRun = none) (j : RsvJob) : queueRsv j s = { s with rsvRun := some j } :=
  (queueRsv_eq j s).trans (if_pos h)

theorem queueRsv_of_busy {s : State} {r : RsvJob} (h : s.rsvRun = some r) (j : RsvJob) :
    queueRsv j s = { s with rsvWait := s.rsvWait ++ [j] } :=
  (queueRsv_eq j s).trans (if_neg (h ▸ Option.some_ne_none r))

theorem exec_rsvAdmit (v : Word) (s : State) : exec (.rsvAdmit v) s = .next (rsvCommand .reserve v s) := rfl
theorem exec_rsvRelease (v : Word) (s : State) : exec (.rsvRelease v) s = .next (rsvCommand .release v s) := rfl

/-- Settles O36: a command by its refusals, and a job that is taken by whether one runs. -/
theorem reservationCommands : Obligations.ReservationCommands := by
  unfold Obligations.ReservationCommands
  intro v s
  simp only [exec_rsvAdmit, exec_rsvRelease]
  refine ⟨fun h => ?both, fun h hq hr => ?free, fun j h hq hr => ?busy, fun h hq => ?quiesced⟩
  case both =>
    have hsame : Same (allBut [.regs]) s (errReserved pgRsv Rsv.rsvCmdAdmit.off s) := errReserved_same (Same.refl _ s) rfl
    refine ⟨errReserved pgRsv Rsv.rsvCmdAdmit.off s, by rw [rsvCommand_of_both h], hsame.same .rsvRun rfl,
      hsame.same .rsvWait rfl, fbit_pageErr _ _ _ _ rfl (by decide), regsKept_pageErr _ _ _ _ (by simp [pageErrKeys]),
      by rw [rsvCommand_of_both h]⟩
  case free =>
    simp only [rsvCommand_of_one h hq, queueRsv_of_free hr, and_self]
  case busy =>
    simp only [rsvCommand_of_one h hq, queueRsv_of_busy hr, and_self]
  case quiesced =>
    simp only [rsvCommand_of_quiesced h hq, and_self]

end Sys2Proof.Machine
